-- ==== Sys2Proof/Word.lean ====
section
/-! DEFINITION. The bit-vector widths of the QD864 (Table 0.5, Table 8.1) and nothing else. -/

namespace Sys2Proof

/-- Eight bits. -/
abbrev Byte := BitVec 8

/-- A 32-bit register or instruction word. -/
abbrev Word := BitVec 32

/-- A servo-core accumulator: 64 product bits and 8 guard bits (Table 8.1). -/
abbrev Acc := BitVec 72

/-- A servo-core pointer register, 24 bits, bit 23 always 0 (Table 8.1). -/
abbrev Ptr := BitVec 24

end Sys2Proof
end

