-- ==== Sys2Proof/Syntax.lean ====
section
/-! DEFINITION. The commands of the block: one constructor of `Instr` for each row of spec/opcode_table.json, and the
operand types the constructors carry. A row that is an event of the outside carries what the outside supplies. -/

namespace Sys2Proof

/-- A Trapeze die (R11). -/
inductive DieId where | t0 | t1
  deriving DecidableEq, Repr

/-- The other Trapeze die. -/
def DieId.other : DieId → DieId
  | .t0 => .t1
  | .t1 => .t0

/-- Die code of PORT_INFO.DIE and of the record header (Tables 3.2, 3.12). -/
def DieId.code : DieId → Nat
  | .t0 => 0
  | .t1 => 1

/-- Die of a place (Table 1.7): T0, T1 or MW. -/
inductive PlaceDie where | t0 | t1 | mw
  deriving DecidableEq, Repr

/-- A place at unit or cluster level (Tables 1.2, 1.4): `unit` 31 names the whole cluster. -/
structure UnitId where
  die     : PlaceDie
  region  : Fin 3
  cluster : Fin 8
  unit    : Fin 32
  deriving DecidableEq, Repr

/-- A cluster of a Trapeze die that can be gated, removed or tested (R18, R24). -/
inductive ClusterId where
  | sc (i : Fin 4)
  | jc (i : Fin 4)
  | se (i : Fin 2)
  deriving DecidableEq, Repr

/-- A servo core: die and core bit 8·c + u (Table 3.13). -/
structure CoreRef where
  die  : DieId
  core : Fin 32
  deriving DecidableEq, Repr

/-- The three inter-die links (R16). -/
inductive LinkId where | direct | t0mw | t1mw
  deriving DecidableEq, Repr

/-- Heartbeat paths (R388): 1 the direct link, 2 through MW. -/
inductive HbPath where | path1 | path2
  deriving DecidableEq, Repr

/-- The two ports of a ring (R283). -/
inductive RingPort where | a | b
  deriving DecidableEq, Repr

/-- A frame as a ring port receives it: its bytes, the number of invalid code groups in it (Table 10.12), and whether the elastic buffer overflowed or
underflowed inside it (R285). -/
structure RxFrame where
  bytes : List Byte
  codes : BitVec 8 := 0
  elastic : Bool := false
  deriving DecidableEq, Repr

/-- An offset in BAR0 or, with `bar2`, in BAR2 (R63). -/
structure BarOffset where
  bar2 : Bool := false
  offset : BitVec 16
  deriving DecidableEq, Repr

/-- The two enables of a PCIe function: bus mastering and memory space (R63). -/
structure PcieEnables where
  busMaster : Bool
  memSpace : Bool
  deriving DecidableEq, Repr

/-- The command packet of Table 3.8 less its opcode, with the port and the queue it was read from.
`params` are the 8·PLEN bytes after the header; a header whose PLEN exceeds 30 carries what the four slots hold (R75). -/
structure HostCmd where
  die    : DieId
  queue  : Fin 32
  flags  : Byte
  plen   : Byte
  tag    : BitVec 16
  seq    : BitVec 16
  target : Word
  epoch  : Word
  params : List Byte
  deriving DecidableEq, Repr

/-- A part of the configuration image (R464): header with section table, or one section. -/
inductive ImagePart where
  | header
  | section_ (index : Nat)
  deriving DecidableEq, Repr

/-- The SRAM arrays, registers and fuses a debug session reads and writes (R480, Table 1.3). -/
inductive DebugPlace where
  | localMemory (d : DieId) (core : Fin 32)
  | clusterMemory (d : DieId) (cluster : Fin 4)
  | dataStore (d : DieId)
  | exchangeBlocks (d : DieId)
  | preserve (d : DieId)
  | registers (d : DieId)
  | fuses (d : DieId)
  | inMirror (d : DieId)
  | outBank (d : DieId)
  | compensation (d : DieId)
  | placements (d : DieId)
  | frames (d : DieId)
  | setPointBanks
  | mwFuses
  deriving DecidableEq, Repr

/-- The two key hashes a FULL debug session may program once (R462). -/
inductive FuseHash where | keyHash | debugKeyHash
  deriving DecidableEq, Repr

/-- Addressing modes of Table 8.3 with their operands (Table 8.11, format M). -/
inductive AddrMode where
  | disp (disp : BitVec 14)
  | postInc (inc : BitVec 14)
  | circular (cb : Fin 4) (inc : BitVec 12)
  | indexed (dk : Fin 16) (s : BitVec 2)
  deriving DecidableEq, Repr

/-- SZ of format M (R260). -/
inductive MemSize where | word | shalf | uhalf | ubyte | pair
  deriving DecidableEq, Repr

/-- What SECDED sees on a read (R13, R257, R421): clean, one bit corrected, an uncorrectable error that the re-read does not find again, or one that it does. -/
inductive ReadCheck where | clean | corrected | transient | uncorrectable
  deriving DecidableEq, Repr

/-- Operand readings of MPY, MAC and MSU (R242): first letter the first operand. -/
inductive MulMode where | ss | us | su | uu
  deriving DecidableEq, Repr

/-- Latched causes of an output fault (R366, Table 12.8). -/
inductive OutCause where | overload | thermal | readback
  deriving DecidableEq, Repr

/-- What an encoder port sees at its sample instant (R376, R378). -/
inductive EncSample where
  | ssi (frame : BitVec 40) (idleHigh lineFault : Bool)
  | incremental (lineFault : Bool)
  deriving DecidableEq, Repr

/-- A PTP message (IEEE 1588-2019, from its first byte on) as it comes in at a cell port, and the nanosecond within the reference tick at which it does (R336). -/
structure PtpMsg where
  port  : Fin 6
  bytes : List Byte
  sub   : Fin 40
  deriving DecidableEq, Repr

/-- A filtered edge of TPI, and the nanosecond within the reference tick at which it falls (R339). -/
structure PinEdge where
  rising : Bool
  sub    : Fin 40
  deriving DecidableEq, Repr

/-- Junction sensors (R426): one for each die. -/
inductive TempSensor where | t0 | t1 | mw
  deriving DecidableEq, Repr

/-- One constructor for each row of spec/opcode_table.json, in its order; the docstring names the row and its rule. -/
inductive Instr where
  /-- POWER_UP, R458. -/
  | powerUp (strap : BitVec 2)
  /-- PACKAGE_RESET, R458. -/
  | packageReset (strap : BitVec 2)
  /-- DIE_RESET, R408. -/
  | dieReset (d : DieId)
  /-- SEED_DONE, R459. -/
  | seedDone (d : DieId)
  /-- PCIE_LINK_UP, R496. -/
  | pcieLinkUp (d : DieId)
  /-- IMAGE_SECTION_READ, R467. -/
  | imageSectionRead (part : ImagePart)
  /-- SIGNATURE_VERIFIED, R467. -/
  | signatureVerified
  /-- BLOSSOM_APPLY, R471. -/
  | blossomApply
  /-- RIPE_BEGIN, R476. -/
  | ripeBegin
  /-- JOG_TIMEOUT, R473. -/
  | jogTimeout (d : DieId) (j : Fin 64)
  /-- IDCODE, R478. -/
  | idcode
  /-- BYPASS, R478. -/
  | bypass
  /-- SAMPLE_PRELOAD, R478. -/
  | samplePreload
  /-- EXTEST, R478. -/
  | extest
  /-- DEBUG_CHALLENGE, R479. -/
  | debugChallenge
  /-- DEBUG_RESPONSE, R479. -/
  | debugResponse (bytes : List Byte)
  /-- DEBUG_LOCK, R480. -/
  | debugLock
  /-- DEBUG_READ, R480. -/
  | debugRead (where_ : DebugPlace) (address count : Nat)
  /-- DEBUG_WRITE, R480. -/
  | debugWrite (where_ : DebugPlace) (address : Nat) (bytes : List Byte)
  /-- DEBUG_HALT, R480. -/
  | debugHalt (d : DieId) (core : Fin 4)
  /-- DEBUG_STEP, R480. -/
  | debugStep (d : DieId) (core : Fin 4)
  /-- DEBUG_FLASH_READ, R480. -/
  | debugFlashRead (cs : Fin 2) (address count : Nat)
  /-- DEBUG_FLASH_ERASE, R480. -/
  | debugFlashErase (cs : Fin 2) (address count : Nat)
  /-- DEBUG_FLASH_WRITE, R480. -/
  | debugFlashWrite (cs : Fin 2) (address : Nat) (bytes : List Byte)
  /-- DEBUG_FUSE_PROGRAM, R462. -/
  | debugFuseProgram (d : DieId) (which : FuseHash) (bytes : List Byte)
  /-- TIME_BASE_TICK, R331. -/
  | timeBaseTick
  /-- BOUNDARY, R32. -/
  | boundary
  /-- CUT_OFF, R37. -/
  | cutOff
  /-- AT_EPOCH_EXECUTE, R80. -/
  | atEpochExecute (d : DieId)
  /-- COMMIT_DECISION, R53. -/
  | commitDecision
  /-- COMMIT_APPLY, R53. -/
  | commitApply (d : DieId)
  /-- MW_COMMIT_APPLY, R53. -/
  | mwCommitApply
  /-- UNIT_READY, R52. -/
  | unitReady (unit : UnitId)
  /-- CLUSTER_UNGATED, R24. -/
  | clusterUngated (d : DieId) (cluster : ClusterId)
  /-- READMISSION, R276. -/
  | readmission (d : DieId)
  /-- DOORBELL, R68. -/
  | doorbell (d : DieId) (q : Fin 64) (index : BitVec 16)
  /-- QUEUE_ENABLE, R67. -/
  | queueEnable (d : DieId) (q : Fin 64) (qcfg : Word)
  /-- QUEUE_DISABLE, R67. -/
  | queueDisable (d : DieId) (q : Fin 64)
  /-- QUEUE_DRAINED, R67. -/
  | queueDrained (d : DieId) (q : Fin 64)
  /-- QERR_CLEAR, R65. -/
  | qerrClear (d : DieId) (high : Bool) (mask : Word)
  /-- EPOCH_NOW_READ, R65. -/
  | epochNowRead (d : DieId)
  /-- LOST_READ, R66. -/
  | lostRead (d : DieId) (q : Fin 64)
  /-- REGISTER_WRITE, R67. -/
  | registerWrite (d : DieId) (at_ : BarOffset) (value : Word)
  /-- QUEUE_DMA_ERROR, R71. -/
  | queueDmaError (d : DieId) (q : Fin 64) (write : Bool)
  /-- REPLY_RESUME, R70. -/
  | replyResume (d : DieId) (q : Fin 64)
  /-- MSIX_BOUNDARY_SIGNAL, R72. -/
  | msixBoundarySignal (d : DieId) (q : Fin 64)
  /-- HOST_LINK_DOWN, R85. -/
  | hostLinkDown (d : DieId)
  /-- PCIE_LCRC_ERROR, R421. -/
  | pcieLcrcError (d : DieId) (replayFails : Bool)
  /-- DEQUEUE_NOTICE, R82. -/
  | dequeueNotice (d : DieId)
  /-- PAIRING_WINDOW_EXPIRY, R82. -/
  | pairingWindowExpiry (d : DieId)
  /-- NOP, R87. -/
  | nop (h : HostCmd)
  /-- IDENTIFY, R88. -/
  | identify (h : HostCmd)
  /-- GET_STATUS, R89. -/
  | getStatus (h : HostCmd)
  /-- CONFIG_PERIODS, R58. -/
  | configPeriods (h : HostCmd)
  /-- CONFIG_DEADLINE, R59. -/
  | configDeadline (h : HostCmd)
  /-- CONFIG_DISCARD, R61. -/
  | configDiscard (h : HostCmd)
  /-- COMMIT, R50. -/
  | commit (h : HostCmd)
  /-- GET_BOUNDARY, R62. -/
  | getBoundary (h : HostCmd)
  /-- TIME_GET, R346. -/
  | timeGet (h : HostCmd)
  /-- TIME_SET_INCREMENT, R347. -/
  | timeSetIncrement (h : HostCmd)
  /-- TIME_OFFSET, R333. -/
  | timeOffset (h : HostCmd)
  /-- TIME_FORCE_STEP, R334. -/
  | timeForceStep (h : HostCmd)
  /-- CONFIG_PTP, R350. -/
  | configPtp (h : HostCmd)
  /-- PTP_STATUS, R351. -/
  | ptpStatus (h : HostCmd)
  /-- CONFIG_TPO, R352. -/
  | configTpo (h : HostCmd)
  /-- TPI_STREAM, R353. -/
  | tpiStream (h : HostCmd)
  /-- CONFIG_SWITCH, R354. -/
  | configSwitch (h : HostCmd)
  /-- CELL_PORT_STATUS, R355. -/
  | cellPortStatus (h : HostCmd)
  /-- CONFIG_CELL_PEERS, R356. -/
  | configCellPeers (h : HostCmd)
  /-- CONFIG_RING, R319. -/
  | configRing (h : HostCmd)
  /-- CONFIG_NODE, R320. -/
  | configNode (h : HostCmd)
  /-- RING_STATUS, R321. -/
  | ringStatus (h : HostCmd)
  /-- RING_SCAN, R322. -/
  | ringScan (h : HostCmd)
  /-- RING_COUNTERS, R323. -/
  | ringCounters (h : HostCmd)
  /-- MAILBOX_SEND, R324. -/
  | mailboxSend (h : HostCmd)
  /-- MAILBOX_STREAM, R325. -/
  | mailboxStream (h : HostCmd)
  /-- RING_STOP, R326. -/
  | ringStop (h : HostCmd)
  /-- CONFIG_JOINT, R164. -/
  | configJoint (h : HostCmd)
  /-- CONFIG_LIMITS, R165. -/
  | configLimits (h : HostCmd)
  /-- JOINT_ENABLE, R155. -/
  | jointEnable (h : HostCmd)
  /-- JOINT_DISABLE, R156. -/
  | jointDisable (h : HostCmd)
  /-- MOVE_POINT, R142. -/
  | movePoint (h : HostCmd)
  /-- MOVE_VELOCITY, R146. -/
  | moveVelocity (h : HostCmd)
  /-- STREAM_POINTS, R170. -/
  | streamPoints (h : HostCmd)
  /-- HOME, R159. -/
  | home (h : HostCmd)
  /-- CONFIG_HOMING, R171. -/
  | configHoming (h : HostCmd)
  /-- CONFIG_STANDSTILL, R172. -/
  | configStandstill (h : HostCmd)
  /-- JOINT_STATUS, R173. -/
  | jointStatus (h : HostCmd)
  /-- JOINT_STOP, R167. -/
  | jointStop (h : HostCmd)
  /-- CONFIG_FOLLOWING, R172. -/
  | configFollowing (h : HostCmd)
  /-- CONFIG_CONTROL, R198. -/
  | configControl (h : HostCmd)
  /-- CONFIG_FILTER, R199. -/
  | configFilter (h : HostCmd)
  /-- CONFIG_FEEDFORWARD, R200. -/
  | configFeedforward (h : HostCmd)
  /-- TABLE_WRITE, R201. -/
  | tableWrite (h : HostCmd)
  /-- TABLE_READ, R202. -/
  | tableRead (h : HostCmd)
  /-- EXT_TORQUE, R187. -/
  | extTorque (h : HostCmd)
  /-- CONFIG_FEEDBACK, R204. -/
  | configFeedback (h : HostCmd)
  /-- CONTROL_STATUS, R205. -/
  | controlStatus (h : HostCmd)
  /-- CONFIG_JUGGLER, R127. -/
  | configJuggler (h : HostCmd)
  /-- CONFIG_WEIGHTS, R128. -/
  | configWeights (h : HostCmd)
  /-- REFERENCE_LOAD, R129. -/
  | referenceLoad (h : HostCmd)
  /-- CONFIG_ROWS, R130. -/
  | configRows (h : HostCmd)
  /-- JUGGLER_STATUS, R131. -/
  | jugglerStatus (h : HostCmd)
  /-- PLAN_READ, R132. -/
  | planRead (h : HostCmd)
  /-- PLAN_STREAM, R133. -/
  | planStream (h : HostCmd)
  /-- CONFIG_GEOMETRY, R232. -/
  | configGeometry (h : HostCmd)
  /-- CONFIG_KINEMATICS, R233. -/
  | configKinematics (h : HostCmd)
  /-- CONFIG_SSM_PARAMS, R234. -/
  | configSsmParams (h : HostCmd)
  /-- CONFIG_SENSOR, R235. -/
  | configSensor (h : HostCmd)
  /-- CONFIG_ZONE, R236. -/
  | configZone (h : HostCmd)
  /-- ZONE_REQUEST, R237. -/
  | zoneRequest (h : HostCmd)
  /-- ZONE_RELEASE, R228. -/
  | zoneRelease (h : HostCmd)
  /-- SEP_STATUS, R238. -/
  | sepStatus (h : HostCmd)
  /-- SEP_STREAM, R239. -/
  | sepStream (h : HostCmd)
  /-- CONFIG_INPUTS, R379. -/
  | configInputs (h : HostCmd)
  /-- CONFIG_OUTPUTS, R380. -/
  | configOutputs (h : HostCmd)
  /-- FIO_WRITE, R381. -/
  | fioWrite (h : HostCmd)
  /-- FIO_READ, R382. -/
  | fioRead (h : HostCmd)
  /-- FIO_REARM, R383. -/
  | fioRearm (h : HostCmd)
  /-- CONFIG_WATCHDOG, R384. -/
  | configWatchdog (h : HostCmd)
  /-- CONFIG_ENCODER, R385. -/
  | configEncoder (h : HostCmd)
  /-- CONFIG_SAFETY_INPUTS, R386. -/
  | configSafetyInputs (h : HostCmd)
  /-- TRAPEZE_STATUS, R419. -/
  | trapezeStatus (h : HostCmd)
  /-- CONFIG_TRAPEZE, R416. -/
  | configTrapeze (h : HostCmd)
  /-- SYNC_START, R417. -/
  | syncStart (h : HostCmd)
  /-- SWITCH_OVER, R418. -/
  | switchOver (h : HostCmd)
  /-- HEALTH_STREAM, R420. -/
  | healthStream (h : HostCmd)
  /-- FAULT_INJECT, R430. -/
  | faultInject (h : HostCmd)
  /-- CONFIG_EVENTS, R437. -/
  | configEvents (h : HostCmd)
  /-- EVENT_READ, R438. -/
  | eventRead (h : HostCmd)
  /-- EVENT_CLEAR, R439. -/
  | eventClear (h : HostCmd)
  /-- PLACE_TEST, R440. -/
  | placeTest (h : HostCmd)
  /-- PLACE_TEST_END, R440. -/
  | placeTestEnd (d : DieId) (pass : Bool)
  /-- FAULT_STATUS, R441. -/
  | faultStatus (h : HostCmd)
  /-- PRESERVE_FREEZE, R453. -/
  | preserveFreeze (h : HostCmd)
  /-- PRESERVE_THAW, R454. -/
  | preserveThaw (h : HostCmd)
  /-- PRESERVE_AUTO_THAW, R448. -/
  | preserveAutoThaw (d : DieId)
  /-- PRESERVE_READ, R455. -/
  | preserveRead (h : HostCmd)
  /-- CONFIG_STATISTICS, R456. -/
  | configStatistics (h : HostCmd)
  /-- STATS_READ, R457. -/
  | statsRead (h : HostCmd)
  /-- CODE_LOAD, R278. -/
  | codeLoad (h : HostCmd)
  /-- CONFIG_PROGRAM, R279. -/
  | configProgram (h : HostCmd)
  /-- PROGRAM_READ, R280. -/
  | programRead (h : HostCmd)
  /-- TRACE_OPEN, R281. -/
  | traceOpen (h : HostCmd)
  /-- TRACE_CLOSE, R281. -/
  | traceClose (h : HostCmd)
  /-- DISPATCH_STATUS, R282. -/
  | dispatchStatus (h : HostCmd)
  /-- FACTORISATION_DONE, R105. -/
  | factorisationDone (d : DieId) (mismatch : Option (Fin 4))
  /-- CHECKPOINT, R109. -/
  | checkpoint (d : DieId)
  /-- JUGGLER_DEADLINE, R117. -/
  | jugglerDeadline (d : DieId)
  /-- CHECKPOINT_REPORT, R121. -/
  | checkpointReport (d : DieId) (k : Nat)
  /-- CHOSEN_CHECKPOINT, R121. -/
  | chosenCheckpoint (d : DieId) (k : Nat)
  /-- GENERATOR_ADVANCE, R135. -/
  | generatorAdvance (d : DieId) (j : Fin 64)
  /-- DRIVE_READY, R155. -/
  | driveReady (d : DieId) (j : Fin 64)
  /-- ENABLE_TIMEOUT, R155. -/
  | enableTimeout (d : DieId) (j : Fin 64)
  /-- BRAKE_RELEASE_DONE, R155. -/
  | brakeReleaseDone (d : DieId) (j : Fin 64)
  /-- SOFT_END, R153. -/
  | softEnd (d : DieId) (j : Fin 64)
  /-- STOP_RAMP_END, R149. -/
  | stopRampEnd (d : DieId) (j : Fin 64)
  /-- ARM_STOP_REST, R152. -/
  | armStopRest (d : DieId) (a : Fin 8)
  /-- BRAKE_ENGAGE_DONE, R151. -/
  | brakeEngageDone (d : DieId) (j : Fin 64)
  /-- DEFERRED_ENABLE, R157. -/
  | deferredEnable (d : DieId) (j : Fin 64)
  /-- SWITCH_SETTLED, R160. -/
  | switchSettled (d : DieId) (j : Fin 64)
  /-- HOME_EVENT, R159. -/
  | homeEvent (d : DieId) (j : Fin 64)
  /-- HOMING_TIMEOUT, R161. -/
  | homingTimeout (d : DieId) (j : Fin 64)
  /-- REDUCED_HOLD, R162. -/
  | reducedHold (d : DieId) (j : Fin 64)
  /-- STALL, R163. -/
  | stall (d : DieId) (j : Fin 64)
  /-- FEEDBACK_LOST, R195. -/
  | feedbackLost (d : DieId) (j : Fin 64)
  /-- FEEDBACK_FROZEN, R196. -/
  | feedbackFrozen (d : DieId) (j : Fin 64)
  /-- EXT_TORQUE_STALE, R187. -/
  | extTorqueStale (d : DieId) (j : Fin 64)
  /-- EXT_TORQUE_FADED, R187. -/
  | extTorqueFaded (d : DieId) (j : Fin 64)
  /-- TABLE_COPY_DONE, R191. -/
  | tableCopyDone (d : DieId) (j : Fin 64) (friction : Bool)
  /-- SEP_CYCLE_COMPUTE, R206. -/
  | sepCycleCompute (d : DieId)
  /-- STOP_REQUEST_RELEASE, R219. -/
  | stopRequestRelease (d : DieId) (a : Fin 8)
  /-- SEP_RESULT_EXCHANGE, R224. -/
  | sepResultExchange (d : DieId)
  /-- SEP_COMBINED_RESULT, R224. -/
  | sepCombinedResult (d : DieId)
  /-- SIGHT_DATAGRAM, R214. -/
  | sightDatagram (udpPort : BitVec 16) (bytes : List Byte)
  /-- ZONE_MESSAGE, R230. -/
  | zoneMessage (bytes : List Byte)
  /-- ITEM_RELEASE, R266. -/
  | itemRelease (d : DieId) (entry : Fin 1024)
  /-- PREFETCH_DONE, R268. -/
  | prefetchDone (d : DieId) (core : Fin 32)
  /-- ITEM_COMPLETE, R254. -/
  | itemComplete (d : DieId) (core : Fin 32)
  /-- ITEM_DROP, R270. -/
  | itemDrop (d : DieId) (entry : Fin 1024)
  /-- STATE_REPAIR, R271. -/
  | stateRepair (d : DieId) (entry : Fin 1024)
  /-- HANDSHAKE_STALL, R425. -/
  | handshakeStall (place : UnitId) (retryFails : Bool)
  /-- ADD, R241. -/
  | add (c : CoreRef) (rd ra rb : Fin 16)
  /-- ADDS, R241. -/
  | adds (c : CoreRef) (rd ra rb : Fin 16)
  /-- SUB, R241. -/
  | sub (c : CoreRef) (rd ra rb : Fin 16)
  /-- SUBS, R241. -/
  | subs (c : CoreRef) (rd ra rb : Fin 16)
  /-- AND, R260. -/
  | and_ (c : CoreRef) (rd ra rb : Fin 16)
  /-- OR, R260. -/
  | or_ (c : CoreRef) (rd ra rb : Fin 16)
  /-- XOR, R260. -/
  | xor_ (c : CoreRef) (rd ra rb : Fin 16)
  /-- SHL, R241. -/
  | shl (c : CoreRef) (rd ra rb : Fin 16)
  /-- SHR, R241. -/
  | shr (c : CoreRef) (rd ra rb : Fin 16)
  /-- SAR, R241. -/
  | sar (c : CoreRef) (rd ra rb : Fin 16)
  /-- MIN, R260. -/
  | min_ (c : CoreRef) (rd ra rb : Fin 16)
  /-- MAX, R260. -/
  | max_ (c : CoreRef) (rd ra rb : Fin 16)
  /-- MINU, R260. -/
  | minu (c : CoreRef) (rd ra rb : Fin 16)
  /-- MAXU, R260. -/
  | maxu (c : CoreRef) (rd ra rb : Fin 16)
  /-- MOV, R260. -/
  | mov (c : CoreRef) (rd ra : Fin 16)
  /-- ABS, R241. -/
  | abs_ (c : CoreRef) (rd ra : Fin 16)
  /-- NEG, R241. -/
  | neg_ (c : CoreRef) (rd ra : Fin 16)
  /-- CMP, R260. -/
  | cmp (c : CoreRef) (ra rb : Fin 16)
  /-- TST, R260. -/
  | tst (c : CoreRef) (ra rb : Fin 16)
  /-- MUL, R256. -/
  | mul (c : CoreRef) (rd ra rb : Fin 16) (residueOk : Bool)
  /-- CLZ, R260. -/
  | clz (c : CoreRef) (rd ra : Fin 16)
  /-- ADDI, R260. -/
  | addi (c : CoreRef) (rd ra : Fin 16) (imm : BitVec 18)
  /-- ANDI, R260. -/
  | andi (c : CoreRef) (rd ra : Fin 16) (imm : BitVec 18)
  /-- ORI, R260. -/
  | ori (c : CoreRef) (rd ra : Fin 16) (imm : BitVec 18)
  /-- XORI, R260. -/
  | xori (c : CoreRef) (rd ra : Fin 16) (imm : BitVec 18)
  /-- CMPI, R260. -/
  | cmpi (c : CoreRef) (ra : Fin 16) (imm : BitVec 18)
  /-- SHLI, R260. -/
  | shli (c : CoreRef) (rd ra : Fin 16) (amount : BitVec 5)
  /-- SHRI, R260. -/
  | shri (c : CoreRef) (rd ra : Fin 16) (amount : BitVec 5)
  /-- SARI, R260. -/
  | sari (c : CoreRef) (rd ra : Fin 16) (amount : BitVec 5)
  /-- MOVI, R260. -/
  | movi (c : CoreRef) (rd : Fin 16) (imm : BitVec 16)
  /-- MOVHI, R260. -/
  | movhi (c : CoreRef) (rd : Fin 16) (imm : BitVec 16)
  /-- LD, R244. -/
  | ld (c : CoreRef) (r : Fin 16) (p : Fin 8) (mode : AddrMode) (size : MemSize) (check : ReadCheck)
  /-- ST, R244. -/
  | st (c : CoreRef) (r : Fin 16) (p : Fin 8) (mode : AddrMode) (size : MemSize)
  /-- MPY, R242. -/
  | mpy (c : CoreRef) (acc : Fin 4) (ra rb : Fin 16) (mode : MulMode) (residueOk : Bool)
  /-- MAC, R242. -/
  | mac (c : CoreRef) (acc : Fin 4) (ra rb : Fin 16) (mode : MulMode) (residueOk : Bool)
  /-- MSU, R242. -/
  | msu (c : CoreRef) (acc : Fin 4) (ra rb : Fin 16) (mode : MulMode) (residueOk : Bool)
  /-- ACLR, R260. -/
  | aclr (c : CoreRef) (acc : Fin 4)
  /-- AMOV, R260. -/
  | amov (c : CoreRef) (acc accb : Fin 4)
  /-- AADD, R260. -/
  | aadd (c : CoreRef) (acc accb : Fin 4)
  /-- ASUB, R260. -/
  | asub (c : CoreRef) (acc accb : Fin 4)
  /-- ANEG, R260. -/
  | aneg (c : CoreRef) (acc : Fin 4)
  /-- ASHR, R243. -/
  | ashr (c : CoreRef) (acc : Fin 4) (sh : BitVec 6)
  /-- ASHL, R260. -/
  | ashl (c : CoreRef) (acc : Fin 4) (sh : BitVec 6)
  /-- ASET, R260. -/
  | aset (c : CoreRef) (acc : Fin 4) (rd : Fin 16) (sh : BitVec 6)
  /-- ASETP, R260. -/
  | asetp (c : CoreRef) (acc : Fin 4) (rd : Fin 16) (sh : BitVec 6)
  /-- STA, R243. -/
  | sta (c : CoreRef) (rd : Fin 16) (acc : Fin 4) (sh : BitVec 6)
  /-- STAL, R243. -/
  | stal (c : CoreRef) (rd : Fin 16) (acc : Fin 4) (sh : BitVec 6)
  /-- STAH, R243. -/
  | stah (c : CoreRef) (rd : Fin 16) (acc : Fin 4) (sh : BitVec 6)
  /-- DIVA, R243. -/
  | diva (c : CoreRef) (rd : Fin 16) (acc : Fin 4) (rb : Fin 16)
  /-- PSETI, R260. -/
  | pseti (c : CoreRef) (p : Fin 8) (imm : BitVec 23)
  /-- PADDI, R260. -/
  | paddi (c : CoreRef) (p : Fin 8) (imm : BitVec 23)
  /-- PSET, R260. -/
  | pset (c : CoreRef) (p : Fin 8) (r : Fin 16)
  /-- PGET, R260. -/
  | pget (c : CoreRef) (r : Fin 16) (p : Fin 8)
  /-- PMOV, R260. -/
  | pmov (c : CoreRef) (p q : Fin 8)
  /-- PADD, R260. -/
  | padd (c : CoreRef) (p : Fin 8) (r : Fin 16)
  /-- CBSET, R245. -/
  | cbset (c : CoreRef) (cb : Fin 4) (p : Fin 8) (r : Fin 16)
  /-- MINI, R260. -/
  | mini (c : CoreRef) (rd ri : Fin 16) (p : Fin 8) (rn : Fin 16) (uns : Bool)
  /-- MAXI, R260. -/
  | maxi (c : CoreRef) (rd ri : Fin 16) (p : Fin 8) (rn : Fin 16) (uns : Bool)
  /-- BCC, R260. -/
  | bcc (c : CoreRef) (cond : BitVec 4) (off : BitVec 22)
  /-- CALL, R260. -/
  | call (c : CoreRef) (target : BitVec 10)
  /-- LOOP, R261. -/
  | loop_ (c : CoreRef) (s : Bool) (ra : Fin 16) (count : BitVec 10) (last : BitVec 11)
  /-- SYS_NOP, R260. -/
  | sysNop (c : CoreRef)
  /-- EXIT, R254. -/
  | exit_ (c : CoreRef)
  /-- RET, R261. -/
  | ret (c : CoreRef)
  /-- FAULT, R255. -/
  | faultOp (c : CoreRef) (code : Byte)
  /-- MOVF, R260. -/
  | movf (c : CoreRef) (rd : Fin 16)
  /-- SETF, R260. -/
  | setf (c : CoreRef) (rd : Fin 16)
  /-- RING_LINK_UP, R284. -/
  | ringLinkUp (ring : Fin 8) (port : RingPort)
  /-- RING_LINK_DOWN, R284. -/
  | ringLinkDown (ring : Fin 8) (port : RingPort)
  /-- LOOPBACK_END, R295. -/
  | loopbackEnd (ring : Fin 8) (port : RingPort)
  /-- RING_FRAME_RETURN, R293. -/
  | ringFrameReturn (ring : Fin 8) (port : RingPort) (frame : RxFrame)
  /-- MAILBOX_RECEIVE, R305. -/
  | mailboxReceive (ring : Fin 8) (bytes : List Byte)
  /-- MAILBOX_RETRY_EXHAUSTED, R306. -/
  | mailboxRetryExhausted (ring : Fin 8) (pos : Fin 16)
  /-- RING_LISTEN_END, R309. -/
  | ringListenEnd (ring : Fin 8)
  /-- RING_BACKOFF_END, R309. -/
  | ringBackoffEnd (ring : Fin 8)
  /-- RING_DATA_START, R310. -/
  | ringDataStart (ring : Fin 8)
  /-- RING_NODE_FRAME, R294. -/
  | ringNodeFrame (ring : Fin 8) (port : RingPort) (frame : RxFrame)
  /-- NODE_APPLY_INSTANT, R297. -/
  | nodeApplyInstant (ring : Fin 8)
  /-- NODE_LOSS_STOP, R292. -/
  | nodeLossStop (ring : Fin 8)
  /-- ISOLATE_END, R307. -/
  | isolateEnd (ring : Fin 8)
  /-- FLIT_RECEIVE, R17. -/
  | flitReceive (link : LinkId) (crcOk : Bool)
  /-- FLIT_ACK_TIMEOUT, R425. -/
  | flitAckTimeout (link : LinkId)
  /-- COMPARE_FAILURE, R14. -/
  | compareFailure
  /-- CELL_FRAME_RECEIVE, R329. -/
  | cellFrameReceive (port : Fin 6) (bytes : List Byte)
  /-- ARP_REQUEST, R330. -/
  | arpRequest (bytes : List Byte)
  /-- MAC_AGE_OUT, R329. -/
  | macAgeOut (vid : BitVec 12) (mac : BitVec 48)
  /-- CELL_LINK_CHANGE, R328. -/
  | cellLinkChange (port : Fin 6) (sync partner : Bool)
  /-- CELL_LINK_DOWN, R328. -/
  | cellLinkDown (port : Fin 6)
  /-- CELL_LINK_UP, R328. -/
  | cellLinkUp (port : Fin 6)
  /-- PTP_MESSAGE, R336. -/
  | ptpMessage (inst : Fin 2) (msg : PtpMsg)
  /-- PTP_SYNC_INTERVAL, R336. -/
  | ptpSyncInterval (inst : Fin 2)
  /-- TPI_EDGE, R339. -/
  | tpiEdge (edge : PinEdge)
  /-- TPO_EDGE, R340. -/
  | tpoEdge
  /-- TPO_PULSE_END, R340. -/
  | tpoPulseEnd
  /-- PEER_HEARTBEAT_SEND, R343. -/
  | peerHeartbeatSend
  /-- PEER_MESSAGE, R343. -/
  | peerMessage (bytes : List Byte)
  /-- PEER_LOST, R344. -/
  | peerLost (p : Fin 4)
  /-- INPUT_SAMPLE, R359. -/
  | inputSample (raw : Word)
  /-- CHATTER, R360. -/
  | chatter (ch : Fin 32)
  /-- STUCK_ACTIVE, R361. -/
  | stuckActive (ch : Fin 32)
  /-- INPUT_VALID, R371. -/
  | inputValid (ch : Fin 32)
  /-- UP_LOW, R370. -/
  | upLow (supply : Fin 2) (mv : Nat)
  /-- UP_LOST, R370. -/
  | upLost (supply : Fin 2) (mv : Nat)
  /-- UP_HIGH, R370. -/
  | upHigh (supply : Fin 2) (mv : Nat)
  /-- UP_FLAG_CLEAR, R370. -/
  | upFlagClear (supply : Fin 2)
  /-- UP_RECOVERED, R372. -/
  | upRecovered (supply : Fin 2)
  /-- OUTPUT_FAULT, R366. -/
  | outputFault (ch : Fin 16) (cause : OutCause)
  /-- OPEN_LOAD, R366. -/
  | openLoad (ch : Fin 16)
  /-- HEARTBEAT_SEND, R388. -/
  | heartbeatSend (d : DieId)
  /-- HEARTBEAT, R388. -/
  | heartbeat (sender : DieId) (path : HbPath)
  /-- FIO_WATCHDOG, R368. -/
  | fioWatchdog
  /-- WATCHDOG_AUTO_RESTORE, R368. -/
  | watchdogAutoRestore
  /-- ENABLE_PAIR_FAULT, R374. -/
  | enablePairFault
  /-- CURTAIN_PAIR_FAULT, R375. -/
  | curtainPairFault
  /-- CURTAIN_DEMAND, R375. -/
  | curtainDemand
  /-- CURTAIN_STOP_CODE, R413. -/
  | curtainStopCode
  /-- ENCODER_SAMPLE, R376. -/
  | encoderSample (x : Fin 4) (sample : EncSample)
  /-- INDEX_EDGE, R376. -/
  | indexEdge (x : Fin 4)
  /-- COUNT_ERROR, R378. -/
  | countError (x : Fin 4)
  /-- HEARTBEAT_SILENCE, R398. -/
  | heartbeatSilence (d : DieId)
  /-- TOKEN_RELINQUISH, R398. -/
  | tokenRelinquish (d : DieId)
  /-- TOKEN_REQUEST, R389. -/
  | tokenRequest (d : DieId)
  /-- DIGEST_RECEIVE, R392. -/
  | digestReceive (d : DieId)
  /-- SYNC_PASS_DONE, R395. -/
  | syncPassDone (copied dirty : Nat)
  /-- SYNC_TIMEOUT, R396. -/
  | syncTimeout
  /-- AUTO_SYNC, R396. -/
  | autoSync
  /-- JOURNAL_EPOCH, R403. -/
  | journalEpoch (d : DieId) (epoch : Nat) (crcOk : Bool)
  /-- LATENT_READY, R406. -/
  | latentReady (d : DieId)
  /-- REVERT_HOLDOFF, R411. -/
  | revertHoldoff
  /-- SUPPLY_SAMPLE, R426. -/
  | supplySample (index : Fin 7) (mv : Nat)
  /-- SUPPLY_FAULT, R426. -/
  | supplyFault (index : Fin 7)
  /-- TEMP_SAMPLE, R426. -/
  | tempSample (sensor : TempSensor) (deci : Int)
  /-- TEMP_FAULT, R426. -/
  | tempFault (sensor : TempSensor)
  /-- COARSE_CHECK_WINDOW, R427. -/
  | coarseCheckWindow (ppm : Int) (tickSeen : Bool)
  /-- FINE_CHECK_WINDOW, R427. -/
  | fineCheckWindow (ppm : Int)
  /-- TRANSIENT_LIMIT, R422. -/
  | transientLimit (d : DieId) (place : UnitId) (det : Fin 16)
  /-- INJECTION_EXPIRY, R430. -/
  | injectionExpiry (d : DieId) (slot : Fin 4)
  /-- INTERVAL_BOUNDARY, R451. -/
  | intervalBoundary
  /-- BAD_OPCODE, R90. -/
  | badOpcode (opcode : BitVec 16) (h : HostCmd)
  /-- BUS_MASTERING_CHANGE, R63. -/
  | busMasteringChange (d : DieId) (on : PcieEnables)
  /-- QUADRATURE_EDGE, R376. -/
  | quadratureEdge (x : Fin 4) (forward : Bool)
  /-- PRP_ENTRY_FORGOTTEN, R342. -/
  | prpEntryForgotten (mac : BitVec 48)
  /-- CATCHER_BEHIND, R121. -/
  | catcherBehind (d : DieId)
  /-- VCORE_REMOVED, R447. -/
  | vcoreRemoved (d : DieId)
  /-- VCORE_RETURN, R460. -/
  | vcoreReturn (d : DieId)
  /-- DIRECT_LINK_RESTORED, R17. -/
  | directLinkRestored
  deriving DecidableEq, Repr

end Sys2Proof
end

