-- ==== Sys2Proof/Config.lean ====
section
/-! DEFINITION. The values the spec leaves open, as constants without a body: nothing can evaluate them, so a claim holds
whatever they are. Each is named in a row of notes/assumptions. -/

namespace Sys2Proof.Config

/-- A fresh natural number for the `n`-th draw. -/
opaque freeNat : Nat → Nat

/-- A fresh integer for the `n`-th draw. -/
opaque freeInt : Nat → Int

/-- A fresh truth value for the `n`-th draw. -/
opaque freeBool : Nat → Bool

/-- Whether a value that falls between two codes of its format is taken to the code above (else the code below): the
spec gives the formats, not the rounding. -/
opaque roundsUp : Rat → Bool

/-- The lane that takes a term of a sum of the Juggler, for a configuration with its lane groups, the name of the sum and the
term's number. The spec says that the part fixes the assignment and the order of every reduction from those (R111), not which. -/
opaque lane : List Int → List Nat → Nat → Nat

/-- Coordinates the library kinematics item writes: for a chain, its joint positions and an index. The spec bounds them (R212). -/
opaque placement : List Int → Nat → Int

/-- A number the spec does not state, as a function of the numbers it goes with. -/
opaque unstated : List Int → Int

/-- Which library item a code block is: 1 feedback, 2 kinematics, 3 control, 4 gravity, 5 ring-pack, else a user item. The
spec names the items of the Coldatus library without giving their code. -/
opaque libraryItem : List Int → Nat

/-- Slots of the command at the head of a command queue (die and queue, HEAD, tail), which stand in host memory until the part reads them (R68). -/
opaque headSlots : Nat → Nat → Nat → Nat

end Sys2Proof.Config
end

