-- ==== Sys2Proof/Machine/Cfg.lean ====
section
/-! DEFINITION. The configuration the `CONFIG_*` commands, `TABLE_WRITE` and `CODE_LOAD` stage and `COMMIT` makes active
(R49): one record for each parameter table, with the defaults the spec gives before the first commit. Values are held
in the units of their parameter table. -/

namespace Sys2Proof.Machine

/-- A table with few used entries: key and value, keys strictly rising. -/
abbrev Sparse (α : Type) := List (Nat × α)

/-- A byte memory: sorted cells, none equal to what an unlisted address reads as (0, R461). -/
abbrev Memory := List Host.Cell

/-- `CONFIG_PERIODS` (Table 2.5). Before the first commit the Blossom cycle of 1 ms is in force (R470). -/
structure CfgPeriods where
  tS    : Nat := 1000000
  tP    : Nat := 1000000
  tSep  : Nat := 1000000
  phase : Nat := 0
  deriving DecidableEq, Repr

/-- `CONFIG_DEADLINE` (Table 2.6), zero fields meaning their defaults. -/
structure CfgDeadline where
  slackLowNs   : Nat := 0
  overrunLimit : Nat := 3
  deriving DecidableEq, Repr

/-- `CONFIG_PTP` for TB0 or TB3 (Table 11.7). -/
structure CfgPtp where
  enable     : Bool := false
  profile    : Nat := 0
  role       : Nat := 0
  domain     : Nat := 0
  priority1  : Nat := 128
  priority2  : Nat := 128
  clockClass : Nat := 248
  servoHost  : Bool := false
  logSync    : Int := -3
  logAnnounce : Int := 0
  logDelay   : Int := -3
  ptpPort    : Nat := 0
  jump       : Nat := 1000
  deriving DecidableEq, Repr

/-- SOURCE of TB2 (R332). -/
inductive Tb2Source where | free | tb0 | tb3
  deriving DecidableEq, Repr

/-- `CONFIG_TPO` (R352). -/
structure CfgTpo where
  mode     : Nat := 0
  source   : Nat := 0
  polarity : Nat := 0
  period   : Nat := 1000000000
  phase    : Nat := 0
  width    : Nat := 100
  deriving DecidableEq, Repr

/-- `CONFIG_SWITCH`, package target (Table 11.8). -/
structure CfgSwitch where
  mac      : BitVec 48 := 0
  peerPort : Nat := 40118
  ipv4     : Word := 0
  pkgVid   : Nat := 1
  ptpVid   : Nat := 1
  tcEnable : Bool := true
  dupMode  : Nat := 0
  dupPortA : Nat := 0
  dupPortB : Nat := 1
  ageS     : Nat := 300
  deriving DecidableEq, Repr

/-- `CONFIG_SWITCH`, cell-port target. -/
structure CfgPort where
  mode       : Nat := 0
  anDisable  : Bool := false
  taggedOnly : Bool := false
  pvid       : Nat := 1
  defaultPcp : Nat := 0
  deriving DecidableEq, Repr

/-- `CONFIG_SWITCH`, VLAN entry. -/
structure CfgVlan where
  vid      : Nat := 0
  members  : Nat := 0
  untagged : Nat := 0
  deriving DecidableEq, Repr

/-- One entry of `CONFIG_CELL_PEERS` (R356). -/
structure CfgPeer where
  enable : Bool := false
  mac    : BitVec 48 := 0
  ipv4   : Word := 0
  deriving DecidableEq, Repr

/-- `CONFIG_CELL_PEERS` (R356). -/
structure CfgPeers where
  hbPeriod : Nat := 1000000
  hbMiss   : Nat := 4
  skewTol  : Nat := 10000
  entries  : Vector CfgPeer 4 := Vector.replicate 4 {}
  deriving DecidableEq, Repr

/-- `CONFIG_RING` (Table 10.14). -/
structure CfgRing where
  role       : Nat := 0
  ringId     : Nat := 0
  nodes      : Nat := 0
  stopAction : Nat := 1
  cableM     : Nat := 0
  lossLimit  : Nat := 3
  tStopNs    : Nat := 500000000
  nodeOutLen : Nat := 4
  nodeInLen  : Nat := 4
  deriving DecidableEq, Repr

/-- `CONFIG_NODE` (Table 10.15). -/
structure CfgNode where
  format     : Nat := 0
  joint      : Nat := 255
  outLen     : Nat := 0
  inLen      : Nat := 0
  hopNs      : Nat := 320
  velShift   : Nat := 0
  checkIdent : Bool := false
  vendor     : Nat := 0
  product    : Nat := 0
  deriving DecidableEq, Repr

/-- `CONFIG_JOINT`, joint target (Table 5.9). `arm` 255 is no arm; `faultStop` uses the encoding 1, 2, 3 of Category 0, 1, 2. -/
structure CfgJoint where
  arm           : Nat := 255
  linear        : Bool := false
  faultStop     : Nat := 2
  brake         : Nat := 0
  brakeOut      : Nat := 0
  brakeReleaseNs : Nat := 50000000
  brakeEngageNs : Nat := 50000000
  enableTimeoutNs : Nat := 100000000
  softTimeNs    : Nat := 200000000
  softFraction  : Nat := 16383
  deriving DecidableEq, Repr

/-- `CONFIG_JOINT`, arm target (Table 5.10), in 2⁻¹⁶ per second. -/
structure CfgArm where
  rateDown : Nat := 1310720
  rateUp   : Nat := 131072
  deriving DecidableEq, Repr

/-- `CONFIG_LIMITS` (Table 5.11). -/
structure CfgLimits where
  qMin : Int
  qMax : Int
  vMax : Int
  aMax : Int
  jMax : Int
  aStop : Int
  jStop : Int
  catchOmega : Nat
  deriving DecidableEq, Repr

/-- `CONFIG_HOMING` (Table 5.15). -/
structure CfgHoming where
  method    : Nat := 0
  direction : Nat := 0
  homeSrc   : Nat := 0
  limPos    : Nat := 0
  limNeg    : Nat := 0
  chatterEdges : Nat := 4
  homeActiveLow : Bool := false
  limActiveLow  : Bool := false
  homePosition : Int := 0
  backoff   : Int := 0
  maxTravel : Int := 0
  vFast     : Int := 0
  vCreep    : Int := 0
  aHome     : Int := 0
  torqueLimit : Int := 0
  torqueThreshold : Int := 0
  settleNs  : Nat := 5000000
  chatterWindowNs : Nat := 50000000
  dwellNs   : Nat := 100000000
  timeoutMs : Nat := 60000
  deriving DecidableEq, Repr

/-- `CONFIG_STANDSTILL` (R172). -/
structure CfgStandstill where
  delayNs  : Nat := 500000000
  fraction : Nat := 26214
  deriving DecidableEq, Repr

/-- `CONFIG_FOLLOWING` (R172). -/
structure CfgFollowing where
  windowMoving     : Int := 0
  windowStandstill : Int := 0
  timeNs           : Nat := 10000000
  deriving DecidableEq, Repr

/-- `CONFIG_CONTROL` (Table 6.4); TORQUE_MAX is 0 before its first commit (R198). -/
structure CfgControl where
  tq          : Bool := false
  predict     : Bool := true
  velFromNode : Bool := false
  kp          : Nat := 0
  kv          : Nat := 0
  ki          : Nat := 0
  torqueMax   : Int := 0
  limitFraction : Nat := 65535
  softLimitStart : Nat := 16383
  tauVNs      : Nat := 0
  deriving DecidableEq, Repr

/-- `CONFIG_FILTER` (Table 6.5) for one of the two biquads. -/
structure CfgFilter where
  type_   : Nat := 0
  zeta    : Nat := 0
  fHz     : Nat := 0
  widthHz : Nat := 0
  depth   : Nat := 0
  b0 : Int := 0
  b1 : Int := 0
  b2 : Int := 0
  a1 : Int := 0
  a2 : Int := 0
  deriving DecidableEq, Repr

/-- `CONFIG_FEEDFORWARD` (Table 6.6). -/
structure CfgFeedforward where
  kvff      : Nat := 65536
  kaff      : Nat := 0
  inertia   : Nat := 0
  gearNum   : Nat := 1
  gearDen   : Nat := 1
  cogOffset : Nat := 0
  travelMin : Int := -4294967296
  travelMax : Int := 4294967296
  vBand     : Int := 655
  extFadeNs : Nat := 20000000
  deriving DecidableEq, Repr

/-- `CONFIG_FEEDBACK` (Table 6.8). -/
structure CfgFeedback where
  encoderPort : Bool := false
  port        : Nat := 0
  invert      : Bool := false
  holdLimit   : Nat := 2
  countsPerUnit : Nat := 1048576
  offset      : Int := 0
  freezeV     : Int := 0
  freezeTorque : Int := 0
  freezeTimeNs : Nat := 20000000
  deriving DecidableEq, Repr

/-- Everything staged for one joint slot. -/
structure CfgJointAll where
  joint      : CfgJoint := {}
  limits     : Option CfgLimits := none
  homing     : CfgHoming := {}
  standstill : CfgStandstill := {}
  following  : CfgFollowing := {}
  control    : CfgControl := {}
  filter0    : CfgFilter := {}
  filter1    : CfgFilter := {}
  ff         : CfgFeedforward := {}
  feedback   : CfgFeedback := {}
  deriving DecidableEq, Repr

/-- A compensation table (Table 6.3): descriptor and 256 entries, entries of value 0 not listed. -/
structure CfgTable where
  shift   : Nat := 0
  enable  : Bool := false
  entries : Sparse Int := []
  deriving DecidableEq, Repr

/-- `CONFIG_JUGGLER` (Table 4.7); binary32 fields as their bits, defaults resolved. -/
structure CfgJuggler where
  jointSet  : BitVec 64 := 0
  enable    : Bool := false
  hMult     : Nat := 1
  n         : Nat := 1
  deadlinePct : Nat := 85
  checkEvery : Nat := 5
  rhoAdapt  : Bool := false
  terminalStop : Bool := false
  rowStepMask : BitVec 16 := 0
  epsAbs    : Word := 0x38D1B717
  epsRel    : Word := 0x38D1B717
  feasTol   : Word := 0x3A03126F
  epsPiv    : Word := 0x30800000
  deltaReg  : Word := 0x35800000
  rho       : Word := 0x3DCCCCCD
  sigma     : Word := 0x358637BD
  alpha     : Word := 0x3FCCCCCD
  meritDual : Word := 0x3E800000
  limitFraction : Word := 0x3F666666
  sepRows   : Nat := 0
  zoneRows  : Nat := 0
  hostRows  : Nat := 0
  deriving DecidableEq, Repr

/-- `CONFIG_WEIGHTS` (Table 4.9), binary32 bits. -/
structure CfgWeights where
  wq  : Word := 0
  wv  : Word := 0
  wa  : Word := 0
  wqn : Word := 0
  wvn : Word := 0
  deriving DecidableEq, Repr

/-- `CONFIG_ROWS` (Table 4.11): one host row. -/
structure CfgRow where
  stepMask : BitVec 16
  nnz      : Nat
  lower    : Word
  upper    : Word
  index    : List Byte
  coef     : List Word
  deriving DecidableEq, Repr

/-- A point or vector of three s32 lengths. -/
structure Vec3 where
  x : Int
  y : Int
  z : Int
  deriving DecidableEq, Repr

/-- A geometry table entry (Table 7.1). -/
inductive GeoEntry where
  | capsule (arm link : Nat) (armArm : Bool) (p0 p1 : Vec3) (radius : Int)
  | header (use_ planes cls firstPlane owner : Nat)
  | plane (normal : Vec3) (offset : Int)
  | zone (zone : Nat) (volumes : List Nat) (shared autoRelease : Bool) (peers : BitVec 4) (zoneClear : Int)
  deriving DecidableEq, Repr

/-- A transform of the kinematic chain table (Table 7.8). -/
structure KinFrame where
  translation : Vec3
  w : Int
  x : Int
  y : Int
  z : Int
  deriving DecidableEq, Repr

/-- `CONFIG_KINEMATICS` (Table 7.8): base frame first, then one transform and one axis byte for each joint. -/
structure CfgKinematics where
  joints : Nat
  axes   : List Byte
  frames : List KinFrame
  deriving DecidableEq, Repr

/-- `CONFIG_SSM_PARAMS`, arm (Table 7.4). -/
structure CfgSsmArm where
  vRMax    : Nat := 0
  tRAddNs  : Nat := 0
  zR       : Int := 1311
  sSlow    : Int := 32768
  armClear : Int := 3277
  rowWindow : Int := 19661
  releaseNs : Nat := 500000000
  personCat : Nat := 3
  machineCat : Nat := 3
  speedTol : Int := 655
  deriving DecidableEq, Repr

/-- `CONFIG_SSM_PARAMS`, class (Table 7.5), defaults of classes 1..7. -/
structure CfgSsmClass where
  vH : Nat := 104858
  c  : Int := 55706
  zD : Int := 0
  deriving DecidableEq, Repr

/-- `CONFIG_SENSOR` (Table 7.7). -/
structure CfgSensor where
  enable    : Bool := false
  clsOnTimeout : Nat := 1
  sensorId  : Nat := 0
  udpPort   : Nat := 40117
  quota     : Nat := 1
  tAgeMaxNs : Nat := 20000000
  timeoutNs : Nat := 100000000
  coverage  : Nat := 0
  deriving DecidableEq, Repr

/-- `CONFIG_INPUTS`, one input (R379). -/
structure CfgInput where
  filterN  : Nat := 1000
  chatterLimit : Nat := 16
  invert   : Bool := false
  stuckEnable : Bool := false
  stuckMs  : Nat := 60000
  deriving DecidableEq, Repr

/-- `CONFIG_OUTPUTS`, one channel (Table 12.7). -/
structure CfgOutput where
  function : Nat := 0
  cls      : Nat := 0
  group    : Nat := 0
  safe     : Nat := 0
  openLoadEnable : Bool := false
  openLoadMs : Nat := 100
  deriving DecidableEq, Repr

/-- `CONFIG_OUTPUTS`, package target, with `CONFIG_INPUTS` TYPES and `CONFIG_WATCHDOG`. -/
structure CfgField where
  types    : Byte := 0
  upOffMv  : Vector Nat 2 := Vector.replicate 2 15000
  autoRestoreUp : Vector Bool 2 := Vector.replicate 2 false
  autoRestoreWd : Bool := false
  watchdogNs : Nat := 1000000
  deriving DecidableEq, Repr

/-- `CONFIG_ENCODER` (Table 12.9). -/
structure CfgEncoder where
  mode     : Nat := 0
  mirrorRing : Nat := 0
  mirrorNode : Nat := 0
  gray     : Bool := false
  zEnable  : Bool := false
  errorBit : Nat := 255
  clockKhz : Nat := 1000
  frameBits : Nat := 8
  posBits  : Nat := 8
  posLsb   : Nat := 0
  parity   : Nat := 0
  sampleOffsetNs : Nat := 0
  monoflopNs : Nat := 20000
  filterNs : Nat := 40
  deriving DecidableEq, Repr

/-- `CONFIG_SAFETY_INPUTS` (R386); `none` is 0xFF. -/
structure CfgSafety where
  enA : Option (Fin 32) := none
  enB : Option (Fin 32) := none
  cuA : Option (Fin 32) := none
  cuB : Option (Fin 32) := none
  enDiscrepancyMs : Nat := 500
  cuDiscrepancyMs : Nat := 100
  cuFilterN : Nat := 1000
  deriving DecidableEq, Repr

/-- `CONFIG_TRAPEZE` (Table 13.7). -/
structure CfgTrapeze where
  homeFlier : DieId := .t0
  latent    : Bool := false
  noRevert  : Bool := false
  noAutoSync : Bool := false
  noAutoReset : Bool := false
  resetLimit : Nat := 3
  holdoffMs : Nat := 30000
  pairingNs : Nat := 500000
  syncDelayMs : Nat := 100
  curtainTStopNs : Nat := 500000000
  deriving DecidableEq, Repr

/-- `CONFIG_EVENTS` (R437): control words hold VECTOR 1 at reset (Table 14.4). -/
structure CfgEvents where
  control : Vector Word 256 := Vector.replicate 256 4
  transientLimit : Nat := 8
  deriving DecidableEq, Repr

/-- `CONFIG_STATISTICS` (R456). -/
structure CfgStatistics where
  mode  : Nat := 0
  log2Periods : Nat := 14
  seconds : Nat := 1
  deriving DecidableEq, Repr

/-- A code or parameter block as `CODE_LOAD` builds it (R278): the bytes written so far, and whether LAST passed. -/
structure CfgBlock where
  bytes    : Sparse Byte := []
  length   : Nat := 0
  complete : Bool := false
  deriving DecidableEq, Repr

/-- A period program entry with ENABLE 1 (Table 9.1). -/
structure ProgEntry where
  codeId   : Nat
  cls      : Nat
  ringReturn : Bool
  offsetNs : Nat
  rankNs   : Nat
  inst     : Nat
  affinity : BitVec 4
  ringMask : Byte
  predBase0 : Nat
  predMask0 : BitVec 16
  predBase1 : Nat
  predMask1 : BitVec 16
  home     : Option (Fin 4)
  deriving DecidableEq, Repr

/-- The whole configuration of the package; `emptyEntries` holds what was written to period program entries with ENABLE 0: a committed copy and a shadow copy exist on each die (R49). -/
structure Cfg where
  periods  : CfgPeriods := {}
  deadline : CfgDeadline := {}
  ptp0     : CfgPtp := {}
  ptp3     : CfgPtp := { domain := 1 }
  tb2Source : Tb2Source := .free
  tpo      : CfgTpo := {}
  switch   : CfgSwitch := {}
  ports    : Vector CfgPort 6 := Vector.replicate 6 {}
  vlans    : Vector CfgVlan 64 := Vector.replicate 64 {}
  peers    : CfgPeers := {}
  rings    : Vector CfgRing 8 := Vector.replicate 8 {}
  nodes    : Vector CfgNode 128 := Vector.replicate 128 {}
  joints   : Vector CfgJointAll 64 := Vector.replicate 64 {}
  arms     : Vector CfgArm 8 := Vector.replicate 8 {}
  tables   : Vector CfgTable 128 := Vector.replicate 128 {}
  juggler  : CfgJuggler := {}
  weights  : Vector CfgWeights 64 := Vector.replicate 64 {}
  rows     : Sparse CfgRow := []
  geometry : Sparse GeoEntry := []
  kinematics : Vector (Option CfgKinematics) 8 := Vector.replicate 8 none
  ssmArm   : Vector CfgSsmArm 8 := Vector.replicate 8 {}
  ssmClass : Vector CfgSsmClass 8 := (Vector.replicate 8 {}).set 0 { vH := 0, c := 0 }
  scaleTol : Nat := 0
  sensors  : Vector CfgSensor 32 := Vector.replicate 32 {}
  inputs   : Vector CfgInput 32 := Vector.replicate 32 {}
  outputs  : Vector CfgOutput 16 := Vector.replicate 16 {}
  field    : CfgField := {}
  encoders : Vector CfgEncoder 4 := Vector.replicate 4 {}
  safety   : CfgSafety := {}
  trapeze  : CfgTrapeze := {}
  events   : CfgEvents := {}
  statistics : CfgStatistics := {}
  code     : Sparse CfgBlock := []
  paramBlocks : Sparse CfgBlock := []
  program  : Sparse ProgEntry := []
  emptyEntries : Sparse (List Byte) := []
  deriving DecidableEq, Repr

/-- What MW runs under before an image has loaded: every ring in AUTO role (R308, R470). -/
def Cfg.boot : Cfg := { rings := Vector.replicate 8 { role := 3 } }

end Sys2Proof.Machine
end

