-- ==== Sys2Proof/Machine/Num.lean ====
section
/-! DEFINITION. Numbers: binary64 and binary32 as rounded rationals, the fixed-point formats of Table 0.7, and the
constant-jerk profiles of the generators (R142..R146). -/

namespace Sys2Proof.Machine

/-- 2 to an integer power. -/
def pow2 (e : Int) : Rat := if 0 ≤ e then (2 ^ e.toNat : Nat) else 1 / ((2 ^ (-e).toNat : Nat) : Rat)

/-- Nearest integer, ties to even. -/
def roundEven (x : Rat) : Int :=
  let f := x.floor
  let r := x - f
  if r < 1 / 2 then f else if 1 / 2 < r then f + 1 else if f % 2 = 0 then f else f + 1

/-- The binary exponent e with 2ᵉ ≤ |x| < 2ᵉ⁺¹, for x ≠ 0. -/
def expOf (x : Rat) : Int :=
  let a := if x < 0 then -x else x
  let e : Int := (Nat.log2 a.num.toNat : Int) - Nat.log2 a.den
  if a < pow2 e then e - 1 else e

/-- Round to a binary significand of `p` bits, ties to even; the exponent range is not bounded above. `emin` is the
exponent of the least normal value. -/
def flp (p : Nat) (emin : Int) (x : Rat) : Rat :=
  if x = 0 then 0
  else
    let e := max (expOf x) emin - ((p : Int) - 1)
    (roundEven (x / pow2 e) : Rat) * pow2 e

/-- binary64 rounding. -/
def fl64 (x : Rat) : Rat := flp 53 (-1022) x

/-- binary32 rounding. -/
def fl32 (x : Rat) : Rat := flp 24 (-126) x

/-- Integer square root by bits: the largest r < 2ⁿ above `acc` with r² ≤ v. -/
def isqrtBits (v : Nat) : Nat → Nat → Nat
  | 0, acc => acc
  | n + 1, acc => isqrtBits v n (if (acc + 2 ^ n) * (acc + 2 ^ n) ≤ v then acc + 2 ^ n else acc)

/-- Integer square root. -/
def isqrt (v : Nat) : Nat := isqrtBits v (Nat.log2 v / 2 + 1) 0

/-- binary64 square root of a non-negative rational, correctly rounded: 64 or more bits of the root and a sticky half. -/
def sqrt64 (x : Rat) : Rat :=
  if x ≤ 0 then 0
  else
    let t : Nat := (64 - expOf x / 2 + 1).toNat
    let scaled := x * ((4 ^ t : Nat) : Rat)
    let n := scaled.floor.toNat
    let s := isqrt n
    let sticky : Rat := if (s * s : Nat) = scaled then 0 else 1 / 2
    fl64 (((s : Rat) + sticky) / ((2 ^ t : Nat) : Rat))

/-- A value that must be held in a format with the given step: exact where it can be, else the code below or above as
`Config.roundsUp` has it (the spec gives no rounding). -/
def toCode (x step : Rat) : Int :=
  let y := x / step
  if (y.floor : Rat) = y then y.floor else if Config.roundsUp y then y.floor + 1 else y.floor

/-- The steps of Table 0.7. -/
def posStep : Rat := 1 / 4294967296
def velStep : Rat := 1 / 65536
def accStep : Rat := 1 / 4096
def jerkStep : Rat := 1 / 256
def torqueStep : Rat := 1 / 65536

/-- Values of fields. -/
def posOf (x : Int) : Rat := x * posStep
def velOf (x : Int) : Rat := x * velStep
def accOf (x : Int) : Rat := x * accStep
def jerkOf (x : Int) : Rat := x * jerkStep

/-- Saturate to a signed width. -/
def satInt (bits : Nat) (x : Int) : Int := max (-(2 ^ (bits - 1))) (min x (2 ^ (bits - 1) - 1))

/-- Absolute value of a rational. -/
def absQ (x : Rat) : Rat := if x < 0 then -x else x

/-- Clamp a rational. -/
def clampQ (x lo hi : Rat) : Rat := if x < lo then lo else if hi < x then hi else x

/-- Ceiling of a time in seconds to whole nanoseconds, 0 for negative times (R144). -/
def ceilNs (t : Rat) : Nat := (-((-(t * 1000000000)).floor)).toNat

/-! ### Constant-jerk profiles -/

/-- A position, velocity and acceleration in units of the joint and seconds. -/
structure PVA where
  q : Rat
  v : Rat
  a : Rat
  deriving DecidableEq, Repr

/-- The state `t` seconds into a segment of jerk `j` (the equations before R142). -/
def PVA.after (s : PVA) (j t : Rat) : PVA where
  q := s.q + s.v * t + s.a * t * t / 2 + j * t * t * t / 6
  v := s.v + s.a * t + j * t * t / 2
  a := s.a + j * t

/-- A segment: its start state, jerk, and duration in whole nanoseconds. -/
structure Seg where
  start : PVA
  jerk  : Rat
  ns    : Nat
  deriving DecidableEq, Repr

/-- Seconds of a nanosecond count. -/
def secs (ns : Nat) : Rat := (ns : Rat) / 1000000000

/-- Chain segments given as times in seconds (already binary64) and jerks; times are rounded up to nanoseconds. -/
def chainSegs (s : PVA) : List (Rat × Rat) → List Seg × PVA
  | [] => ([], s)
  | (t, j) :: r =>
    let n := ceilNs t
    let e := s.after j (secs n)
    let rest := chainSegs e r
    (if n = 0 then rest.1 else { start := s, jerk := j, ns := n } :: rest.1, rest.2)

/-- Displacement over segments taken with their unrounded times. -/
def dispOf (s : PVA) : List (Rat × Rat) → PVA
  | [] => s
  | (t, j) :: r => dispOf (s.after j t) r

/-- Negate every jerk: the mirror image of a profile. -/
def mirror (l : List (Rat × Rat)) : List (Rat × Rat) := l.map fun x => (x.1, -x.2)

/-- A segment time that rounding has left below zero. -/
def posTime (t : Rat) : Rat := if t < 0 then 0 else t

/-- The stop profile of R143 for v > 0, or v = 0 with a ≥ 0; the second result is true where it ends at a velocity
crossing with residual acceleration. A deceleration above A is brought back to A at jerk J by the first segment (R145). -/
def stopUp (v a A J : Rat) : List (Rat × Rat) × Bool :=
  let half := fl64 (fl64 (a * a) / 2)
  let ap2 := fl64 (fl64 (J * v) + half)
  if a < 0 ∧ fl64 (J * v) < half then
    ([(fl64 (fl64 (-a - sqrt64 (fl64 (fl64 (a * a) - fl64 (2 * fl64 (J * v))))) / J), J)], true)
  else
    let ap := sqrt64 ap2
    let t3 := fl64 (A / J)
    if ap ≤ A then ([(posTime (fl64 (fl64 (a + ap) / J)), -J), (fl64 (ap / J), J)], false)
    else if a < -A then
      ([(fl64 (fl64 (-a - A) / J), J), (posTime (fl64 (fl64 (v - fl64 (half / J)) / A)), 0), (t3, J)], false)
    else
      let t2 := fl64 (fl64 (fl64 (v + fl64 (half / J)) - fl64 (fl64 (A * A) / J)) / A)
      ([(fl64 (fl64 (a + A) / J), -J), (posTime t2, 0), (t3, J)], false)

/-- The stop profile of R143 in either direction. -/
def stopProfile (v a A J : Rat) : List (Rat × Rat) × Bool :=
  if 0 < v ∨ (v = 0 ∧ 0 ≤ a) then stopUp v a A J
  else let r := stopUp (-v) (-a) A J; (mirror r.1, r.2)

/-- The shortest change of velocity from (v, a) to (vt, 0) with jerk ±J and |q''| ≤ A, towards a higher velocity. An acceleration above A is
brought back to A at jerk J by the first segment (R145). -/
def changeUp (v a vt A J : Rat) : List (Rat × Rat) :=
  let half := fl64 (fl64 (a * a) / 2)
  let ap := sqrt64 (fl64 (fl64 (J * fl64 (vt - v)) + half))
  let t3 := fl64 (A / J)
  if ap ≤ A then [(posTime (fl64 (fl64 (ap - a) / J)), J), (fl64 (ap / J), -J)]
  else if A < a then [(fl64 (fl64 (a - A) / J), -J), (posTime (fl64 (fl64 (fl64 (vt - v) - fl64 (half / J)) / A)), 0), (t3, -J)]
  else
    let t2 := fl64 (fl64 (fl64 (fl64 (vt - v) + fl64 (half / J)) - fl64 (fl64 (A * A) / J)) / A)
    [(fl64 (fl64 (A - a) / J), J), (posTime t2, 0), (t3, -J)]

/-- The change of velocity of R144 and R146: up or down according to the velocity reached when q'' is taken to zero. -/
def changeProfile (v a vt A J : Rat) : List (Rat × Rat) :=
  let v0 := v + a * absQ a / (2 * J)
  if v0 ≤ vt then changeUp v a vt A J else mirror (changeUp (-v) (-a) (-vt) A J)

/-- Where a profile from a state ends, with the displacement along +1. -/
def distOf (v a : Rat) (l : List (Rat × Rat)) : Rat := (dispOf ⟨0, v, a⟩ l).q

/-- First and last phase of the move of R144 with peak `vp`, towards positive positions. -/
def moveEnds (v a vp A J : Rat) : List (Rat × Rat) × List (Rat × Rat) :=
  (changeProfile v a vp A J, (stopUp vp 0 A J).1)

/-- The first and last phases do not pass the distance `d` (R144). -/
def moveFits (v a A J d : Rat) (n : Nat) : Bool :=
  let p := moveEnds v a (n * velStep) A J
  decide (distOf v a p.1 + distOf (n * velStep) 0 p.2 ≤ d)

/-- Bisection for the largest grid velocity that fits, between one that fits and one that does not. -/
def bisect (fits : Nat → Bool) : Nat → Nat → Nat → Nat
  | 0, lo, _ => lo
  | fuel + 1, lo, hi =>
    if hi ≤ lo + 1 then lo
    else
      let m := (lo + hi) / 2
      if fits m then bisect fits fuel m hi else bisect fits fuel lo m

/-- V_p in 2⁻¹⁶ unit/s, none where even the least grid velocity passes the target (R144). From the velocity on that the joint reaches as its acceleration goes to zero the distance
rises with V_p, and below it up to a greatest one; so the largest V_p that fits is sought above it first. -/
def peakVelocity (v a V A J d : Rat) : Option Nat :=
  let fits := moveFits v a A J d
  let hi := (V / velStep).floor.toNat
  let own := max 1 ((v + a * absQ a / (2 * J)) / velStep).ceil.toNat
  if fits (max hi 1) then some (max hi 1)
  else if own ≤ hi ∧ fits own = true then some (bisect fits 40 own hi)
  else if fits 1 then some (bisect fits 40 1 (min own hi))
  else none

/-- The move of R144 over distance `d ≥ 0`, towards positive positions: times and jerks. -/
def moveUp (v a V A J d : Rat) : Option (List (Rat × Rat)) :=
  match peakVelocity v a V A J d with
  | none => none
  | some n =>
    let vp : Rat := n * velStep
    let p := moveEnds v a vp A J
    let rest := d - distOf v a p.1 - distOf vp 0 p.2
    some (p.1 ++ [(fl64 (fl64 rest / vp), 0)] ++ p.2)

/-- The move of R144 from a state to `qt` in either direction. -/
def moveTo (s : PVA) (qt V A J : Rat) : Option (List (Rat × Rat)) :=
  if s.q ≤ qt then moveUp s.v s.a V A J (qt - s.q)
  else (moveUp (-s.v) (-s.a) V A J (s.q - qt)).map mirror

/-- Sign of the motion: of q', or of q'' at rest (R142). -/
def motionSign (s : PVA) : Int := if 0 < s.v then 1 else if s.v < 0 then -1 else if 0 < s.a then 1 else if s.a < 0 then -1 else 0

/-- Step 3 of R142: the stop profile, then the move from rest at its end; where a residual acceleration does not let that move be built, the
stop profile of it comes first (R144). From rest without acceleration, a distance shorter than the least move has no segments: the generator is then set
to the target at once. DESIGN CHOICE. -/
def viaStop (qt V A J : Rat) : Nat → PVA → List Seg
  | 0, _ => []
  | n + 1, s =>
    let stop := stopProfile s.v s.a A J
    let c := chainSegs s stop.1
    let rest : PVA := ⟨c.2.q, 0, if stop.2 then c.2.a else 0⟩
    c.1 ++ (match moveTo rest qt V A J with
      | some m => (chainSegs rest m).1
      | none => if rest.a = 0 then [] else viaStop qt V A J n rest)

/-- The plan of R142 toward `qt`: from the current state where it moves there and can still stop, else by way of a stop. -/
def pointPlan (s : PVA) (qt V A J : Rat) : List Seg :=
  let stop := stopProfile s.v s.a A J
  let qs := (dispOf s stop.1).q
  let sign := motionSign s
  let direct := sign = 0 ∨ (sign = 1 ∧ s.q ≤ qt ∧ qs ≤ qt) ∨ (sign = -1 ∧ qt ≤ s.q ∧ qt ≤ qs)
  if direct then
    match moveTo s qt V A J with
    | some m => (chainSegs s m).1
    | none => viaStop qt V A J 3 s
  else viaStop qt V A J 3 s

/-- Total duration of segments. -/
def planNs (l : List Seg) : Nat := l.foldl (fun n x => n + x.ns) 0

/-- The state at `t` nanoseconds (a rational) into a plan, none past its end. -/
def planAt : List Seg → Rat → Option PVA
  | [], _ => none
  | x :: r, t => if t < x.ns then some (x.start.after x.jerk (t / 1000000000)) else planAt r (t - x.ns)

/-- The jerk `t` nanoseconds into a plan, 0 past its end. -/
def jerkAt : List Seg → Rat → Rat
  | [], _ => 0
  | x :: r, t => if t < x.ns then x.jerk else jerkAt r (t - x.ns)

/-- Quintic Hermite interpolation of R147 with its derivatives: `s` in 0..1, `d` seconds between the points; the fourth
value is the target jerk. -/
def hermite (a b : PVA) (d s : Rat) : PVA × Rat :=
  let h0 := 1 - 10 * s^3 + 15 * s^4 - 6 * s^5
  let h1 := s - 6 * s^3 + 8 * s^4 - 3 * s^5
  let h2 := (s^2 - 3 * s^3 + 3 * s^4 - s^5) / 2
  let h3 := 10 * s^3 - 15 * s^4 + 6 * s^5
  let h4 := -4 * s^3 + 7 * s^4 - 3 * s^5
  let h5 := (s^3 - 2 * s^4 + s^5) / 2
  let g0 := -30 * s^2 + 60 * s^3 - 30 * s^4
  let g1 := 1 - 18 * s^2 + 32 * s^3 - 15 * s^4
  let g2 := (2 * s - 9 * s^2 + 12 * s^3 - 5 * s^4) / 2
  let g3 := 30 * s^2 - 60 * s^3 + 30 * s^4
  let g4 := -12 * s^2 + 28 * s^3 - 15 * s^4
  let g5 := (3 * s^2 - 8 * s^3 + 5 * s^4) / 2
  let k0 := -60 * s + 180 * s^2 - 120 * s^3
  let k1 := -36 * s + 96 * s^2 - 60 * s^3
  let k2 := (2 - 18 * s + 36 * s^2 - 20 * s^3) / 2
  let k3 := 60 * s - 180 * s^2 + 120 * s^3
  let k4 := -24 * s + 84 * s^2 - 60 * s^3
  let k5 := (6 * s - 24 * s^2 + 20 * s^3) / 2
  let m0 := -60 + 360 * s - 360 * s^2
  let m1 := -36 + 192 * s - 180 * s^2
  let m2 := (-18 + 72 * s - 60 * s^2) / 2
  let m3 := 60 - 360 * s + 360 * s^2
  let m4 := -24 + 168 * s - 180 * s^2
  let m5 := (6 - 48 * s + 60 * s^2) / 2
  let f := fun (x0 x1 x2 x3 x4 x5 : Rat) =>
    x0 * a.q + x1 * d * a.v + x2 * d * d * a.a + x3 * b.q + x4 * d * b.v + x5 * d * d * b.a
  (⟨f h0 h1 h2 h3 h4 h5, f g0 g1 g2 g3 g4 g5 / d, f k0 k1 k2 k3 k4 k5 / (d * d)⟩,
   f m0 m1 m2 m3 m4 m5 / (d * d * d))

end Sys2Proof.Machine
end

