-- ==== Sys2Proof/Machine/Bytes.lean ====
section
/-! DEFINITION. Little-endian byte strings (R6), the two CRCs the spec names, sparse tables and byte memories. -/

namespace Sys2Proof.Machine

/-- The `n` low bytes of `v`, least significant first (R6). -/
def le : Nat → Nat → List Byte
  | 0, _ => []
  | n + 1, v => BitVec.ofNat 8 v :: le n (v / 256)

/-- Two's complement little-endian bytes of an integer. -/
def leInt (n : Nat) (v : Int) : List Byte := le n (v % (256 ^ n : Nat)).toNat

/-- `n` zero bytes (reserved fields, R7). -/
def zeros (n : Nat) : List Byte := List.replicate n 0

/-- The unsigned number a little-endian byte string spells. -/
def leNat : List Byte → Nat
  | [] => 0
  | b :: r => b.toNat + 256 * leNat r

/-- Two's complement value of an unsigned number of `bits` bits. -/
def toSigned (bits v : Nat) : Int :=
  if 2 ^ bits ≤ 2 * v then (v : Int) - 2 ^ bits else v

/-- Unsigned field of `n` bytes at offset `off`; bytes past the end read as 0. -/
def rd (bs : List Byte) (off n : Nat) : Nat := leNat ((bs.drop off).take n)

/-- Signed field of `n` bytes at offset `off`. -/
def rdS (bs : List Byte) (off n : Nat) : Int := toSigned (8 * n) (rd bs off n)

/-- The number a byte string spells, most significant byte first. -/
def beNat (p : List Byte) : Nat := p.foldl (fun n b => 256 * n + b.toNat) 0

/-- `n` bytes of a number, most significant first. -/
def be (n v : Nat) : List Byte := (le n v).reverse

/-- Replace the bytes at an offset. -/
def splice (f : List Byte) (o : Nat) (p : List Byte) : List Byte := if o + p.length ≤ f.length then f.take o ++ p ++ f.drop (o + p.length) else f

/-- Bits `hi..lo` of a number. -/
def bits (v hi lo : Nat) : Nat := v / 2 ^ lo % 2 ^ (hi + 1 - lo)

/-- Bit `i` of a number. -/
def bit (v i : Nat) : Bool := v / 2 ^ i % 2 = 1

/-- 1 for true. -/
def b2n (b : Bool) : Nat := if b then 1 else 0

/-- True where the `n` bytes at `off` are all zero, the check of a reserved field (R7). -/
def zeroAt (bs : List Byte) (off n : Nat) : Bool := rd bs off n = 0

/-- The packed low-first bits of a list of Booleans. -/
def packBits : List Bool → Nat
  | [] => 0
  | b :: r => b2n b + 2 * packBits r

/-- Pad with zeros or cut to `n` bytes. -/
def padTo (n : Nat) (bs : List Byte) : List Byte := bs.take n ++ zeros (n - bs.length)

/-! ### CRCs -/

/-- One bit of CRC-16, generator 0x1021, most significant bit first. -/
def crc16Bit (c : BitVec 16) : BitVec 16 :=
  if c.msb then (c <<< 1) ^^^ 0x1021#16 else c <<< 1

/-- CRC-16 with generator 0x1021 over a byte string from a start value. -/
def crc16From : BitVec 16 → List Byte → BitVec 16
  | c, [] => c
  | c, b :: r => crc16From (Nat.repeat crc16Bit 8 (c ^^^ (b.setWidth 16 <<< 8))) r

/-- CRC-16 of the ring frames and image sections, start value 0xFFFF. -/
def crc16 (bs : List Byte) : BitVec 16 := crc16From 0xFFFF#16 bs

/-- One bit of the reflected CRC-32 of IEEE 802.3. -/
def crc32Bit (c : Word) : Word :=
  if c.getLsbD 0 then (c >>> 1) ^^^ 0xEDB88320#32 else c >>> 1

/-- CRC-32 of IEEE 802.3 from a running value, before the final complement. -/
def crc32From : Word → List Byte → Word
  | c, [] => c
  | c, b :: r => crc32From (Nat.repeat crc32Bit 8 (c ^^^ b.setWidth 32)) r

/-- CRC-32 of IEEE 802.3. -/
def crc32 (bs : List Byte) : Word := ~~~(crc32From 0xFFFFFFFF#32 bs)

/-! ### Sparse tables: keys strictly rising -/

/-- The entry of key `k`. -/
def Sparse.find {α : Type} (m : Sparse α) (k : Nat) : Option α :=
  match m with
  | [] => none
  | (k', v) :: r => if k = k' then some v else Sparse.find r k

/-- Set the entry of key `k`, keeping the keys rising. -/
def Sparse.set {α : Type} (m : Sparse α) (k : Nat) (v : α) : Sparse α :=
  match m with
  | [] => [(k, v)]
  | (k', v') :: r =>
    if k < k' then (k, v) :: (k', v') :: r
    else if k = k' then (k, v) :: r
    else (k', v') :: Sparse.set r k v

/-- Remove the entry of key `k`. -/
def Sparse.erase {α : Type} (m : Sparse α) (k : Nat) : Sparse α :=
  m.filter (fun e => decide (e.1 ≠ k))

/-- The entry of key `k`, or a default. -/
def Sparse.getD {α : Type} (m : Sparse α) (k : Nat) (d : α) : α := (m.find k).getD d

/-! ### Byte memories -/

/-- The byte at `a`; an address nothing has written reads as 0, as Seed leaves the SRAM arrays (R461). -/
def Memory.read (m : Memory) (a : Nat) : Byte :=
  match m with
  | [] => 0
  | (k, v) :: r => if a = k then v else Memory.read r a

/-- Remove the cell of an address. -/
def Memory.clear (m : Memory) (a : Nat) : Memory :=
  match m with
  | [] => []
  | (k, v) :: r => if a = k then Memory.clear r a else (k, v) :: Memory.clear r a

/-- Put a cell in its place. -/
def Memory.put (m : Memory) (a : Nat) (b : Byte) : Memory :=
  match m with
  | [] => [(a, b)]
  | (k, v) :: r => if a < k then (a, b) :: (k, v) :: r else if a = k then (a, b) :: r else (k, v) :: Memory.put r a b

/-- Write one byte, keeping the canonical form: writing 0 removes the cell. -/
def Memory.write (m : Memory) (a : Nat) (b : Byte) : Memory := if b = 0 then m.clear a else m.put a b

/-- Every key of `m` lies above `lo` and rises, and no cell holds 0. -/
def Memory.wfFrom (lo : Nat) (m : Memory) : Bool :=
  match m with
  | [] => true
  | (k, v) :: r => decide (lo ≤ k) && v != 0 && Memory.wfFrom (k + 1) r

/-- The canonical form of a byte memory: addresses strictly rising, no cell equal to 0. -/
def Memory.wf (m : Memory) : Bool := Memory.wfFrom 0 m

/-- `n` bytes from address `a` up. -/
def Memory.readN (m : Memory) (a : Nat) : Nat → List Byte
  | 0 => []
  | n + 1 => m.read a :: Memory.readN m (a + 1) n

/-- Write a byte string from address `a` up. -/
def Memory.writeN (m : Memory) (a : Nat) : List Byte → Memory
  | [] => m
  | b :: r => Memory.writeN (m.write a b) (a + 1) r

/-- Unsigned little-endian field of `n` bytes. -/
def Memory.nat (m : Memory) (a n : Nat) : Nat := leNat (m.readN a n)

/-- Signed little-endian field of `n` bytes. -/
def Memory.int (m : Memory) (a n : Nat) : Int := toSigned (8 * n) (m.nat a n)

end Sys2Proof.Machine
end

