-- ==== Sys2Proof/Machine/Parts.lean ====
section
/-! DEFINITION. The parts of a Trapeze die and of the Midway die that the chapters on commands, periods, servo cores,
faults, Preserve, statistics, time, the cell network and Trapeze name, as plain records. Times are nanoseconds since
package reset unless a field says otherwise. -/

namespace Sys2Proof.Machine

/-! ### Host ports, queues and records (chapter 3) -/

/-- STATE of a queue (Table 3.6). -/
inductive QState where | disabled | running | stalled | error
  deriving DecidableEq, Repr

/-- A record as the part writes it into host memory: the header fields of Table 3.11 and the result (R78). -/
structure Record where
  kind   : Nat
  own    : Bool
  flier  : Bool
  status : Nat
  tag    : Nat
  seq    : Nat
  target : Nat
  epoch  : Nat
  opcode : Nat
  queue  : Nat
  result : List Byte
  deriving DecidableEq, Repr

/-- One queue block (Table 3.4) with what the part keeps of its ring (R66..R72).
`tail` is the doorbell index: the tail of a command queue, the returned head of a record queue. `waiting` holds replies that wait for space, with the die
that wrote them. -/
structure Queue where
  baseLo   : Word := 0
  baseHi   : Word := 0
  qcfg     : Word := 0
  shadowLo : Word := 0
  shadowHi : Word := 0
  state    : QState := .disabled
  cause    : Nat := 0
  head     : Nat := 0
  tail     : Nat := 0
  phase    : Bool := false
  expectedSeq : BitVec 16 := 0
  lost     : Nat := 0
  lossSeen : Bool := false
  unsignalled : Nat := 0
  waiting  : List (DieId × Record) := []
  running  : Bool := false
  draining : Bool := false
  deriving DecidableEq, Repr

/-- One PCIe function with BAR0 and the MSI-X table of BAR2 (R63..R65, R72, R85): of each vector the message address, low and high, and data.
At reset the function masters no bus, decodes no memory and has every vector masked: PRESUMED, as PCI Express has it; the spec gives no reset value. -/
structure HostPort where
  linkUp    : Bool := false
  busMaster : Bool := false
  lost      : Bool := false
  relay     : Bool := false
  qerr      : BitVec 64 := 0
  bHi       : Word := 0
  memSpace  : Bool := false
  msixTable : Vector (Word × Word × Word) 32 := Vector.replicate 32 (0, 0, 0)
  msixMask  : Word := 0xFFFFFFFF
  msixPending : Word := 0
  queues    : Vector Queue 64 := Vector.replicate 64 {}
  deriving DecidableEq, Repr

/-- What a command answers: status (Table 3.15), result bytes and OWN (R83). -/
structure Reply where
  status : Nat
  result : List Byte := []
  own    : Bool := false
  deriving DecidableEq, Repr

/-- An at-epoch command held for its boundary (R80); on a Catcher `reply` is the Flier's once it has executed. -/
structure Held where
  opcode : Nat
  cmd    : HostCmd
  b      : Nat
  reply  : Option Reply := none
  deriving DecidableEq, Repr

/-- The Flier's dequeue notice as the other die holds it, with the Flier's reply and the period of its execution (R82, R83, R187). `arrived` says that it has come, `contained` that a journal epoch
applied since holds the command's effect (R403), `no` counts the notices of the die. -/
structure Notice where
  queue : Nat
  seq   : Nat
  crc   : Word
  atNs  : Nat
  reply : Reply
  arrived : Bool := false
  contained : Bool := false
  b     : Nat := 0
  no    : Nat := 0
  deriving DecidableEq, Repr

/-- A command copy the Catcher holds until the Flier's notice for it is there (R82). -/
structure Copy where
  opcode : Nat
  cmd    : HostCmd
  atNs   : Nat
  deriving DecidableEq, Repr

/-- A command a LATENT Catcher has yet to carry out at a takeover (R406): the number of its notice, none for an at-epoch command, and the period of the
Flier's execution. -/
structure LatentCmd where
  copy : Copy
  no   : Option Nat
  b    : Nat
  deriving DecidableEq, Repr

/-- An open stream: who opened it and the record sequence of R83. -/
structure Stream where
  opcode : Nat
  queue  : Nat
  tag    : Nat
  target : Nat
  seq    : Nat
  args   : List Nat
  deriving DecidableEq, Repr

/-- A reply that is sent later than execution: SWITCH_OVER, PLACE_TEST, RING_SCAN, COMMIT (R418, R440, R53). `mine` is what the command answered on a Catcher that ran it
before the Flier's reply was known (R84). -/
structure Awaiting where
  opcode : Nat
  cmd    : HostCmd
  mine   : Option Reply := none
  deriving DecidableEq, Repr

/-- Ringmaster state of one die (R73..R86). `notices` are the Flier's notices not yet paired, oldest first; `copies` the die's own copies
that wait for a notice; `noticed` counts the notices sent to the die; `expired` the queue and SEQ of copies answered with DUAL_MISMATCH; `awaiting` commands whose reply is sent
later; `latent` the copies a LATENT Catcher replays at a takeover (R406); `served` the queue of each class served last (R73), `flierB` while a Catcher replays a command
the period in which the Flier executed it (R187). -/
structure Ringmaster where
  held     : List Held := []
  notices  : List Notice := []
  copies   : List Copy := []
  expired  : List (Nat × Nat) := []
  awaiting : List Awaiting := []
  latent   : List LatentCmd := []
  noticed  : Nat := 0
  streams  : List Stream := []
  halted   : BitVec 4 := 0
  fwVersion : Word := 0
  served   : Vector Nat 4 := Vector.replicate 4 31
  flierB   : Option Nat := none
  deriving DecidableEq, Repr

/-! ### Staging and commit (chapter 2) -/

/-- What the staged commands amount to besides the shadow configuration itself (R49..R53, R437): the part's STAGED_COUNT,
the units whose state they alter, and the control words staged for single event sources. -/
structure Staging where
  count   : Nat := 0
  units   : List UnitId := []
  events  : Sparse Word := []
  deriving DecidableEq, Repr

/-- Outcome of the decision at B_c − 1 (R53). -/
inductive Decision where | go | back (reason : Nat) (unit : Word)
  deriving DecidableEq, Repr

/-- A pending commit (R51): its boundary, the affected units and those that have reported ready, what was decided at B_c − 1, what became of
the Catcher, a reason of R30 that already spoils it and the affected unit it took (`culprit`); `closed` says that B_c − 1 has fired, after which no report counts (R52). -/
structure Pending where
  bc       : Nat
  count    : Nat
  cmd      : HostCmd
  affected : List UnitId
  ready    : List UnitId
  decision : Option Decision := none
  catcher  : Nat := 0
  spoiled  : Nat := 0
  closed   : Bool := false
  culprit  : Option UnitId := none
  deriving DecidableEq, Repr

/-! ### Servo cores (chapter 8) -/

/-- A circular-buffer descriptor (Table 8.1). -/
structure CbDesc where
  base : Ptr := 0
  len  : BitVec 15 := 0
  deriving DecidableEq, Repr

/-- An active LOOP: first and last word of its body and the remaining count (R261). -/
structure LoopFrame where
  first : Nat
  last  : Nat
  count : Nat
  deriving DecidableEq, Repr

/-- The library items the spec names by what they compute; every other block is `user`. -/
inductive LibItem where | user | feedback | kinematics | control | gravity | ringPack
  deriving DecidableEq, Repr

/-- What the library control item keeps of a joint from period to period, with the values of its last completed period
(R176..R196, Table 6.9). `filters` are the coefficients used last; `freeze` is t_frz in ns. -/
structure Control where
  raw       : Int := 0
  rawValid  : Bool := false
  lastCount : Nat := 0
  qFb       : Int := 0
  qLast     : Int := 0
  vEst      : Int := 0
  holdCount : Nat := 0
  holding   : Bool := false
  lost      : Bool := false
  frozen    : Bool := false
  integral  : Int := 0
  filters   : Vector (List Int) 2 := Vector.replicate 2 []
  lastX     : Vector Int 2 := Vector.replicate 2 0
  x2        : Vector Int 2 := Vector.replicate 2 0
  y1        : Vector Int 2 := Vector.replicate 2 0
  y2        : Vector Int 2 := Vector.replicate 2 0
  tauOut    : Int := 0
  tauFb     : Int := 0
  tauInertia : Int := 0
  tauItem   : Int := 0
  tauHost   : Int := 0
  tauCog    : Int := 0
  tauFric   : Int := 0
  saturated : Bool := false
  currentLimit : Nat := 0
  softL0    : Nat := 0
  softRamp  : Bool := false
  freeze    : Nat := 0
  age       : Nat := 15
  velFf     : Int := 0
  b         : Nat := 0
  lastB     : Nat := 0
  deriving DecidableEq, Repr

/-- A work item as the dispatcher hands it to a core: program entry, period, code and placement (R250..R254). -/
structure Item where
  entry    : Fin 1024
  inst     : Nat
  b        : Nat
  cls      : Nat
  code     : List Word
  params   : List Byte
  bound    : Nat
  stateBytes : Nat
  stateRead  : Nat
  stateWrite : Nat
  cold     : Bool
  lib      : LibItem
  retried  : Bool := false
  late     : Bool := false
  injected : Bool := false
  detector : Nat := 0
  startNs  : Nat := 0
  deriving DecidableEq, Repr

/-- The architectural state of a servo core (Table 8.1), its local memory, output buffer and running item.
`blocks` is the exchange-block image as it stood at entry (R247); `valid` lists the scratch words the item wrote (R248). -/
structure Core where
  d     : Vector Word 16 := Vector.replicate 16 0
  p     : Vector Ptr 8 := Vector.replicate 8 0
  acc   : Vector Acc 4 := Vector.replicate 4 0
  accRes : Vector Nat 4 := Vector.replicate 4 0
  cb    : Vector CbDesc 4 := Vector.replicate 4 {}
  flags : Word := 0
  pc    : Nat := 0
  calls : List Nat := []
  loops : List LoopFrame := []
  ticks : Nat := 0
  local_ : Memory := []
  valid : List Nat := []
  blocks : Memory := []
  out   : List (Nat × List Byte) := []
  ctl   : Option (Nat × Control) := none
  slot  : Bool := false
  run   : Option Item := none
  next  : Option Item := none
  prefetched : Bool := false
  exited : Bool := false
  deriving DecidableEq, Repr

/-- A servo cluster's memory and the valid marks of its scratch words with the core that is still running their writer (R248). -/
structure ClusterMem where
  mem   : Memory := []
  valid : Sparse (Option Nat) := []
  deriving DecidableEq, Repr

/-- What the cores of a die read and write beside their clusters (Table 8.4). -/
structure Stores where
  exchange   : Memory := []
  inMirror   : Memory := []
  outBank    : Memory := []
  fieldWords : Memory := []
  placements : Memory := []
  frames     : Memory := []
  dataStore  : Memory := []
  compStore  : Memory := []
  deriving DecidableEq, Repr

/-- What the items of a die have written in a period to the field output word (R364). -/
structure FieldOut where
  value : Word := 0
  mask  : Word := 0
  tpo   : Option Bool := none
  deriving DecidableEq, Repr

/-! ### Faults, events, Preserve and statistics (chapters 14 and 15) -/

/-- An armed or active injection (R430). -/
structure Injection where
  target   : Word
  detector : Nat
  mode     : Nat
  bits     : Nat
  path     : Nat
  delayNs  : Nat
  arg      : Nat
  armedNs  : Nat
  fired    : Bool := false
  deriving DecidableEq, Repr

/-- A word of an SRAM array that holds an error when it is next read (R13): of a unit, or of a cluster where `unit` is 31; region 0, cluster 7 is the work-item data store that region M
shares (Table 1.3). `double` is an uncorrectable error, which a re-read finds again where it `lasts`. Such errors come from outside the part: no command makes one. -/
structure Upset where
  region  : Nat
  cluster : Nat
  unit    : Nat
  double  : Bool
  lasts   : Bool
  deriving DecidableEq, Repr

/-- A place test asked for or running (R440); after a pass the unit waits for the next boundary. `lost` says that a lasting fault has taken the place meanwhile (R31). -/
structure PlaceTest where
  region  : Nat
  cluster : Nat
  unit    : Nat
  both    : Bool
  cmd     : HostCmd
  startNs : Option Nat := none
  passed  : Bool := false
  lost    : Bool := false
  deriving DecidableEq, Repr

/-- Detector counts of one die (R422, R441) with the interval's counts by place and detector. -/
structure Detectors where
  transients : Vector Nat 16 := Vector.replicate 16 0
  lasting    : Vector Nat 16 := Vector.replicate 16 0
  injected   : Vector Nat 16 := Vector.replicate 16 0
  interval   : Sparse Nat := []
  raised     : List Nat := []
  injections : List Injection := []
  singles    : Nat := 0
  promoted   : List Nat := []
  deriving DecidableEq, Repr

/-- Pending bits, raise counts and last raises of one die's event sources (R433, R434, R438). -/
structure Events where
  pending : BitVec 256 := 0
  count   : Sparse Nat := []
  lastB   : Sparse Nat := []
  lastDet : Sparse Nat := []
  recordB : Sparse Nat := []
  deriving DecidableEq, Repr

/-- A Preserve record (Table 15.1); `mark` holds bits [3:0] of MARK. Times are TB0 nanoseconds. -/
structure PresRec where
  time   : Nat
  last   : Nat
  source : Word
  code   : Nat
  repeat_ : Nat
  mark   : Nat
  seq    : Nat
  data   : List Byte
  deriving DecidableEq, Repr

/-- An occurrence the recorder has accepted and not yet written (R445); `mark` holds bits [3:1] of MARK. -/
structure Occurrence where
  time   : Nat
  source : Word
  code   : Nat
  mark   : Nat
  data   : List Byte
  deriving DecidableEq, Repr

/-- The Preserve recorder of one die (R442..R449). `slots` is keyed by SEQ mod 8,192; `total` records have been written
since Preserve was last lost, so the next SEQ is `total` mod 2¹⁶. `queue` holds the occurrences of the newest instant, in ascending CODE (R445). -/
structure Preserve where
  slots   : Sparse PresRec := []
  total   : Nat := 0
  frozen  : Bool := false
  freezeNs : Nat := 0
  countNs  : Nat := 0
  maxMs   : Nat := 0
  lost    : Nat := 0
  rebuilt : Bool := false
  queue   : List Occurrence := []
  deriving DecidableEq, Repr

/-- One bank of statistics words, keyed by 65,536·GROUP + 256·INSTANCE + word (R450, Table 15.3). -/
structure Bank where
  words   : Sparse Nat := []
  number  : Nat := 0
  bStart  : Nat := 0
  periods : Nat := 0
  partial_ : Bool := false
  short_  : Bool := false
  deriving DecidableEq, Repr

/-- The three copies of every statistics counter (R450). -/
structure Banks where
  live     : Bank := {}
  latched  : Bank := {}
  previous : Bank := {}
  ended    : Bool := false
  deriving DecidableEq, Repr

/-! ### Fuses (chapter 16) -/

/-- The fuse block of a Trapeze die (Table 16.2). -/
structure Fuses where
  serial     : BitVec 64
  variant    : Nat
  inject     : Bool
  debugState : Nat
  tTickPs    : Nat
  stageTrim  : Nat
  windows    : Vector (Nat × Nat) 7
  tempWarn   : Int
  tempFault  : Int
  keyHash    : List Byte
  debugKeyHash : List Byte
  deriving DecidableEq, Repr

/-! ### Time bases, pulses and PTP (chapter 11) -/

/-- A time base (R331): whole nanoseconds since its epoch, the 32-bit fraction and the 32.32 increment, with slew and
step still to be applied (R333, R334). -/
structure TimeBase where
  ns    : Nat := 0
  frac  : Nat := 0
  inc   : Nat := 171798691840
  slew  : Int := 0
  step  : Int := 0
  jumpPending : Bool := false
  servoLocked : Bool := false
  lockRun : Nat := 0
  deriving DecidableEq, Repr

/-- What an Announce says of a clock (R335): priorities, class, accuracy, variance, identity, steps removed, and the port identity it came from. -/
structure PtpClock where
  priority1 : Nat
  cls       : Nat
  accuracy  : Nat
  variance  : Nat
  priority2 : Nat
  identity  : Nat
  steps     : Nat
  port      : Nat
  deriving DecidableEq, Repr

/-- A Delay_Req that waits for its Delay_Resp (R336): requesting port identity, sequence, time stamp, correctionField. -/
structure PtpRequest where
  port : Nat
  seq  : Nat
  t4   : Nat
  corr : Int
  deriving DecidableEq, Repr

/-- A PTP clock (R335, R336, R338, R351). `best` is the best foreign clock heard; `fresh` says that a Sync has come since the servo last acted. `syncPend` is a two-step
Sync that waits for its Follow_Up (sequence, arrival, correctionField), `lastSync` origin and arrival of the last Sync, `delayPend` sequence and egress of the last
Delay_Req or Pdelay_Req, `peerPend` a two-step Pdelay_Resp that waits for its Follow_Up (sequence, request's arrival there, own arrival, correctionField), `requests`
what a grandmaster has still to answer. -/
structure Ptp where
  portState : Nat := 4
  stepsRemoved : Nat := 0
  gmIdentity : BitVec 64 := 0
  offsetNs  : Int := 0
  meanPath  : Nat := 0
  jumpsRefused : Nat := 0
  lastSyncB : Nat := 0
  best      : Option PtpClock := none
  fresh     : Bool := false
  syncNs    : Nat := 0
  announceNs : Nat := 0
  delayNs   : Nat := 0
  heardNs   : Nat := 0
  syncPend  : Option (Nat × Nat × Int) := none
  lastSync  : Option (Int × Nat) := none
  delayPend : Option (Nat × Nat) := none
  peerPend  : Option (Nat × Int × Nat × Int) := none
  requests  : List PtpRequest := []
  syncSeq   : Nat := 0
  announceSeq : Nat := 0
  delaySeq  : Nat := 0
  deriving DecidableEq, Repr

/-- TPI counting (R339). -/
structure Tpi where
  count   : Nat := 0
  lost    : Nat := 0
  second  : Nat := 0
  inSecond : Nat := 0
  overrun : Bool := false
  deriving DecidableEq, Repr

/-- The TPO pin (R340): its level, a pulse in progress with its end, the number of the last active edge on the source base. -/
structure Tpo where
  level   : Bool := false
  pulse   : Bool := false
  endNs   : Nat := 0
  lastEdge : Option Int := none
  deriving DecidableEq, Repr

/-! ### Cell ports, switch and peers (chapter 11) -/

/-- A cell port: synchronisation and the other side's word (R328), the link as sampled, as reported, and the counters of R355 in their order. -/
structure CellPort where
  sync     : Bool := false
  partner  : Bool := false
  raw      : Bool := false
  rawNs    : Nat := 0
  been     : Bool := false
  reported : Bool := false
  cause    : Nat := 0
  downs    : Nat := 0
  rx       : Nat := 0
  tx       : Nat := 0
  fcsErr   : Nat := 0
  oversize : Nat := 0
  vlanDrop : Nat := 0
  tcDrop   : Nat := 0
  prpDiscards : Nat := 0
  ptpDiscarded : Nat := 0
  tcCorrected : Nat := 0
  deriving DecidableEq, Repr

/-- A learned address (R329); port 6 is the package port. -/
structure MacEntry where
  vid : Nat
  mac : Nat
  port : Nat
  ns  : Nat
  deriving DecidableEq, Repr

/-- PRP duplicate window of one source address (R342). -/
structure PrpEntry where
  mac    : Nat
  newest : Nat
  seen   : BitVec 64
  ns     : Nat
  deriving DecidableEq, Repr

/-- The state kept of one peer package (R343..R345). -/
structure Peer where
  live    : Bool := false
  rxSeq   : Option Nat := none
  txSeq   : Nat := 0
  lastNs  : Nat := 0
  echoTx  : Nat := 0
  echoRx  : Nat := 0
  skewRun : Nat := 0
  goodRun : Nat := 0
  skew    : Bool := false
  offset  : Int := 0
  everLost : Bool := false
  deriving DecidableEq, Repr

/-- A frame with its VLAN taken out: addresses, VID, PCP, and what follows the addresses without the tag. -/
structure EthFrame where
  dst : Nat
  src : Nat
  vid : Nat
  pcp : Nat
  rest : List Byte
  deriving DecidableEq, Repr

/-- What MW writes into a frame as it leaves, or keeps of that instant: the residence time since an instant of TB1, at the rate of a clock (R337); a time stamp of a
base at a place, as the spec lays it out (R343) or as IEEE 1588 does (R336); the turnaround of a Pdelay_Req that came at an instant of a base; the egress of a
clock's own request of a sequence. -/
inductive EgressMark where
  | plain
  | residence (inst : Option (Fin 2)) (inNs : Nat)
  | stamp (base : Fin 4) (place : Nat)
  | ptpStamp (base : Fin 4) (place : Nat)
  | turnaround (base : Fin 4) (inNs : Nat)
  | request (inst : Fin 2) (seq : Nat)
  deriving DecidableEq, Repr

/-- A frame in the packet buffer, waiting in its class at an egress port (R329). -/
structure Queued where
  cls      : Nat
  untagged : Bool
  frame    : EthFrame
  mark     : EgressMark
  deriving DecidableEq, Repr

/-- The cell switch, its tables and the peers. `queues` is the packet buffer, oldest frame first, `wires` the tenths of a nanosecond each port is still sending
for (R329). -/
structure Network where
  queues : Vector (List Queued) 6 := Vector.replicate 6 []
  wires : Vector Nat 6 := Vector.replicate 6 0
  ports : Vector CellPort 6 := Vector.replicate 6 {}
  macs  : List MacEntry := []
  prp   : List PrpEntry := []
  peers : Vector Peer 4 := Vector.replicate 4 {}
  seqNr : Nat := 0
  hbNs  : Nat := 0
  peersOn : Bool := false
  deriving DecidableEq, Repr

/-! ### Trapeze (chapter 13) -/

/-- A planned handover (R409) with the reply that waits for it. -/
structure Handover where
  target  : DieId
  atB     : Nat
  tries   : Nat := 0
  cmd     : Option HostCmd := none
  deriving DecidableEq, Repr

/-- A full sync in progress (R395, R396). -/
structure Sync where
  target  : DieId
  startNs : Nat
  pass    : Nat := 0
  syncB   : Option Nat := none
  deriving DecidableEq, Repr

/-- What each die keeps of the partnership, and MW's view of the die (R388, R389, R393..R411). `digest` is the digest of period `digestB`
with the entries it marks late or dropped, `exchanged` the entries whose state was exchanged in the period, `compared` that the Flier has compared it; `replyCrc` and `fieldCrc` run over the period;
`fieldEntries` are the entries that have written field or TPO words; `hbOn1` and `hbOn2` are heartbeats on their way. -/
structure Partner where
  eligible : Bool := false
  matchRun : Nat := 0
  lostCause : Nat := 0
  hbSentNs : Nat := 0
  hbMwNs   : Nat := 0
  heard1Ns : Nat := 0
  heard2Ns : Nat := 0
  path1Up  : Bool := true
  eligibleB : Nat := 0
  eligibleNs : Nat := 0
  resets   : List Nat := []
  haltedNs : Nat := 0
  journalB : Option Nat := none
  journalBad : Bool := false
  latentWake : Option Nat := none
  lastDigestB : Nat := 0
  stateRepairs : Nat := 0
  latentGated : Bool := false
  mwLinkUp : Bool := true
  synced    : Bool := false
  digest    : List Byte := []
  digestB   : Nat := 0
  digestBad : Bool := false
  injected  : Bool := false
  compared  : Bool := true
  marks     : List Nat := []
  exchanged : List Nat := []
  replyCrc  : Word := 0xFFFFFFFF
  fieldCrc  : Word := 0xFFFFFFFF
  fieldEntries : List Nat := []
  hbOn1     : Bool := false
  hbOn2     : Bool := false
  requested : Bool := false
  ready     : Bool := false
  waking    : Bool := false
  stuck     : Bool := false
  deriving DecidableEq, Repr

/-- The Curtain (R412, R413). `refNext` is the next boundary as the sequencer counts it in ticks of the reference, or of the backup oscillator once that is taken, while the compared logic is not sound. -/
structure Curtain where
  cause   : Nat
  t0      : Nat
  t0B     : Nat
  tStopNs : Nat
  torqueOff : Bool := false
  refNext : Option Nat := none
  deriving DecidableEq, Repr

/-- The token and MW's own Trapeze state (R387, R389, R395, R409, R411, R419). `seqTest` is the outcome of the single test of the Curtain sequencer in this Seed (R14). -/
structure TrapezeMw where
  token   : Option DieId := none
  relinquished : Bool := false
  oldHolder : Option DieId := none
  leftNs  : Nat := 0
  flitRetry : List LinkId := []
  flitFalse : List LinkId := []
  refused : Nat := 0
  takeovers : Nat := 0
  handovers : Nat := 0
  lastTakeoverB : Nat := 0
  lastTakeoverNs : Nat := 0
  lastMoveNs : Nat := 0
  handover : Option Handover := none
  sync     : Option Sync := none
  syncFails : Nat := 0
  syncWaitNs : Option Nat := none
  syncBytes : Nat := 0
  directUp : Bool := true
  warmUp  : Bool := false
  curtain : Option Curtain := none
  switchNs : Nat := 0
  seqTest : Option Bool := none
  mismatches : Nat := 0
  injections : List Injection := []
  deriving DecidableEq, Repr

/-! ### Debug port and configuration image (chapter 16) -/

/-- The debug port (R478..R481). -/
structure Debug where
  unlocked : Nat := 0
  nonce    : Option (List Byte) := none
  nonceNs  : Nat := 0
  failed   : Nat := 0
  extest   : Bool := false
  tdo      : List Byte := []
  deriving DecidableEq, Repr

/-- Load state of the configuration image (R463..R469, R477). `flash0` and `flash1` hold the two NOR devices, each byte inverted,
so that an erased device, which reads 0xFF, is the empty memory. -/
structure ImageLoad where
  flash0   : Memory := []
  flash1   : Memory := []
  device   : Nat := 0
  headerOk : Bool := false
  signed   : Bool := false
  sections : Nat := 0
  nextSection : Nat := 0
  cause0   : Nat := 0
  cause1   : Nat := 0
  failSection0 : Nat := 255
  failSection1 : Nat := 255
  failStatus0 : Nat := 0
  failStatus1 : Nat := 0
  failIndex0 : Nat := 0
  failIndex1 : Nat := 0
  failed   : Bool := false
  complete : Bool := false
  test     : Bool := false
  jogTimeoutMs : Nat := 200
  tStopNs  : Nat := 500000000
  imageId  : Nat := 0
  bA       : Option Nat := none
  bR       : Option Nat := none
  retries  : Nat := 0
  applied  : Bool := false
  firmware : Option Word := none
  deriving DecidableEq, Repr

/-- What the part has driven out towards its surroundings. A record leaves as two posted writes (R69): `record`, all its bytes but the first eight, and
after it `recordFirst`, those eight. `ringIdle` says what both ports of a ring transmit between frames from then on, /I/ or /C/ (R284). -/
inductive OutMsg where
  | record (port : DieId) (queue slot : Nat) (phase : Bool) (r : Record) (die : DieId)
  | headShadow (port : DieId) (queue : Nat) (address : Nat) (head epoch : Nat)
  | recordFirst (port : DieId) (queue slot : Nat) (bytes : List Byte)
  | msix (port : DieId) (vector address : Nat) (data : Word)
  | cellFrame (port cls : Nat) (bytes : List Byte)
  | ringFrame (ring : Nat) (portB : Bool) (bytes : List Byte)
  | nodeFrame (ring : Nat) (portB : Bool) (bytes : List Byte)
  | ringIdle (ring : Nat) (idle : Bool)
  deriving DecidableEq, Repr

end Sys2Proof.Machine
end

