-- ==== Sys2Proof/Machine/MwParts.lean ====
section
/-! DEFINITION. The parts of the Midway die that the chapters on Carousel rings and on field inputs and outputs name, as
plain records. Times are nanoseconds since package reset. -/

namespace Sys2Proof.Machine

/-! ### Carousel rings (chapter 10) -/

/-- STATE of a ring (Table 10.16). -/
inductive RState where | off | listen | backoff | discover | data | node | stopped
  deriving DecidableEq, Repr

def RState.code : RState → Nat
  | .off => 0
  | .listen => 1
  | .backoff => 2
  | .discover => 3
  | .data => 4
  | .node => 5
  | .stopped => 6

/-- Node states (Table 10.8a). -/
inductive NState where | init | listen | joined | operational | stopping
  deriving DecidableEq, Repr

def NState.code : NState → Nat
  | .init => 0
  | .listen => 1
  | .joined => 2
  | .operational => 3
  | .stopping => 4

/-- A mailbox message that waits for its acknowledgement (R306). `report` is the TAG and the TARGET of a `MAILBOX_SEND`. -/
structure MailOut where
  type_   : Nat
  payload : List Byte
  retry   : Nat
  turns   : Nat := 0
  seq     : Nat := 0
  sent    : Bool := false
  report  : Option Nat := none
  deriving DecidableEq, Repr

/-- What a ring's master keeps of one position (R293, R298, R306..R310, R314). -/
structure RNode where
  part    : List Byte := []
  age     : Nat := 15
  fresh   : Bool := false
  stale   : Bool := false
  drift   : Bool := false
  state   : Option Nat := none
  ident   : List Byte := []
  deltas  : List Int := []
  delays  : Option (Int × Int) := none
  assigned : Bool := false
  acked   : Bool := false
  mail    : List MailOut := []
  txSeq   : Nat := 0
  rxSeq   : Option Nat := none
  counters : List Byte := []
  countersB : Option Nat := none
  deriving DecidableEq, Repr

/-- A port of a ring: its link, loopback from it until the link has been up for 1 ms (R295), ISOLATE (R307), the counters of Table 10.12. -/
structure RPort where
  linkUp   : Bool := false
  upNs     : Nat := 0
  frames   : Nat := 0
  crcLocal : Nat := 0
  poisoned : Nat := 0
  hdrErr   : Nat := 0
  codeErr  : Nat := 0
  elastic  : Nat := 0
  linkDown : Nat := 0
  foreign  : Nat := 0
  loopback : Bool := true
  isolated : Bool := false
  deriving DecidableEq, Repr

/-- The ring engine as a node of a foreign ring (R301, R302, R315..R317). `tb` is the newest boundary estimate with its cycle, `window`
the estimates the rate is measured over, `timer` the next apply instant, that of cycle `timerCyc`; `inPart` is the IN part of cycle `inCycle`, sampled at its apply
instant, `flying` the frames of the cycle whose IN section has yet to pass: out on CnB, header changed, frame CRC good, bytes. `box` is what the node wrote into
the mailbox of cycle `seenCycle`. -/
structure AsNode where
  state    : NState := .init
  master   : Option (Nat × Nat) := none
  lastSeen : Option (Nat × Nat × Nat) := none
  position : Option Nat := none
  layout   : Option Nat := none
  outOff   : Nat := 0
  inOff    : Nat := 0
  outLen   : Nat := 0
  inLen    : Nat := 0
  lossLimit : Nat := 3
  delayA   : Nat := 0
  delayB   : Nat := 0
  tsNs     : Nat := 0
  seenCycle : Option Nat := none
  outPart  : Option (List Byte) := none
  latched  : List Byte := []
  latchedAge : Nat := 15
  inPart   : List Byte := []
  missing  : Nat := 0
  lastNs   : Nat := 0
  stopCode : Nat := 0
  clean    : Nat := 0
  tb       : Option (Nat × Int) := none
  window   : List (Nat × Int) := []
  timer    : Option Nat := none
  timerCyc : Nat := 0
  inCycle  : Option Nat := none
  flying   : List (Bool × Bool × Bool × List Byte) := []
  error    : Int := 0
  rate     : Int := 0
  drift    : Bool := false
  calm     : Nat := 0
  cause    : Nat := 0
  arriveA  : Option (Nat × Nat) := none
  arriveB  : Option (Nat × Nat) := none
  delta    : Option (Nat × Int) := none
  mail     : List MailOut := []
  txSeq    : Nat := 0
  rxSeq    : Option Nat := none
  told     : Bool := false
  changed  : Bool := false
  asked    : Bool := false
  turns    : Nat := 0
  box      : Option (List Byte) := none
  isolateNs : Option Nat := none
  mailOff  : Option Nat := none
  outB     : Nat := 0
  deriving DecidableEq, Repr

/-- A ring engine. `topo`, `loop`, `hop` describe the cycle in progress, the `last` fields the cycle before; `settled` says that the
cycle's repeats have been made (R293); `sentFrom` and `sentCycle` bound the cycles it has sent since it started. `countMade` says that a returned
frame has given the count (R310), `lastId` is the RING_ID before the commit that asks for REASSIGN (R311), `curtain` says that the ring sends the Curtain's frames
in a state that sends none of its own (R413). -/
structure Ring where
  state   : RState := .off
  left    : Nat := 0
  heard   : Bool := false
  foreign : Option Nat := none
  counted : Nat := 0
  countMade : Bool := false
  topo0   : Bool := false
  topo1   : Bool := false
  hop0    : Option Nat := none
  hop1    : Option Nat := none
  looped  : Bool := false
  settled : Bool := true
  lastTopo : Nat := 0
  lastLoopA : Nat := 255
  lastLoopB : Nat := 255
  lastB   : Nat := 0
  broken  : Bool := false
  breakB  : Option Nat := none
  intact  : Nat := 0
  stopCode : Nat := 0
  hostCode : Nat := 0
  reassign : Bool := false
  lastId  : Nat := 0
  curtain : Bool := false
  layout  : Nat := 0
  dSum    : Nat := 0
  dCount  : Nat := 0
  dMeas   : Nat := 0
  mismatched : Bool := false
  delayed : Bool := false
  sentFrom : Option Nat := none
  sentCycle : Nat := 0
  launchNs : Nat := 0
  mergedNs : Option Nat := none
  mailTaken : Bool := true
  portA   : RPort := {}
  portB   : RPort := {}
  nodes   : Vector RNode 16 := Vector.replicate 16 {}
  turn    : Nat := 0
  pollNext : Nat := 0
  asNode  : AsNode := {}
  deriving DecidableEq, Repr

/-! ### Field inputs and outputs (chapter 12) -/

/-- A digital input with its counter filter (R359..R361, R371); `fresh` until the first sample after reset, which presets it. -/
structure InChan where
  raw    : Bool := false
  c      : Nat := 0
  out    : Bool := false
  rPrev  : Bool := false
  edges  : Nat := 0
  stable : Nat := 0
  chatter : Bool := false
  stuck  : Bool := false
  since  : Nat := 0
  valid  : Bool := true
  fresh  : Bool := true
  deriving DecidableEq, Repr

/-- A high-side output: commanded value, the value a `FIO_WRITE` leaves for the next boundary, diagnosis, the value a HOLD keeps
(R363..R369). -/
structure OutChan where
  cmd    : Bool := false
  next   : Option Bool := none
  fault  : Bool := false
  cause  : Nat := 0
  rearm  : Bool := false
  openLoad : Bool := false
  held   : Option Bool := none
  deriving DecidableEq, Repr

/-- A field supply (R370..R372): the reading in mV, the latches, recovery. -/
structure Supply where
  mv     : Nat := 24000
  low    : Bool := false
  lost   : Bool := false
  high   : Bool := false
  recovered : Bool := false
  rearm  : Bool := false
  deriving DecidableEq, Repr

/-- An encoder port (R376..R378): the counter, the index latch, the previous SSI position, the slot's state. -/
structure Encoder where
  count   : Nat := 0
  latched : Nat := 0
  prevPos : Option Nat := none
  index   : Nat := 0
  status  : Nat := 0
  age     : Nat := 15
  sampled : Bool := false
  slot    : List Byte := []
  countError : Bool := false
  lineFault : Bool := false
  raised  : List Nat := []
  rearm   : Bool := false
  deriving DecidableEq, Repr

/-- A counter filter of one channel of the curtain pair (R375). -/
structure Debounce where
  c   : Nat := 0
  out : Bool := false
  deriving DecidableEq, Repr

/-- Region I of MW. `latched` is the filtered input word of the last boundary with `latchedB`, `itemValue` the values items have written, `refreshFrom` the start of
the refreshes without a gap. -/
structure Field where
  ins     : Vector InChan 32 := Vector.replicate 32 {}
  latched : Word := 0
  latchedB : Nat := 0
  outs    : Vector OutChan 16 := Vector.replicate 16 {}
  itemValue : Word := 0
  itemMask  : Word := 0
  tpoLevel  : Option Bool := none
  supplies : Vector Supply 2 := Vector.replicate 2 {}
  encoders : Vector Encoder 4 := Vector.replicate 4 {}
  wdLatched : Bool := false
  wdRearm  : Bool := false
  lastRefresh : Nat := 0
  refreshFrom : Option Nat := none
  enabled  : Bool := false
  enFault  : Bool := false
  enDiff   : Option Nat := none
  cuA      : Debounce := {}
  cuB      : Debounce := {}
  cuFault  : Bool := false
  cuRearm  : Bool := false
  cuDiff   : Option Nat := none
  deriving DecidableEq, Repr

end Sys2Proof.Machine
end

