-- ==== Sys2Proof/Machine/Planning.lean ====
section
/-! DEFINITION. What a Trapeze die keeps of its Juggler (chapter 4) and of its separation engine (chapter 7), and what MW keeps
of perceived objects and of the zone messages of partner packages, as plain records. -/

namespace Sys2Proof.Machine

/-! ### Juggler -/

/-- A point of a published plan (R123). -/
structure PlanPoint where
  q : Rat
  v : Rat
  a : Rat
  deriving DecidableEq, Repr

/-- A published plan of one joint: the step h in ns, the boundary of t_0 and the points 0..N (R118). -/
structure JointPlan where
  hNs    : Nat
  b0     : Nat
  points : List PlanPoint
  deriving DecidableEq, Repr

/-- A reference point of an arm (R94, R129): its key and the position and velocity codes of each joint of the arm. -/
structure RefPoint where
  key : Nat
  qv  : List (Int × Int)
  deriving DecidableEq, Repr

/-- An item of a separation cycle for the Juggler (R101, R223): the occupant word of Table 4.1, the distances in metres, and
for each joint its gradient and linearisation position. -/
structure SepItem where
  zone     : Bool
  occupant : Nat
  d        : Rat
  dReq     : Rat
  g        : List (Nat × Rat × Rat)
  deriving DecidableEq, Repr

/-- An iterate of the solver (R104), all numbers binary32: of z the states x_1..x_N, step by step Δq and then q̇ of every member,
and the inputs u_0..u_{N−1}; the row values w and the duals y in the order of the rows of A. -/
structure Iterate where
  x : List Rat := []
  u : List Rat := []
  w : List Rat := []
  y : List Rat := []
  deriving DecidableEq, Repr

/-- A checkpoint with its residuals and tolerances (R109). -/
structure Checkpoint where
  iter    : Nat
  it      : Iterate
  rPrim   : Rat
  rDual   : Rat
  epsPrim : Rat
  epsDual : Rat
  deriving DecidableEq, Repr

/-- Where a solve stands. -/
inductive SolvePhase where | factor | iterate | waitChosen
  deriving DecidableEq, Repr

/-- A member joint of a solve (R93, R94, R96, R98): its predicted state, its reference at steps 1..N as an offset and a velocity, its
limits in units and its weights WQ, WV, WA, WQN, WVN (R95). Offsets and velocities are binary32. -/
structure Member where
  joint  : Nat
  active : Bool
  q0     : Int
  v0     : Rat
  a0     : Rat
  ref    : List (Rat × Rat)
  qLo    : Rat
  qHi    : Rat
  vMax   : Rat
  aMax   : Rat
  jMax   : Rat
  weights : List Rat
  deriving DecidableEq, Repr

/-- What a row of A comes from (R104): a box row of Δq, q̇ or u (R96), the terminal bounds (R97), or a slot of the row table (R100). -/
inductive RowSource where | boxQ | boxV | boxU | terminal | slot
  deriving DecidableEq, Repr

/-- A row of A (R104): its source, the member or slot it belongs to, its step, its nonzeros as VAR, member and coefficient, and its
bounds, none where infinite. -/
structure SolveRow where
  source : RowSource
  index  : Nat
  step   : Nat
  terms  : List (Nat × Nat × Rat)
  lower  : Option Rat
  upper  : Option Rat
  deriving DecidableEq, Repr

/-- The factor of one stage (R105): the columns of L below and on the diagonal, the pivots D, and G. -/
structure Stage where
  l : List (List Rat)
  d : List Rat
  g : List (List Rat)
  deriving DecidableEq, Repr

/-- A solve in progress. `cfg`, the members and the rows are what it latched at its start (R103), `endNs` is the nominal instant of p + r_p, `key` names its configuration and
lane groups (R111), `cur` is the iterate the next iteration starts from. `abft` is the cluster whose checksum failed once, with
INJECTED. -/
structure Solve where
  p        : Nat
  startNs  : Nat
  pNs      : Nat
  deadlineNs : Nat
  endNs    : Nat
  signature : Word
  cold     : Bool
  warmRej  : Bool
  refShort : Bool
  cfg      : CfgJuggler
  hNs      : Nat
  hB       : Nat
  t0B      : Nat
  members  : List Member
  rows     : List SolveRow
  dropped  : Nat
  rho      : Rat
  cur      : Iterate
  key      : List Int
  stages   : List Stage := []
  phase    : SolvePhase := .factor
  abft     : Option (Nat × Bool) := none
  abftRetry : Bool := false
  nonfinite : Bool := false
  regCount : Nat := 0
  regStep  : Nat := 255
  regJoint : Nat := 255
  tFactNs  : Nat := 0
  iters    : Nat := 0
  points   : List Checkpoint := []
  peerIter : Nat := 0
  want     : Option Nat := none
  timeLimit : Bool := false
  deriving DecidableEq, Repr

/-- An entry of the row table (Table 4.1): SOURCE 0 host, 1 separation, 2 zone; bounds, coefficients and DUAL as binary32 bits. -/
structure RowEntry where
  step     : Nat
  source   : Nat
  active   : Bool
  slot     : Nat
  occupant : Nat
  lower    : Word
  upper    : Word
  index    : List Byte
  coef     : List Word
  dual     : Word
  deriving DecidableEq, Repr

/-- The Juggler of a die. `table` is the row table (R102), `startDue` says that the solve of the boundary that has fired still waits for
the at-epoch commands of that boundary (R103), `coldDue` that the next solve starts cold for no earlier iterate (R116), `solveNo` counts the
solves since Ripe without end. `report` is the 64-byte report of the last completed solve, `last` its signature and chosen iterate,
`lastP` and `lastIter` its planning boundary and the iteration chosen; `planCrc` goes into the digest (R391). -/
structure Juggler where
  refs     : Vector (List RefPoint) 8 := Vector.replicate 8 []
  table    : List RowEntry := []
  startDue : Bool := false
  coldDue  : Bool := true
  solveNo  : Nat := 0
  solve    : Option Solve := none
  report   : List Byte := []
  last     : Option (Word × Iterate) := none
  lastPlan : List (Nat × JointPlan) := []
  rho      : Option Rat := none
  run      : Nat := 0
  solves   : Nat := 0
  fallbacks : Nat := 0
  regRaised : Bool := false
  behind   : Bool := false
  lastP    : Nat := 0
  lastIter : Nat := 0
  planCrc  : Word := 0
  pubB     : Option Nat := none
  planPresent : Bool := false
  deriving DecidableEq, Repr

/-! ### Perception (R214..R217) -/

/-- A Sight object in its formats (Table 7.3). -/
structure SightObj where
  p  : Vec3
  r  : Int
  v  : Vec3
  cls : Nat
  deriving DecidableEq, Repr

/-- A frame in assembly (R215). -/
structure Assembly where
  seq    : Nat
  time   : Nat
  frags  : Nat
  got    : List (Nat × List SightObj)
  rejected : Bool := false
  deriving DecidableEq, Repr

/-- What MW keeps of a sensor: the frame in assembly, the last accepted frame and its boundary, the interval of the last
SIGHT_REJECTED. -/
structure SensorIn where
  assembly : Option Assembly := none
  lastSeq  : Option Nat := none
  time     : Nat := 0
  objs     : List SightObj := []
  acceptedB : Option Nat := none
  deriving DecidableEq, Repr

/-! ### Zones (R226..R231) -/

/-- A zone's token and requests on one package: the holder (package, arm), the requests of its own arms (arm, entry time),
whether the holding arm has been inside since the grant, a release that waits for the arm to leave, withdrawals that wait for the
next step, whether a partner's message has named its arm holder since the arbiter granted it, and the own arms that an arbiter's message naming them does not grant:
those that gave back or withdrew what it may still name, and all after a reset, until one does not name them (R226, R230, R231). -/
structure Zone where
  holder   : Option (Nat × Nat) := none
  requests : List (Nat × Nat) := []
  inside   : Bool := false
  releasing : Bool := false
  withdraw : List Nat := []
  confirmed : Bool := false
  stale    : List Nat := [0, 1, 2, 3, 4, 5, 6, 7]
  deriving DecidableEq, Repr

/-- A zone entry of a partner's message (Table 7.6). -/
structure ZoneEntry where
  zone    : Nat
  holder  : Option (Nat × Nat)
  request : Option Nat
  arbiter : Bool
  entry   : Nat
  deriving DecidableEq, Repr

/-! ### The separation engine -/

/-- Why a stop request stands: its category (0..2), its cause (Table 7.9), since when, and the last cycle that failed. -/
structure StopReq where
  cat    : Nat
  cause  : Nat
  lastFail : Nat
  deriving DecidableEq, Repr

/-- An arm in the separation engine. `ends` are the capsule end points of the previous cycle, `placedQ` the joint positions of its last placement, `passNs` since when every
cycle has passed the arm's stop tests, `skip` the boundary from which the first cycle makes no speed check (R213). -/
structure SepArm where
  reqs   : List StopReq := []
  ends   : List (Nat × Vec3 × Vec3) := []
  fast   : Bool := false
  skip   : Option Nat := some 0
  sigmaMax : Rat := 0
  lastPlaceB : Nat := 0
  placedQ : List (Nat × Int) := []
  passNs : Option Nat := none
  deriving DecidableEq, Repr

/-- The per-arm result of a cycle: σ_sep, stop category code (0 none, else category + 1), cause, MIN_D, NEAREST. -/
structure SepOut where
  scale   : Nat := 65535
  stop    : Nat := 0
  cause   : Nat := 0
  minD    : Int := 2147483647
  nearest : Nat := 0
  deriving DecidableEq, Repr

/-- The placements a cycle computes from: placements, joint frames, the joint positions used, the period of each arm's last
on-time placement. -/
structure Placed where
  places : Memory
  frames : Memory
  q      : List Int
  lastB  : List Nat
  deriving DecidableEq, Repr

/-- What a cycle took at its boundary (R206). `frames` holds of each sensor with a frame its number, TIME and objects;
`held` the placements as the cut-off of the period left them, `cfg` the tables in force at b_s; `due` says that steps 1 and 2 still wait for the at-epoch commands of b_s. -/
structure SepCycle where
  b      : Nat
  tCut   : Nat
  frames : List (Nat × Nat × List SightObj)
  sigma  : List Rat
  sigmaMax : List Rat
  lostPeers : List Nat
  computed : Bool := false
  tokens : List (Option (Nat × Nat)) := []
  held   : Option Placed := none
  cfg    : Cfg := {}
  due    : Bool := true
  deriving DecidableEq, Repr

/-- A sensor as a die's cycles see it (R217). -/
structure SensorState where
  timedOut : Bool := true
  entered  : Bool := false
  good     : Nat := 0
  deriving DecidableEq, Repr

/-- What SEP_STATUS shows of the last completed cycle beside its results (Table 7.9): objects, sensors timed out, zones held and requested. -/
structure SepView where
  objects  : Nat := 0
  out      : Nat := 0
  held     : Nat := 0
  asked    : Nat := 0
  deriving DecidableEq, Repr

/-- The separation engine of a die. `raw` is the die's own result and `tokens` its token decisions of the cycle in progress,
`other` the Catcher's as the Flier has it, `combined` what both dies apply, `outs` the results in force, `startB` the boundary of the newest cycle start, `lastMismatch`
the mismatch of the last completed cycle, `missB` the boundary by which the Catcher's result had not come. -/
structure Sep where
  cycle    : Option SepCycle := none
  sensors  : Vector SensorState 32 := Vector.replicate 32 {}
  stepped  : Bool := false
  zones    : Vector Zone 64 := Vector.replicate 64 {}
  arms     : Vector SepArm 8 := Vector.replicate 8 {}
  raw      : Option (List SepOut) := none
  other    : Option (List SepOut × List (Option (Nat × Nat))) := none
  combined : Option (List SepOut) := none
  outs     : Vector SepOut 8 := Vector.replicate 8 {}
  items    : List SepItem := []
  nextItems : List SepItem := []
  objects  : Nat := 0
  lastB    : Nat := 0
  mismatch : Bool := false
  mismatches : Nat := 0
  late     : Nat := 0
  normals  : List (Nat × Nat × Rat × Rat × Rat) := []
  running  : Bool := false
  single   : Bool := false
  cycles   : Nat := 0
  startB   : Nat := 0
  lastMismatch : Bool := false
  missB    : Option Nat := none
  view     : SepView := {}
  deriving DecidableEq, Repr

end Sys2Proof.Machine
end

