-- ==== Sys2Proof/Machine/Motion.lean ====
section
/-! DEFINITION. The parts of region M: profile generators (chapter 5) and the dispatcher (chapter 9), as plain records. -/

namespace Sys2Proof.Machine

/-- Joint states (Table 5.4). -/
inductive JState where | disabled | enabling | soft | enabled | stopping | braking
  deriving DecidableEq, Repr

def JState.code : JState → Nat
  | .disabled => 0
  | .enabling => 1
  | .soft => 2
  | .enabled => 3
  | .stopping => 4
  | .braking => 5

/-- Generator modes (Table 5.1). -/
inductive JMode where | point | velocity | stream | homing | soft
  deriving DecidableEq, Repr

def JMode.code : JMode → Nat
  | .point => 0
  | .velocity => 1
  | .stream => 2
  | .homing => 3
  | .soft => 4

/-- Where a homing stands (Table 5.6). -/
inductive HPhase where | fast | decel | backoff | creep | index | push | retreat | event
  deriving DecidableEq, Repr

/-- A homing in progress (R159..R161). `seenNs` is the instant up to which edges of the limit switches have been looked at. -/
structure Homing where
  phase   : HPhase
  up      : Bool
  startQ  : Int
  startNs : Nat
  travel  : Int := 0
  reachedQ : Int := 0
  latch0  : Nat := 0
  dwell   : Option Nat := none
  seenNs  : Nat := 0
  deriving DecidableEq, Repr

/-- A switch as the joint sees it: level, since when, and the times of its newest edges (R160, R161). -/
structure SwitchTrack where
  level : Bool := false
  since : Nat := 0
  edges : List Nat := []
  deriving DecidableEq, Repr

/-- A host stream point (Table 5.14). -/
structure HostPoint where
  key : Nat
  q   : Int
  v   : Int
  a   : Int
  deriving DecidableEq, Repr

/-- Source of STREAM mode (R147). -/
inductive StreamSource where | host | juggler
  deriving DecidableEq, Repr

/-- A torque of `EXT_TORQUE` (R187): it applies from boundary `bS` for `validNs`, 0 for ever. -/
structure ExtTorque where
  tau     : Int := 0
  bS      : Nat := 0
  validNs : Nat := 0
  deriving DecidableEq, Repr

/-- A profile generator with its joint's state machine. Positions, velocities and accelerations are codes of their
formats (Table 0.7); `pt` is time into the plan in 2⁻³² ns, of τ or real as `real` says, and `tau` is τ in 2⁻³² ns in the 64 bits R135 gives it, which hold 4.3 s; `tauLaps` counts how
often they have run over, for the streams of R170 may span more, DEDUCED. `deferArrival` is the LIMIT_DEFERRED of R145 that stands until arrival, `deferredB` the period in which the joint
reached DISABLED with an enable deferred, `enabledBy` the TAG of the deferred enable that ENABLING runs (R157), `faultSeen` the fault conditions that have already acted (drive
fault, lost, frozen), `softWait` the period since which ENABLING waits for a fresh sample (R195), `shown` and `shownCtl` the results of JOINT_STATUS and CONTROL_STATUS as the last completed period left them (R173, R205). -/
structure Joint where
  state : JState := .disabled
  mode  : JMode := .point
  q     : Int := 0
  v     : Int := 0
  a     : Int := 0
  qSet  : Int := 0
  vSet  : Int := 0
  aSet  : Int := 0
  qSet1 : Int := 0
  qSet2 : Int := 0
  plan  : List Seg := []
  endQ  : Int := 0
  pt    : Nat := 0
  real  : Bool := false
  qT    : Int := 0
  vT    : Int := 0
  reqV  : Int := 0
  reqA  : Int := 0
  reqJ  : Int := 0
  source : StreamSource := .host
  points : List HostPoint := []
  tau   : Nat := 0
  tauLaps : Nat := 0
  tail  : Bool := false
  passing : Bool := false
  plan1 : Option JointPlan := none
  plan2 : Option JointPlan := none
  limited : Bool := false
  limitDeferred : Bool := false
  deferArrival : Bool := false
  homed : Bool := false
  stillNs : Option Nat := none
  reducedHold : Bool := false
  softLimit : Bool := false
  fault : Bool := false
  faultCause : Nat := 0
  homingResult : Nat := 0
  armStop : Bool := false
  deferred : Option (Nat × Bool) := none
  deferredB : Option Nat := none
  enabledBy : Option Nat := none
  faultSeen : Nat := 0
  softWait : Option Nat := none
  softStart : Bool := false
  timerNs : Nat := 0
  driveEnable : Bool := false
  brakeRelease : Bool := false
  torqueOff : Bool := true
  toDisabled : Bool := false
  rampA : Int := 0
  homing : Option Homing := none
  switches : Vector SwitchTrack 3 := Vector.replicate 3 {}
  nodeIn : Byte := 0
  errNs : Option Nat := none
  err   : Int := 0
  jogNs : Nat := 0
  advB  : Option Nat := none
  overruns : Nat := 0
  ctl   : Control := {}
  homeShift : Int := 0
  ext   : ExtTorque := {}
  extNext : Option ExtTorque := none
  extStale : Bool := false
  shown : Option (List Byte) := none
  shownCtl : Option (List Byte) := none
  deriving DecidableEq, Repr

/-- An arm: its applied scale, the host stop, the separation stop request and the scale of the last completed cycle
(R150, R152, R222). `stopping` says that a Category 1 separation stop along the path is still on its way to σ = 0 (R152). -/
structure Arm where
  sigma     : Rat := 1
  sigmaPrev : Rat := 1
  sep       : Nat := 65535
  hostStop  : Option Nat := none
  sepStop   : Option (Nat × Nat) := none
  stopping  : Bool := false
  clearNs   : Option Nat := none
  deriving DecidableEq, Repr

/-- Where a released item stands (R266..R270). -/
inductive InstState where | waiting | ready | prefetched (core : Nat) | running (core : Nat) | exited (core : Nat) | done | late | dropped | faulted | withheld
  deriving DecidableEq, Repr

/-- What an item run keeps of the program of its period when a commit changes its entry, code or parameters (R253). `kept` says that its state halves are still the
item's; else they are those at `stateAt`, of which it reads `half`, and `cold` is the flag of its run. -/
structure Frozen where
  entry   : ProgEntry
  block   : CfgBlock
  params  : List Byte
  kept    : Bool
  half    : Bool
  cold    : Bool
  stateAt : Nat
  deriving DecidableEq, Repr

/-- An item run of the boundary `b`, which fired at `bNs` and had its cut-off at `cutNs`. -/
structure Inst where
  entry : Nat
  b     : Nat
  state : InstState
  released : Bool := false
  bNs   : Nat := 0
  cutNs : Nat := 0
  frozen : Option Frozen := none
  deriving DecidableEq, Repr

/-- A block in the memory of a servo cluster (Table 8.5): `kind` 0 is code block `id`, 1 the parameter block and 2 the two state halves of entry `id`. -/
structure Piece where
  cluster : Nat
  kind : Nat
  id   : Nat
  at_  : Nat
  size : Nat
  deriving DecidableEq, Repr

/-- A trace entry (Table 9.3). -/
structure TraceEntry where
  offset : Nat
  entry  : Nat
  kind   : Nat
  flags  : Nat
  core   : Nat
  cls    : Nat
  b      : Nat
  ticks  : Nat
  deriving DecidableEq, Repr

/-- The trace open on a die (R277, R281). -/
structure Trace where
  queue : Nat
  tag   : Nat
  seq   : Nat := 0
  target : Nat
  classMask : Nat
  kindMask  : Nat
  coreMask  : Word
  held  : List TraceEntry := []
  deriving DecidableEq, Repr

/-- The dispatcher of a die. `half` says which state half of an entry is read; `cold` lists entries whose next run is
COLD; `repair` lists entries whose state awaits repair (R271); `places` says where the blocks of the program lie in the clusters,
`extWriter` is the entry that last wrote a joint's TAU_ITEM (R186). -/
structure Dispatcher where
  insts  : List Inst := []
  half   : Sparse Bool := []
  cold   : List Nat := []
  repair : List (Nat × Bool) := []
  trace  : Option Trace := none
  rom    : Bool := true
  lateRaised : Bool := false
  slackRaised : Bool := false
  places : List Piece := []
  extWriter : Sparse Nat := []
  deriving DecidableEq, Repr

end Sys2Proof.Machine
end

