-- ==== Sys2Proof/Machine/State.lean ====
section
/-! DEFINITION. The state of the package: two Trapeze dies, the Midway die, what has been driven out, the counter of the
free values and the queue of waiting commands. Everything is plain data. -/

namespace Sys2Proof.Machine

/-- Reasons the model stops. -/
inductive Fault where
  /-- Raised by DEBUG_READ and DEBUG_WRITE for an address outside the array named, and by the DEBUG_FLASH rows for one outside a 16 MiB device: the spec
  gives them no such address (Tables 1.3, 8.4, R463). Safe: the model stops where the hardware has nothing to access. -/
  | noSuchAddress
  deriving DecidableEq, Repr

/-- Reasons a command has no meaning. -/
inductive Refusal where
  /-- Raised by an arm of `exec` whose row has no meaning yet. Safe: nothing is claimed of the row. -/
  | notModelled (mnemonic : String)
  deriving DecidableEq, Repr

/-- Where a Trapeze die stands: supply out of range or die absent, in Seed, running, copying as Catcher, or halted. -/
inductive DieStatus where | off | seed | running | sync | halted
  deriving DecidableEq, Repr

/-- Phase of the package (Table 3.3): Seed, Blossom, Ripe, Blossom with CONFIG_FAILED. -/
inductive Phase where | seed | blossom | ripe | failed
  deriving DecidableEq, Repr

/-- The fuse values the model takes for a Trapeze die; the spec gives the layout and typical values only. DESIGN CHOICE. -/
def Fuses.typical (serial : BitVec 64) : Fuses where
  serial := serial
  variant := 0
  inject := false
  debugState := 1
  tTickPs := 440
  stageTrim := 0
  windows := #v[(650, 850), (650, 850), (760, 840), (855, 945), (1710, 1890), (1710, 1890), (3135, 3465)]
  tempWarn := 1150
  tempFault := 1250
  keyHash := List.replicate 32 0
  debugKeyHash := List.replicate 32 0

/-- A Trapeze die (R12). `opening` says that a boundary has fired at which its commit switches and COMMIT_APPLY (or RIPE_BEGIN) has not yet
made it switch; `cutSlack` is the slack of the period whose cut-off was last, `lastSlack` that of the period before the present one (R62); `readmitFenced` names the region and
cluster of each unit fenced since the last re-admission (R19), `rehoming` the program with the homes a re-admission has given, which takes effect at the next boundary (R276); `resetCause` is the cause of its last reset as a DIE_RESET record states it (Table 15.2), `imaged` that the image has been streamed to it from its header on; `ringCode` is the `RING_STOP` code that stands on each ring (R326). -/
structure Die where
  present  : Bool := true
  status   : DieStatus := .seed
  fuses    : Fuses
  fuses2   : Fuses
  port     : HostPort := {}
  rm       : Ringmaster := {}
  cfg      : Cfg := {}
  shadow   : Cfg := {}
  staging  : Staging := {}
  commit   : Option Pending := none
  cores    : Vector Core 32 := Vector.replicate 32 {}
  clusters : Vector ClusterMem 4 := Vector.replicate 4 {}
  upsets   : List Upset := []
  stores   : Stores := {}
  joints   : Vector Joint 64 := Vector.replicate 64 {}
  arms     : Vector Arm 8 := Vector.replicate 8 {}
  disp     : Dispatcher := {}
  jug      : Juggler := {}
  sep      : Sep := {}
  redirect : List Nat := []
  outSlots : List Nat := []
  ringCode : Vector Nat 8 := Vector.replicate 8 0
  fenced   : List (Nat × Nat × Nat) := []
  removed  : List (Nat × Nat) := []
  gated    : List ClusterId := [.jc 0, .jc 1, .jc 2, .jc 3, .se 0, .se 1]
  ungating : List ClusterId := []
  readmit  : Bool := false
  readmitFenced : List (Nat × Nat) := []
  rehoming : Option (Sparse ProgEntry) := none
  condemned : Bool := false
  test     : Option PlaceTest := none
  events   : Events := {}
  det      : Detectors := {}
  preserve : Preserve := {}
  stats    : Banks := {}
  partner  : Partner := {}
  lastSlack : Int := 0
  cutSlack : Int := 0
  cutNs    : Nat := 0
  lastOutNs : Nat := 0
  fieldOut : FieldOut := {}
  opening  : Bool := false
  resetCause : Nat := 0
  imaged   : Bool := false
  deriving DecidableEq, Repr

/-- The statistics interval MW keeps (R451). `due` asks for the move of the banks, `second` counts the SECONDS of TB0 at the last
boundary, `forced` says that a forced step of TB0 places an interval boundary, `expected` counts the boundaries the running interval has in the MODE it began in. -/
structure Interval where
  number   : Nat := 0
  bStart   : Nat := 0
  due      : Bool := false
  second   : Nat := 0
  forced   : Bool := false
  expected : Nat := 16384
  deriving DecidableEq, Repr

/-- The Midway die. `supplyRun` and `tempRun` count consecutive readings out of window, 5 once they have been acted on; `supplyNs` is since when each
monitor has read in range; `refRun` and `coarseOk` count failing and passing coarse windows. `cfg` is the configuration MW has switched to (B_c + 1, R53), `grid` the periods
that place the next boundary (R58), `bTb0`, `bSight` and `bZones` TB0, the sensors' frames and the partners' zone messages as the last boundary fired (R206), `applyAt` the boundary at which MW switches, `opening` that it has fired, `bankBad` the slots of the
set-point banks that could not be read when their die last wrote them, and 128 for the held-output buffers (R424), `falsified` the checks, by detector and index, whose run of bad
readings an injection has a part in (R423), `ringsDue` the rings whose configuration the switch at B_c + 1 commits again (R309). -/
structure Midway where
  fuseOk   : Bool := true
  fuses    : Fuses
  ticks    : Nat := 0
  b        : Nat := 0
  fired    : Bool := false
  bNs      : Nat := 0
  nominal  : Nat := 0
  nextNominal : Nat := 0
  tb2Step  : Bool := false
  cutDone  : Bool := false
  grid     : CfgPeriods := {}
  opening  : Bool := false
  cfg      : Cfg := Cfg.boot
  applyAt  : Option Nat := none
  tb       : Vector TimeBase 4 := Vector.replicate 4 {}
  ptp      : Vector Ptp 2 := Vector.replicate 2 {}
  tb2Locked : Bool := false
  tpi      : Tpi := {}
  tpo      : Tpo := {}
  net      : Network := {}
  trapeze  : TrapezeMw := {}
  interval : Interval := {}
  stats    : Banks := {}
  image    : ImageLoad := {}
  dbgPort  : Debug := {}
  bank     : Memory := []
  bankAge  : Sparse Nat := []
  bankBad  : List Nat := []
  falsified : List (Nat × Nat) := []
  upsets   : List Upset := []
  ringsDue : List Nat := []
  rings    : Vector Ring 8 := Vector.replicate 8 {}
  field    : Field := {}
  sight    : Vector SensorIn 32 := Vector.replicate 32 {}
  bTb0     : Nat := 0
  bSight   : Vector SensorIn 32 := Vector.replicate 32 {}
  bZones   : Vector (Option (List ZoneEntry)) 4 := Vector.replicate 4 none
  zoneSeq  : Nat := 0
  zoneMsgs : Vector (Option (List ZoneEntry)) 4 := Vector.replicate 4 none
  sightRejected : Bool := false
  refRun   : Nat := 0
  refBackup : Bool := false
  supplyNs : Vector Nat 7 := Vector.replicate 7 0
  supplyRun : Vector Nat 7 := Vector.replicate 7 0
  supplyMv : Vector Nat 7 := Vector.replicate 7 0
  tempRun  : Vector Nat 3 := Vector.replicate 3 0
  tempDeci : Vector Int 3 := Vector.replicate 3 0
  coarseOk : Nat := 0
  deriving DecidableEq, Repr

/-- The journal epoch of a period in the Catcher's journal buffer (R403, Table 1.3): the Flier's state at the cut-off of period `b`, and how many notices the effects it
holds come from. -/
structure Journal where
  b    : Nat
  flier : Die
  upTo : Nat
  deriving DecidableEq, Repr

/-- The package. -/
structure State where
  phase   : Phase := .seed
  pkgid   : BitVec 2 := 0
  t0      : Die
  t1      : Die
  mw      : Midway
  journal : Option Journal := none
  out     : List OutMsg := []
  draws   : Nat := 0
  pending : List Instr := []
  deriving DecidableEq, Repr

/-- A Trapeze die at power-up with the given fused serial. -/
def Die.powered (serial : BitVec 64) : Die := { fuses := Fuses.typical serial, fuses2 := Fuses.typical serial }

/-- The package right after power-up: every die in Seed (R458), B at 0 (R33), the token at none (R390). -/
def State.reset : State :=
  { t0 := Die.powered 1, t1 := Die.powered 2, mw := { fuses := Fuses.typical 0 } }

end Sys2Proof.Machine
end

