-- ==== Sys2Proof/Machine/Ops.lean ====
section
/-! DEFINITION. Named operations over the package's state: dies, time, target words, MSI-X messages, record queues,
Preserve, statistics counters and event sources. -/

namespace Sys2Proof.Machine

/-! ### Dies -/

/-- The named Trapeze die. -/
def State.die (s : State) (d : DieId) : Die :=
  match d with
  | .t0 => s.t0
  | .t1 => s.t1

/-- Replace the named Trapeze die. -/
def State.setDie (s : State) (d : DieId) (x : Die) : State :=
  match d with
  | .t0 => { s with t0 := x }
  | .t1 => { s with t1 := x }

/-- Change the named Trapeze die. -/
def State.onDie (s : State) (d : DieId) (f : Die → Die) : State := s.setDie d (f (s.die d))

/-- Change the Midway die. -/
def State.onMw (s : State) (f : Midway → Midway) : State := { s with mw := f s.mw }

/-- The die that holds the token (R387). -/
def State.isFlier (s : State) (d : DieId) : Bool := s.mw.trapeze.token == some d

/-- The die whose view stands for the package's: the token holder, else T0 where present, else T1 (R390). -/
def State.lead (s : State) : DieId :=
  match s.mw.trapeze.token with
  | some d => d
  | none => if s.t0.present && s.t0.status == .running then .t0 else if s.t1.present && s.t1.status == .running then .t1 else .t0

/-- A die that executes commands and sends records: out of Seed, not in SYNC, not HALTED (R86). -/
def Die.live (x : Die) : Bool := x.present && x.status == .running

/-- A die whose cores, generators and engines run: a live die, or a die in SYNC after its sync point (R395 steps 4 and 5). -/
def Die.works (x : Die) : Bool := x.live || (x.present && x.status == .sync && x.partner.synced)

/-- A die has a partner where the variant has two Trapeze dies: every one but the QD864-S (R1, R2, R76 step 5, R82). -/
def State.hasPartner (s : State) : Bool := s.t0.present && s.t1.present && s.mw.fuses.variant != 1

/-- The dies can pass digests, notices and results: over the direct link, else through MW (R17). -/
def State.linked (s : State) : Bool := s.mw.trapeze.directUp || (s.t0.partner.mwLinkUp && s.t1.partner.mwLinkUp)

/-- Both dies, lower first. -/
def allDies : List DieId := [.t0, .t1]

/-- Apply `f` for every live die. -/
def State.onLive (s : State) (f : DieId → State → State) : State :=
  allDies.foldl (fun s d => if (s.die d).live then f d s else s) s

/-! ### Time -/

/-- Nanoseconds since package reset, 40 for each tick of the 25 MHz reference (R331). -/
def State.now (s : State) : Nat := 40 * s.mw.ticks

/-- TB0 in nanoseconds since its epoch. -/
def State.tb0 (s : State) : Nat := s.mw.tb[0].ns

/-- The epoch: the low 32 bits of B (R35). -/
def State.epoch (s : State) : Nat := s.mw.b % 2 ^ 32

/-- The 10 bytes of a time stamp: seconds u48, then nanoseconds u32 (R495). -/
def stamp (ns : Nat) : List Byte := le 6 (ns / 1000000000) ++ le 4 (ns % 1000000000)

/-- The nanoseconds a 10-byte time stamp at offset `o` spells, none where its nanoseconds field is invalid (R9). -/
def rdStamp (bs : List Byte) (o : Nat) : Option Nat :=
  if rd bs (o + 6) 4 ≤ 999999999 then some (rd bs o 6 * 1000000000 + rd bs (o + 6) 4) else none

/-- The number the next draw of a free value has, and the state that has drawn it. -/
def State.draw (s : State) : Nat × State := (s.draws, { s with draws := s.draws + 1 })

/-- PHASE as PORT_STATE shows it for a die (Table 3.3). -/
def State.phaseCode (s : State) (d : DieId) : Nat :=
  match (s.die d).status with
  | .sync => 4
  | .halted => 5
  | _ => match s.phase with
    | .seed => 1
    | .blossom => 1
    | .ripe => 2
    | .failed => 3

/-- PHASE of a die for its PHASE records (Table 15.2): 0 before Blossom. -/
def State.phaseNum (s : State) (d : DieId) : Nat :=
  match (s.die d).status with
  | .off | .seed => 0
  | _ => s.phaseCode d

/-- True while the Curtain is active or latched (R413). -/
def State.curtained (s : State) : Bool := s.mw.trapeze.curtain.isSome

/-! ### Target words (Table 3.10) -/

/-- A target word of this package. -/
def State.target (s : State) (kind index : Nat) : Word :=
  BitVec.ofNat 32 (kind * 2 ^ 28 + s.pkgid.toNat * 2 ^ 26 + index)

/-- Place index of Table 1.7. -/
def placeIndex (die region cluster unit : Nat) : Nat :=
  die * 2 ^ 24 + region * 2 ^ 22 + cluster * 2 ^ 19 + unit * 2 ^ 14

/-- Index of a whole die (R26). -/
def wholeDie (d : DieId) : Nat := placeIndex d.code 3 7 31 + 2 ^ 13

/-- Die field of a place. -/
def placeDieCode : PlaceDie → Nat
  | .t0 => 0
  | .t1 => 1
  | .mw => 2

/-- Target word of a unit. -/
def State.unitTarget (s : State) (u : UnitId) : Word :=
  s.target 7 (placeIndex (placeDieCode u.die) u.region.val u.cluster.val u.unit.val)

/-- The die of a place, for Trapeze places. -/
def placeOf : DieId → PlaceDie
  | .t0 => .t0
  | .t1 => .t1

/-- A unit of a Trapeze die. -/
def unitOf (d : DieId) (region : Fin 3) (cluster : Fin 8) (unit : Fin 32) : UnitId := ⟨placeOf d, region, cluster, unit⟩

/-- The Trapeze die of a place. -/
def trapezeDie : PlaceDie → Option DieId
  | .t0 => some .t0
  | .t1 => some .t1
  | .mw => none

/-! ### Messages and record queues (R66..R72) -/

/-- Add a message to what the part has driven out. -/
def State.emit (s : State) (m : OutMsg) : State := { s with out := m :: s.out }

/-- Change one queue block. -/
def State.onQueue (s : State) (d : DieId) (q : Fin 64) (f : Queue → Queue) : State :=
  s.onDie d fun x => { x with port := { x.port with queues := x.port.queues.set q (f x.port.queues[q]) } }

/-- The queue block. -/
def State.queue (s : State) (d : DieId) (q : Fin 64) : Queue := (s.die d).port.queues[q]

/-- The MSI-X message of a vector: the address and data of its table entry (R63). -/
def HostPort.message (p : HostPort) (port : DieId) (v : Nat) : OutMsg :=
  let e := p.msixTable[v % 32]'(Nat.mod_lt _ (by decide))
  .msix port v (e.1.toNat + 2 ^ 32 * e.2.1.toNat) e.2.2

/-- Send an MSI-X message, or mark it pending where its vector is masked (R63, R71). While bus mastering is off, or the link is down, it is lost and not kept pending. DESIGN
CHOICE: R63 says only that the part writes no records then. -/
def State.msix (s : State) (d : DieId) (v : Nat) : State :=
  let x := s.die d
  if !(x.port.linkUp && x.port.busMaster) then s
  else if x.port.msixMask.getLsbD v then
    s.onDie d fun x => { x with port := { x.port with msixPending := x.port.msixPending ||| (1#32 <<< v) } }
  else s.emit (x.port.message d v)

/-- Fields of QCFG (Table 3.5). -/
def Queue.log2 (q : Queue) : Nat := bits q.qcfg.toNat 3 0
def Queue.depth (q : Queue) : Nat := 2 ^ q.log2
def Queue.priority (q : Queue) : Nat := bits q.qcfg.toNat 5 4
def Queue.vector (q : Queue) : Nat := bits q.qcfg.toNat 10 6
def Queue.vectorEn (q : Queue) : Bool := bit q.qcfg.toNat 11
def Queue.coalesce (q : Queue) : Nat := bits q.qcfg.toNat 19 12
def Queue.enable (q : Queue) : Bool := bit q.qcfg.toNat 31

/-- Occupied slots between an older and a newer index of the ring (R68, R69). -/
def Queue.span (q : Queue) (older newer : Nat) : Nat := (newer + q.depth - older) % q.depth

/-- Slots of a record (R78). -/
def Record.slots (r : Record) : Nat := (32 + r.result.length + 63) / 64

/-- The record fits without the occupied count exceeding depth − 1 (R69). -/
def Queue.fits (q : Queue) (r : Record) : Bool :=
  q.state == .running && decide (q.span q.tail q.head + r.slots ≤ q.depth - 1)

/-- A record can be written now: it fits, the link is up and bus mastering is on (R63, R69). -/
def State.fits (s : State) (port : DieId) (q : Fin 64) (r : Record) : Bool :=
  let p := (s.die port).port
  p.linkUp && p.busMaster && (s.queue port q).fits r

/-- The port that carries a die's records: its own, or the other die's while its own is lost (R85). -/
def State.portOf (s : State) (d : DieId) : DieId := if (s.die d).port.lost then d.other else d

/-- Record queue Qn+32 of command queue Qn (R66). -/
def recordQueue (n : Nat) : Fin 64 := ⟨n % 32 + 32, by omega⟩

/-- FLAGS of a record (Table 3.12). -/
def Record.flags (r : Record) (phase : Bool) (die : DieId) : Nat :=
  packBits [phase, die == .t1, r.own, r.flier] + 16 * (r.kind % 8)

/-- The bytes of a record: the header of Table 3.11 and the result (R78). -/
def Record.bytes (r : Record) (phase : Bool) (die : DieId) : List Byte :=
  le 1 (r.flags phase die) ++ le 1 r.result.length ++ le 2 r.status ++ le 2 r.tag ++ le 2 r.seq ++ le 4 r.target ++ le 4 r.epoch ++
    le 2 r.opcode ++ le 1 r.slots ++ le 1 r.queue ++ zeros 12 ++ r.result

/-- Write a record that fits: the slots from HEAD with the pass marker, its first 8 bytes last, the messages of R72 (R69). FLIER says what the die is as it writes
(Table 3.12). -/
def State.writeRecord (s : State) (port : DieId) (r : Record) (d : DieId) : State :=
  let r : Record := { r with flier := s.isFlier d }
  let qi := recordQueue r.queue
  let q := s.queue port qi
  let s := (s.emit (.record port qi.val q.head q.phase r d)).emit (.recordFirst port qi.val q.head ((r.bytes q.phase d).take 8))
  let h := q.head + r.slots
  let n := q.unsignalled + 1
  let due := q.vectorEn && decide (q.coalesce + 1 ≤ n)
  let s := s.onQueue port qi fun q =>
    { q with head := h % q.depth, phase := if q.depth ≤ h then !q.phase else q.phase,
             unsignalled := if due then 0 else n }
  if due then s.msix port q.vector else s

/-- Bounds a count at its u32 maximum. -/
def sat32 (n : Nat) : Nat := min n 4294967295

/-! ### Preserve (R442..R448) -/

/-- The newest valid record of a die. -/
def Preserve.newest (p : Preserve) : Option PresRec :=
  if p.total = 0 then none else p.slots.find ((p.total - 1) % 8192)

/-- Write one occurrence: coalesced with an equal newest record (R446), else a new record over the oldest (R443). -/
def Preserve.put (p : Preserve) (o : Occurrence) : Preserve :=
  let fresh : Preserve :=
    { p with
      slots := p.slots.set (p.total % 8192)
        { time := o.time, last := o.time, source := o.source, code := o.code, repeat_ := 0, mark := o.mark + 1,
          seq := p.total % 65536, data := padTo 32 o.data },
      total := p.total + 1 }
  match p.newest with
  | some r =>
    if r.source = o.source ∧ r.code = o.code ∧ r.data = padTo 32 o.data ∧ r.mark = o.mark + 1 then
      { p with slots := p.slots.set ((p.total - 1) % 8192) { r with last := o.time, repeat_ := min (r.repeat_ + 1) 65535 } }
    else fresh
  | none => fresh

/-- The recorder with nothing waiting: every queued occurrence written, in ascending CODE (R445). -/
def Preserve.settled (p : Preserve) : Preserve := p.queue.foldl Preserve.put { p with queue := [] }

/-- The place of an occurrence among those of its instant: ascending CODE, equal codes as raised (R445). -/
def Occurrence.into (o : Occurrence) : List Occurrence → List Occurrence
  | [] => [o]
  | a :: r => if o.code < a.code then o :: a :: r else a :: o.into r

/-- The recorder takes an occurrence (R445). While frozen it is counted in LOST (R448), and so is one that finds 64 waiting behind the one being written: an instant of
more than 65 loses the rest. What earlier instants left has been written by then, the rate above one in 100 ns being open: DESIGN CHOICE. -/
def Preserve.take (p : Preserve) (o : Occurrence) : Preserve :=
  if p.frozen then { p with lost := sat32 (p.lost + 1) }
  else
    let p := if p.queue.any fun a => a.time == o.time then p else p.settled
    if 65 ≤ p.queue.length then { p with lost := sat32 (p.lost + 1) } else { p with queue := o.into p.queue }

/-- A record-only code of Table 15.2. -/
def State.record (s : State) (d : DieId) (code : Nat) (source : Word) (data : List Byte) (mark : Nat := 0) : State :=
  s.onDie d fun x => { x with preserve := x.preserve.take { time := s.tb0, source := source, code := code, mark := mark, data := data } }

/-- The load report of a PHASE record (R468). -/
def ImageLoad.report (m : ImageLoad) : List Byte :=
  le 1 m.cause0 ++ le 1 m.failSection0 ++ le 2 m.failStatus0 ++ le 4 m.failIndex0 ++
  le 1 m.cause1 ++ le 1 m.failSection1 ++ le 2 m.failStatus1 ++ le 4 m.failIndex1

/-- Write the PHASE record of every die whose PHASE differs from what it was in `old` (R468). -/
def State.phaseRecords (s old : State) : State :=
  let go := fun (s : State) (d : DieId) =>
    let a := old.phaseNum d
    let b := s.phaseNum d
    if a = b ∨ b = 0 then s
    else s.record d 0x130 (s.target 0 0) (le 1 a ++ le 1 b ++ zeros 2 ++ le 8 s.mw.b ++ (if b = 2 ∨ b = 3 then s.mw.image.report else []))
  go (go s .t0) .t1

/-! ### Statistics counters (R450..R452) -/

/-- Key of a statistics word. -/
def statKey (group inst word : Nat) : Nat := 65536 * group + 256 * inst + word

/-- Restart value of a word: 0, the largest value of its format for a minimum (R450). -/
def statStart (group word : Nat) : Nat :=
  if group = 1 ∧ word = 0 then 0x7FFFFFFF
  else if group = 4 ∧ word = 8 then 0x7FFFFFFF
  else if group = 6 ∧ word = 0 then 65535
  else if group = 6 ∧ word = 1 then 0x7FFFFFFF
  else 0

/-- A word of a bank. -/
def Bank.word (b : Bank) (group inst word : Nat) : Nat := b.words.getD (statKey group inst word) (statStart group word)

/-- Add to a counting word, saturating (R450). -/
def Bank.add (b : Bank) (group inst word n : Nat) : Bank :=
  { b with words := b.words.set (statKey group inst word) (sat32 (b.word group inst word + n)) }

/-- Lower a minimum held as s32. -/
def Bank.minS32 (b : Bank) (group inst word : Nat) (v : Int) : Bank :=
  if v < toSigned 32 (b.word group inst word) then
    { b with words := b.words.set (statKey group inst word) (v % 4294967296).toNat }
  else b

/-- Lower a minimum held as an unsigned value. -/
def Bank.minNat (b : Bank) (group inst word v : Nat) : Bank :=
  if v < b.word group inst word then { b with words := b.words.set (statKey group inst word) v } else b

/-- Count in the LIVE bank of a die. -/
def State.count (s : State) (d : DieId) (group inst word : Nat) (n : Nat := 1) : State :=
  s.onDie d fun x => { x with stats := { x.stats with live := x.stats.live.add group inst word n } }

/-- Count in MW's LIVE bank: the ring counters (R452). -/
def State.countMw (s : State) (group inst word : Nat) (n : Nat := 1) : State :=
  s.onMw fun m => { m with stats := { m.stats with live := m.stats.live.add group inst word n } }

/-! ### Event sources (R431..R435, R497) -/

/-- Flags of an occurrence: INJECTED, LASTING, PROMOTED (Table 14.5), and the detector code, 255 for none. -/
structure Occur where
  injected : Bool := false
  lasting  : Bool := false
  promoted : Bool := false
  detector : Nat := 255
  deriving DecidableEq, Repr

/-- FLAGS of Table 14.5. -/
def Occur.flags (o : Occur) : Nat := b2n o.injected + 2 * b2n o.lasting + 4 * b2n o.promoted

/-- The 48-byte result of an event record (Table 14.5). -/
def eventResult (e : Nat) (o : Occur) (time : Nat) (data : List Byte) : List Byte :=
  le 1 e ++ le 1 o.flags ++ le 1 o.detector ++ zeros 3 ++ stamp time ++ padTo 32 data

/-- Control word of an event source on a die (Table 14.4). -/
def Die.control (x : Die) (e : Nat) : Nat := (x.cfg.events.control[e % 256]'(Nat.mod_lt _ (by decide))).toNat

/-- Steps 1 and 2 of R434: the Preserve record, the count of raises and PENDING. -/
def State.markEvent (s : State) (d : DieId) (e : Nat) (source : Word) (data : List Byte) (o : Occur) : State :=
  s.onDie d fun x =>
    { x with
      preserve := x.preserve.take { time := s.tb0, source := source, code := e, mark := 2 * o.flags, data := data },
      events := { x.events with
        pending := x.events.pending ||| (1#256 <<< e),
        count := x.events.count.set e (sat32 (x.events.count.getD e 0 + 1)),
        lastB := x.events.lastB.set e s.mw.b,
        lastDet := x.events.lastDet.set e o.detector } }

/-- The event record of R435. -/
def State.eventRecord (s : State) (d : DieId) (e : Nat) (source : Word) (data : List Byte) (o : Occur) : Record where
  kind := 2
  own := true
  flier := s.isFlier d
  status := 0
  tag := 0
  seq := (s.die d).events.count.getD e 0 % 65536
  target := source.toNat
  epoch := s.epoch
  opcode := 0x0901
  queue := bits ((s.die d).control e) 12 8
  result := eventResult e o s.tb0 data

/-- Count a stream, event or trace record lost for space (R70): LOST, and whether this is the first drop since LOST was read. -/
def State.dropRecord (s : State) (port : DieId) (qi : Fin 64) : Bool × State :=
  (!(s.queue port qi).lossSeen, s.onQueue port qi fun q => { q with lost := sat32 (q.lost + 1), lossSeen := true })

/-- Raise an event source on a die in the order of R434; a die in SYNC or HALTED sends nothing (R86). A record lost for space raises STREAM_LOST (R70), which can
itself lose its record; at most one record of a source is written in a servo period, so the chain ends within three. -/
def State.raiseFuel : Nat → State → DieId → Nat → Word → List Byte → Occur → State
  | fuel, s, d, e, source, data, o =>
    let c := (s.die d).control e
    let was := (s.die d).events.pending.getLsbD e
    let s := s.markEvent d e source data o
    let masked := bit c 0 || !(s.die d).live
    let wants := !masked && bit c 7 && decide ((s.die d).events.recordB.find e ≠ some s.mw.b)
    let s :=
      if wants then
        let r := s.eventRecord d e source data o
        let port := s.portOf d
        let qi := recordQueue r.queue
        let s := s.onDie d fun x => { x with events := { x.events with recordB := x.events.recordB.set e s.mw.b } }
        if s.fits port qi r then s.writeRecord port r d
        else
          let (first, s) := s.dropRecord port qi
          if first then
            let s := s.msix port 0
            match fuel with
            | 0 => s
            | fuel + 1 => s.raiseFuel fuel d 10 (s.target 11 qi.val) [] {}
          else s
      else s
    if !masked && bit c 1 && !was then s.msix (s.portOf d) (bits c 6 2) else s

/-- Raise an event source on a die (R434). -/
def State.raise (s : State) (d : DieId) (e : Nat) (source : Word) (data : List Byte) (o : Occur := {}) : State :=
  s.raiseFuel 3 d e source data o

/-- Raise an MW event on every die that is not in SYNC or HALTED (R432). -/
def State.raiseMw (s : State) (e : Nat) (source : Word) (data : List Byte) (o : Occur := {}) : State :=
  s.onLive fun d s => s.raise d e source data o

/-- Send a stream or trace record; where it does not fit it is dropped and counted (R70). -/
def State.sendStream (s : State) (d : DieId) (r : Record) : State :=
  let port := s.portOf d
  let qi := recordQueue r.queue
  if !(s.die d).live then s
  else if s.fits port qi r then s.writeRecord port r d
  else
    let (first, s) := s.dropRecord port qi
    if first then (s.msix port 0).raise d 10 (s.target 11 qi.val) [] else s

/-- Send one record on every open stream of a die that opcode opened and `keep` selects (R83); `own` is OWN. -/
def State.stream (s : State) (d : DieId) (opcode : Nat) (kind : Nat) (own : Bool) (keep : Stream → Bool)
    (epoch : Nat) (result : Stream → List Byte) : State :=
  let go := fun (s : State) (st : Stream) =>
    if st.opcode = opcode ∧ keep st = true then
      s.sendStream d
        { kind := kind, own := own, flier := s.isFlier d, status := 0, tag := st.tag, seq := st.seq, target := st.target,
          epoch := epoch % 2 ^ 32, opcode := opcode, queue := st.queue, result := result st }
    else s
  let s := (s.die d).rm.streams.foldl go s
  s.onDie d fun x =>
    { x with rm := { x.rm with streams := x.rm.streams.map fun st =>
        if st.opcode = opcode ∧ keep st = true then { st with seq := (st.seq + 1) % 65536 } else st } }

/-- Send a reply, or let it wait in its record queue and stall the command queue until it fits (R70). -/
def State.sendReply (s : State) (port d : DieId) (r : Record) : State :=
  let qi := recordQueue r.queue
  let cq : Fin 64 := ⟨r.queue % 32, by omega⟩
  if !(s.die d).live then s
  else if (s.queue port qi).waiting.isEmpty && s.fits port qi r then s.writeRecord port r d
  else
    let s := s.onQueue port qi fun q => { q with waiting := q.waiting ++ [(d, r)] }
    s.onQueue port cq fun q => if q.state = .running then { q with state := .stalled } else q

end Sys2Proof.Machine
end

