-- ==== Sys2Proof/Machine/Admission.lean ====
section
/-! DEFINITION. Ring admission (R312), homing and placement (R265), and the admission of the period program (R272..R274). -/

namespace Sys2Proof.Machine

/-! ### Ring admission -/

/-- Configuration of the node at a position of a ring. -/
def Cfg.node (c : Cfg) (ring pos : Nat) : CfgNode := c.nodes[(16 * ring + pos) % 128]'(Nat.mod_lt _ (by decide))

/-- Configuration of a ring. -/
def Cfg.ring (c : Cfg) (ring : Nat) : CfgRing := c.rings[ring % 8]'(Nat.mod_lt _ (by decide))

/-- Positions of a ring in use. -/
def Cfg.positions (c : Cfg) (ring : Nat) : List Nat := List.range (c.ring ring).nodes

/-- Total of a quantity over a list. -/
def total {α : Type} (l : List α) (f : α → Nat) : Nat := l.foldl (fun n x => n + f x) 0

/-- Largest of a quantity over a list, 0 for none. -/
def largest {α : Type} (l : List α) (f : α → Nat) : Nat := l.foldl (fun n x => max n (f x)) 0

/-- HOP_NS of a position: 320 ns where it has no node or states 0 (R312). -/
def CfgNode.hop (n : CfgNode) : Nat := if n.format = 0 ∨ n.hopNs = 0 then 320 else n.hopNs

/-- D_cfg (R312). -/
def Cfg.dCfg (c : Cfg) (ring : Nat) : Nat :=
  total (c.positions ring) (fun p => (c.node ring p).hop) + 5 * (c.ring ring).cableM

/-- ΣOUT and ΣIN of a ring (R287, R312). -/
def Cfg.sumOut (c : Cfg) (ring : Nat) : Nat :=
  total (c.positions ring) fun p => if (c.node ring p).format = 0 then 0 else (c.node ring p).outLen
def Cfg.sumIn (c : Cfg) (ring : Nat) : Nat :=
  total (c.positions ring) fun p => if (c.node ring p).format = 0 then 0 else (c.node ring p).inLen

/-- The pad P (R288). -/
def Cfg.pad (c : Cfg) (ring : Nat) : Nat := (c.dCfg ring + 7) / 8 + 1

/-- The frame length L of a ring in DATA (R288). -/
def Cfg.frameLen (c : Cfg) (ring : Nat) : Nat := 100 + c.sumOut ring + c.pad ring + c.sumIn ring

/-- APPLY_NS (R288). -/
def Cfg.applyNs (c : Cfg) (ring : Nat) : Nat := 72 + c.dCfg ring + 8 * (33 + c.sumOut ring) + 256

/-- T_ret of a ring (R312). -/
def Cfg.tRet (c : Cfg) (ring : Nat) : Nat := 220 + 8 * (c.frameLen ring + 2) + 2 * c.dCfg ring

/-- Rings in MASTER role. -/
def Cfg.masters (c : Cfg) : List Nat := (List.range 8).filter fun r => (c.ring r).role = 1

/-- T_ret of the slowest ring (R312), of those selected. -/
def Cfg.slowest (c : Cfg) (rings : List Nat) : Nat := largest rings c.tRet

/-- The conditions of R312 for one ring. -/
def Cfg.ringAdmitted (c : Cfg) (ring : Nat) : Bool :=
  decide (c.frameLen ring ≤ 1536) && decide ((c.ring ring).nodes ≤ 16) && decide (2 * c.tRet ring ≤ c.periods.tS)

/-- The lowest-numbered master ring that fails its admission. -/
def Cfg.ringFail (c : Cfg) : Option Nat := c.masters.find? fun r => !c.ringAdmitted r

/-! ### Periods -/

/-- r_p and r_sep (R55). -/
def Cfg.rP (c : Cfg) : Nat := c.periods.tP / c.periods.tS
def Cfg.rSep (c : Cfg) : Nat := c.periods.tSep / c.periods.tS

/-- `x − T_var` rounded down to whole nanoseconds, T_var := T_s × 10⁻⁴ + 80 ns taken exactly (R34, R38). -/
def lessTVar (x : Int) (tS : Nat) : Int := Int.fdiv (10000 * (x - 80) - tS) 10000

/-- The servo budget of a period (R38). -/
def Cfg.budget (c : Cfg) : Int :=
  lessTVar ((c.periods.tS : Int) - c.slowest c.masters - 1000) c.periods.tS

/-! ### Code blocks (Table 8.9) -/

/-- Field of a staged block. -/
def CfgBlock.field (b : CfgBlock) (off n : Nat) : Nat :=
  leNat ((List.range n).map fun i => b.bytes.getD (off + i) 0)

def CfgBlock.wordCount (b : CfgBlock) : Nat := b.field 0 2
def CfgBlock.paramBytes (b : CfgBlock) : Nat := b.field 2 2
def CfgBlock.stateBytes (b : CfgBlock) : Nat := b.field 4 2
def CfgBlock.bound (b : CfgBlock) : Nat := b.field 8 4

/-- The instruction words. -/
def CfgBlock.code (b : CfgBlock) : List Word :=
  (List.range b.wordCount).map fun i => BitVec.ofNat 32 (b.field (16 + 4 * i) 4)

/-- Bytes of a code block. -/
def CfgBlock.size (b : CfgBlock) : Nat := 16 + 4 * b.wordCount

/-! ### Costs (R259, R272) -/

/-- `n` ticks in nanoseconds, rounded up. -/
def ticksNs (tTickPs n : Nat) : Nat := (n * tTickPs + 999) / 1000

/-- What admission knows of the die: T_tick and the cores present and unfenced of each cluster; a removed cluster has none. -/
structure AdmitDie where
  tTickPs : Nat
  cores   : Vector Nat 4
  lost    : Vector Bool 4
  deriving DecidableEq, Repr

/-- The block of an entry. -/
def Cfg.block (c : Cfg) (e : ProgEntry) : CfgBlock := c.code.getD e.codeId {}

/-- t_c of an entry (R272). -/
def Cfg.cost (c : Cfg) (a : AdmitDie) (e : ProgEntry) : Nat :=
  let b := c.block e
  ticksNs a.tTickPs (64 + b.bound) + ticksNs a.tTickPs (32 + (4 * b.wordCount + b.paramBytes + 3) / 4)

/-- Predecessor entries of an entry (R264). -/
def ProgEntry.preds (e : ProgEntry) : List Nat :=
  ((List.range 16).filter fun i => e.predMask0.getLsbD i).map (e.predBase0 + ·) ++
  ((List.range 16).filter fun i => e.predMask1.getLsbD i).map (e.predBase1 + ·)

/-- R_X of a class (Table 9.2). -/
def Cfg.ratio (c : Cfg) (cls : Nat) : Nat := if cls = 1 then c.rSep else if cls = 2 then c.rP else 1

/-- A class whose items are released at every boundary at which items of class `dep` are (R264). -/
def Cfg.mayPrecede (c : Cfg) (dep pred : Nat) : Bool :=
  if dep = 0 then pred = 0
  else if dep = 3 then pred = 0 || pred = 3
  else if dep = 1 then pred = 0 || pred = 3 || pred = 1 || (pred = 2 && c.rSep % c.rP = 0)
  else pred = 0 || pred = 3 || pred = 2 || (pred = 1 && c.rP % c.rSep = 0)

/-- True where a chain of predecessors of at most `fuel` links leads from `i` to `goal`. -/
def reaches (prog : Sparse ProgEntry) (goal : Nat) : Nat → Nat → Bool
  | 0, _ => false
  | fuel + 1, i =>
    match prog.find i with
    | none => false
    | some e => e.preds.any fun p => p == goal || reaches prog goal fuel p

/-- Home cluster of an entry as a number, none where it has none. -/
def ProgEntry.at_ (e : ProgEntry) (c : Nat) : Bool := match e.home with
  | some h => h.val == c
  | none => false

/-- The structure conditions of R264 for one entry. -/
def Cfg.entryStructured (c : Cfg) (i : Nat) (e : ProgEntry) : Bool :=
  e.preds.all (fun p => match c.program.find p with
    | some q => decide (p ≤ 1023) && c.mayPrecede e.cls q.cls
    | none => false) &&
  !reaches c.program i (c.program.length + 1) i

/-- What a worst-corner path bound is asked for: an entry on its cluster, or a whole cluster. -/
inductive PathOf where | entry (i : Nat) (cluster : Nat) | cluster (c : Nat)
  deriving DecidableEq, Repr

/-- SERVO entries homed on a cluster. -/
def Cfg.servoOn (c : Cfg) (k : Nat) : List (Nat × ProgEntry) := c.program.filter fun x => x.2.cls == 0 && x.2.at_ k

/-- R_c (R273). -/
def Cfg.releaseMax (c : Cfg) (k : Nat) : Nat :=
  largest (c.servoOn k) fun x => if x.2.ringReturn then x.2.offsetNs else x.2.offsetNs - c.slowest c.masters

/-- W_c (R273). -/
def Cfg.servoWork (c : Cfg) (a : AdmitDie) (k : Nat) : Nat := total (c.servoOn k) fun x => c.cost a x.2

/-- L(x) for an entry and M_c for a cluster (R273); `fuel` bounds the chain. -/
def Cfg.path (c : Cfg) (a : AdmitDie) : Nat → PathOf → Nat
  | 0, _ => 0
  | fuel + 1, .entry i k =>
    match c.program.find i with
    | none => 0
    | some e =>
      c.cost a e + largest e.preds fun p =>
        match c.program.find p with
        | none => 0
        | some q => if q.at_ k then c.path a fuel (.entry p k)
                    else match q.home with
                      | some h => c.path a fuel (.cluster h.val)
                      | none => 0
  | fuel + 1, .cluster k =>
    if (c.servoOn k).isEmpty then 0
    else
      let m := a.cores[k % 4]'(Nat.mod_lt _ (by decide))
      c.releaseMax k + (c.servoWork a k + (m - 1)) / (max m 1) + largest (c.servoOn k) fun x => c.path a fuel (.entry x.1 k)

/-- M_c (R273). -/
def Cfg.mOf (c : Cfg) (a : AdmitDie) (k : Nat) : Nat := c.path a (2 * c.program.length + 10) (.cluster k)

/-- The makespan M (R273). -/
def Cfg.makespan (c : Cfg) (a : AdmitDie) : Nat := largest (List.range 4) (c.mOf a)

/-- Cluster `k` depends on cluster `j` through SERVO predecessors, within `fuel` clusters. -/
def Cfg.clusterReaches (c : Cfg) (goal : Nat) : Nat → Nat → Bool
  | 0, _ => false
  | fuel + 1, k =>
    (c.servoOn k).any fun x => x.2.preds.any fun p =>
      match c.program.find p with
      | some q => match q.home with
        | some h => h.val != k && (h.val == goal || c.clusterReaches goal fuel h.val)
        | none => false
      | none => false

/-- Servo admission of R38 and R273: every cluster with SERVO items has a core, and 1.25·M fits the budget. -/
def Cfg.servoAdmitted (c : Cfg) (a : AdmitDie) : Bool :=
  (List.range 4).all (fun k => (c.servoOn k).isEmpty || decide (0 < a.cores[k % 4]'(Nat.mod_lt _ (by decide)))) &&
  decide (5 * (c.makespan a : Int) ≤ 4 * c.budget)

/-- Bytes of code and of parameters and state placed on a cluster (R265). -/
def Cfg.codeBytes (c : Cfg) (k : Nat) : Nat :=
  total ((c.program.filter fun x => x.2.at_ k).map (fun x => x.2.codeId)).eraseDups fun id => (c.code.getD id {}).size
def Cfg.dataBytes (c : Cfg) (k : Nat) : Nat :=
  total (c.program.filter fun x => x.2.at_ k) fun x => (c.block x.2).paramBytes + 2 * (c.block x.2).stateBytes

/-- The placement limits of R265. -/
def Cfg.placed (c : Cfg) (k : Nat) : Bool := decide (c.codeBytes k ≤ 98304) && decide (c.dataBytes k ≤ 147456)

/-- A cluster an entry may be homed on: allowed by AFFINITY and neither absent nor removed. -/
def mayHome (a : AdmitDie) (e : ProgEntry) (k : Nat) : Bool :=
  e.affinity.getLsbD k && !(a.lost[k % 4]'(Nat.mod_lt _ (by decide)))

/-- Give entry `i` the home `k`. -/
def Cfg.setHome (c : Cfg) (i : Nat) (e : ProgEntry) (k : Option (Fin 4)) : Cfg :=
  { c with program := c.program.set i { e with home := k } }

/-- Home one entry by the steps of R265. -/
def Cfg.homeEntry (a : AdmitDie) (c : Cfg) (x : Nat × ProgEntry) : Cfg :=
  let keeps := match x.2.home with
    | some h => mayHome a x.2 h.val
    | none => false
  if keeps then c
  else
    let ks : List (Fin 4) := [0, 1, 2, 3]
    let fitsOn := fun (k : Fin 4) =>
      mayHome a x.2 k.val &&
      (let c' := c.setHome x.1 x.2 (some k); c'.placed k.val && (x.2.cls != 0 || c'.servoAdmitted a))
    match ks.find? fitsOn with
    | some k => c.setHome x.1 x.2 (some k)
    | none => c.setHome x.1 x.2 (ks.find? fun k => mayHome a x.2 k.val)

/-- Home every entry, in ascending entry index (R265). -/
def Cfg.homed (c : Cfg) (a : AdmitDie) : Cfg := c.program.foldl (Cfg.homeEntry a) c

/-- w_c (R274). -/
def Cfg.window (c : Cfg) (a : AdmitDie) (k : Nat) : Int :=
  lessTVar ((c.periods.tS : Int) - 1000 - c.slowest c.masters - c.mOf a k) c.periods.tS

/-- Clusters that hold entries. -/
def Cfg.inUse (c : Cfg) : List Nat := (List.range 4).filter fun k => c.program.any fun x => x.2.at_ k

/-- Least w_c over the clusters in use, 0 for none. -/
def Cfg.leastWindow (c : Cfg) (a : AdmitDie) : Int :=
  match c.inUse.map (c.window a) with
  | [] => 0
  | w :: r => r.foldl min w

/-- Entries of a class. -/
def Cfg.ofClass (c : Cfg) (cls : Nat) : List (Nat × ProgEntry) := c.program.filter fun x => x.2.cls == cls

/-- Length of the longest predecessor chain within a class that ends at an entry. -/
def Cfg.chain (c : Cfg) (cls : Nat) : Nat → Nat → Nat
  | 0, _ => 0
  | fuel + 1, i =>
    match c.program.find i with
    | none => 0
    | some e => if e.cls = cls then 1 + largest e.preds (c.chain cls fuel) else 0

/-- W_X (R274). -/
def Cfg.work (c : Cfg) (a : AdmitDie) (cls : Nat) : Nat := total (c.ofClass cls) fun x => c.cost a x.2

/-- The left side of R274 for SEPARATION (1) or PLAN-SUPPORT (2), in periods; 0xFFFF where no core time is left. -/
def Cfg.need (c : Cfg) (a : AdmitDie) (cls : Nat) : Nat :=
  if (c.ofClass cls).isEmpty then 0
  else
    let tMax := largest (c.ofClass cls) fun x => c.cost a x.2
    let ks := (List.range 4).filter fun k => (c.ofClass cls).any fun x => x.2.at_ k
    let q := total ks fun k => (a.cores[k % 4]'(Nat.mod_lt _ (by decide))) * (c.window a k - tMax).toNat
    let w := if cls = 2 then c.work a 2 + ((c.rP + c.rSep - 1) / c.rSep + 1) * c.work a 1 else c.work a 1
    let l := largest (c.ofClass cls) fun x => c.chain cls (c.program.length + 1) x.1
    if q = 0 then 65535 else min 65535 ((5 * w + 4 * q - 1) / (4 * q) + l)

/-- What program admission answers (Table 9.4); `cfg` is the configuration with its entries homed. -/
structure Admit where
  fail     : Nat
  entry    : Nat := 65535
  cfg      : Cfg
  makespan : Nat
  budget   : Int
  sepNeed  : Nat
  planNeed : Nat
  window   : Int
  deriving DecidableEq, Repr

/-- Admission of the period program: structure (R264), homing and placement (R265), servo (R273), windows and the lower
classes (R274), in that order; the first failure gives ADMIT_FAIL. -/
def Cfg.admission (c0 : Cfg) (a : AdmitDie) : Admit :=
  let c := c0.homed a
  let out := fun (f e : Nat) =>
    ({ fail := f, entry := e, cfg := c, makespan := c.makespan a, budget := c.budget, sepNeed := c.need a 1,
       planNeed := c.need a 2, window := c.leastWindow a } : Admit)
  match c0.program.find? fun x => !c0.entryStructured x.1 x.2 with
  | some x => out 8 x.1
  | none =>
    match c.program.find? fun x => x.2.home.isNone || !(match x.2.home with
        | some h => c.placed h.val
        | none => false) with
    | some x => out 7 x.1
    | none =>
      if (List.range 4).any fun k => c.clusterReaches k 4 k then out 8 65535
      else if !c.servoAdmitted a then out 1 65535
      else match c.program.find? fun x => x.2.cls != 0 && (match x.2.home with
          | some h => decide (c.window a h.val < c.cost a x.2)
          | none => true) with
      | some x => out 9 x.1
      | none =>
        if c.rSep < c.need a 1 then out 3 65535
        else if c.rP < c.need a 2 then out 6 65535
        else out 0 65535

/-- LATENT's journal fits the period (R404). -/
def Cfg.latentFits (c : Cfg) : Bool :=
  decide (65536 + total c.program (fun p => (c.block p.2).stateBytes) ≤ 8 * c.periods.tS)

/-- What admission knows of a Trapeze die in its present state (R265, R273). -/
def Die.admitDie (x : Die) : AdmitDie where
  tTickPs := x.fuses.tTickPs
  cores := Vector.ofFn fun k : Fin 4 =>
    if x.removed.contains (0, k.val) then 0
    else 8 - (x.fenced.filter fun f => f.1 == 0 && f.2.1 == k.val && decide (f.2.2 < 8)).length
  lost := Vector.ofFn fun k : Fin 4 => x.removed.contains (0, k.val)

end Sys2Proof.Machine
end

