-- ==== Sys2Proof/Machine/Profiles.lean ====
section
/-! DEFINITION. Profile generators: the path state and its advance (R134..R148), limits and the soft-limit guard (R137..R141),
scales and stops (R149..R152), SOFT (R153), enable and disable (R154..R158), homing (R159..R161), standstill and the
following error (R162, R163). -/

namespace Sys2Proof.Machine

/-! ### Access -/

/-- Generator of a joint on a die. -/
def State.joint (s : State) (d : DieId) (j : Fin 64) : Joint := (s.die d).joints[j]

/-- Change one generator. -/
def State.onJoint (s : State) (d : DieId) (j : Fin 64) (f : Joint → Joint) : State :=
  s.onDie d fun x => { x with joints := x.joints.set j (f x.joints[j]) }

/-- Change one arm. -/
def State.onArm (s : State) (d : DieId) (a : Fin 8) (f : Arm → Arm) : State :=
  s.onDie d fun x => { x with arms := x.arms.set a (f x.arms[a]) }

/-- Committed configuration of a joint. -/
def Die.jointCfg (x : Die) (j : Fin 64) : CfgJointAll := x.cfg.joints[j]

/-- Target word of a joint. -/
def State.jointTarget (s : State) (j : Fin 64) : Word := s.target 1 j.val

/-- The arm of a joint, none for 0xFF. -/
def CfgJointAll.arm? (c : CfgJointAll) : Option (Fin 8) :=
  if h : c.joint.arm < 8 then some ⟨c.joint.arm, h⟩ else none

/-- Joints of an arm on a die, ascending. -/
def Die.armJoints (x : Die) (a : Fin 8) : List (Fin 64) := (List.finRange 64).filter fun j => (x.jointCfg j).arm? == some a

/-- Joints present in the variant (Table 0.1). -/
def State.jointPresent (s : State) (j : Nat) : Bool := decide (j < 64) && (decide (s.mw.fuses.variant < 2) || decide (j < 32))

/-- The joints in use: those a committed PF or TQ node serves (R166). -/
def Die.jointInUse (x : Die) (j : Fin 64) : Bool :=
  x.cfg.nodes.toList.any fun n => (n.format == 1 || n.format == 2) && n.joint == j.val

/-- The ring and position of the node that serves a joint. -/
def Cfg.nodeOf (c : Cfg) (j : Nat) : Option (Nat × Nat) :=
  match (List.range 128).find? fun i => let n := c.node (i / 16) (i % 16); (n.format == 1 || n.format == 2) && n.joint == j with
  | some i => some (i / 16, i % 16)
  | none => none

/-- Q_FB and V_EST as the control item wrote them (Table 8.6). -/
def Die.qFb (x : Die) (j : Fin 64) : Int := x.stores.exchange.int (256 * j.val + 0x80) 8
def Die.vEst (x : Die) (j : Fin 64) : Int := x.stores.exchange.int (256 * j.val + 0x88) 4

/-- INDEX_LATCH of the feedback part (Table 8.6). -/
def Die.indexLatch (x : Die) (j : Fin 64) : Nat := x.stores.exchange.nat (256 * j.val + 0x4C) 4

/-- Limits in force in units; zero limits where none are committed. -/
structure Lim where
  v : Rat
  a : Rat
  j : Rat
  aStop : Rat
  jStop : Rat
  deriving DecidableEq, Repr

def CfgJointAll.lim (c : CfgJointAll) : Lim :=
  match c.limits with
  | some l => ⟨velOf l.vMax, accOf l.aMax, jerkOf l.jMax, accOf l.aStop, jerkOf l.jStop⟩
  | none => ⟨0, 0, 0, 0, 0⟩

/-- A requested limit: 0 selects the committed one, a larger one is clamped (R142). -/
def pickLim (req : Int) (step committed : Rat) : Rat := if req = 0 then committed else min (req * step) committed

/-! ### The path state -/

/-- The path state in units. -/
def Joint.pva (x : Joint) : PVA := ⟨posOf x.q, velOf x.v, accOf x.a⟩

/-- The real state: q_set, v_set, a_set (R149). -/
def Joint.realPva (x : Joint) : PVA := ⟨posOf x.qSet, velOf x.vSet, accOf x.aSet⟩

/-- Hold a state in the formats of Table 0.7. -/
def Joint.hold (x : Joint) (s : PVA) : Joint :=
  { x with q := satInt 64 (toCode s.q posStep), v := satInt 32 (toCode s.v velStep), a := satInt 32 (toCode s.a accStep) }

/-- Start a plan that ends at rest at `endQ`. -/
def Joint.start (x : Joint) (l : List Seg) (endQ : Int) (real : Bool) : Joint :=
  { x with plan := l, endQ := endQ, pt := 0, real := real, deferArrival := false }

/-- The path of a stream is discarded (R149, R152, R170). -/
def Joint.leaveStream (x : Joint) : Joint := { x with points := [], tail := false, passing := false, plan1 := none }

/-- τ from the start of its stream: the 64 bits that R135 holds, and how often they have run over. -/
def Joint.tauAll (x : Joint) : Nat := x.tauLaps * 2 ^ 64 + x.tau

/-- τ goes on. -/
def Joint.tick (x : Joint) (dt : Nat) : Joint := { x with tau := (x.tau + dt) % 2 ^ 64, tauLaps := x.tauLaps + (x.tau + dt) / 2 ^ 64 }

/-- A motion that no request asks for: no requested value is above a limit (R140). -/
def Joint.unasked (x : Joint) : Joint := { x with reqV := 0, reqA := 0, reqJ := 0 }

/-- Hold in POINT mode at the present position. -/
def Joint.holdPoint (x : Joint) : Joint :=
  { x.leaveStream.unasked with mode := .point, plan := [], endQ := x.q, qT := x.q, pt := 0, real := false, v := 0, a := 0, homing := none, deferArrival := false }

/-- Plan toward `qT` by R142 with the requested and committed limits. -/
def Joint.planPoint (x : Joint) (l : Lim) : Joint :=
  x.start (pointPlan x.pva (posOf x.qT) (pickLim x.reqV velStep l.v) (pickLim x.reqA accStep l.a) (pickLim x.reqJ jerkStep l.j))
    x.qT false

/-- The stop profile from a state, and the position code at which it ends. -/
def stopFrom (s : PVA) (A J : Rat) : List Seg × Int :=
  let c := chainSegs s (stopProfile s.v s.a A J).1
  (c.1, satInt 64 (toCode c.2.q posStep))

/-- Follow the stop profile from the path state, time-scaled, and hold at its end in POINT mode (R170 MODE 3). -/
def Joint.stopPath (x : Joint) (A J : Rat) : Joint :=
  let r := stopFrom x.pva A J
  { (x.leaveStream.unasked.start r.1 r.2 false) with mode := .point, qT := r.2, homing := none }

/-- A stop ramp of R149 is running, of a stop or of the soft-limit guard. -/
def Joint.ramping (x : Joint) : Bool := x.real && (x.state == .stopping || x.state == .enabled)

/-- Ramp in real time from a real state given in codes. -/
def Joint.rampFrom (x : Joint) (q v a A J : Int) : Joint :=
  let y : Joint := { x.leaveStream with q := q, v := v, a := a, rampA := A }
  let r := stopFrom y.pva (accOf A) (jerkOf J)
  y.start r.1 r.2 true

/-- The joint stop ramp in real time (R149): σ taken as 1 and the path state becomes the real state. A ramp already
running with a harder deceleration goes on. -/
def Joint.ramp (x : Joint) (A J : Int) : Joint :=
  if x.ramping ∧ A ≤ x.rampA then x else x.rampFrom x.qSet x.vSet x.aSet A J

/-- Velocity profile toward `vT` (R146). -/
def Joint.planVelocity (x : Joint) (l : Lim) : Joint :=
  let A := pickLim x.reqA accStep l.a
  let J := pickLim x.reqJ jerkStep l.j
  let s := x.pva
  let segs :=
    if x.vT = 0 then (chainSegs s (stopProfile s.v s.a A J).1).1
    else (chainSegs s (changeProfile s.v s.a (velOf x.vT) A J)).1
  { (x.start segs 0 false) with mode := .velocity }

/-! ### One advance of the mode -/

/-- What an advance needs beside the generator: the joint's configuration, σ, σ̇ and T_s in ns. -/
structure AdvIn where
  cfg   : CfgJointAll
  sigma : Rat
  sigmaDot : Rat
  tS    : Nat
  deriving DecidableEq, Repr

/-- Limits in force. -/
def AdvIn.lim (i : AdvIn) : Lim := i.cfg.lim

/-- CATCH_OMEGA in rad/s. -/
def AdvIn.omega (i : AdvIn) : Rat :=
  match i.cfg.limits with
  | some l => (l.catchOmega : Rat) / 65536
  | none => 30

/-- σ·T_s in 2⁻³² ns. -/
def AdvIn.dTau (i : AdvIn) : Nat := (toCode (i.sigma * i.tS) (1 / 4294967296)).toNat

/-- Nanoseconds of a 32.32 time. -/
def ns32 (t : Nat) : Rat := (t : Rat) / 4294967296

/-- Advance along the plan; past its end the joint rests at `endQ` (R144). -/
def Joint.alongPlan (x : Joint) (dt : Nat) : Joint :=
  let x := { x with pt := x.pt + dt }
  match planAt x.plan (ns32 x.pt) with
  | some s => x.hold s
  | none => { x with q := x.endQ, v := 0, a := 0 }

/-- Advance in VELOCITY: the change, then constant velocity (R146). -/
def Joint.alongVelocity (x : Joint) (dt : Nat) : Joint :=
  let done := planNs x.plan
  let x1 := { x with pt := x.pt + dt }
  match planAt x.plan (ns32 x1.pt) with
  | some s => x1.hold s
  | none =>
    -- the part of the step that lies past the change runs at constant velocity
    let past := min (ns32 x1.pt - done) (ns32 dt)
    let atEnd : Rat := if ns32 x.pt < done then
        (match x.plan.getLast? with
         | some g => (g.start.after g.jerk (secs g.ns)).q
         | none => posOf x.q)
      else posOf x.q
    { (x1.hold ⟨atEnd + velOf x.vT * past / 1000000000, 0, 0⟩) with v := x.vT, a := 0 }

/-- The target state of a buffer of points at times in ns, with its jerk; none outside the points (R147). -/
def targetIn : List (Rat × PVA) → Rat → Option (PVA × Rat)
  | (t0, p0) :: (t1, p1) :: r, t =>
    if t0 ≤ t ∧ t ≤ t1 then some (hermite p0 p1 ((t1 - t0) / 1000000000) ((t - t0) / (t1 - t0)))
    else targetIn ((t1, p1) :: r) t
  | _, _ => none

/-- Points of the stream as times and states. -/
def Joint.streamPoints (x : Joint) (tS : Nat) : List (Rat × PVA) :=
  match x.source with
  | .host => x.points.map fun p => ((p.key * tS : Nat), ⟨posOf p.q, velOf p.v, accOf p.a⟩)
  | .juggler =>
    match x.plan1 with
    | some p => (List.range p.points.length).zipWith (fun k (q : PlanPoint) => ((k * p.hNs : Nat), ⟨q.q, q.v, q.a⟩)) p.points
    | none => []

/-- The tail of R119 `since` ns after the last point: from the state there to zero velocity with A_MAX and J_MAX, then rest; with its jerk. -/
def tailTarget (last : PVA) (since : Rat) (l : Lim) : PVA × Rat :=
  let c := chainSegs last (stopProfile last.v last.a l.a l.j).1
  match planAt c.1 since with
  | some s => (s, jerkAt c.1 since)
  | none => (⟨c.2.q, 0, 0⟩, 0)

/-- Host points that τ has passed leave the buffer; the one at or before τ stays, as the start of the running segment (R147). -/
def dropPassed (tS : Nat) (t : Rat) : List HostPoint → List HostPoint
  | p :: q :: r => if ((q.key * tS : Nat) : Rat) ≤ t then dropPassed tS t (q :: r) else p :: q :: r
  | l => l

/-- The output equals the target within one step of each format (R148). -/
def sameTarget (s t : PVA) : Bool :=
  decide (absQ (s.q - t.q) ≤ posStep) && decide (absQ (s.v - t.v) ≤ velStep) && decide (absQ (s.a - t.a) ≤ accStep)

/-- The catch law of R148; the second result says whether a clamp bound. -/
def catchStep (s t : PVA) (jT omega dt : Rat) (l : Lim) : PVA × Bool :=
  let j0 := jT + omega^3 * (t.q - s.q) + 3 * omega^2 * (t.v - s.v) + 3 * omega * (t.a - s.a)
  let j := clampQ j0 (-l.j) l.j
  let a0 := s.a + j * dt
  let a := clampQ a0 (-l.a) l.a
  let v0 := s.v + a * dt
  let v := clampQ v0 (-l.v) l.v
  let a' := if v0 = v then a else 0
  (⟨s.q + v * dt, v, a'⟩, decide (j0 ≠ j) || decide (a0 ≠ a) || decide (v0 ≠ v))

/-- The target at a time on a path of points with its tail (R147): the state, its jerk, and whether it lies past the last point. None without points. -/
def pathTarget (pts : List (Rat × PVA)) (l : Lim) (t : Rat) : Option ((PVA × Rat) × Bool) :=
  match targetIn pts t, pts.getLast? with
  | some r, _ => some (r, false)
  | none, some p => if p.1 < t then some (tailTarget p.2 (t - p.1) l, true) else some ((p.2, 0), false)
  | none, none => none

/-- Advance in STREAM mode (R147, R148); τ has advanced. The second result is true in the period in which a host stream runs out. Pass-through needs the last
output at the last target of the same path: the path as it now stands, so that points appended late, a plan switch that finds another state (`Joint.switchPlan`), limits that
change the tail and the end of a tail all go by the catch law. Without any point the target is a stop from the joint's own state. -/
def Joint.alongStream (x : Joint) (i : AdvIn) : Joint × Bool :=
  let pts := x.streamPoints i.tS
  let t := ns32 x.tauAll
  let found := pathTarget pts i.lim t
  let past := found.any fun r => r.2
  let under := past && !x.tail && x.source == .host
  let target : PVA × Rat := match found with
    | some r => r.1
    | none => tailTarget x.pva (i.sigma * i.tS) i.lim
  let dt := i.sigma * secs i.tS
  let s := x.pva
  let kept := decide (x.tauAll < i.dTau) || (pathTarget pts i.lim (ns32 (x.tauAll - i.dTau))).all fun r => sameTarget s r.1.1
  let jerk := if dt = 0 then 0 else (target.1.a - s.a) / dt
  let inLimits := decide (absQ target.1.v ≤ i.lim.v) && decide (absQ target.1.a ≤ i.lim.a) && decide (absQ jerk ≤ i.lim.j)
  let through := x.passing && !(x.tail && !past) && kept && inLimits
  let x := { x with tail := past, points := dropPassed i.tS t x.points }
  if through then ({ (x.hold target.1) with limited := false }, under)
  else
    let c := catchStep s target.1 target.2 i.omega dt i.lim
    if sameTarget c.1 target.1 then ({ (x.hold target.1) with passing := true, limited := c.2 }, under)
    else ({ (x.hold c.1) with passing := false, limited := c.2 }, under)

/-- The generator runs in real time (R135, R153): in SOFT and on the stop ramps. -/
def Joint.realTime (x : Joint) : Bool := x.real || x.state == .soft

/-- One advance of the candidate state by the joint's state and mode (R135, R153, R154). `meas` is the measured position. -/
def Joint.candidate (x : Joint) (i : AdvIn) (meas : Int) : Joint × Bool :=
  let dt := if x.realTime then i.tS * 4294967296 else i.dTau
  let x := x.tick dt
  match x.state with
  | .disabled | .enabling => ({ x with q := meas, v := 0, a := 0, plan := [], endQ := meas, qT := meas }, false)
  | .braking => ({ x with v := 0, a := 0 }, false)
  | .soft => (x.alongPlan dt, false)
  | .stopping | .enabled =>
    if x.real then (x.alongPlan dt, false)
    else match x.mode with
      | .point | .homing | .soft => (x.alongPlan dt, false)
      | .velocity => (x.alongVelocity dt, false)
      | .stream => x.alongStream i

/-- The real state of R135 that goes with a path state; real-time plans take σ as 1. -/
def Joint.realState (x : Joint) (i : AdvIn) : PVA :=
  if x.real then x.pva else ⟨posOf x.q, i.sigma * velOf x.v, i.sigmaDot * velOf x.v + i.sigma * i.sigma * accOf x.a⟩

/-- The set-point of R135. -/
def Joint.output (x : Joint) (i : AdvIn) : Joint :=
  let p := x.realState i
  { x with qSet2 := x.qSet1, qSet1 := x.qSet, qSet := x.q, vSet := satInt 32 (toCode p.v velStep), aSet := satInt 32 (toCode p.a accStep) }

/-- A stop ramp at A_STOP and J_STOP from a real state would pass a soft limit (R141). -/
def guardBinds (c : CfgLimits) (s : PVA) : Bool :=
  let e := (dispOf s (stopProfile s.v s.a (accOf c.aStop) (jerkOf c.jStop)).1).q
  let m := motionSign s
  (m = 1 && decide (posOf c.qMax < e)) || (m = -1 && decide (e < posOf c.qMin))

/-- The soft-limit guard (R141) on a candidate state; the second result says that it acted. It looks at the state the joint would have one period later, σ
standing as it does. A ramp at A_STOP or harder is what it would start, and goes on; a joint in SOFT leaves it, for POINT is a mode of ENABLED. DEDUCED. -/
def Joint.guard (x : Joint) (i : AdvIn) : Joint × Bool :=
  match i.cfg.limits with
  | none => (x, false)
  | some l =>
    let moves := x.state == .soft || x.state == .enabled || x.state == .stopping
    if x.homed && x.mode != .homing && moves && !(x.ramping && decide (l.aStop ≤ x.rampA)) && guardBinds l ((x.candidate i x.q).1.realState i) then
      let y := x.hold (x.realState i)
      let z := y.rampFrom y.q y.v y.a l.aStop l.jStop
      ({ z with mode := .point, qT := z.endQ, softLimit := true, state := if x.state = .soft then .enabled else x.state }, true)
    else (x, false)

/-- The running plan has ended. -/
def Joint.planEnded (x : Joint) : Bool := decide ((planNs x.plan : Rat) ≤ ns32 x.pt)

/-- A limit binds in the period (R140): a requested value above the committed one while the plan that needs it runs, the target velocity of VELOCITY
while it is held below the request, a homing velocity or A_HOME above the committed one while its move runs (R159), a clamp of the catch law. -/
def Joint.limitBinds (x : Joint) (i : AdvIn) : Bool :=
  let above := match i.cfg.limits with
    | some l => (decide (l.vMax < x.reqV), decide (l.aMax < x.reqA) || decide (l.jMax < x.reqJ))
    | none => (false, false)
  match x.mode with
  | .point => (above.1 || above.2) && !x.planEnded
  | .velocity => decide ((x.vT.natAbs : Int) < x.reqV) || (above.2 && !x.planEnded)
  | .stream => x.limited
  | .homing => x.homing.isSome && !x.planEnded && (match i.cfg.limits with
    | some l => decide (l.vMax < (if x.homing.any fun h => h.phase == .fast || h.phase == .decel then i.cfg.homing.vFast else i.cfg.homing.vCreep)) ||
        decide (l.aMax < i.cfg.homing.aHome)
    | none => false)
  | _ => false

/-- The flags of R140 and R145 after an advance, and the end of a guard's ramp. -/
def Joint.settle (x : Joint) (i : AdvIn) : Joint :=
  { x with
    limited := x.limitBinds i && !x.real && (x.state == .enabled || x.state == .stopping),
    real := x.real && !(x.planEnded && x.state == .enabled),
    deferArrival := x.deferArrival && !x.planEnded,
    limitDeferred := x.limitDeferred && (match i.cfg.limits with
      | some l => decide (l.vMax < (x.v.natAbs : Int))
      | none => false) }

/-- What an advance has to report: the host stream ran out, the guard acted. -/
structure AdvEvents where
  underrun : Bool
  softLimit : Bool
  deriving DecidableEq, Repr

/-- One period of a generator by itself (R135..R148). -/
def Joint.advance (x : Joint) (i : AdvIn) (meas : Int) : Joint × AdvEvents :=
  let r := x.candidate i meas
  let g := r.1.guard i
  ((g.1.settle i).output i, ⟨r.2, g.2⟩)

/-! ### Stops and disable -/

/-- Arrival in DISABLED in period `b`: torque off, brake engaged, HOMED cleared (R154, R159); a deferred enable waits for the period after (R157). -/
def Joint.arriveDisabled (b : Nat) (x : Joint) : Joint :=
  { x.leaveStream with
    state := .disabled, torqueOff := true, driveEnable := false, brakeRelease := false, homed := false, real := false,
    plan := [], toDisabled := false, homing := none, limited := false, limitDeferred := false, deferArrival := false, armStop := false, v := 0, a := 0,
    softStart := false, enabledBy := none, deferredB := if x.deferred.isSome then some b else none }

/-- The joint ends DISABLED at once. A deferred enable that was running in ENABLING is recorded as cancelled with cause 7 (Table 15.2); `byTag` is the TAG of a
`JOINT_DISABLE`. An enable that was not deferred has had its reply and leaves no record. DESIGN CHOICE. -/
def State.endDisabled (s : State) (d : DieId) (j : Fin 64) (byTag : Nat := 0xFFFF) : State :=
  let x := s.joint d j
  let s := match x.enabledBy with
    | some tag => if x.state = JState.enabling then s.record d 0x122 (s.jointTarget j) (le 2 tag ++ le 2 byTag ++ le 1 7) else s
    | none => s
  s.onJoint d j (Joint.arriveDisabled s.mw.b)

/-- Homing ended by a stop, a disable or a new motion command raises HOMING_FAILED with cause 5 (R161). -/
def State.abortHoming (s : State) (d : DieId) (j : Fin 64) : State :=
  if (s.joint d j).homing.isSome then
    let s := s.onJoint d j fun x => { x with homing := none, homed := false, homingResult := 5 }
    s.raise d 38 (s.jointTarget j) [5]
  else s

/-- ENABLE_CANCELLED of Table 15.2. -/
def State.cancelDeferred (s : State) (d : DieId) (j : Fin 64) (byTag cause : Nat) : State :=
  match (s.joint d j).deferred with
  | none => s
  | some (tag, _) =>
    let s := s.record d 0x122 (s.jointTarget j) (le 2 tag ++ le 2 byTag ++ le 1 cause)
    s.onJoint d j fun x => { x with deferred := none, deferredB := none }

/-- A joint stop of a category with the ramp's deceleration and jerk (Table 5.3, R151). The mode stays what it was: POINT comes with the hold at the end
of a Category 2 ramp. -/
def State.jointStop (s : State) (d : DieId) (j : Fin 64) (cat : Nat) (A J : Int) : State :=
  match (s.joint d j).state with
  | .disabled => s
  | .enabling => if cat = 2 then s else s.endDisabled d j
  | .braking => if cat = 0 then s.endDisabled d j else s
  | _ =>
    let s := s.abortHoming d j
    if cat = 0 then s.endDisabled d j
    else s.onJoint d j fun x =>
      let already := x.state = .stopping ∧ x.toDisabled
      { (x.ramp A J) with state := .stopping, toDisabled := decide already || cat == 1 }

/-- The brake engages: BRAKING (Table 5.4). -/
def State.engageBrake (s : State) (d : DieId) (j : Fin 64) : State :=
  s.onJoint d j fun x =>
    { x.leaveStream with state := .braking, brakeRelease := false, timerNs := s.now, v := 0, a := 0, real := false, plan := [], endQ := x.q }

/-- A fault stop after lost or frozen feedback (R197): a TQ joint brakes at once, a PF joint runs its ramp from the last extrapolated state; Category 2 ends as
Category 1. -/
def State.untrustedStop (s : State) (d : DieId) (j : Fin 64) (tq : Bool) (l : CfgLimits) : State :=
  let x := s.joint d j
  if x.state = .disabled ∨ x.state = .braking then s
  else
    let s := s.abortHoming d j
    if tq then s.engageBrake d j
    else
      let q := (s.die d).qFb j
      let v := (s.die d).vEst j
      s.onJoint d j fun x =>
        { (if x.ramping ∧ l.aStop ≤ x.rampA then x else x.rampFrom q v 0 l.aStop l.jStop) with state := .stopping, toDisabled := true }

/-- A stop goes on from the measured state (R406): a STOPPING joint on a ramp, as hard as the one it ran, or at A_MAX and J_MAX where it stopped along its path;
a BRAKING joint where it stands. -/
def State.measuredStop (s : State) (d : DieId) (j : Fin 64) : State :=
  let q := (s.die d).qFb j
  let v := (s.die d).vEst j
  match ((s.die d).jointCfg j).limits with
  | some l => s.onJoint d j fun x =>
      if x.state = .stopping then
        let hard := decide (l.aStop ≤ x.rampA) && x.real
        x.rampFrom q v 0 (if hard then l.aStop else l.aMax) (if hard then l.jStop else l.jMax)
      else { x with q := q, endQ := q }
  | none => s

/-- A fault stop (R151): FAULT and FAULT_CAUSE latched by the first fault, the joint's FAULT_STOP category with A_STOP and J_STOP. -/
def State.faultStop (s : State) (d : DieId) (j : Fin 64) (cause : Nat) : State :=
  let c := (s.die d).jointCfg j
  let untrusted := cause = 3 ∨ cause = 4
  let cat := c.joint.faultStop - 1
  let s := s.onJoint d j fun x => { x with fault := true, faultCause := if x.fault then x.faultCause else cause, homed := false }
  match (s.joint d j).state, c.limits with
  | .enabling, _ => s.endDisabled d j
  | _, some l => if untrusted ∧ cat ≠ 0 then s.untrustedStop d j c.control.tq l else s.jointStop d j cat l.aStop l.jStop
  | _, none => s.jointStop d j 0 0 0

/-- A joint stop by command, with A_MAX and J_MAX (R151). -/
def State.commandStop (s : State) (d : DieId) (j : Fin 64) (cat : Nat) : State :=
  match ((s.die d).jointCfg j).limits with
  | some l => s.jointStop d j cat l.aMax l.jMax
  | none => s.jointStop d j 0 0 0

/-- An arm stop reaching one joint (Table 5.3, R151, R152). `sep` marks a separation request. -/
def State.armStopJoint (s : State) (d : DieId) (cat : Nat) (sep : Bool) (j : Fin 64) : State :=
  let x := s.joint d j
  let mark := fun (s : State) => if sep && cat == 1 then s.onJoint d j fun x => { x with faultCause := if x.fault then x.faultCause else 7 } else s
  match x.state with
  | .disabled => s
  | .enabling => if cat = 2 then s else mark (s.endDisabled d j)
  | .braking => if cat = 0 then s.endDisabled d j else s
  | .soft => if cat = 0 then s.endDisabled d j
             else if cat = 1 then mark (s.commandStop d j 1)
             else s.onJoint d j fun x => { x with armStop := true }
  | .stopping => if cat = 0 then s.endDisabled d j
                 else if cat = 1 then mark (s.onJoint d j fun x => { x with toDisabled := true, armStop := true })
                 else s
  | .enabled => if cat = 0 then (s.abortHoming d j).endDisabled d j
                else if cat = 1 then mark ((s.abortHoming d j).onJoint d j fun x => { x with state := .stopping, toDisabled := true, armStop := true })
                else s.onJoint d j fun x => { x with armStop := true }

/-- An arm stop by `JOINT_STOP` (R151, R152): Category 0 acts in the next set-point, 1 and 2 through σ_host. -/
def State.hostArmStop (s : State) (d : DieId) (a : Fin 8) (cat : Nat) : State :=
  let s := if cat = 0 then s else s.onArm d a fun x =>
    { x with hostStop := some (match x.hostStop with
      | some c => min c cat
      | none => cat) }
  ((s.die d).armJoints a).foldl (fun s j => s.armStopJoint d cat false j) s

/-- `JOINT_DISABLE` on one joint (R156); `tag` is the command's. -/
def State.disableJoint (s : State) (d : DieId) (j : Fin 64) (tag : Nat) : State :=
  let s := s.cancelDeferred d j tag 0
  match (s.joint d j).state with
  | .disabled => s
  | .enabling | .soft => s.endDisabled d j tag
  | .enabled => s.commandStop d j 1
  | .stopping | .braking => s.onJoint d j fun x => { x with toDisabled := true }

/-- The Curtain on one die (R414): every joint DISABLED, deferred enables cancelled. -/
def State.curtainJoints (s : State) (d : DieId) : State :=
  (List.finRange 64).foldl (fun s j =>
    let s := s.cancelDeferred d j 0xFFFF 4
    if (s.joint d j).state = .disabled then s else (s.abortHoming d j).endDisabled d j) s

/-! ### Enable -/

/-- A separation stop request of Category 0 or 1 stands for the joint's arm (R222). -/
def Die.sepBlocks (x : Die) (j : Fin 64) : Bool :=
  match (x.jointCfg j).arm? with
  | some a => match (x.arms[a]).sepStop with
    | some (c, _) => decide (c ≤ 1)
    | none => false
  | none => false

/-- The joint's ring carries a `RING_STOP` code (R326). -/
def Die.ringBlocks (x : Die) (j : Fin 64) : Bool := match x.cfg.nodeOf j.val with
  | some (r, _) => x.ringCode[r % 8]'(Nat.mod_lt _ (by decide)) != 0
  | none => false

/-- Why a `JOINT_ENABLE` would be refused now: the causes of ENABLE_CANCELLED (Table 15.2); `jog` is whether the jog
conditions hold where they are asked (R472), `debug` whether a FULL debug session is open (R481). -/
def State.enableRefused (s : State) (d : DieId) (j : Fin 64) (clear : Bool) (jog : Bool) : Option Nat :=
  let x := s.die d
  let c := x.jointCfg j
  if (x.joints[j]).fault && !clear then some 1
  else if x.sepBlocks j then some 2
  else if x.ringBlocks j then some 3
  else if s.curtained then some 4
  else if c.limits.isNone || decide (c.control.torqueMax ≤ 0) then some 5
  else if !jog || s.mw.dbgPort.unlocked == 2 then some 6
  else none

/-- Step 1 of R155; `deferred` is the TAG of the deferred enable that executes. Torque is requested here and on with the drive's ready flag (Table 5.4).
Feedback that was lost before is waited for at step 4 (R195), so that CTRL_FLAGS starts without FEEDBACK_LOST. -/
def State.startEnable (s : State) (d : DieId) (j : Fin 64) (clear : Bool) (deferred : Option Nat := none) : State :=
  (s.onJoint d j fun x =>
    { x with state := .enabling, driveEnable := true, torqueOff := true, softWait := none, timerNs := s.now, deferred := none, deferredB := none, enabledBy := deferred,
             faultSeen := 0, fault := x.fault && !clear, faultCause := if clear then 0 else x.faultCause, toDisabled := false, softLimit := false,
             ctl := { x.ctl with lost := false } }).onDie d fun x =>
    let a := 256 * j.val + 0x90
    { x with stores := { x.stores with exchange := x.stores.exchange.write a (x.stores.exchange.read a &&& 0xFB) } }

/-- Entry into SOFT from the measured position and velocity (R153); a plan or a stream followed till then is left (R132). -/
def State.enterSoft (s : State) (d : DieId) (j : Fin 64) : State :=
  let c := (s.die d).jointCfg j
  let l := c.lim
  let f : Rat := (c.joint.softFraction : Rat) / 65535
  let q := (s.die d).qFb j
  let v := (s.die d).vEst j
  s.onJoint d j fun x =>
    let p : PVA := ⟨posOf q, velOf v, 0⟩
    let r := stopFrom p (f * l.a) (f * l.j)
    { (x.leaveStream.start r.1 r.2 true) with
      state := .soft, mode := .soft, q := q, v := v, a := 0, timerNs := s.now, softStart := true, torqueOff := false,
      driveEnable := true, brakeRelease := true, homing := none, enabledBy := none }

/-- End of SOFT: POINT mode with q_T := q (R153). -/
def Joint.leaveSoft (x : Joint) : Joint :=
  { (x.holdPoint) with state := .enabled, softStart := false, jogNs := x.jogNs }

/-! ### Homing -/

/-- The committed homing parameters clamped to the limits (R159): V_FAST, V_CREEP, A_HOME in units and J_MAX. -/
def CfgJointAll.homeV (c : CfgJointAll) (fast : Bool) : Rat := min (velOf (if fast then c.homing.vFast else c.homing.vCreep)) c.lim.v
def CfgJointAll.homeA (c : CfgJointAll) : Rat := min (accOf c.homing.aHome) c.lim.a

/-- Move of homing at a velocity in a direction, without end (R159). -/
def Joint.homeRun (x : Joint) (c : CfgJointAll) (fast up : Bool) (ph : HPhase) : Joint :=
  let v := c.homeV fast
  let vt := if up then v else -v
  let s := x.pva
  let far : Rat := if up then 2147483647 else -2147483647
  let change := chainSegs s (changeProfile s.v s.a vt c.homeA c.lim.j)
  let cruise : Seg := { start := ⟨change.2.q, vt, 0⟩, jerk := 0, ns := 2 ^ 64 }
  { (x.start (change.1 ++ [cruise]) (toCode far posStep) false) with
    mode := .homing, homing := x.homing.map fun h => { h with phase := ph, up := up } }

/-- Decelerate at A_HOME and stay in the phase given (R159, R161). -/
def Joint.homeSlow (x : Joint) (c : CfgJointAll) : Joint :=
  let r := stopFrom x.pva c.homeA c.lim.j
  x.start r.1 r.2 false

/-- Back off by BACKOFF against the direction (Table 5.6). -/
def Joint.homeBack (x : Joint) (c : CfgJointAll) (up : Bool) (ph : HPhase) : Joint :=
  let t := if up then x.q - c.homing.backoff else x.q + c.homing.backoff
  let segs := pointPlan x.pva (posOf t) (c.homeV false) c.homeA c.lim.j
  { (x.start segs t false) with homing := x.homing.map fun h => { h with phase := ph } }

/-- Homing failed with a cause (R161): decelerate at A_HOME and hold in POINT mode. -/
def State.homingFails (s : State) (d : DieId) (j : Fin 64) (cause : Nat) : State :=
  let c := (s.die d).jointCfg j
  let s := s.onJoint d j fun x =>
    let y := x.homeSlow c
    { y.unasked with mode := .point, qT := y.endQ, homing := none, homed := false, homingResult := cause }
  s.raise d 38 (s.jointTarget j) [BitVec.ofNat 8 cause]

/-- The feedback's part of a change of HOME_SHIFT (R159, R178): the last positions move with it. -/
def Control.shift (c : Control) (n : Int) : Control := { c with qFb := c.qFb + n, qLast := c.qLast + n }

/-- The generator's part of a success: every held position shifted, POINT mode, where a joint that still creeps decelerates at A_HOME and holds where that ends (R159). DEDUCED: the
spec gives homing moves that deceleration, and steps no path velocity. -/
def Joint.homedAt (x : Joint) (c : CfgJointAll) (shift : Int) : Joint :=
  let y : Joint := { x.leaveStream.unasked with
    q := x.q + shift, qSet := x.qSet + shift, qSet1 := x.qSet1 + shift, qSet2 := x.qSet2 + shift, homed := true, homingResult := 0x80, homing := none,
    homeShift := x.homeShift + shift, ctl := x.ctl.shift shift }
  let z := y.homeSlow c
  { z with mode := .point, qT := z.endQ }

/-- Homing succeeded: the position `event` of the home event reads HOME_POSITION from now on (R159). -/
def State.homingDone (s : State) (d : DieId) (j : Fin 64) (event : Int) : State :=
  let shift := ((s.die d).jointCfg j).homing.homePosition - event
  let c := (s.die d).jointCfg j
  let s := s.onJoint d j fun x => x.homedAt c shift
  let s := s.onDie d fun x =>
    { x with stores := { x.stores with
        exchange := x.stores.exchange.writeN (256 * j.val + 0x80) (leInt 8 (x.qFb j + shift)) } }
  s.raise d 37 (s.jointTarget j) []

/-- What follows by itself in a homing once a move has ended (Table 5.6): the back-off after the approach, a further one while the switch is still reached, and
after the retreat of method 3 the end, with the shift that makes the home event read HOME_POSITION. -/
def Joint.homeNext (x : Joint) (c : CfgJointAll) : Joint × Option Int :=
  match x.homing with
  | none => (x, none)
  | some h =>
    match h.phase with
    | .decel => (if x.planEnded then x.homeBack c h.up .backoff else x, none)
    | .backoff => (if x.planEnded && (x.switches[(0 : Fin 3)]).level then x.homeBack c h.up .backoff else x, none)
    | .retreat => (x, if x.planEnded then some (c.homing.homePosition - h.reachedQ) else none)
    | _ => (x, none)

/-- Start of `HOME` by its method (Table 5.6). -/
def State.startHoming (s : State) (d : DieId) (j : Fin 64) : State :=
  let c := (s.die d).jointCfg j
  let up := c.homing.direction == 1
  let s := s.onJoint d j fun x =>
    { x with homed := false, homingResult := 0,
             homing := some { phase := .fast, up := up, startQ := x.q, startNs := s.now, seenNs := s.now } }
  match c.homing.method with
  | 1 | 2 => s.onJoint d j fun x => x.homeRun c true up .fast
  | 3 => s.onJoint d j fun x => x.homeRun c false up .push
  | 4 => s.onJoint d j fun x => { x with mode := .homing, plan := [], endQ := x.q, pt := 0, real := false, homing := x.homing.map fun h => { h with phase := .event } }
  | _ => s.homingDone d j (s.joint d j).q

/-! ### Scales -/

/-- Move toward a target by at most `down` or `up` (R150). -/
def approach (x target down up : Rat) : Rat :=
  if target < x then max target (x - down) else min target (x + up)

/-- σ_t of an arm (R150). A Category 1 separation stop whose request has been released goes on to σ = 0, for its joints end DISABLED (R152). DEDUCED. -/
def Arm.target (a : Arm) : Rat :=
  let sep : Rat := (a.sep : Rat) / 65535
  let host : Rat := if a.hostStop.isSome then 0 else 1
  let stop : Rat := match a.sepStop with
    | some (c, _) => if c = 0 then 1 else 0
    | none => if a.stopping then 0 else 1
  min sep (min host stop)

/-- One period's change of σ (R150). -/
def Arm.step (a : Arm) (c : CfgArm) (tS : Nat) : Arm :=
  let down : Rat := (c.rateDown : Rat) / 65536 * secs tS
  let up : Rat := (c.rateUp : Rat) / 65536 * secs tS
  { a with sigmaPrev := a.sigma, sigma := approach a.sigma a.target down up }

/-- σ and σ̇ of a joint: its arm's, or 1 and 0 (R135). -/
def Die.sigmaOf (x : Die) (j : Fin 64) : Rat × Rat :=
  match (x.jointCfg j).arm? with
  | some a => ((x.arms[a]).sigma, ((x.arms[a]).sigma - (x.arms[a]).sigmaPrev) / secs (max x.cfg.periods.tS 1))
  | none => (1, 0)

/-- What the advance of a joint takes from its die. -/
def Die.advIn (x : Die) (j : Fin 64) : AdvIn :=
  { cfg := x.jointCfg j, sigma := (x.sigmaOf j).1, sigmaDot := (x.sigmaOf j).2, tS := x.cfg.periods.tS }

/-- σ as u16, 65,535 = 1. -/
def sigmaCode (r : Rat) : Nat := (toCode r (1 / 65535)).toNat

/-! ### Standstill and status -/

/-- q' = 0 and q'' = 0 and σ does not change (R162). -/
def Joint.still (x : Joint) (sigmaDot : Rat) : Bool := x.v == 0 && x.a == 0 && decide (sigmaDot = 0)

/-- A joint is moving for the motion rules of R57 and R34: neither DISABLED nor at standstill (R162). -/
def Joint.moving (x : Joint) (sigmaDot : Rat) : Bool := x.state != .disabled && !x.still sigmaDot

/-- Any joint enabled (R34, R334). -/
def Die.anyEnabled (x : Die) : Bool := x.joints.toList.any fun j => j.state != .disabled

/-- FLAGS of `JOINT_STATUS` (Table 5.16). -/
def Joint.flagBits (x : Joint) : Nat :=
  packBits [x.limited, x.limitDeferred || x.deferArrival, x.homed, x.stillNs.isSome, x.reducedHold, x.softLimit, x.tail, x.deferred.isSome, x.fault, x.armStop]

/-- GEN_FLAGS of the exchange block (Table 8.6). -/
def Joint.genFlags (x : Joint) (torqueHoming : Bool) : Nat :=
  packBits [x.softStart, x.state == .soft, x.reducedHold, torqueHoming, x.torqueOff, x.driveEnable, x.brakeRelease]

/-- The generator part of the exchange block (Table 8.6). -/
def State.writeGenerator (s : State) (d : DieId) (j : Fin 64) : State :=
  s.onDie d fun x =>
    let g := x.joints[j]
    let c := x.jointCfg j
    let sg := (x.sigmaOf j).1
    let torqueHoming := g.mode == .homing && c.homing.method == 3 && (match g.homing with
      | some h => h.phase == .push
      | none => false)
    let hold : Nat := if g.reducedHold then c.standstill.fraction else 65535
    let homeLim : Nat :=
      if torqueHoming && decide (0 < c.control.torqueMax) then
        min 65535 (65535 * c.homing.torqueLimit / c.control.torqueMax).toNat
      else 65535
    let elapsed := if g.state = .soft then s.now - g.timerNs else 0
    { x with stores := { x.stores with
        exchange := x.stores.exchange.writeN (256 * j.val)
          (leInt 8 g.qSet ++ leInt 4 g.vSet ++ leInt 4 g.aSet ++ le 2 (sigmaCode (if g.real then 1 else sg)) ++ le 1 g.state.code ++
           le 1 g.mode.code ++ le 2 (g.genFlags torqueHoming) ++ le 2 (min hold homeLim) ++ le 4 elapsed) } }

end Sys2Proof.Machine
end

