-- ==== Sys2Proof/Machine/Generator.lean ====
section
/-! DEFINITION. The events of the profile generators: the advance of a period and the timers of enable, SOFT, stops,
homing, standstill and jog. Where a row's own condition does not hold, nothing happens. -/

namespace Sys2Proof.Machine

/-- A step to a next state. -/
abbrev Result := Host.Outcome State Fault Refusal

/-! ### Homing inside an advance -/

/-- Level of a switch source (Table 5.15): a filtered field input or an input bit of the joint's node. -/
def State.switchLevel (s : State) (d : DieId) (j : Fin 64) (src : Nat) : Option Bool :=
  match bits src 7 6 with
  | 1 => some (s.mw.field.latched.getLsbD (bits src 4 0))
  | 2 =>
    match (s.die d).cfg.nodeOf j.val with
    | some (r, p) => some (bit ((s.die d).stores.inMirror.read (64 * (16 * r + p) + 2)).toNat (bits src 4 0))
    | none => none
  | _ => none

/-- Take a sample of a switch: an edge restarts its time and is kept among the newest 256 edges. -/
def SwitchTrack.sample (t : SwitchTrack) (active : Bool) (now : Nat) : SwitchTrack :=
  if active = t.level then t else { level := active, since := now, edges := (now :: t.edges).take 256 }

/-- Sample the home and limit switches of a joint (R160, R161). -/
def State.sampleSwitches (s : State) (d : DieId) (j : Fin 64) : State :=
  let c := ((s.die d).jointCfg j).homing
  let go := fun (k : Fin 3) (src : Nat) (low : Bool) (s : State) =>
    match s.switchLevel d j src with
    | none => s
    | some l => s.onJoint d j fun x => { x with switches := x.switches.set k ((x.switches[k]).sample (l != low) s.now) }
  go 2 c.limNeg c.limActiveLow (go 1 c.limPos c.limActiveLow (go 0 c.homeSrc c.homeActiveLow s))

/-- The direction in which a homing moves: the back-off and the retreat run against it (Table 5.6). -/
def Homing.moveUp (h : Homing) : Bool := h.up != (h.phase == .backoff || h.phase == .retreat)

/-- A limit switch against the motion has become active since it was last looked at (R161 cause 2). -/
def Joint.wrongLimit (x : Joint) (h : Homing) : Bool :=
  let t := x.switches[(if h.moveUp then 2 else 1 : Fin 3)]
  t.level && decide (h.seenNs < t.since)

/-- The home switch has more than CHATTER_EDGES edges of this homing in CHATTER_WINDOW_NS (R161 cause 1). -/
def Joint.chatters (x : Joint) (h : Homing) (c : CfgHoming) (now : Nat) : Bool :=
  let recent := (x.switches[(0 : Fin 3)]).edges.filter fun t => decide (now - t ≤ c.chatterWindowNs) && decide (h.startNs ≤ t)
  decide (c.method ≤ 2) && decide (c.chatterEdges < recent.length)

/-- What fails a homing in a period (R161): its home event has not come, but for cause 2. -/
def Joint.homingFault (x : Joint) (h : Homing) (c : CfgHoming) (now : Nat) : Option Nat :=
  let moves := decide (c.method ≤ 3)
  let searching := moves && h.phase != .retreat
  if searching && x.chatters h c now then some 1
  else if moves && x.wrongLimit h then some 2
  else if searching && decide (c.maxTravel < h.travel) then some 3 else none

/-- The dwell of method 3 (Table 5.6): since when the torque has stood at its threshold and the joint nearly still. -/
def Homing.dwells (h : Homing) (c : CfgHoming) (torque v : Int) (now : Nat) : Homing :=
  let held := decide (c.torqueThreshold ≤ (torque.natAbs : Int)) && decide (8 * (v.natAbs : Int) < c.vCreep)
  if h.phase = .push then { h with dwell := if held then (match h.dwell with
    | some t => some t
    | none => some now) else none } else h

/-- Homing checks and phase changes of a period (R159..R161); `q0` is the position before the advance. -/
def State.homingAdvance (s : State) (d : DieId) (j : Fin 64) (q0 : Int) : State :=
  match (s.joint d j).homing with
  | none => s
  | some h =>
    let c := (s.die d).jointCfg j
    let x := s.joint d j
    let h1 := ({ h with travel := h.travel + (x.q - q0).natAbs } : Homing).dwells c.homing
      ((s.die d).stores.exchange.int (256 * j.val + 0x48) 4) ((s.die d).vEst j) s.now
    match x.homingFault h1 c.homing s.now with
    | some cause => s.homingFails d j cause
    | none =>
      let r := ({ x with homing := some { h1 with seenNs := s.now } } : Joint).homeNext c
      let s := s.onJoint d j fun _ => r.1
      match r.2 with
      | some _ => s.homingDone d j h.reachedQ
      | none => s

/-! ### The advance -/

/-- Fault conditions of the drive and of the feedback as bits: drive fault, feedback lost, feedback frozen (R151, R195, R196, R249). Feedback counts only while
the joint is not DISABLED. -/
def Die.faultConditions (x : Die) (j : Fin 64) : Nat :=
  let fb := (x.stores.exchange.read (256 * j.val + 0x51)).toNat
  let ctl := (x.stores.exchange.read (256 * j.val + 0x90)).toNat
  let live := (x.joints[j]).state != .disabled
  packBits [bit fb 4, bit ctl 2 && live, bit ctl 3 && live]

/-- The checks an advance makes before it moves: each fault condition makes its fault stop as it arises, and the following error is taken (R151,
R163, R249). -/
def State.advanceChecks (s : State) (d : DieId) (j : Fin 64) : State :=
  let now_ := (s.die d).faultConditions j
  let seen := (s.joint d j).faultSeen
  let new := fun (k : Nat) => bit now_ k && !bit seen k
  let s := s.onJoint d j fun x => { x with faultSeen := now_ }
  let s := if new 0 then s.faultStop d j 6 else s
  let s := if new 1 then s.faultStop d j 3 else s
  let s := if new 2 then s.faultStop d j 4 else s
  let holding := bit ((s.die d).stores.exchange.read (256 * j.val + 0x90)).toNat 0
  let c := ((s.die d).jointCfg j).following
  let x := s.joint d j
  let e := x.qSet2 - (s.die d).qFb j
  let window := if x.stillNs.isSome then c.windowStandstill else c.windowMoving
  let beyond := decide (0 < window) && decide (window < (e.natAbs : Int)) && !holding
  s.onJoint d j fun x =>
    { x with err := e, errNs := if beyond then (match x.errNs with
      | some t => some t
      | none => some s.now) else none }

/-- The value of `EXT_TORQUE` in force at period `k` takes the place of the old one once its boundary has come (R187). -/
def Joint.settleExt (x : Joint) (k : Nat) : Joint :=
  match x.extNext with
  | some e => if e.bS ≤ k then { x with ext := e, extNext := none, extStale := false } else x
  | none => x

/-- Standstill after an advance (R162): since when, and the reduced hold that the first set-point off it ends. -/
def Joint.standstill (x : Joint) (sigmaDot : Rat) (now : Nat) : Joint :=
  let still := x.still sigmaDot
  { x with
    stillNs := if still then (match x.stillNs with
      | some t => some t
      | none => some now) else none,
    reducedHold := x.reducedHold && still }

/-- One period of one generator (R135..R148, R162, R163). -/
def State.advance (s : State) (d : DieId) (j : Fin 64) : State :=
  let s := (s.advanceChecks d j).sampleSwitches d j
  let i := (s.die d).advIn j
  let x := s.joint d j
  let r := x.advance i ((s.die d).qFb j)
  let s := s.onJoint d j fun _ => { ((r.1.standstill i.sigmaDot s.now).settleExt s.mw.b) with advB := some s.mw.b }
  let s := if r.2.underrun then s.raise d 35 (s.jointTarget j) [] else s
  let s := if r.2.softLimit then s.raise d 34 (s.jointTarget j) [] else s
  let s := if (s.joint d j).mode = .homing then s.homingAdvance d j x.q else s
  (s.writeGenerator d j).onJoint d j fun x => { x with softStart := false }

/-- A die computes this period: live, not a LATENT Catcher (R391, R403), and past the switch of a commit at this boundary (R53). -/
def State.computes (s : State) (d : DieId) : Bool :=
  (s.die d).works && !(s.die d).partner.latentGated && !(s.die d).opening

/-! ### Enable -/

/-- DRIVE_READY (R155 step 3): the drive's ready flag while ENABLING releases the brake. -/
def execDriveReady (d : DieId) (j : Fin 64) (s : State) : Result :=
  let x := s.joint d j
  let ready := bit ((s.die d).stores.exchange.read (256 * j.val + 0x51)).toNat 5
  if (s.die d).works && x.state == .enabling && !x.brakeRelease && ready then
    .next (s.onJoint d j fun x => { x with brakeRelease := true, torqueOff := false, timerNs := s.now })
  else .next s

/-- ENABLE_TIMEOUT (R155 step 2). -/
def execEnableTimeout (d : DieId) (j : Fin 64) (s : State) : Result :=
  let x := s.joint d j
  let c := (s.die d).jointCfg j
  if (s.die d).works && x.state == .enabling && !x.brakeRelease && decide (x.timerNs + c.joint.enableTimeoutNs ≤ s.now) then
    .next ((s.faultStop d j 5).raise d 36 (s.jointTarget j) [])
  else .next s

/-- The joint's feedback of the period is fresh, as its control item left it (R194, R195). -/
def Joint.feedbackFresh (x : Joint) : Bool := x.ctl.rawValid && !x.ctl.holding

/-- BRAKE_RELEASE_DONE (R155 steps 3, 4; R195): BRAKE_RELEASE_NS after the release the joint enters SOFT, once there is a fresh sample; `softWait` keeps the
period in which it began to wait for one. -/
def execBrakeReleaseDone (d : DieId) (j : Fin 64) (s : State) : Result :=
  let x := s.joint d j
  let c := (s.die d).jointCfg j
  if (s.die d).works && x.state == .enabling && x.brakeRelease && decide (x.timerNs + c.joint.brakeReleaseNs ≤ s.now) then
    if x.feedbackFresh then .next (s.enterSoft d j)
    else .next (s.onJoint d j fun x => { x with softWait := x.softWait.orElse fun _ => some s.mw.b })
  else .next s

/-- SOFT_END (R153): SOFT_TIME_NS has passed and the ramp has ended. -/
def execSoftEnd (d : DieId) (j : Fin 64) (s : State) : Result :=
  let x := s.joint d j
  let c := (s.die d).jointCfg j
  if (s.die d).works && x.state == .soft && decide (x.timerNs + c.joint.softTimeNs ≤ s.now) && decide ((planNs x.plan : Rat) ≤ ns32 x.pt) then
    .next (s.onJoint d j fun x => { x.leaveSoft with jogNs := s.now })
  else .next s

/-! ### Stops -/

/-- STOP_RAMP_END (R149, Table 5.3): toward DISABLED the brake engages, else the joint holds under control in POINT mode. -/
def execStopRampEnd (d : DieId) (j : Fin 64) (s : State) : Result :=
  let x := s.joint d j
  if (s.die d).works && x.state == .stopping && x.real && decide ((planNs x.plan : Rat) ≤ ns32 x.pt) then
    if x.toDisabled then .next (s.engageBrake d j)
    else .next (s.onJoint d j fun x => { x.holdPoint with state := .enabled })
  else .next s

/-- ARM_STOP_REST (R151, R152): σ of a stopping arm has reached 0. -/
def execArmStopRest (d : DieId) (a : Fin 8) (s : State) : Result :=
  let x := (s.die d).arms[a]
  if (s.die d).works && decide (x.sigma = 0) && (x.hostStop.isSome || x.sepStop.isSome || x.stopping) then
    let brake := fun (s : State) (j : Fin 64) =>
      let g := s.joint d j
      if g.state = .stopping ∧ g.armStop ∧ !g.real then s.engageBrake d j else s
    let hold := fun (s : State) (j : Fin 64) =>
      if (s.joint d j).state = .enabled then (s.abortHoming d j).onJoint d j fun g => { g.holdPoint with armStop := false } else s
    let s := ((s.die d).armJoints a).foldl brake s
    let s := if x.hostStop = some 2 then ((s.die d).armJoints a).foldl hold s else s
    .next (s.onArm d a fun x => { x with hostStop := none, stopping := false })
  else .next s

/-- BRAKE_ENGAGE_DONE (Table 5.3): BRAKE_ENGAGE_NS after the brake engaged, torque off and DISABLED. -/
def execBrakeEngageDone (d : DieId) (j : Fin 64) (s : State) : Result :=
  let x := s.joint d j
  let c := (s.die d).jointCfg j
  if (s.die d).works && x.state == .braking && decide (x.timerNs + c.joint.brakeEngageNs ≤ s.now) then
    .next (s.endDisabled d j)
  else .next s

/-- The jog conditions of R472 hold, or the part is in Ripe. -/
def State.jogOk (s : State) (d : DieId) (j : Fin 64) : Bool :=
  match s.phase with
  | .ripe => true
  | .blossom =>
    s.mw.image.applied && s.mw.field.enabled && !s.curtained && ((s.die d).jointCfg j).joint.brake != 1 &&
      bit ((s.die d).stores.exchange.read (256 * j.val + 0x51)).toNat 0
  | _ => false

/-- DEFERRED_ENABLE (R157): in the period after DISABLED the deferred enable executes or is cancelled. -/
def execDeferredEnable (d : DieId) (j : Fin 64) (s : State) : Result :=
  match (s.joint d j).deferred with
  | some (tag, clear) =>
    let due := match (s.joint d j).deferredB with
      | some b => decide (b < s.mw.b)
      | none => false
    if (s.die d).works && due && (s.joint d j).state == .disabled then
      match s.enableRefused d j clear (s.jogOk d j) with
      | some cause => .next (s.cancelDeferred d j 0xFFFF cause)
      | none => .next (s.startEnable d j clear (some tag))
    else .next s
  | none => .next s

/-- A Category 1 stop of jog (R473): the ramp of a fault stop without a fault. -/
def State.jogStop (s : State) (d : DieId) (j : Fin 64) : State :=
  match ((s.die d).jointCfg j).limits with
  | some l => if (s.joint d j).state = .disabled then s else s.jointStop d j 1 l.aStop l.jStop
  | none => s.jointStop d j 0 0 0

/-- JOG_TIMEOUT (R473): in Blossom, no `MOVE_VELOCITY` for JOG_TIMEOUT_MS on an enabled joint. -/
def execJogTimeout (d : DieId) (j : Fin 64) (s : State) : Result :=
  let x := s.joint d j
  if (s.die d).works && s.phase == .blossom && x.state == .enabled && decide (x.jogNs + 1000000 * s.mw.image.jogTimeoutMs ≤ s.now) then
    .next (s.jogStop d j)
  else .next s

/-! ### Homing events -/

/-- INDEX_SEQ of the encoder port a joint reads, 0 where its feedback is its node window (R376). -/
def Die.indexSeq (x : Die) (j : Fin 64) : Nat :=
  let f := (x.jointCfg j).feedback
  if f.encoderPort then
    let e := x.cfg.encoders[f.port % 4]'(Nat.mod_lt _ (by decide))
    x.stores.inMirror.nat (64 * (16 * e.mirrorRing + e.mirrorNode) + 2) 1
  else 0

/-- A switch has held its level for SETTLE_NS (R160). -/
def SwitchTrack.settled (t : SwitchTrack) (now settle : Nat) : Bool := decide (t.since + settle ≤ now)

/-- SWITCH_SETTLED (R160): the home switch is reached or released, or the limit switch in the direction of motion is reached. -/
def execSwitchSettled (d : DieId) (j : Fin 64) (s : State) : Result :=
  let s1 := s.sampleSwitches d j
  let x := s1.joint d j
  let c := (s1.die d).jointCfg j
  match x.homing with
  | none => .next s
  | some h =>
    let sw := x.switches[(0 : Fin 3)]
    let lim := x.switches[(if h.up then 1 else 2 : Fin 3)]
    let ok := sw.settled s1.now c.homing.settleNs
    if !((s1.die d).works && decide (c.homing.method ≤ 2)) then .next s
    else if ok && sw.level && h.phase == .fast then
      .next (s1.onJoint d j fun x => { (x.homeSlow c) with homing := x.homing.map fun h => { h with phase := .decel } })
    else if ok && !sw.level && h.phase == .backoff && decide ((planNs x.plan : Rat) ≤ ns32 x.pt) then
      let seq := (s1.die d).indexSeq j
      .next (s1.onJoint d j fun x =>
        let y := x.homeRun c false h.up .creep
        { y with homing := y.homing.map fun h => { h with latch0 := seq } })
    else if ok && sw.level && h.phase == .creep then
      if c.homing.method = 2 then .next (s1.homingDone d j ((s1.die d).qFb j))
      else .next (s1.onJoint d j fun x => { x with homing := x.homing.map fun h => { h with phase := .index } })
    else if lim.level && lim.settled s1.now c.homing.settleNs && h.phase == .fast then .next (s1.onJoint d j fun x => x.homeRun c true (!h.up) .fast)
    else .next s

/-- HOMING_TIMEOUT (R161 cause 4): no home event yet. -/
def execHomingTimeout (d : DieId) (j : Fin 64) (s : State) : Result :=
  match (s.joint d j).homing with
  | some h =>
    if (s.die d).works && h.phase != .retreat && decide (h.startNs + 1000000 * ((s.die d).jointCfg j).homing.timeoutMs ≤ s.now) then .next (s.homingFails d j 4)
    else .next s
  | none => .next s

/-! ### Standstill and following error -/

/-- REDUCED_HOLD (R162): after DELAY_NS of standstill the current limit falls to FRACTION. -/
def execReducedHold (d : DieId) (j : Fin 64) (s : State) : Result :=
  let x := s.joint d j
  match x.stillNs with
  | some t =>
    if (s.die d).works && !x.reducedHold && decide (t + ((s.die d).jointCfg j).standstill.delayNs ≤ s.now) then
      .next ((s.onJoint d j fun x => { x with reducedHold := true }).writeGenerator d j)
    else .next s
  | none => .next s

/-- STALL (R163): the following error has stayed above its window for TIME_NS. -/
def execStall (d : DieId) (j : Fin 64) (s : State) : Result :=
  let x := s.joint d j
  match x.errNs with
  | some t =>
    if (s.die d).works && decide (t + ((s.die d).jointCfg j).following.timeNs ≤ s.now) then
      .next (((s.faultStop d j 1).onJoint d j fun x => { x with errNs := none }).raise d 33 (s.jointTarget j) [])
    else .next s
  | none => .next s

end Sys2Proof.Machine
end

