-- ==== Sys2Proof/Machine/Operands.lean ====
section
/-! DEFINITION. Operand forms: the target word of host commands (R77, R25, R26), status codes (R91), parameter checks (R7),
and the staging of configuration (R49). -/

namespace Sys2Proof.Machine

/-! ### Status codes (Table 3.15) -/

namespace St
def ok : Nat := 0x0000
def deferred : Nat := 0x0001
def limited : Nat := 0x0002
def warmRejected : Nat := 0x0003
def regularized : Nat := 0x0004
def timeLimit : Nat := 0x0005
def badOpcode : Nat := 0x8001
def badLength : Nat := 0x8002
def badTarget : Nat := 0x8003
def unitAbsent : Nat := 0x8004
def busy : Nat := 0x8005
def epochPassed : Nat := 0x8006
def notEligible : Nat := 0x8007
def wrongState : Nat := 0x8008
def range : Nat := 0x8009
def auth : Nat := 0x800A
def rolledBack : Nat := 0x800B
def timeJumpRefused : Nat := 0x800C
def dualMismatch : Nat := 0x800D
/-- Not a code of Table 3.15: the command is accepted and its reply comes later (`COMMIT`, `SWITCH_OVER`, `PLACE_TEST`, at-epoch
commands). -/
def later : Nat := 0x10000
end St

/-- What a command's own meaning does on a die: the next state and the reply. -/
abbrev Answer := State × Reply

/-- A rejection: no effect (R76). -/
def reject (s : State) (status : Nat) : Answer := (s, { status := status })

/-- `OK` with a result. -/
def answer (s : State) (result : List Byte := []) (own : Bool := false) : Answer := (s, { status := St.ok, result := result, own := own })

/-! ### Target words -/

/-- KIND, PACKAGE and INDEX of a target word (R77). -/
def tKind (w : Word) : Nat := bits w.toNat 31 28
def tPackage (w : Word) : Nat := bits w.toNat 27 26
def tIndex (w : Word) : Nat := bits w.toNat 25 0

/-- The INDEX that stands for ALL (Table 3.10). -/
def tAll : Nat := 0x3FFFFFF

/-- A place as Table 1.7 encodes it: die 0..2 or 3, and how much of it is named. -/
inductive PlaceScope where
  | unit (region cluster unit : Nat)
  | cluster (region cluster : Nat)
  | region (region : Nat)
  | die
  deriving DecidableEq, Repr

/-- Units of a cluster of a Trapeze die (Table 1.2), 0 where the cluster code is undefined in the region. -/
def unitsOf (region cluster : Nat) : Nat :=
  match region, cluster with
  | 0, 0 | 0, 1 | 0, 2 | 0, 3 => 8
  | 0, 4 | 0, 5 => 32
  | 0, 6 => 1
  | 1, 0 | 1, 1 | 1, 2 | 1, 3 | 1, 4 | 1, 5 => 4
  | 2, 0 => 4
  | 2, 1 | 2, 2 | 2, 3 => 2
  | 2, 4 => 1
  | _, _ => 0

/-- Units of a cluster of MW (Table 1.4). -/
def mwUnitsOf (region cluster : Nat) : Nat :=
  match region, cluster with
  | 0, _ => if cluster < 8 then 3 else 0
  | 1, 0 => 7
  | 1, 1 => 7
  | 2, 0 => 4
  | 2, 1 => 2
  | 2, 2 => 4
  | 2, 3 | 2, 4 | 2, 5 => 1
  | _, _ => 0

/-- The scope a place index names, none where it is malformed (R25, R26). The whole-cluster code 31 of PG0 and PG1 is also
their generator 31; UNIT 31 names the whole cluster everywhere. -/
def placeScope (index : Nat) : Option (Nat × PlaceScope) :=
  let die := bits index 25 24
  let region := bits index 23 22
  let cluster := bits index 21 19
  let unit := bits index 18 14
  let whole := bit index 13
  if bits index 12 0 ≠ 0 then none
  else if region = 3 then (if whole ∧ cluster = 7 ∧ unit = 31 then some (die, .die) else none)
  else if whole then (if cluster = 7 ∧ unit = 31 then some (die, .region region) else none)
  else
    let n := if die = 2 then mwUnitsOf region cluster else unitsOf region cluster
    if n = 0 then none
    else if unit = 31 then some (die, .cluster region cluster)
    else if unit < n then some (die, .unit region cluster unit) else none

/-- The INDEX is well formed for its kind (R77); `all` says whether the opcode accepts ALL. -/
def indexOk (kind index : Nat) (all : Bool) : Bool :=
  match kind with
  | 0 => index = 0
  | 1 => decide (index < 64) || (all && index == tAll)
  | 2 => decide (index < 8) || (all && index == tAll)
  | 3 => decide (index < 8) || (all && index == tAll)
  | 4 => decide (index < 128)
  | 5 => decide (index < 64) || (all && index == tAll)
  | 6 => decide (index < 2 ^ 24)
  | 7 => (placeScope index).isSome
  | 8 => decide (index < 128) && decide (bits index 6 5 ≤ 2) &&
         decide (bits index 4 0 < (if bits index 6 5 = 0 then 32 else if bits index 6 5 = 1 then 16 else 4))
  | 9 => decide (index < 4)
  | 10 => decide (index < 6)
  | 11 => decide (index < 64)
  | 12 => decide (index < 256)
  | _ => false

/-- A joint number of a target of kind joint. -/
def tJoint (w : Word) : Fin 64 := ⟨tIndex w % 64, Nat.mod_lt _ (by decide)⟩
def tArm (w : Word) : Fin 8 := ⟨tIndex w % 8, Nat.mod_lt _ (by decide)⟩
def tRing (w : Word) : Fin 8 := ⟨tIndex w % 8, Nat.mod_lt _ (by decide)⟩

/-- The padding from byte `n` to the end of the 8·PLEN parameter bytes is zero (R7). -/
def padded (h : HostCmd) (n : Nat) : Bool := zeroAt h.params n (8 * h.plen.toNat - n)

/-- Rings and Juggler clusters of the variant (Table 0.1). -/
def State.rings (s : State) : Nat := if s.mw.fuses.variant < 2 then 8 else 4
def jugglersOf (variant : Nat) : Nat := if variant < 2 then 4 else if variant = 2 then 2 else 0

/-- Juggler clusters of this package. -/
def State.jugglers (s : State) : Nat := jugglersOf s.mw.fuses.variant

/-- A cluster of a Trapeze die exists in the variant. -/
def State.clusterExists (s : State) (region cluster : Nat) : Bool :=
  if region = 1 ∧ cluster < 4 then decide (cluster < s.jugglers)
  else if region = 0 ∧ cluster = 5 then decide (s.mw.fuses.variant < 2)
  else decide (0 < unitsOf region cluster)

/-- The place is present: in the variant, its cluster not removed, the unit not fenced (R27). A wildcard place is present
where any part of it is. -/
def State.placePresent (s : State) (d : DieId) (p : PlaceScope) : Bool :=
  let x := s.die d
  x.present && match p with
  | .unit r c u => s.clusterExists r c && !x.removed.contains (r, c) && !x.fenced.contains (r, c, u)
  | .cluster r c => s.clusterExists r c && !x.removed.contains (r, c)
  | .region r => (List.range 7).any fun c => s.clusterExists r c && !x.removed.contains (r, c)
  | .die => true

/-! ### Staging (R49, R51) -/

/-- A commit is pending on a die (R51). -/
def Die.committing (x : Die) : Bool := x.commit.isSome

/-- Stage a change: the shadow configuration, STAGED_COUNT and the affected units (R49, R52). -/
def State.stage (s : State) (d : DieId) (units : List UnitId) (f : Cfg → Cfg) : State :=
  s.onDie d fun x =>
    { x with
      shadow := f x.shadow,
      staging := { x.staging with count := x.staging.count + 1, units := (x.staging.units ++ units).eraseDups } }

/-- A `CONFIG_*` body: `BUSY` while a commit is pending (R51), else the checks; a passed check stages. -/
def State.config (s : State) (d : DieId) (check : Option Nat) (units : List UnitId) (f : Cfg → Cfg) (result : List Byte := []) : Answer :=
  if (s.die d).committing then reject s St.busy
  else match check with
  | some st => reject s st
  | none => answer (s.stage d units f) result

/-- First failing check of a list of conditions with their statuses. -/
def firstFail : List (Bool × Nat) → Option Nat
  | [] => none
  | (bad, st) :: r => if bad then some st else firstFail r

/-- A value in a closed interval. -/
def within (x lo hi : Nat) : Bool := decide (lo ≤ x) && decide (x ≤ hi)

/-- A field whose 0 selects a default. -/
def orDefault (x d : Nat) : Nat := if x = 0 then d else x
def orDefaultI (x d : Int) : Int := if x = 0 then d else x

/-- Present units of a cluster of a Trapeze die (R52). -/
def State.clusterUnits (s : State) (d : DieId) (region : Fin 3) (cluster : Fin 8) : List UnitId :=
  let x := s.die d
  if s.clusterExists region.val cluster.val && !x.removed.contains (region.val, cluster.val) then
    ((List.finRange 32).filter fun u => decide (u.val < unitsOf region.val cluster.val) && !x.fenced.contains (region.val, cluster.val, u.val)).map
      fun u => unitOf d region cluster u
  else []

/-- The generator unit of a joint (Table 1.2). -/
def generatorUnit (d : DieId) (j : Fin 64) : UnitId :=
  unitOf d 0 (if j.val < 32 then 4 else 5) ⟨j.val % 32, Nat.mod_lt _ (by decide)⟩

/-- A unit of MW. -/
def mwUnit (region : Fin 3) (cluster : Fin 8) (unit : Fin 32) : UnitId := ⟨.mw, region, cluster, unit⟩

/-- The present units of the servo clusters, which load the gain sets of a joint (R52, Table 2.4). -/
def State.servoUnits (s : State) (d : DieId) : List UnitId := ((List.finRange 4).map fun k => s.clusterUnits d 0 ⟨k.val, by omega⟩).flatten

end Sys2Proof.Machine
end

