-- ==== Sys2Proof/Machine/Escalate.lean ====
section
/-! DEFINITION. From a detection to its consequence: counting and promotion (R421, R422, R432), fencing and removal
(R19, R20), die faults and the loss of the Catcher (R21, R407), the start of the Curtain (R412..R414), and the firing of
injections (R429, R430). -/

namespace Sys2Proof.Machine

/-! ### The Curtain and the Catcher -/

/-- Change the token and MW's own Trapeze state. -/
def State.onTrapeze (s : State) (f : TrapezeMw → TrapezeMw) : State := s.onMw fun m => { m with trapeze := f m.trapeze }

/-- Start the Curtain with a cause; one that stands is left alone (R412..R414). -/
def State.startCurtain (s : State) (cause : Nat) : State :=
  if s.curtained then s
  else
    let single := s.mw.fuses.variant = 1
    let tStop := if s.phase = .ripe ∧ !single then s.mw.cfg.trapeze.curtainTStopNs else s.mw.image.tStopNs
    let s := s.onMw fun m => { m with trapeze := { m.trapeze with
      curtain := some { cause := cause, t0 := s.now, t0B := s.mw.b, tStopNs := tStop } } }
    s.onLive fun d s => (s.curtainJoints d).raise d 7 (s.target 0 0) [BitVec.ofNat 8 cause]

/-- The Catcher die `d` loses eligibility with a cause (R407): MW's flag is cleared, a warm-up of R411 ends, a new full sync must follow (R394, R396). -/
def State.catcherLost (s : State) (d : DieId) (cause : Nat) : State :=
  if s.isFlier d || !s.hasPartner then s
  else
    let was := (s.die d).partner.eligible
    let s := s.onDie d fun x => { x with partner := { x.partner with eligible := false, synced := false, matchRun := 0, lostCause := cause, eligibleB := 0 } }
    let s := s.onMw fun m => { m with trapeze := { m.trapeze with warmUp := false } }
    let s := if !(s.die d).cfg.trapeze.noAutoSync && decide (s.mw.trapeze.syncFails < 3) then
        s.onMw fun m => { m with trapeze := { m.trapeze with syncWaitNs := some s.now } } else s
    let who := if (s.die d).live then d else d.other
    if was && (s.die who).live then s.raise who 3 (s.target 7 (wholeDie d)) [BitVec.ofNat 8 cause] else s

/-- The Curtain's sequencer counts T_s itself from the last fired boundary on (R413, R427). -/
def State.sequencerCounts (s : State) : State :=
  s.onTrapeze fun t => { t with curtain := t.curtain.map fun c => { c with refNext := some (c.refNext.getD (max s.now (s.mw.bNs + s.mw.grid.tS))) } }

/-- A lasting die or region fault (R21): the die is to relinquish and enter HALTED (R398, R408). -/
def State.dieFault (s : State) (d : DieId) : State := s.onDie d fun x => { x with condemned := true }

/-- A full sync fails (R396): `SYNC_FAILED` on the Flier; the die stays not eligible. -/
def State.failSync (s : State) : State :=
  match s.mw.trapeze.sync with
  | none => s
  | some y =>
    let old := s
    let s := s.onMw fun m => { m with trapeze := { m.trapeze with sync := none, syncFails := m.trapeze.syncFails + 1, syncWaitNs := some old.now } }
    let s := s.onDie y.target fun x =>
      { x with status := if x.status = .sync then .running else x.status, partner := { x.partner with synced := false, matchRun := 0 } }
    (s.phaseRecords old).raise y.target.other 5 (s.target 7 (wholeDie y.target)) []

/-- The loss of a link (R17). -/
def State.linkLost (s : State) (l : LinkId) : State :=
  match l with
  | .direct =>
    if s.mw.trapeze.directUp then
      let s := s.onMw fun m => { m with trapeze := { m.trapeze with directUp := false } }
      let s := s.onLive fun d s => s.raise d 8 (s.unitTarget (unitOf d 2 3 0)) []
      s.failSync
    else s
  | .t0mw => go s .t0
  | .t1mw => go s .t1
where
  go (s : State) (d : DieId) : State :=
    let s := s.onDie d fun x => { x with partner := { x.partner with mwLinkUp := false } }
    if s.isFlier d then s.dieFault d else s.catcherLost d 8

/-! ### Fencing and removal -/

/-- A pending commit affected by a place that is fenced or removed is rolled back with REASON 2 (R30). Its units are ready no more (R52). -/
def State.spoilCommit (s : State) (u : UnitId → Bool) (reason : Nat) : State :=
  let go := fun (s : State) (d : DieId) => s.onDie d fun x =>
    { x with commit := x.commit.map fun c =>
      if c.affected.any u then
        let c : Pending := { c with ready := c.ready.filter fun v => !u v }
        if c.spoiled = 0 then { c with spoiled := reason, culprit := c.affected.find? u } else c
      else c }
  go (go s .t0) .t1

/-- A re-admission of a die takes effect at the next boundary: a commit of that boundary is abandoned with REASON 3, decided or not (R30). -/
def State.spoilNext (s : State) (d : DieId) : State :=
  s.onDie d fun x => { x with commit := x.commit.map fun c => if c.bc = s.mw.b + 1 ∧ c.spoiled = 0 then { c with spoiled := 3 } else c }

/-- Return the items of a core to the dispatch slice: they become ready again, and are dispatched again in the cluster (R19). -/
def State.releaseCore (s : State) (d : DieId) (k : Fin 32) : State :=
  s.onDie d fun x =>
    { x with
      cores := x.cores.set k { x.cores[k] with run := none, next := none, prefetched := false, out := [] },
      disp := { x.disp with insts := x.disp.insts.map fun i =>
        match i.state with
        | .running c => if c = k.val then { i with state := .waiting } else i
        | .exited c => if c = k.val then { i with state := .waiting } else i
        | .prefetched c => if c = k.val then { i with state := .waiting } else i
        | _ => i } }

/-- A place test of this unit, or of its whole cluster where `unit` is 31, has lost its place (R31). -/
def Die.testLost (x : Die) (region cluster unit : Nat) : Die :=
  { x with test := x.test.map fun t =>
      if t.region = region ∧ t.cluster = cluster ∧ (unit = 31 ∨ t.unit = unit) then { t with lost := true } else t }

/-- A place test has withdrawn this unit, which has no fault of its own (R440). -/
def Die.withdrawn (x : Die) (region cluster unit : Nat) : Bool :=
  match x.test with
  | some t => t.region == region && t.cluster == cluster && t.unit == unit && t.startNs.isSome && !t.lost
  | none => false

/-- A place target names the cluster, or a unit of it. -/
def inCluster (w : Word) (die region cluster : Nat) : Bool :=
  tKind w == 7 && bits w.toNat 25 24 == die && bits w.toNat 23 22 == region && bits w.toNat 21 19 == cluster && !bit w.toNat 13

/-- Injections at a place end when it is fenced or removed (R430). -/
def Die.endInjections (x : Die) (at_ : Word → Bool) : Die :=
  { x with det := { x.det with injections := x.det.injections.filter fun i => !at_ i.target } }

/-- Remove a cluster (R20): `CLUSTER_LOST`, its items abandoned, re-admission due. On a die with a die fault nothing more is done (R29). -/
def State.loseCluster (s : State) (d : DieId) (region cluster : Nat) (o : Occur := {}) : State :=
  if (s.die d).removed.contains (region, cluster) || (s.die d).condemned then s
  else
    let place := s.target 7 (placeIndex d.code region cluster 31)
    let s := s.onDie d fun x => ({ x with removed := x.removed ++ [(region, cluster)], readmit := true }.testLost region cluster 31).endInjections fun w => inCluster w d.code region cluster
    let s := s.spoilCommit (fun u => trapezeDie u.die == some d && u.region.val == region && u.cluster.val == cluster) 2
    let s := if region = 0 ∧ cluster < 4 then
        (List.finRange 32).foldl (fun s k => if k.val / 8 = cluster then s.releaseCore d k else s) s
      else s
    s.raise d 14 place [] { o with lasting := true }

/-- Fence a unit (R19, R20): `UNIT_FENCED`; units no other unit stands in for fault the die, the units of LK are links. A unit of a removed cluster, or of a
die with a die fault, needs no fence (R29). -/
def State.fenceUnit (s : State) (d : DieId) (region cluster unit : Nat) (o : Occur := {}) : State :=
  if ((s.die d).fenced.contains (region, cluster, unit) && !(s.die d).withdrawn region cluster unit) || (s.die d).condemned ||
      (s.die d).removed.contains (region, cluster) then s
  else if region = 2 ∧ cluster = 3 then s.linkLost (if unit = 0 then .direct else if d = .t0 then .t0mw else .t1mw)
  else if (region = 2 ∧ cluster ≠ 0) ∨ (region = 0 ∧ cluster = 6) then s.dieFault d
  else
    let place := s.target 7 (placeIndex d.code region cluster unit)
    let s := s.onDie d fun x => ({ x with
      fenced := if x.fenced.contains (region, cluster, unit) then x.fenced else x.fenced ++ [(region, cluster, unit)] }.testLost region cluster unit).endInjections fun w => w == place
    let s := s.spoilCommit (fun u => trapezeDie u.die == some d && u.region.val == region && u.cluster.val == cluster && u.unit.val == unit) 2
    let s := s.raise d 13 place [] { o with lasting := true }
    let gone := ((s.die d).fenced.filter fun f => f.1 == region && f.2.1 == cluster).length
    let all := decide (unitsOf region cluster ≤ gone)
    if region = 2 then (if all then s.dieFault d else s)
    else if all then s.loseCluster d region cluster o
    else
      let s := if region = 0 ∧ cluster < 4 then s.releaseCore d ⟨(8 * cluster + unit) % 32, Nat.mod_lt _ (by decide)⟩ else s
      s.onDie d fun x => { x with readmit := true, readmitFenced := (x.readmitFenced ++ [(region, cluster)]).eraseDups }

/-! ### Detections (R421, R422, R432) -/

/-- Number of a place for the interval counts. -/
def placeNumber (u : UnitId) : Nat := placeIndex (placeDieCode u.die) u.region.val u.cluster.val u.unit.val

/-- Event source of a detector (Table 14.1). -/
def detectorEvent (det : Nat) : Nat :=
  if det ≤ 7 then 192 + det
  else match det with
    | 8 => 200
    | 9 => 201
    | 10 => 202
    | 11 => 162
    | 12 => 4
    | 14 => 7
    | _ => 3

/-- Detector data of Table 14.5: place, outcome, transient count, value. -/
def detectorData (place : Word) (outcome count : Nat) (value : List Byte) : List Byte :=
  le 4 place.toNat ++ le 1 outcome ++ le 1 (min count 255) ++ zeros 2 ++ value

/-- Count at index `i` of a vector of sixteen, saturating at `top`. -/
def bump (v : Vector Nat 16) (i top : Nat) : Vector Nat 16 :=
  let k : Fin 16 := ⟨i % 16, Nat.mod_lt _ (by decide)⟩
  v.set k (min top (v[k] + 1))

/-- The detector value Table 14.5 names without giving its numbers: the array offset and syndrome of a SECDED fault, the stalled stage. Both are free. -/
def unstatedValue (det n : Nat) : List Byte :=
  if det = 0 then le 4 (Config.freeNat n) ++ le 1 (Config.freeInt n).toNat else if det = 1 then le 4 (Config.freeNat n) else []

/-- Record a detection on one die whose retry left it transient or lasting. The second result is true where it is to be
treated as lasting: a lasting one, or a transient promoted by TRANSIENT_LIMIT (R422); detectors 4 and 5 are exempt. `TEMP_HIGH` follows R426 alone (R432). -/
def State.detect (s : State) (d : DieId) (place : Word) (number det : Nat) (lasting injected : Bool) (value : List Byte) : State × Bool :=
  let key := 16 * number + det
  let was := (s.die d).det.interval.getD key 0
  let count := if lasting then was else was + 1
  let limit := (s.die d).cfg.events.transientLimit
  let promoted := !lasting && det != 4 && det != 5 && decide (limit ≤ count)
  let isLast := lasting || promoted
  let s := s.onDie d fun x => { x with det := { x.det with
    transients := if lasting then x.det.transients else bump x.det.transients det 4294967295,
    lasting := if isLast then bump x.det.lasting det 65535 else x.det.lasting,
    injected := if injected then bump x.det.injected det 65535 else x.det.injected,
    interval := if lasting then x.det.interval else x.det.interval.set key count,
    promoted := if promoted then key :: x.det.promoted else x.det.promoted } }
  let s := if lasting then s else s.count d 8 0 det
  let o : Occur := { injected := injected, lasting := isLast, promoted := promoted, detector := det }
  let once := if det = 4 ∨ det = 5 then key + 16 else det
  let data := detectorData place (if promoted then 2 else if lasting then 1 else 0) count (value ++ unstatedValue det s.draws)
  let s : State := { s with draws := s.draws + 1 }
  let s :=
    if det = 10 then s.record d (0x100 + det) place data (2 * o.flags)
    else if isLast then s.raise d (detectorEvent det) place data o
    else if (s.die d).det.raised.contains once then s.record d (0x100 + det) place data (2 * o.flags)
    else (s.onDie d fun x => { x with det := { x.det with raised := once :: x.det.raised } }).raise d (detectorEvent det) place data o
  let s := if promoted then s.raise d 204 place data o else s
  (s, isLast)

/-- A detection on MW: recorded on every live die (R432); true where any die treats it as lasting. -/
def State.detectMw (s : State) (place : Word) (number det : Nat) (lasting injected : Bool) (value : List Byte) : State × Bool :=
  let go := fun (a : State × Bool) (d : DieId) =>
    if (a.1.die d).live then
      let r := a.1.detect d place number det lasting injected value
      (r.1, a.2 || r.2)
    else a
  go (go (s, lasting) .t0) .t1

/-! ### Injections (R429, R430) -/

/-- FAULT_INJECTED data (R497). -/
def Injection.data (i : Injection) (what : Nat) : List Byte :=
  le 4 i.target.toNat ++ le 1 i.detector ++ le 1 i.mode ++ le 1 what ++ le 1 i.path ++ le 4 i.arg ++ le 4 i.delayNs

/-- The injection fires at this check: armed long enough, and lasting or not yet fired. -/
def Injection.firesAt (i : Injection) (now : Nat) : Bool := decide (i.armedNs + i.delayNs ≤ now) && (i.mode == 1 || !i.fired)

/-- The injections held once one of them has fired: a transient one is spent. -/
def Injection.firedIn (i : Injection) (l : List Injection) : List Injection :=
  if i.mode = 0 then l.filter fun k => k != i else l.map fun k => if k = i then { k with fired := true } else k

/-- A check by a detector: the injection that falsifies it, where one by die `d` for a target that `hit` accepts is armed long enough. The first
firing raises FAULT_INJECTED; a transient injection is spent. -/
def State.checkInjected (s : State) (d : DieId) (det : Nat) (hit : Injection → Bool) : State × Option Injection :=
  match (s.die d).det.injections.find? fun i => i.detector == det && hit i && i.firesAt s.now with
  | none => (s, none)
  | some i =>
    let s := s.onDie d fun x => { x with det := { x.det with injections := i.firedIn x.det.injections } }
    (if i.fired then s else s.raise d 203 i.target (i.data 0) { injected := true, detector := i.detector }, some i)

/-- An injection falsifies the reads of a cluster's array: one at the cluster, or at a unit of a cluster whose units have no array of their own (Table 1.3). -/
def Injection.atArray (i : Injection) (die region cluster : Nat) : Bool :=
  inCluster i.target die region cluster && (decide (region ≠ 0 ∨ 4 ≤ cluster) || Sys2Proof.Machine.bits i.target.toNat 18 14 == 31)

/-- What SECDED makes of a word as it is read (R13, R421): clean, one bit corrected, or an uncorrectable error, which the re-read finds `again` or not, with the injection that
falsified it. -/
inductive WordRead where | clean | corrected | bad (again : Bool) (by_ : Option Injection)
  deriving DecidableEq, Repr

/-- One word shows what an injection and an error of the array do to it; both at one check are one detection (R423). -/
def wordRead (inj : Option Injection) (again : Bool) (real : Option Upset) : WordRead :=
  let two := inj.filter fun i => i.bits != 1
  let hard := real.any fun u => u.double
  if two.isSome || hard then .bad (again || (hard && real.any fun u => u.lasts)) two
  else if inj.isSome || real.isSome then .corrected else .clean

/-- Count a corrected bit (R13). -/
def State.countSingle (s : State) (d : DieId) : State := s.onDie d fun x => { x with det := { x.det with singles := x.det.singles + 1 } }

/-- Read a word of an array on die `d` (R13, R421, R429): what SECDED sees, and after an uncorrectable error what its one re-read sees. -/
def State.readWord (s : State) (d : DieId) (region cluster unit : Nat) (hit : Injection → Bool) : State × WordRead :=
  let first := s.checkInjected d 0 hit
  match first.2, (s.die d).upsets.find? fun u => u.region == region && u.cluster == cluster && u.unit == unit with
  | none, none => (s, .clean)
  | inj, real =>
    let second := if inj.any fun i => i.bits != 1 then first.1.checkInjected d 0 hit else (first.1, none)
    let s := second.1.onDie d fun x => { x with upsets := x.upsets.filter fun u => u.lasts || decide (some u ≠ real) }
    (s, wordRead inj second.2.isSome real)

/-- A read of an SRAM array of a cluster on die `d` (R13, R421, R429): one flipped bit is corrected and counted; two are a detection, and the word is read again
once. The second result is there where the fault is to be treated as lasting, and says whether an injection has made it. -/
def State.readArray (s : State) (d : DieId) (region cluster : Nat) : State × Option Bool :=
  let r := s.readWord d region cluster 31 fun i => i.atArray d.code region cluster
  match r.2 with
  | .clean => (r.1, none)
  | .corrected => (r.1.countSingle d, none)
  | .bad again by_ =>
    let place := match by_ with
      | some i => i.target
      | none => s.target 7 (placeIndex d.code region cluster 31)
    let n := r.1.detect d place (tIndex place) 0 again by_.isSome []
    (n.1, if n.2 then some by_.isSome else none)

/-- The owner of an array takes its lasting fault (R424): a servo, Juggler or separation cluster is lost, any other array faults the die. -/
def State.arrayFault (s : State) (d : DieId) (region cluster : Nat) (o : Occur) : State :=
  if (region = 0 ∧ cluster < 4) ∨ region = 1 then s.loseCluster d region cluster o else s.dieFault d

/-- Read an array and escalate what the read finds. -/
def State.useArray (s : State) (d : DieId) (region cluster : Nat) : State :=
  let r := s.readArray d region cluster
  match r.2 with
  | some injected => r.1.arrayFault d region cluster { injected := injected, detector := 0 }
  | none => r.1

/-- As `checkInjected`, for an MW target: its injections stand until package reset and count against the Flier, which raises their events (R430). -/
def State.checkInjectedMw (s : State) (det : Nat) (hit : Injection → Bool) : State × Option Injection :=
  match s.mw.trapeze.injections.find? fun i => i.detector == det && hit i && i.firesAt s.now with
  | none => (s, none)
  | some i =>
    let t := s.onTrapeze fun t => { t with injections := i.firedIn t.injections }
    (match s.mw.trapeze.token with
    | some d => if i.fired then t else t.raise d 203 i.target (i.data 0) { injected := true, detector := i.detector }
    | none => t, some i)

/-- A read of a word of an array of MW (R13, R424, R432). The second result says that the word cannot be read, the third that the fault is to be treated as lasting:
where it could not be read `before` either, or by promotion. An injection at a cluster of MW falsifies every array of the cluster. -/
def State.readMwArray (s : State) (region cluster : Nat) (before : Bool) : State × Bool × Bool :=
  let hit := fun (i : Injection) => inCluster i.target 2 region cluster
  let first := s.checkInjectedMw 0 hit
  match first.2, s.mw.upsets.find? fun u => u.region == region && u.cluster == cluster with
  | none, none => (s, false, false)
  | inj, real =>
    let second := if inj.any fun i => i.bits != 1 then first.1.checkInjectedMw 0 hit else (first.1, none)
    let s := second.1.onMw fun m => { m with upsets := m.upsets.filter fun u => u.lasts || decide (some u ≠ real) }
    match wordRead inj second.2.isSome real with
    | .clean => (s, false, false)
    | .corrected => (s.onLive fun d s => s.countSingle d, false, false)
    | .bad again by_ =>
      let place := match by_ with
        | some i => i.target
        | none => s.target 7 (placeIndex 2 region cluster 31)
      let r := s.detectMw place (tIndex place) 0 (again && before) by_.isSome []
      (r.1, again, r.2)

end Sys2Proof.Machine
end

