-- ==== Sys2Proof/Machine/Flags.lean ====
section
/-! DEFINITION. FLAGS of a servo core (Table 8.2) and every computation of them (R241, R260, Table 8.13). -/

namespace Sys2Proof.Machine

/-- Bits of FLAGS. -/
def flagN (f : Word) : Bool := f.getLsbD 0
def flagZ (f : Word) : Bool := f.getLsbD 1
def flagC (f : Word) : Bool := f.getLsbD 2
def flagV (f : Word) : Bool := f.getLsbD 3

/-- FLAGS with N, Z, C and V replaced; SAT and AOV are kept. -/
def putNZCV (f : Word) (n z c v : Bool) : Word :=
  (f &&& 0xFFFFFFF0#32) ||| BitVec.ofNat 32 (packBits [n, z, c, v])

/-- N and Z from a result; C and V cleared (logic, shifts, MIN and MAX). -/
def nzOf (f : Word) (r : Word) : Word := putNZCV f r.msb (r == 0) false false

/-- N and Z from a result; C and V kept (SHLI, SHRI, SARI: Table 8.12 names NZ alone). -/
def nzKeep (f : Word) (r : Word) : Word := putNZCV f r.msb (r == 0) (flagC f) (flagV f)

/-- FLAGS after an addition of `a` and `b` whose written result is `r`. -/
def flagsAdd (f a b r : Word) : Word :=
  putNZCV f r.msb (r == 0) (decide (4294967296 ≤ a.toNat + b.toNat)) (decide (a.toInt + b.toInt ≠ (a + b).toInt))

/-- FLAGS after `a − b` whose written result is `r`: C is 1 when there is no borrow. -/
def flagsSub (f a b r : Word) : Word :=
  putNZCV f r.msb (r == 0) (decide (b.toNat ≤ a.toNat)) (decide (a.toInt - b.toInt ≠ (a - b).toInt))

/-- FLAGS after MUL: V where the signed product does not fit; C, which no rule defines for it, is `c`. -/
def flagsMul (f a b r : Word) (c : Bool) : Word :=
  putNZCV f r.msb (r == 0) c (decide (a.toInt * b.toInt ≠ (a * b).toInt))

/-- Set the sticky SAT bit. -/
def setSat (f : Word) (on : Bool) : Word := if on then f ||| 0x10#32 else f

/-- Set the sticky AOV bit. -/
def setAov (f : Word) (on : Bool) : Word := if on then f ||| 0x20#32 else f

/-- Saturate an integer to 32 bits; the second result says whether it saturated. -/
def sat32i (x : Int) : Word × Bool :=
  let y := max (-2147483648) (min x 2147483647)
  (BitVec.ofInt 32 y, decide (y ≠ x))

/-- Saturate an integer to 64 bits. -/
def sat64i (x : Int) : BitVec 64 × Bool :=
  let y := max (-9223372036854775808) (min x 9223372036854775807)
  (BitVec.ofInt 64 y, decide (y ≠ x))

/-- Saturate an integer to the 72 bits of an accumulator (R242). -/
def sat72i (x : Int) : Acc × Bool :=
  let y := max (-(2 ^ 71)) (min x (2 ^ 71 - 1))
  (BitVec.ofInt 72 y, decide (y ≠ x))

/-- The conditions of Bcc (Table 8.13), none for the undefined code 15. -/
def condHolds (f : Word) (cond : Nat) : Option Bool :=
  let n := flagN f
  let z := flagZ f
  let c := flagC f
  let v := flagV f
  match cond with
  | 0 => some z
  | 1 => some !z
  | 2 => some (n != v)
  | 3 => some (n == v)
  | 4 => some (z || n != v)
  | 5 => some (!z && n == v)
  | 6 => some !c
  | 7 => some c
  | 8 => some (!c || z)
  | 9 => some (c && !z)
  | 10 => some n
  | 11 => some !n
  | 12 => some v
  | 13 => some !v
  | 14 => some true
  | _ => none

end Sys2Proof.Machine
end

