-- ==== Sys2Proof/Machine/Servo.lean ====
section
/-! DEFINITION. Servo cores (chapter 8): encodings that exist (R250, R260), memory as a core sees it (R246..R248), item entry
(R251), program faults (R255), hardware detections (R257), the charge of ticks (R258), and the operations the instruction
rows share. -/

namespace Sys2Proof.Machine

/-! ### Defined encodings (Tables 8.11 to 8.13) -/

/-- The word is a defined encoding of R260. A field that Tables 8.11 to 8.13 do not mark — may hold anything where the function does not use it. -/
def wordDefined (w : Word) : Bool :=
  let n := w.toNat
  let op := bits n 31 26
  let fn := bits n 5 0
  let z := fun hi lo => bits n hi lo == 0
  match op with
  | 0x01 =>
    z 13 6 && decide (fn ≤ 20) &&
      (if fn = 14 ∨ fn = 15 ∨ fn = 16 ∨ fn = 20 then z 17 14 else true) && (if fn = 17 ∨ fn = 18 then z 25 22 else true)
  | 0x02 | 0x03 | 0x04 | 0x05 => true
  | 0x06 => z 25 22
  | 0x07 => z 17 14 && decide (bits n 13 12 ≤ 2) && z 11 5
  | 0x08 | 0x09 => z 21 16
  | 0x10 | 0x11 =>
    let sz := bits n 16 14
    decide (sz ≤ 4) && (if sz = 4 then bits n 25 22 % 2 == 0 else true) && (if bits n 18 17 = 3 then z 7 0 else true)
  | 0x14 => z 13 6 && decide (fn ≤ 2)
  | 0x15 =>
    z 11 10 && decide (fn ≤ 12) &&
      (match fn with
       | 0 | 4 => z 23 22 && z 21 18 && z 17 12 && z 9 6
       | 1 | 2 | 3 => z 21 18 && z 17 12 && z 9 6
       | 5 | 6 => z 23 22 && z 21 18 && z 9 6
       | 7 => z 23 22 && z 9 6
       | 8 => z 23 22 && z 9 6 && bits n 21 18 % 2 == 0
       | 9 | 10 | 11 => z 23 22 && z 9 6
       | _ => z 23 22 && z 17 12)
  | 0x18 | 0x19 => true
  | 0x1A =>
    z 15 6 && decide (fn ≤ 4) &&
      (if fn = 4 then z 18 18 else true)
  | 0x1C => z 9 6 && decide (fn ≤ 1)
  | 0x20 => decide (bits n 25 22 ≠ 15)
  | 0x21 => z 25 22 && z 21 10
  | 0x22 => decide (1 ≤ bits n 10 0) && decide (bits n 10 0 ≤ 1023)
  | 0x3F =>
    z 13 6 && decide (fn ≤ 5)
  | _ => false

/-- The target of a branch or CALL, or the end of a LOOP, at word `at_` lies in a block of `words` words (R250). -/
def targetInBlock (words at_ : Nat) (w : Word) : Bool :=
  let n := w.toNat
  match bits n 31 26 with
  | 0x20 => decide (0 ≤ (at_ : Int) + toSigned 22 (bits n 21 0)) && decide ((at_ : Int) + toSigned 22 (bits n 21 0) < words)
  | 0x21 => decide (bits n 9 0 < words)
  | 0x22 => decide (at_ + bits n 10 0 < words)
  | _ => true

/-- What staging asks of word `at_` of a block of `words` words (R250). A core asks only that the word is defined; it finds a target outside its block when it goes
there (Table 8.10, cause 9). -/
def encodingOk (words at_ : Nat) (w : Word) : Bool := wordDefined w && targetInBlock words at_ w

/-- MODE and disp of format M (R260). -/
def modeField : AddrMode → Nat × Nat
  | .disp d => (0, d.toNat)
  | .postInc d => (1, d.toNat)
  | .circular cb inc => (2, 4096 * cb.val + inc.toNat)
  | .indexed dk sh => (3, 1024 * dk.val + 256 * sh.toNat)

/-- SZ of format M (R260). -/
def memCode : MemSize → Nat
  | .word => 0
  | .shalf => 1
  | .uhalf => 2
  | .ubyte => 3
  | .pair => 4

/-- MODE of format A (Table 8.12). -/
def mulCode : MulMode → Nat
  | .ss => 0
  | .us => 1
  | .su => 2
  | .uu => 3

/-- A word is in the system group with function `fn` (Table 8.13). -/
def spellsSystem (w : Word) (fn : Nat) : Bool := bits w.toNat 31 26 == 0x3F && bits w.toNat 5 0 == fn

/-- A word moves between a register and FLAGS: MOVF at FN 4, SETF at FN 5 (Table 8.13). -/
def spellsFlags (w : Word) (fn : Nat) (rd : Fin 16) : Bool := spellsSystem w fn && bits w.toNat 25 22 == rd.val

/-- A word is FAULT with its code (Table 8.13). -/
def spellsFault (w : Word) (code : Byte) : Bool := spellsSystem w 3 && bits w.toNat 21 14 == code.toNat

/-- A word is the instruction of a row: its opcode and function, and the operands in the fields of its format (R260, Tables 8.11 to 8.13). -/
def spells (w : Word) (op : Instr) : Bool :=
  let f := fun (hi lo v : Nat) => bits w.toNat hi lo == v
  let r := fun (fn rd ra rb : Nat) => f 31 26 0x01 && f 5 0 fn && f 25 22 rd && f 21 18 ra && f 17 14 rb
  let i := fun (o rd ra imm : Nat) => f 31 26 o && f 25 22 rd && f 21 18 ra && f 17 0 imm
  let u := fun (o rd imm : Nat) => f 31 26 o && f 25 22 rd && f 15 0 imm
  let m := fun (o r p : Nat) (mode : AddrMode) (sz : MemSize) =>
    f 31 26 o && f 25 22 r && f 21 19 p && f 18 17 (modeField mode).1 && f 16 14 (memCode sz) && f 13 0 (modeField mode).2
  let a := fun (fn acc ra rb : Nat) (mode : MulMode) => f 31 26 0x14 && f 5 0 fn && f 25 24 acc && f 23 20 ra && f 19 16 rb && f 15 14 (mulCode mode)
  let c := fun (fn acc : Nat) => f 31 26 0x15 && f 5 0 fn && f 25 24 acc
  let p := fun (fn p : Nat) => f 31 26 0x1A && f 5 0 fn && f 25 23 p
  let q := fun (fn rd ri p rn : Nat) (uns : Bool) =>
    f 31 26 0x1C && f 5 0 fn && f 25 22 rd && f 21 18 ri && f 17 15 p && f 14 11 rn && f 10 10 (b2n uns)
  match op with
  | .add _ rd ra rb => r 0 rd.val ra.val rb.val
  | .adds _ rd ra rb => r 1 rd.val ra.val rb.val
  | .sub _ rd ra rb => r 2 rd.val ra.val rb.val
  | .subs _ rd ra rb => r 3 rd.val ra.val rb.val
  | .and_ _ rd ra rb => r 4 rd.val ra.val rb.val
  | .or_ _ rd ra rb => r 5 rd.val ra.val rb.val
  | .xor_ _ rd ra rb => r 6 rd.val ra.val rb.val
  | .shl _ rd ra rb => r 7 rd.val ra.val rb.val
  | .shr _ rd ra rb => r 8 rd.val ra.val rb.val
  | .sar _ rd ra rb => r 9 rd.val ra.val rb.val
  | .min_ _ rd ra rb => r 10 rd.val ra.val rb.val
  | .max_ _ rd ra rb => r 11 rd.val ra.val rb.val
  | .minu _ rd ra rb => r 12 rd.val ra.val rb.val
  | .maxu _ rd ra rb => r 13 rd.val ra.val rb.val
  | .mov _ rd ra => r 14 rd.val ra.val 0
  | .abs_ _ rd ra => r 15 rd.val ra.val 0
  | .neg_ _ rd ra => r 16 rd.val ra.val 0
  | .cmp _ ra rb => r 17 0 ra.val rb.val
  | .tst _ ra rb => r 18 0 ra.val rb.val
  | .mul _ rd ra rb _ => r 19 rd.val ra.val rb.val
  | .clz _ rd ra => r 20 rd.val ra.val 0
  | .addi _ rd ra imm => i 0x02 rd.val ra.val imm.toNat
  | .andi _ rd ra imm => i 0x03 rd.val ra.val imm.toNat
  | .ori _ rd ra imm => i 0x04 rd.val ra.val imm.toNat
  | .xori _ rd ra imm => i 0x05 rd.val ra.val imm.toNat
  | .cmpi _ ra imm => i 0x06 0 ra.val imm.toNat
  | .shli _ rd ra n => i 0x07 rd.val ra.val n.toNat
  | .shri _ rd ra n => i 0x07 rd.val ra.val (0x1000 + n.toNat)
  | .sari _ rd ra n => i 0x07 rd.val ra.val (0x2000 + n.toNat)
  | .movi _ rd imm => u 0x08 rd.val imm.toNat
  | .movhi _ rd imm => u 0x09 rd.val imm.toNat
  | .ld _ rd p mode sz _ => m 0x10 rd.val p.val mode sz
  | .st _ rd p mode sz => m 0x11 rd.val p.val mode sz
  | .mpy _ acc ra rb mode _ => a 0 acc.val ra.val rb.val mode
  | .mac _ acc ra rb mode _ => a 1 acc.val ra.val rb.val mode
  | .msu _ acc ra rb mode _ => a 2 acc.val ra.val rb.val mode
  | .aclr _ acc => c 0 acc.val
  | .amov _ acc b => c 1 acc.val && f 23 22 b.val
  | .aadd _ acc b => c 2 acc.val && f 23 22 b.val
  | .asub _ acc b => c 3 acc.val && f 23 22 b.val
  | .aneg _ acc => c 4 acc.val
  | .ashr _ acc sh => c 5 acc.val && f 17 12 sh.toNat
  | .ashl _ acc sh => c 6 acc.val && f 17 12 sh.toNat
  | .aset _ acc rd sh => c 7 acc.val && f 21 18 rd.val && f 17 12 sh.toNat
  | .asetp _ acc rd sh => c 8 acc.val && f 21 18 rd.val && f 17 12 sh.toNat
  | .sta _ rd acc sh => c 9 acc.val && f 21 18 rd.val && f 17 12 sh.toNat
  | .stal _ rd acc sh => c 10 acc.val && f 21 18 rd.val && f 17 12 sh.toNat
  | .stah _ rd acc sh => c 11 acc.val && f 21 18 rd.val && f 17 12 sh.toNat
  | .diva _ rd acc rb => c 12 acc.val && f 21 18 rd.val && f 9 6 rb.val
  | .pseti _ k imm => f 31 26 0x18 && f 25 23 k.val && f 22 0 imm.toNat
  | .paddi _ k imm => f 31 26 0x19 && f 25 23 k.val && f 22 0 imm.toNat
  | .pset _ k rr => p 0 k.val && f 22 19 rr.val
  | .pget _ rr k => p 1 k.val && f 22 19 rr.val
  | .pmov _ k pq => p 2 k.val && f 18 16 pq.val
  | .padd _ k rr => p 3 k.val && f 22 19 rr.val
  | .cbset _ cb k rr => p 4 k.val && f 22 19 rr.val && f 17 16 cb.val
  | .mini _ rd ri k rn uns => q 0 rd.val ri.val k.val rn.val uns
  | .maxi _ rd ri k rn uns => q 1 rd.val ri.val k.val rn.val uns
  | .bcc _ cond off => f 31 26 0x20 && f 25 22 cond.toNat && f 21 0 off.toNat
  | .call _ target => f 31 26 0x21 && f 9 0 target.toNat
  | .loop_ _ fromReg ra count last => f 31 26 0x22 && f 25 25 (b2n fromReg) && f 24 21 ra.val && f 20 11 count.toNat && f 10 0 last.toNat
  | .sysNop _ => spellsSystem w 0
  | .exit_ _ => spellsSystem w 1
  | .ret _ => spellsSystem w 2
  | .faultOp _ code => spellsFault w code
  | .movf _ rd => spellsFlags w 4 rd
  | .setf _ rd => spellsFlags w 5 rd
  | _ => false

/-! ### Program faults -/

/-- Causes of a program fault (Table 8.10); SOFTWARE carries its code. -/
inductive Cause where | illegal | address | circular | budget | stack | outputFull | count | software (code : Byte) | pc | divide
  deriving DecidableEq, Repr

def Cause.number : Cause → Nat
  | .illegal => 1
  | .address => 2
  | .circular => 3
  | .budget => 4
  | .stack => 5
  | .outputFull => 6
  | .count => 7
  | .software _ => 8
  | .pc => 9
  | .divide => 10

/-- What an instruction does when it is executed: the core before the advance of the program counter, its ticks, a store
to cluster memory (offset and bytes), and where control goes: next word, or a target. -/
structure Eff where
  core  : Core
  cost  : Nat
  store : Option (Nat × List Byte) := none
  jump  : Option Nat := none
  deriving DecidableEq, Repr

/-! ### Memory as a core sees it -/

/-- The spaces of Table 8.4 with the offset in the space. -/
inductive Space where
  | parameter (o : Nat) | scratch (o : Nat) | cluster (o : Nat) | data (o : Nat) | exchange (o : Nat) | comp (o : Nat)
  | inMirror (o : Nat) | outBank (o : Nat) | field (o : Nat) | placement (o : Nat) | frame (o : Nat) | regs (o : Nat)
  deriving DecidableEq, Repr

/-- The space of an address, none outside the map and in the instruction slots (R246). -/
def spaceOf (a : Nat) : Option Space :=
  if a < 0x2000 then some (.parameter a)
  else if a < 0x4000 then some (.scratch a)
  else if 0x100000 ≤ a ∧ a < 0x140000 then some (.cluster (a - 0x100000))
  else if 0x200000 ≤ a ∧ a < 0x320000 then some (.data (a - 0x200000))
  else if 0x400000 ≤ a ∧ a < 0x404000 then some (.exchange (a - 0x400000))
  else if 0x440000 ≤ a ∧ a < 0x450000 then some (.comp (a - 0x440000))
  else if 0x480000 ≤ a ∧ a < 0x482000 then some (.inMirror (a - 0x480000))
  else if 0x500000 ≤ a ∧ a < 0x502000 then some (.outBank (a - 0x500000))
  else if 0x502000 ≤ a ∧ a < 0x502100 then some (.field (a - 0x502000))
  else if 0x580000 ≤ a ∧ a < 0x581000 then some (.placement (a - 0x580000))
  else if 0x581000 ≤ a ∧ a < 0x581800 then some (.frame (a - 0x581000))
  else if 0x7F0000 ≤ a ∧ a < 0x7F0020 then some (.regs (a - 0x7F0000))
  else none

/-- ENTRY_FLAGS (Table 8.7) of an item on a die. -/
def entryFlags (x : Die) (i : Item) : Nat :=
  packBits [i.cold, i.b % max x.cfg.rSep 1 == 0, i.b % max x.cfg.rP 1 == 0]

/-- Core registers (Table 8.8). -/
def coreRegister (x : Die) (c : Core) (i : Item) (o : Nat) : Nat :=
  match o / 4 with
  | 0 => i.b % 2 ^ 32
  | 1 => i.b / 2 ^ 32 % 2 ^ 32
  | 2 => x.cfg.periods.tS
  | 3 => x.cfg.rP % 65536 + 65536 * (x.cfg.rSep % 65536)
  | 4 => c.ticks
  | 5 => i.bound
  | 6 => i.inst
  | _ => entryFlags x i

/-- The bytes of a valid scratch word, zeros otherwise (R248). -/
def validByte (valid : Bool) (b : Byte) : Byte := if valid then b else 0

/-- A byte of the compensation store (R188): a redirected table is read from its staged copy (R191). -/
def Die.compByte (x : Die) (o : Nat) : Byte :=
  let t := o / 512
  if x.redirect.contains t then
    BitVec.ofInt 8 ((((x.cfg.tables[t % 128]'(Nat.mod_lt _ (by decide))).entries.getD (o % 512 / 2) 0) % 65536) / 256 ^ (o % 2))
  else x.stores.compStore.read o

/-- A scratch word of a cluster that core `k` may see (R248): one of a writer that has completed since the boundary, or of the item the core runs. -/
def ClusterMem.seen (m : ClusterMem) (k w : Nat) : Bool :=
  match m.valid.find w with
  | some none => true
  | some (some c) => c == k
  | none => false

/-- The byte a load sees at an address (R246..R248); none where the space may not be read. -/
def loadByte (x : Die) (k : Nat) (c : Core) (i : Item) (a : Nat) : Option Byte :=
  match spaceOf a with
  | none => none
  | some (.parameter o) => some (c.local_.read o)
  | some (.scratch o) => some (validByte (c.valid.contains (o / 4)) (c.local_.read o))
  | some (.cluster o) =>
    let m := x.clusters[k / 8 % 4]'(Nat.mod_lt _ (by decide))
    if o < 0x3C000 then some (m.mem.read o)
    else some (validByte (m.seen k (o / 4)) (m.mem.read o))
  | some (.data o) => some (x.stores.dataStore.read o)
  | some (.exchange o) => some (c.blocks.read o)
  | some (.comp o) => some (x.compByte o)
  | some (.inMirror o) => some (x.stores.inMirror.read o)
  | some (.regs o) => some (BitVec.ofNat 8 (coreRegister x c i o / 256 ^ (o % 4)))
  | some (.outBank _) | some (.field _) | some (.placement _) | some (.frame _) => none

/-- `n` bytes from an address, none where any may not be read. -/
def loadBytes (x : Die) (k : Nat) (c : Core) (i : Item) (a : Nat) : Nat → Option (List Byte)
  | 0 => some []
  | n + 1 =>
    match loadByte x k c i a, loadBytes x k c i (a + 1) n with
    | some b, some r => some (b :: r)
    | _, _ => none

/-- Ticks of a load or store by its space (Table 8.14). -/
def memTicks (sp : Space) (pair : Bool) : Nat :=
  match sp with
  | .parameter _ | .scratch _ | .outBank _ | .field _ | .placement _ | .frame _ => if pair then 8 else 6
  | .cluster _ => if pair then 32 else 24
  | _ => if pair then 48 else 40

/-- Bytes of the output buffer (R247). -/
def Core.buffered (c : Core) : Nat := c.out.foldl (fun n e => n + e.2.length) 0

/-- The words a store of `n` bytes touches. -/
def wordsAt (a n : Nat) : List Nat := (List.range ((n + 3) / 4)).map fun k => a / 4 + k

/-- Store into the core's own memory; a scratch word stored into is valid from then on (R248), its other bytes zero where it was not. DEDUCED: a word
that has been written in part shows no old contents. -/
def Core.storeLocal (c : Core) (a : Nat) (bs : List Byte) : Core :=
  let fresh := (wordsAt a bs.length).filter fun w => decide (0x800 ≤ w) && !c.valid.contains w
  { c with local_ := (fresh.foldl (fun (m : Memory) w => m.writeN (4 * w) (zeros 4)) c.local_).writeN a bs, valid := fresh ++ c.valid }

/-- A space that only takes buffered stores (Table 8.4). -/
def Space.sent : Space → Bool
  | .outBank _ | .field _ | .placement _ | .frame _ => true
  | _ => false

/-- Store bytes at an address whose space is known (R246, R247). Joint blocks are buffered outside their generator part. A pair over the end of one buffered space in the next
is a store to each. -/
def storeBytes (c : Core) (a : Nat) (bs : List Byte) (pair : Bool) : Except Cause Eff :=
  let put : List (Nat × List Byte) → Except Cause Eff := fun out =>
    if 1024 < c.buffered + bs.length then .error .outputFull
    else .ok { core := { c with out := c.out ++ out }, cost := if pair then 8 else 6 }
  let buffer := put [(a, bs)]
  match spaceOf a, spaceOf (a + bs.length - 1) with
  | some (.parameter o), some _ => .ok { core := c.storeLocal o bs, cost := if pair then 8 else 6 }
  | some (.scratch o), some (.scratch _) => .ok { core := c.storeLocal o bs, cost := if pair then 8 else 6 }
  | some (.cluster o), some (.cluster _) => .ok { core := c, cost := if pair then 32 else 24, store := some (o, bs) }
  | some (.exchange o), some (.exchange _) => if o % 256 < 0x40 ∨ (o + bs.length - 1) % 256 < 0x40 then .error .address else buffer
  | some (.outBank _), some (.outBank _) => buffer
  | some (.field _), some (.field _) => buffer
  | some (.placement _), some (.placement _) => buffer
  | some (.frame _), some (.frame _) => buffer
  | some x, some y => if x.sent && y.sent then put [(a, bs.take 4), (a + 4, bs.drop 4)] else .error .address
  | _, _ => .error .address

/-- Store into a cluster's memory, marking scratch words with their writer (R248); a word the writer does not see is zero beside what it stores. -/
def ClusterMem.store (m : ClusterMem) (k o : Nat) (bs : List Byte) : ClusterMem :=
  let ws := (wordsAt o bs.length).filter fun w => decide (0xF000 ≤ w)
  let fresh := ws.filter fun w => !m.seen k w
  { mem := (fresh.foldl (fun (x : Memory) w => x.writeN (4 * w) (zeros 4)) m.mem).writeN o bs,
    valid := ws.foldl (fun v w => v.set w (some k)) m.valid }

/-- The item core `k` ran has completed: what it wrote to cluster scratch is seen by every item (R248). -/
def ClusterMem.complete (m : ClusterMem) (k : Nat) : ClusterMem :=
  { m with valid := m.valid.map fun e => if e.2 = some k then (e.1, none) else e }

/-- The item core `k` ran has ended without completing, or starts anew: nothing it wrote to cluster scratch is seen. -/
def ClusterMem.forget (m : ClusterMem) (k : Nat) : ClusterMem := { m with valid := m.valid.filter fun e => e.2 != some k }

/-- Change the memory of the cluster a core belongs to. -/
def State.onCluster (s : State) (c : CoreRef) (f : ClusterMem → ClusterMem) : State :=
  s.onDie c.die fun x =>
    let k : Fin 4 := ⟨c.core.val / 8, by have := c.core.isLt; omega⟩
    { x with clusters := x.clusters.set k (f x.clusters[k]) }

/-! ### Registers -/

def Core.reg (c : Core) (r : Fin 16) : Word := c.d[r]
def Core.setReg (c : Core) (r : Fin 16) (v : Word) : Core := { c with d := c.d.set r v }
def Core.ptr (c : Core) (p : Fin 8) : Ptr := c.p[p]
/-- Pointers hold 23 bits; bit 23 is always 0 (Table 8.1). -/
def Core.setPtr (c : Core) (p : Fin 8) (v : Nat) : Core := { c with p := c.p.set p (BitVec.ofNat 24 (v % 8388608)) }
def Core.accOf (c : Core) (a : Fin 4) : Acc := c.acc[a]
/-- Residue modulo 3 of an integer. -/
def residue (x : Int) : Nat := (x % 3).toNat
/-- Write an accumulator with the residue kept beside it (R256). -/
def Core.setAcc (c : Core) (a : Fin 4) (v : Acc) : Core :=
  { c with acc := c.acc.set a v, accRes := c.accRes.set a (residue v.toInt) }
def Core.withFlags (c : Core) (f : Word) : Core := { c with flags := f }

/-! ### Item entry (R251) -/

/-- Write an item's parameter block into a parameter slot (R251). -/
def Core.putParams (c : Core) (slot : Bool) (bs : List Byte) : Core := { c with local_ := c.local_.writeN (if slot then 0x1000 else 0) bs }

/-- Unit reset (R18, R257, R421): the core's local state is cleared; what is prefetched comes again from cluster memory. -/
def Core.unitReset (c : Core) : Core := { slot := c.slot, next := c.next }

/-- Entry state of Table 8.7; everything else is zero. `blocks` is the exchange image at entry. -/
def Core.enter (c : Core) (x : Die) (i : Item) (slot : Bool) : Core :=
  { local_ := c.local_,
    d := ((((Vector.replicate 16 0).set 0 (BitVec.ofNat 32 i.inst)).set 1 (BitVec.ofNat 32 i.b)).set 2
      (BitVec.ofNat 32 (entryFlags x i))).set 3 (BitVec.ofNat 32 x.cfg.periods.tS),
    p := ((((Vector.replicate 8 0).set 0 (if slot then 0x1000 else 0)).set 1 0x2000).set 6 (BitVec.ofNat 24 i.stateRead)).set 7
      (BitVec.ofNat 24 i.stateWrite),
    blocks := x.stores.exchange,
    slot := slot,
    run := some i,
    next := c.next,
    prefetched := c.prefetched }

/-! ### Advance of the program counter (R261) -/

/-- After the last word of a body the core returns to its first word while the remaining count exceeds 1 and falls through
otherwise; the second result counts the loop returns, which charge class B. -/
def loopAdvance : Nat → List LoopFrame → List LoopFrame × Nat × Nat
  | pc, [] => ([], pc + 1, 0)
  | pc, f :: r =>
    if pc = f.last then
      if 1 < f.count then ({ f with count := f.count - 1 } :: r, f.first, 1)
      else loopAdvance pc r
    else (f :: r, pc + 1, 0)

/-- A taken branch or RET ends the active loops, innermost first, whose body does not hold the target (R261). -/
def leaveLoops (target : Nat) : List LoopFrame → List LoopFrame
  | [] => []
  | f :: r => if f.first ≤ target ∧ target ≤ f.last then f :: r else leaveLoops target r

/-! ### Program faults and hardware detections -/

/-- Place of a servo core. -/
def coreUnit (c : CoreRef) : UnitId :=
  unitOf c.die 0 ⟨c.core.val / 8, by have := c.core.isLt; omega⟩ ⟨c.core.val % 8, by omega⟩

/-- Change a core. -/
def State.onCore (s : State) (c : CoreRef) (f : Core → Core) : State :=
  s.onDie c.die fun x => { x with cores := x.cores.set c.core (f x.cores[c.core]) }

/-- Change the item run that a core is running. -/
def Dispatcher.onRun (x : Dispatcher) (k : Nat) (f : InstState) : Dispatcher :=
  { x with insts := x.insts.map fun i => if i.state = .running k ∨ i.state = .exited k then { i with state := f } else i }

/-- The run of entry `n` on core `k` has ended, by which its first run is over (R253); a run from before a commit that made the item anew is not its first. -/
def Dispatcher.ranOnce (x : Dispatcher) (k n : Nat) : Dispatcher :=
  let before := x.insts.any fun i => (i.state == .running k || i.state == .exited k) && i.frozen.any fun f => !f.kept
  if before then x else { x with cold := x.cold.filter fun m => m != n }

/-! ### Scheduling trace (R277) -/

/-- The 16 bytes of a trace entry (Table 9.3). -/
def TraceEntry.bytes (e : TraceEntry) : List Byte :=
  le 4 e.offset ++ le 2 e.entry ++ le 1 e.kind ++ le 1 e.flags ++ le 1 e.core ++ le 1 e.cls ++ le 2 e.b ++ le 4 e.ticks

/-- Send the entries a trace holds as one record. -/
def State.flushTrace (s : State) (d : DieId) : State :=
  match (s.die d).disp.trace with
  | none => s
  | some t =>
    if t.held.isEmpty then s
    else
      let s := s.onDie d fun x => { x with disp := { x.disp with trace := some { t with held := [], seq := (t.seq + 1) % 65536 } } }
      s.sendStream d
        { kind := 3, own := true, flier := s.isFlier d, status := 0, tag := t.tag, seq := t.seq, target := t.target,
          epoch := s.epoch, opcode := 0x0B03, queue := t.queue, result := (t.held.map TraceEntry.bytes).flatten }

/-- Make a trace entry, if it passes the three filters; `core` 255 stands for none, then any core of `home` lets it pass. -/
def State.trace (s : State) (d : DieId) (entry kind flags core home cls b ticks : Nat) : State :=
  match (s.die d).disp.trace with
  | none => s
  | some t =>
    let coreOk := if core = 255 then (List.range 8).any fun u => t.coreMask.getLsbD (8 * home + u) else t.coreMask.getLsbD core
    if bit t.classMask cls && bit t.kindMask kind && coreOk then
      let e : TraceEntry := { offset := s.now - s.mw.bNs, entry := entry, kind := kind, flags := flags, core := core, cls := cls,
                              b := b % 65536, ticks := ticks }
      let s := s.onDie d fun x => { x with disp := { x.disp with trace := some { t with held := t.held ++ [e] } } }
      if 14 ≤ t.held.length + 1 then s.flushTrace d else s
    else s

/-- The prefetched item run of a core runs. -/
def Inst.startOn (k : Nat) (t : Inst) : Inst := if t.state = .prefetched k then { t with state := .running k } else t

/-- An item run of a class, released at boundary `b`, is before its class deadline (R254, R263, R270). -/
def State.beforeDeadline (s : State) (d : DieId) (b cls : Nat) : Bool :=
  let last := b + (s.die d).cfg.ratio cls - 1
  decide (s.mw.b < last) || (decide (s.mw.b = last) && !s.mw.cutDone)

/-- Start the prefetched item on a core that runs nothing (R268, R269); one past its class deadline is not dispatched (R270). -/
def State.startNext (s : State) (c : CoreRef) : State :=
  let k := (s.die c.die).cores[c.core]
  match k.run, k.next with
  | none, some i =>
    if k.prefetched && s.beforeDeadline c.die i.b i.cls then
      let s := s.onCluster c fun m => m.forget c.core.val
      let s := s.onCore c fun x =>
        { (x.enter (s.die c.die) { i with startNs := s.now } !x.slot) with next := none, prefetched := false }
      let s := s.onDie c.die fun x => { x with disp := { x.disp with insts := x.disp.insts.map (Inst.startOn c.core.val) } }
      s.trace c.die i.entry.val 2 (if i.retried then 4 else 0) c.core.val (c.core.val / 8) i.cls i.b 0
    else s
  | _, _ => s

/-- What a program fault does at the core (R255): the item stops, its buffer is discarded, it does not complete in its period, `ITEM_FAULT`; the prefetched item starts. -/
def State.faultItem (s : State) (c : CoreRef) (i : Item) (cause : Cause) : State :=
  let pc := ((s.die c.die).cores[c.core]).pc
  let code : Nat := match cause with
    | .software b => b.toNat
    | _ => 0
  let s := s.onCore c fun x => { x with run := none, out := [] }
  let s := s.onCluster c fun m => m.forget c.core.val
  let s := s.onDie c.die fun x => { x with disp := (x.disp.ranOnce c.core.val i.entry.val).onRun c.core.val .faulted }
  let s := s.count c.die 3 0 2
  let s := s.trace c.die i.entry.val 3 (8 + 4 * b2n i.retried) c.core.val (c.core.val / 8) i.cls i.b ((s.die c.die).cores[c.core]).ticks
  let s := s.raise c.die 42 (s.unitTarget (coreUnit c))
    (le 4 (s.unitTarget (coreUnit c)).toNat ++ le 2 i.entry.val ++ le 2 pc ++ le 1 cause.number ++ le 1 code)
  s.startNext c

end Sys2Proof.Machine
end

