-- ==== Sys2Proof/Machine/Select.lean ====
section
/-! DEFINITION. Placement of a program in cluster memory, item runs, and what the dispatch slices select for the cores (R250..R253,
R265..R268). -/

namespace Sys2Proof.Machine

/-! ### Placement in cluster memory (Table 8.5, R265) -/

/-- Bytes of a staged block. -/
def CfgBlock.all (b : CfgBlock) (n : Nat) : List Byte := (List.range n).map fun i => b.bytes.getD i 0

/-- The lowest offset from `lo` on at which `n` bytes lie clear of every piece. -/
def gapFor (ps : List Piece) (lo n : Nat) : Nat :=
  let clear := fun (o : Nat) => ps.all fun p => decide (o + n ≤ p.at_ ∨ p.at_ + p.size ≤ o)
  match (lo :: ps.map fun p => p.at_ + p.size).filter clear with
  | [] => lo
  | o :: r => r.foldl min o

/-- Lay the blocks `want` (kind, number, size) out in a region `lo` to `hi` of cluster `k`: one that is there in the same size keeps its place, every other takes the lowest
gap, and where the gaps do not hold them all are laid out anew in order. DESIGN CHOICE: the spec gives no places within the region. -/
def layOut (old : List Piece) (k lo hi : Nat) (want : List (Nat × Nat × Nat)) : List Piece :=
  let add := fun (a : List Piece) (w : Nat × Nat × Nat) =>
    if a.any fun p => p.kind == w.1 && p.id == w.2.1 then a
    else a ++ [{ cluster := k, kind := w.1, id := w.2.1, at_ := gapFor a lo w.2.2, size := w.2.2 }]
  let stay := want.filterMap fun w => old.find? fun p => p.cluster == k && p.kind == w.1 && p.id == w.2.1 && p.size == w.2.2
  let all := want.foldl add stay
  if all.all fun p => decide (p.at_ + p.size ≤ hi) then all else want.foldl add []

/-- Where a configuration's blocks lie in the clusters (Table 8.5, R265), given where those of the one before lay: code from 0, parameters and state from 0x1_8000. -/
def Cfg.pieces (c : Cfg) (old : List Piece) : List Piece :=
  [0, 1, 2, 3].flatMap fun k =>
    let es := c.program.filter fun x => x.2.at_ k
    let codes := (es.map fun x => x.2.codeId).eraseDups.map fun id => (0, id, (c.code.getD id {}).size)
    let data := es.flatMap fun x => [(1, x.1, (c.block x.2).paramBytes), (2, x.1, 2 * (c.block x.2).stateBytes)]
    layOut old k 0 0x18000 codes ++ layOut old k 0x18000 0x3C000 data

/-- Offset of a block in the memory of its cluster. -/
def Die.pieceAt (x : Die) (k kind id : Nat) : Nat :=
  match x.disp.places.find? fun p => p.cluster == k && p.kind == kind && p.id == id with
  | some p => p.at_
  | none => 0

/-- Number of an entry's home cluster. -/
def ProgEntry.homeNo (e : ProgEntry) : Nat := match e.home with
  | some h => h.val
  | none => 0

/-- Offset of a state half of an entry. -/
def Die.stateOf (x : Die) (i : Nat) (e : ProgEntry) (half : Bool) : Nat :=
  x.pieceAt e.homeNo 2 i + (if half then (x.cfg.block e).stateBytes else 0)

/-- Which library item a code block is. -/
def libOf (code : List Word) : LibItem :=
  match Config.libraryItem (code.map fun w => (w.toNat : Int)) with
  | 1 => .feedback
  | 2 => .kinematics
  | 3 => .control
  | 4 => .gravity
  | 5 => .ringPack
  | _ => .user

/-! ### Instances -/

/-- The entry an item run belongs to: that of the program committed for its period (R253). -/
def Die.entryOf (x : Die) (i : Inst) : Option ProgEntry := match i.frozen with
  | some f => some f.entry
  | none => x.cfg.program.find i.entry

/-- The code block of an item run. -/
def Die.blockOf (x : Die) (i : Inst) (e : ProgEntry) : CfgBlock := match i.frozen with
  | some f => f.block
  | none => x.cfg.block e

/-- Class ratio-weighted deadline of an item run in ns after its release boundary (Table 9.2). -/
def Cfg.deadlineNs (c : Cfg) (cls : Nat) : Nat := c.ratio cls * c.periods.tS - 1000

/-- The item run can complete on time now (R254, R270). -/
def State.inTime (s : State) (d : DieId) (i : Inst) (e : ProgEntry) : Bool := s.beforeDeadline d i.b e.cls

/-- The item run has reached an end. -/
def InstState.ended : InstState → Bool
  | .done | .late | .dropped | .faulted | .withheld => true
  | _ => false

/-- The item run is on a core. -/
def InstState.onCore : InstState → Bool
  | .prefetched _ | .running _ | .exited _ => true
  | _ => false

/-- Change every item run of an entry released at a boundary. -/
def Dispatcher.onInst (x : Dispatcher) (entry b : Nat) (f : Inst → Inst) : Dispatcher :=
  { x with insts := x.insts.map fun i => if i.entry = entry ∧ i.b = b then f i else i }

/-- The item run an item run waits for. -/
def Dispatcher.pred (x : Dispatcher) (p b : Nat) : Option Inst := x.insts.find? fun i => i.entry == p && i.b == b

/-- Where a released, waiting item run goes: withheld when a predecessor faulted or was withheld, ready when every
predecessor item run has completed (R255, R266). -/
def Die.settle (x : Die) (i : Inst) : InstState :=
  match x.entryOf i with
  | none => i.state
  | some e =>
    let ps := e.preds.map fun p => x.disp.pred p i.b
    let bad := ps.any fun o => match o with
      | some q => q.state == .faulted || q.state == .withheld
      | none => false
    let ok := ps.all fun o => match o with
      | some q => q.state == .done || q.state == .late
      | none => false
    if bad then .withheld else if ok then .ready else i.state

/-- Move every released waiting item run on. -/
def Die.settleAll (x : Die) : Die :=
  { x with disp := { x.disp with insts := x.disp.insts.map fun i =>
      if i.state = .waiting ∧ i.released then { i with state := x.settle i } else i } }

/-- Cluster of a core number. -/
def clusterOf (k : Fin 32) : Nat := k.val / 8

/-- Ranking deadline of an item run in ns of TB2 nominal time from boundary 0 at the present T_s (R267). -/
def Die.rank (x : Die) (i : Inst) (e : ProgEntry) : Nat :=
  let cd := x.cfg.deadlineNs e.cls
  i.b * x.cfg.periods.tS + (if e.rankNs = 0 then cd else min e.rankNs cd)

/-- The better of two candidates in the order of R267. -/
def betterOf (a b : Nat × Nat × Nat) : Bool :=
  decide (a.1 < b.1) || (a.1 == b.1 && (decide (a.2.1 < b.2.1) || (a.2.1 == b.2.1 && decide (a.2.2 < b.2.2))))

/-- An item run a core of a cluster may take now (R252, R267). -/
def State.selectable (s : State) (d : DieId) (k : Nat) (i : Inst) (e : ProgEntry) : Bool :=
  let x := s.die d
  let servoLeft := x.disp.insts.any fun j => j.b == s.mw.b && (match x.entryOf j with
    | some f => f.cls == 0 && f.at_ k && (j.state == .waiting || j.state == .ready || (match j.state with
        | .prefetched _ => true
        | _ => false))
    | none => false)
  let earlier := x.disp.insts.any fun j => j.entry == i.entry && decide (j.b < i.b) && !j.state.ended
  let fitsIn := decide (s.now + x.cfg.cost x.admitDie e + 1000 ≤ s.mw.bNs + x.cfg.periods.tS)
  i.state == .ready && e.at_ k && s.inTime d i e && !earlier && (e.cls == 0 || (!servoLeft && fitsIn))

/-- The item run the dispatch slice of a cluster selects (R267). -/
def State.select (s : State) (d : DieId) (k : Nat) : Option (Inst × ProgEntry) :=
  let x := s.die d
  let cands := x.disp.insts.filterMap fun i => match x.entryOf i with
    | some e => if s.selectable d k i e then some (i, e) else none
    | none => none
  cands.foldl (fun best c =>
    match best with
    | none => some c
    | some b => if betterOf (c.2.cls, x.rank c.1 c.2, c.1.entry) (b.2.cls, x.rank b.1 b.2, b.1.entry) then some c else some b) none

/-- The item selected for a core (R251, R253); its code and parameters come with the prefetch. -/
def Die.mkItem (x : Die) (i : Inst) (e : ProgEntry) : Item :=
  let b := x.blockOf i e
  let now := x.disp.half.getD i.entry false
  let off : Bool → Nat := match i.frozen with
    | some f => fun h => if f.kept then x.stateOf i.entry f.entry h else f.stateAt + (if h then b.stateBytes else 0)
    | none => x.stateOf i.entry e
  let half := match i.frozen with
    | some f => if f.kept then now else f.half
    | none => now
  let cold := match i.frozen with
    | some f => if f.kept then x.disp.cold.contains i.entry else f.cold
    | none => x.disp.cold.contains i.entry
  let at_ := fun (h : Bool) => if b.stateBytes = 0 then 0 else 0x100000 + off h
  { entry := ⟨i.entry % 1024, Nat.mod_lt _ (by decide)⟩, inst := e.inst, b := i.b, cls := e.cls, code := [], params := [], bound := b.bound,
    stateBytes := b.stateBytes, stateRead := at_ half, stateWrite := at_ !half, cold := cold, lib := .user }

/-- What a prefetch brings (R251, R253): the code block and the parameter block as they stand in cluster memory; those of its period for a run whose program a commit has
changed since its release. -/
def Die.prefetch (x : Die) (k : Fin 32) (n : Item) : Item :=
  let m := (x.clusters[clusterOf k % 4]'(Nat.mod_lt _ (by decide))).mem
  let read := fun (code : List Word) (ps : List Byte) => { n with code := code, params := ps, lib := libOf code }
  match x.disp.insts.find? fun i => i.state == .prefetched k.val with
  | none => n
  | some i => match i.frozen, x.cfg.program.find i.entry with
    | some f, _ => read f.block.code f.params
    | none, some e =>
      let b := x.cfg.block e
      let o := x.pieceAt (clusterOf k) 0 e.codeId + 16
      read ((List.range b.wordCount).map fun w => BitVec.ofNat 32 (m.nat (o + 4 * w) 4)) (m.readN (x.pieceAt (clusterOf k) 1 i.entry) b.paramBytes)
    | none, none => n

/-- A core that can take work: present, not fenced, not removed. -/
def Die.coreUp (x : Die) (k : Fin 32) : Bool :=
  !x.removed.contains (0, clusterOf k) && !x.fenced.contains (0, clusterOf k, k.val % 8)

/-- Select for one core whose prefetch slot is free (R267, R268). -/
def State.fillCore (s : State) (d : DieId) (k : Fin 32) : State :=
  let c := (s.die d).cores[k]
  if c.next.isSome || !(s.die d).coreUp k then s
  else match s.select d (clusterOf k) with
    | none => s
    | some (i, e) =>
      let item := (s.die d).mkItem i e
      let s := s.onCore ⟨d, k⟩ fun c => { c with next := some item, prefetched := false }
      let s := s.onDie d fun x => { x with disp := x.disp.onInst i.entry i.b fun j => { j with state := .prefetched k.val } }
      s.trace d i.entry 1 0 k.val (clusterOf k) e.cls i.b 0

/-- Select for every core of a die: cores that run nothing first. -/
def State.fillAll (s : State) (d : DieId) : State :=
  let idle := (List.finRange 32).filter fun k => ((s.die d).cores[k]).run.isNone
  let busy := (List.finRange 32).filter fun k => ((s.die d).cores[k]).run.isSome
  (idle ++ busy).foldl (fun s k => s.fillCore d k) s

/-- An item run has become ready since the dispatcher last looked at `was`. -/
def becameReady (was : List Inst) (i : Inst) : Bool := i.state == .ready && was.any fun j => j.entry == i.entry && j.b == i.b && j.state == .waiting

/-- Cancel prefetches of a lower class than an item run of the cluster that has become ready (R268). -/
def State.cancelPrefetches (s : State) (d : DieId) (was : List Inst) : State :=
  let fresh := (s.die d).disp.insts.filter (becameReady was)
  let go := fun (s : State) (k : Fin 32) =>
    match ((s.die d).cores[k]).next with
    | none => s
    | some n =>
      let higher := fresh.any fun i => match (s.die d).entryOf i with
        | some e => e.at_ (clusterOf k) && decide (e.cls < n.cls)
        | none => false
      if higher then
        let s := s.onCore ⟨d, k⟩ fun c => { c with next := none, prefetched := false }
        let s := s.onDie d fun x => { x with disp := x.disp.onInst n.entry.val n.b fun j => { j with state := .ready } }
        let s := s.count d 3 0 3
        s.trace d n.entry.val 1 2 k.val (clusterOf k) n.cls n.b 0
      else s
  (List.finRange 32).foldl go s

/-- What follows a change of the ready lists (R266..R268). -/
def State.reschedule (s : State) (d : DieId) : State :=
  let was := (s.die d).disp.insts
  let s := s.onDie d Die.settleAll
  let note := fun (s : State) (i : Inst) =>
    if i.state = .withheld ∧ was.any (fun j => j.entry == i.entry && j.b == i.b && j.state == .waiting) then
      match (s.die d).entryOf i with
      | some e => s.trace d i.entry 0 16 255 e.homeNo e.cls i.b 0
      | none => s
    else s
  let s := (s.die d).disp.insts.foldl note s
  (s.cancelPrefetches d was).fillAll d

end Sys2Proof.Machine
end

