-- ==== Sys2Proof/Machine/Cores.lean ====
section
/-! DEFINITION. One instruction on a servo core: detections and their retry, the charge and the advance of the program counter, and the
checks every instruction takes (R240, R255..R258). -/

namespace Sys2Proof.Machine

/-- A program fault (R255); the core that is free then gets its next item (R267, R268). -/
def State.programFault (s : State) (c : CoreRef) (i : Item) (cause : Cause) : State := (s.faultItem c i cause).reschedule c.die

/-- A hardware detection on a core (R257): the first abandons the item and re-executes it from entry, after a unit reset where a stage stalled (detector 1), a second is lasting
and fences the unit. -/
def State.coreDetection (s : State) (c : CoreRef) (i : Item) (det : Nat) (injected : Bool) : State :=
  if i.retried then
    let r := s.detect c.die (s.unitTarget (coreUnit c)) (placeNumber (coreUnit c)) det true (injected || i.injected) []
    (r.1.fenceUnit c.die 0 (c.core.val / 8) (c.core.val % 8) { injected := injected, detector := det }).reschedule c.die
  else
    let i' := { i with retried := true, injected := injected, detector := det }
    let s := s.onCore c fun x =>
      let y := if det = 1 then x.unitReset else x
      (y.enter (s.die c.die) i' x.slot).putParams x.slot i'.params
    let s := s.onCluster c fun m => m.forget c.core.val
    let s := s.trace c.die i.entry.val 2 4 c.core.val (c.core.val / 8) i.cls i.b 0
    s.count c.die 3 0 5

/-- The core can execute: its die computes, the core is neither fenced nor removed, and an item runs on it. -/
def State.runningOn (s : State) (c : CoreRef) : Option Item :=
  let x := s.die c.die
  if s.computes c.die && !x.fenced.contains (0, c.core.val / 8, c.core.val % 8) && !x.removed.contains (0, c.core.val / 8) then
    match (x.cores[c.core]).run with
    | some i => if x.disp.insts.any (fun t => t.state == .exited c.core.val) then none else some i
    | none => none
  else none

/-- Complete an instruction: charge its ticks, advance the program counter, make its stores (R240, R258). -/
def State.retire (s : State) (c : CoreRef) (i : Item) (e : Eff) : State :=
  let c0 := (s.die c.die).cores[c.core]
  let adv : List LoopFrame × Nat × Nat := match e.jump with
    | some t => (e.core.loops, t, 0)
    | none => loopAdvance c0.pc e.core.loops
  let ticks := c0.ticks + e.cost + 8 * adv.2.2
  if i.bound < ticks then s.programFault c i .budget
  else
    let s := s.onCore c fun _ => { e.core with ticks := ticks, pc := adv.2.1, loops := adv.1 }
    match e.store with
    | none => s
    | some (o, bs) => s.onCluster c fun m => m.store c.core.val o bs

/-- The core is at a word of the block it runs that is this instruction. -/
def State.atInstruction (s : State) (c : CoreRef) (i : Item) (op : Instr) : Bool :=
  let pc := ((s.die c.die).cores[c.core]).pc
  match i.code[pc]? with
  | some w => wordDefined w && spells w op
  | none => false

/-- What SECDED sees at a word, joined with what the row itself brings (R13, R421). -/
def WordRead.with (r : WordRead) : ReadCheck → WordRead
  | .clean => r
  | .corrected => if r = .clean then .corrected else r
  | .transient => match r with
    | .bad again by_ => .bad again by_
    | _ => .bad false none
  | .uncorrectable => match r with
    | .bad _ by_ => .bad true by_
    | _ => .bad true none

/-- Read the instruction at the program counter from its slot, which is local memory of the core (R13, R257): an uncorrectable word is a detection of the core. -/
def State.fetchWord (s : State) (c : CoreRef) (i : Item) (go : State → State) : State :=
  let r := s.readWord c.die 0 (c.core.val / 8) (c.core.val % 8) fun n => n.target == s.unitTarget (coreUnit c)
  match r.2 with
  | .clean => go r.1
  | .corrected => go (r.1.countSingle c.die)
  | .bad _ by_ => r.1.coreDetection c i 0 by_.isSome

/-- One instruction on a core: execution past the block is a PC fault and an undefined word an ILLEGAL fault (Table 8.10);
a faulting instruction is not executed. `row` names the instruction; where the core runs nothing, or its program counter is at another instruction, nothing happens. -/
def State.coreStepAt (s : State) (c : CoreRef) (row : Word → Bool) (f : Die → Core → Item → Except Cause Eff) : State :=
  match s.runningOn c with
  | none => s
  | some i =>
    let k := (s.die c.die).cores[c.core]
    match i.code[k.pc]? with
    | none => s.programFault c i .pc
    | some w =>
      if !wordDefined w then s.fetchWord c i fun s => s.programFault c i .illegal
      else if !row w then s
      else s.fetchWord c i fun s => match f (s.die c.die) k i with
        | .error cause => s.programFault c i cause
        | .ok e => s.retire c i e

/-- As `coreStepAt`, of the words of one row. -/
def State.coreStep (s : State) (c : CoreRef) (op : Instr) (f : Die → Core → Item → Except Cause Eff) : State := s.coreStepAt c (fun w => spells w op) f

/-- As `coreStep`, for an instruction that the residue check covers (R256): a mismatch, real or injected, is a detection. -/
def State.coreStepChecked (s : State) (c : CoreRef) (op : Instr) (residueOk : Bool) (f : Die → Core → Item → Except Cause Eff) : State :=
  match s.runningOn c with
  | none => s
  | some i =>
    if !s.atInstruction c i op then s.coreStep c op f
    else
    let r := s.checkInjected c.die 2 fun n => n.target == s.unitTarget (coreUnit c)
    if !residueOk || r.2.isSome then r.1.coreDetection c i 2 r.2.isSome else s.coreStep c op f

end Sys2Proof.Machine
end

