-- ==== Sys2Proof/Machine/Alu.lean ====
section
/-! DEFINITION. The instructions of the servo cores that compute on data registers (R241, R256, R260, Table 8.13). -/

namespace Sys2Proof.Machine

/-! ### Shared forms -/

/-- Class A: a result in a register with FLAGS. -/
def aluOut (k : Core) (rd : Fin 16) (r f : Word) : Except Cause Eff := .ok { core := (k.setReg rd r).withFlags f, cost := 4 }

/-- Class A: FLAGS alone. -/
def flagsOut (k : Core) (f : Word) : Except Cause Eff := .ok { core := k.withFlags f, cost := 4 }

/-- A shift amount of 32 or more gives 0, or the sign (R241). -/
def shlBy (a : Word) (n : Nat) : Word := if 32 ≤ n then 0 else a <<< n
def shrBy (a : Word) (n : Nat) : Word := if 32 ≤ n then 0 else a >>> n
def sarBy (a : Word) (n : Nat) : Word := if 32 ≤ n then (if a.msb then 0xFFFFFFFF else 0) else a.sshiftRight n

/-- Bits [5:0] of a register: the amount of a register shift (R241). -/
def shiftAmount (b : Word) : Nat := b.toNat % 64

/-- Leading zeros, 0..32. -/
def clzWord (a : Word) : Nat := if a = 0 then 32 else 31 - Nat.log2 a.toNat

/-- ADD and SUB, wrapping; ADDS and SUBS, saturating with SAT (R241). -/
def addOut (k : Core) (rd : Fin 16) (a b : Word) : Except Cause Eff := aluOut k rd (a + b) (flagsAdd k.flags a b (a + b))
def subOut (k : Core) (rd : Fin 16) (a b : Word) : Except Cause Eff := aluOut k rd (a - b) (flagsSub k.flags a b (a - b))
def addsOut (k : Core) (rd : Fin 16) (a b : Word) : Except Cause Eff :=
  let r := sat32i (a.toInt + b.toInt)
  aluOut k rd r.1 (setSat (flagsAdd k.flags a b r.1) r.2)
def subsOut (k : Core) (rd : Fin 16) (a b : Word) : Except Cause Eff :=
  let r := sat32i (a.toInt - b.toInt)
  aluOut k rd r.1 (setSat (flagsSub k.flags a b r.1) r.2)

/-- Logic, shifts, MIN and MAX: NZ, C and V cleared. -/
def logicOut (k : Core) (rd : Fin 16) (r : Word) : Except Cause Eff := aluOut k rd r (nzOf k.flags r)

/-- Immediate shifts: NZ. -/
def shiftOut (k : Core) (rd : Fin 16) (r : Word) : Except Cause Eff := aluOut k rd r (nzKeep k.flags r)

/-! ### The instructions -/

/-- ADD (R241). -/
def execAdd (c : CoreRef) (rd ra rb : Fin 16) (s : State) : Result :=
  .next (s.coreStep c (.add c rd ra rb) fun _ k _ => addOut k rd (k.reg ra) (k.reg rb))

/-- ADDS (R241). -/
def execAdds (c : CoreRef) (rd ra rb : Fin 16) (s : State) : Result :=
  .next (s.coreStep c (.adds c rd ra rb) fun _ k _ => addsOut k rd (k.reg ra) (k.reg rb))

/-- SUB (R241). -/
def execSub (c : CoreRef) (rd ra rb : Fin 16) (s : State) : Result :=
  .next (s.coreStep c (.sub c rd ra rb) fun _ k _ => subOut k rd (k.reg ra) (k.reg rb))

/-- SUBS (R241). -/
def execSubs (c : CoreRef) (rd ra rb : Fin 16) (s : State) : Result :=
  .next (s.coreStep c (.subs c rd ra rb) fun _ k _ => subsOut k rd (k.reg ra) (k.reg rb))

/-- AND (Table 8.13). -/
def execAnd (c : CoreRef) (rd ra rb : Fin 16) (s : State) : Result :=
  .next (s.coreStep c (.and_ c rd ra rb) fun _ k _ => logicOut k rd (k.reg ra &&& k.reg rb))

/-- OR (Table 8.13). -/
def execOr (c : CoreRef) (rd ra rb : Fin 16) (s : State) : Result :=
  .next (s.coreStep c (.or_ c rd ra rb) fun _ k _ => logicOut k rd (k.reg ra ||| k.reg rb))

/-- XOR (Table 8.13). -/
def execXor (c : CoreRef) (rd ra rb : Fin 16) (s : State) : Result :=
  .next (s.coreStep c (.xor_ c rd ra rb) fun _ k _ => logicOut k rd (k.reg ra ^^^ k.reg rb))

/-- SHL (R241). -/
def execShl (c : CoreRef) (rd ra rb : Fin 16) (s : State) : Result :=
  .next (s.coreStep c (.shl c rd ra rb) fun _ k _ => logicOut k rd (shlBy (k.reg ra) (shiftAmount (k.reg rb))))

/-- SHR (R241). -/
def execShr (c : CoreRef) (rd ra rb : Fin 16) (s : State) : Result :=
  .next (s.coreStep c (.shr c rd ra rb) fun _ k _ => logicOut k rd (shrBy (k.reg ra) (shiftAmount (k.reg rb))))

/-- SAR (R241). -/
def execSar (c : CoreRef) (rd ra rb : Fin 16) (s : State) : Result :=
  .next (s.coreStep c (.sar c rd ra rb) fun _ k _ => logicOut k rd (sarBy (k.reg ra) (shiftAmount (k.reg rb))))

/-- MIN, signed (Table 8.13). -/
def execMin (c : CoreRef) (rd ra rb : Fin 16) (s : State) : Result :=
  .next (s.coreStep c (.min_ c rd ra rb) fun _ k _ => logicOut k rd (if (k.reg rb).slt (k.reg ra) then k.reg rb else k.reg ra))

/-- MAX, signed (Table 8.13). -/
def execMax (c : CoreRef) (rd ra rb : Fin 16) (s : State) : Result :=
  .next (s.coreStep c (.max_ c rd ra rb) fun _ k _ => logicOut k rd (if (k.reg ra).slt (k.reg rb) then k.reg rb else k.reg ra))

/-- MINU, unsigned (Table 8.13). -/
def execMinu (c : CoreRef) (rd ra rb : Fin 16) (s : State) : Result :=
  .next (s.coreStep c (.minu c rd ra rb) fun _ k _ => logicOut k rd (if (k.reg rb).ult (k.reg ra) then k.reg rb else k.reg ra))

/-- MAXU, unsigned (Table 8.13). -/
def execMaxu (c : CoreRef) (rd ra rb : Fin 16) (s : State) : Result :=
  .next (s.coreStep c (.maxu c rd ra rb) fun _ k _ => logicOut k rd (if (k.reg ra).ult (k.reg rb) then k.reg rb else k.reg ra))

/-- MOV, no flags (Table 8.13). -/
def execMov (c : CoreRef) (rd ra : Fin 16) (s : State) : Result :=
  .next (s.coreStep c (.mov c rd ra) fun _ k _ => aluOut k rd (k.reg ra) k.flags)

/-- ABS, saturating (R241). N, Z and V as for the subtraction 0 − ra of a negative operand; no rule defines C of an ABS: it
is a free value. -/
def execAbs (c : CoreRef) (rd ra : Fin 16) (s : State) : Result :=
  .next ((s.draw.2).coreStep c (.abs_ c rd ra) fun _ k _ =>
    let a := k.reg ra
    let r := sat32i (a.toInt.natAbs : Int)
    aluOut k rd r.1 (setSat (putNZCV k.flags r.1.msb (r.1 == 0) (Config.freeBool s.draws) r.2) r.2))

/-- NEG, saturating (R241): 0 − ra. -/
def execNeg (c : CoreRef) (rd ra : Fin 16) (s : State) : Result :=
  .next (s.coreStep c (.neg_ c rd ra) fun _ k _ => subsOut k rd 0 (k.reg ra))

/-- CMP: FLAGS of ra − rb (Table 8.13). -/
def execCmp (c : CoreRef) (ra rb : Fin 16) (s : State) : Result :=
  .next (s.coreStep c (.cmp c ra rb) fun _ k _ => flagsOut k (flagsSub k.flags (k.reg ra) (k.reg rb) (k.reg ra - k.reg rb)))

/-- TST: FLAGS of ra AND rb (Table 8.13). -/
def execTst (c : CoreRef) (ra rb : Fin 16) (s : State) : Result :=
  .next (s.coreStep c (.tst c ra rb) fun _ k _ => flagsOut k (nzOf k.flags (k.reg ra &&& k.reg rb)))

/-- MUL: the low word of the product, under the residue check (R256). No rule defines C of a MUL: it is a free value. -/
def execMul (c : CoreRef) (rd ra rb : Fin 16) (residueOk : Bool) (s : State) : Result :=
  .next ((s.draw.2).coreStepChecked c (.mul c rd ra rb residueOk) residueOk fun _ k _ =>
    let r := k.reg ra * k.reg rb
    .ok { core := (k.setReg rd r).withFlags (flagsMul k.flags (k.reg ra) (k.reg rb) r (Config.freeBool s.draws)), cost := 6 })

/-- CLZ: leading zeros of ra (Table 8.13). -/
def execClz (c : CoreRef) (rd ra : Fin 16) (s : State) : Result :=
  .next (s.coreStep c (.clz c rd ra) fun _ k _ => logicOut k rd (BitVec.ofNat 32 (clzWord (k.reg ra))))

/-- ADDI (Table 8.12). -/
def execAddi (c : CoreRef) (rd ra : Fin 16) (imm : BitVec 18) (s : State) : Result :=
  .next (s.coreStep c (.addi c rd ra imm) fun _ k _ => addOut k rd (k.reg ra) (imm.signExtend 32))

/-- ANDI (Table 8.12). -/
def execAndi (c : CoreRef) (rd ra : Fin 16) (imm : BitVec 18) (s : State) : Result :=
  .next (s.coreStep c (.andi c rd ra imm) fun _ k _ => logicOut k rd (k.reg ra &&& imm.setWidth 32))

/-- ORI (Table 8.12). -/
def execOri (c : CoreRef) (rd ra : Fin 16) (imm : BitVec 18) (s : State) : Result :=
  .next (s.coreStep c (.ori c rd ra imm) fun _ k _ => logicOut k rd (k.reg ra ||| imm.setWidth 32))

/-- XORI (Table 8.12). -/
def execXori (c : CoreRef) (rd ra : Fin 16) (imm : BitVec 18) (s : State) : Result :=
  .next (s.coreStep c (.xori c rd ra imm) fun _ k _ => logicOut k rd (k.reg ra ^^^ imm.setWidth 32))

/-- CMPI: FLAGS of ra − imm (Table 8.12). -/
def execCmpi (c : CoreRef) (ra : Fin 16) (imm : BitVec 18) (s : State) : Result :=
  .next (s.coreStep c (.cmpi c ra imm) fun _ k _ => flagsOut k (flagsSub k.flags (k.reg ra) (imm.signExtend 32) (k.reg ra - imm.signExtend 32)))

/-- SHLI (Table 8.12). -/
def execShli (c : CoreRef) (rd ra : Fin 16) (amount : BitVec 5) (s : State) : Result :=
  .next (s.coreStep c (.shli c rd ra amount) fun _ k _ => shiftOut k rd (shlBy (k.reg ra) amount.toNat))

/-- SHRI (Table 8.12). -/
def execShri (c : CoreRef) (rd ra : Fin 16) (amount : BitVec 5) (s : State) : Result :=
  .next (s.coreStep c (.shri c rd ra amount) fun _ k _ => shiftOut k rd (shrBy (k.reg ra) amount.toNat))

/-- SARI (Table 8.12). -/
def execSari (c : CoreRef) (rd ra : Fin 16) (amount : BitVec 5) (s : State) : Result :=
  .next (s.coreStep c (.sari c rd ra amount) fun _ k _ => shiftOut k rd (sarBy (k.reg ra) amount.toNat))

/-- MOVI (Table 8.12). -/
def execMovi (c : CoreRef) (rd : Fin 16) (imm : BitVec 16) (s : State) : Result :=
  .next (s.coreStep c (.movi c rd imm) fun _ k _ => aluOut k rd (imm.signExtend 32) k.flags)

/-- MOVHI: the high half, the low half kept (Table 8.12). -/
def execMovhi (c : CoreRef) (rd : Fin 16) (imm : BitVec 16) (s : State) : Result :=
  .next (s.coreStep c (.movhi c rd imm) fun _ k _ => aluOut k rd (imm ++ (k.reg rd).setWidth 16) k.flags)

/-- MOVF: rd := FLAGS (Table 8.13). -/
def execMovf (c : CoreRef) (rd : Fin 16) (s : State) : Result :=
  .next (s.coreStepAt c (fun w => spellsFlags w 4 rd) fun _ k _ => aluOut k rd k.flags k.flags)

/-- SETF: FLAGS := rd[5:0] (Table 8.13). -/
def execSetf (c : CoreRef) (rd : Fin 16) (s : State) : Result :=
  .next (s.coreStepAt c (fun w => spellsFlags w 5 rd) fun _ k _ => flagsOut k ((k.reg rd) &&& 0x3F#32))

/-- NOP of the system group (Table 8.13). -/
def execSysNop (c : CoreRef)  (s : State) : Result :=
  .next (s.coreStep c (.sysNop c) fun _ k _ => .ok { core := k, cost := 4 })

end Sys2Proof.Machine
end

