-- ==== Sys2Proof/Machine/RingMerge.lean ====
section
/-! DEFINITION. What a ring's master does with IN parts: layouts (R287), merging and ageing (R293), the IN window mirror, and the
break and restore of the ring as the returns of a cycle show it (R295). -/

namespace Sys2Proof.Machine

/-! ### Access -/

/-- A ring engine. -/
def State.ring (s : State) (r : Fin 8) : Ring := s.mw.rings[r]

/-- The ring sends frames as master. -/
def Ring.sends (x : Ring) : Bool := x.state == .discover || x.state == .data

/-- What the ports of a ring transmit between frames (R284): /I/ where the ring forwards frames or sends as master, else /C/. -/
def Ring.idles (x : Ring) : Bool := x.sends || x.curtain || (x.state == .node && x.asNode.state != .init)

/-- Change a ring engine; its ports follow in what they transmit between frames (R284). -/
def State.onRing (s : State) (r : Fin 8) (f : Ring → Ring) : State :=
  let was := (s.ring r).idles
  let s := s.onMw fun m => { m with rings := m.rings.set r (f m.rings[r]) }
  if (s.ring r).idles = was then s else s.emit (.ringIdle r.val (!was))

/-- Change what a ring's master keeps of a position. -/
def State.onNode (s : State) (r : Fin 8) (p : Fin 16) (f : RNode → RNode) : State :=
  s.onRing r fun x => { x with nodes := x.nodes.set p (f x.nodes[p]) }

/-- The master's port. -/
def Ring.port (x : Ring) (p : RingPort) : RPort :=
  match p with
  | .a => x.portA
  | .b => x.portB

/-- Change a port. -/
def Ring.onPort (x : Ring) (p : RingPort) (f : RPort → RPort) : Ring :=
  match p with
  | .a => { x with portA := f x.portA }
  | .b => { x with portB := f x.portB }

/-- Target words of a ring and of a node. -/
def State.ringTarget (s : State) (r : Nat) : Word := s.target 3 r
def State.nodeTarget (s : State) (r p : Nat) : Word := s.target 4 (16 * r + p)

/-! ### Layout (R287, R312) -/

/-- Positions with a window: below NODES, FORMAT not 0. -/
def Cfg.windows (c : Cfg) (r : Nat) : List (Fin 16) := (List.finRange 16).filter fun p => decide (p.val < (c.ring r).nodes) && (c.node r p.val).format != 0

/-- Offsets of a position's OUT and IN parts in a DATA frame. -/
def Cfg.outAt (c : Cfg) (r p : Nat) : Nat := 32 + total ((c.windows r).filter fun q => decide (q.val < p)) fun q => (c.node r q.val).outLen
def Cfg.inAt (c : Cfg) (r p : Nat) : Nat :=
  96 + c.sumOut r + c.pad r + total ((c.windows r).filter fun q => decide (q.val < p)) fun q => (c.node r q.val).inLen

/-- A byte string ends in the CRC-16 of what stands before it (R289). -/
def crcEnds (p : List Byte) : Bool := decide (3 ≤ p.length) && decide (rd p (p.length - 2) 2 = (crc16 (p.take (p.length - 2))).toNat)

/-- Close a byte string with its CRC-16. -/
def crcClose (p : List Byte) : List Byte := p ++ le 2 (crc16 p).toNat

/-! ### Merging -/

/-- A window slot of the IN mirror with a byte string at its start (R293), on both dies. -/
def State.mirror (s : State) (slot : Nat) (p : List Byte) : State :=
  let go := fun (s : State) (d : DieId) => s.onDie d fun x =>
    { x with stores := { x.stores with inMirror := x.stores.inMirror.writeN (64 * slot) (padTo 64 p) } }
  go (go s .t0) .t1

/-- A window part with another AGE. -/
def withAge (p : List Byte) (age : Nat) : List Byte := BitVec.ofNat 8 (rd p 0 1 / 16 * 16 + age) :: p.drop 1

/-- The merged part of a node takes an age, and the mirror shows it; the first time it reaches 15 raises NODE_STALE (R293). -/
def State.setMerged (s : State) (r : Fin 8) (p : Fin 16) (part : List Byte) (age : Nat) : State :=
  let was := (s.ring r).nodes[p]
  let part' := withAge part age
  let s := s.onNode r p fun n => { n with part := part', age := age, stale := decide (15 ≤ age) }
  let s := s.mirror (16 * r.val + p.val) part'
  if decide (15 ≤ age) && !was.stale && !was.part.isEmpty then s.raiseMw 102 (s.nodeTarget r.val p.val) [] else s

/-- Repeat the merged part of a node with its age raised (R293); one that has had no valid copy stands at AGE 15. -/
def State.repeatPart (s : State) (r : Fin 8) (p : Fin 16) : State :=
  let n := (s.ring r).nodes[p]
  (if n.part.isEmpty then s else s.setMerged r p n.part (min 15 (n.age + 1))).countMw 7 r.val 4

/-- Loop positions of a cycle (R295), 255 for none. -/
def Ring.loopA (x : Ring) : Nat := match x.hop0 with
  | some h => h - 1
  | none => 255
def Ring.loopB (x : Ring) : Nat := match x.hop1 with
  | some h => (if x.counted = 0 then x.hop0.getD 0 + h else x.counted) - h
  | none => 255

/-- TOPOLOGY (Table 10.16). -/
def Ring.topology (x : Ring) : Nat := b2n x.topo0 + 2 * b2n x.topo1

/-- What the returns of a cycle say of the ring, once both are there or T_ret has passed (R295). -/
def State.ringVerdict (s : State) (r : Fin 8) : State :=
  let x := s.ring r
  if x.looped then
    let s := s.onRing r fun y => { y with intact := 0, broken := true, breakB := none }
    if x.broken then s
    else
      s.raiseMw 96 (s.ringTarget r.val) (le 1 r.val ++ le 1 x.loopA ++ le 1 x.loopB ++ le 1 x.topology ++ le 1 x.counted ++ zeros 3 ++ le 8 (x.breakB.getD s.mw.b))
  else if x.topo0 && x.topo1 then
    let n := x.intact + 1
    if x.broken && decide (16 ≤ n) then
      (s.onRing r fun y => { y with intact := n, broken := false }).raiseMw 97 (s.ringTarget r.val) []
    else s.onRing r fun y => { y with intact := n }
  else s.onRing r fun y => { y with intact := 0 }

/-- Repeat what a cycle has not brought (R293): every assigned node without a fresh copy. Outside DATA no cycle brings any, and the parts merged before age on. -/
def State.ringRepeat (s : State) (r : Fin 8) : State :=
  if (s.ring r).state = .data then
    (s.mw.cfg.windows r.val).foldl (fun s p => if ((s.ring r).nodes[p]).fresh then s else s.repeatPart r p) s
  else (List.finRange 16).foldl (fun s p => if ((s.ring r).nodes[p]).part.isEmpty then s else s.repeatPart r p) s

/-- Close a cycle's merge once T_ret has passed (R293, R312). -/
def State.ringSettle (s : State) (r : Fin 8) : State :=
  let x := s.ring r
  let at_ := s.mw.bNs + s.mw.cfg.tRet r.val
  if x.settled || !x.sends || s.now < at_ then s
  else
    let both := (x.topo0 || x.hop0.isSome) && (x.topo1 || x.hop1.isSome)
    let s := if both then s else s.ringVerdict r
    let s := s.ringRepeat r
    s.onRing r fun y => { y with settled := true, mergedNs := some (y.mergedNs.getD at_) }

/-- Close the merge of every ring whose T_ret has passed. -/
def State.ringsSettle (s : State) : State := (List.finRange 8).foldl (fun s r => s.ringSettle r) s

/-- Every window of the ring has its fresh copy: the merged parts have reached both dies (R312). -/
def State.ringComplete (s : State) (r : Fin 8) : State :=
  let x := s.ring r
  if x.state = .data ∧ (s.mw.cfg.windows r.val).all (fun p => (x.nodes[p]).fresh) = true then
    s.onRing r fun y => { y with mergedNs := some (y.mergedNs.getD s.now) }
  else s

end Sys2Proof.Machine
end

