-- ==== Sys2Proof/Machine/Kinematics.lean ====
section
/-! DEFINITION. The library kinematics item (R212, Table 7.8): the chain of an arm, the placement of its capsules, and the origins and axes of
its joints. The chain is computed to 2⁻¹⁰⁰ and better; what the item writes may differ from it by the error the spec allows. -/

namespace Sys2Proof.Machine

/-! ### Sine and cosine -/

/-- π·2¹²⁸ toward zero. -/
def piFix : Int := 1069028584064966747859680373161870783300

/-- Sine and cosine series in 2⁻¹²⁸ fixed point: the term `t` of degree `n` and what follows it, `fuel` terms. -/
def series (x2 : Int) : Nat → Nat → Int → Int
  | 0, _, _ => 0
  | fuel + 1, n, t => t + series x2 fuel (n + 2) (-(t * x2 / 2 ^ 128) / ((n + 1) * (n + 2)))

/-- Cosine and sine of 2π·r: the turn nearest zero, then the series. -/
def turnCosSin (r : Rat) : Rat × Rat :=
  let x := 2 * ((r - (r + 1 / 2).floor) * piFix).floor
  let x2 := x * x / 2 ^ 128
  ((series x2 60 0 (2 ^ 128) : Rat) / (2 ^ 128 : Nat), (series x2 60 1 x : Rat) / (2 ^ 128 : Nat))

/-! ### Vectors in metres -/

/-- A point or direction. -/
structure V3 where
  x : Rat
  y : Rat
  z : Rat
  deriving DecidableEq, Repr

def V3.sub (a b : V3) : V3 := ⟨a.x - b.x, a.y - b.y, a.z - b.z⟩
def V3.add (a b : V3) : V3 := ⟨a.x + b.x, a.y + b.y, a.z + b.z⟩
def V3.scale (k : Rat) (a : V3) : V3 := ⟨k * a.x, k * a.y, k * a.z⟩
def V3.dot (a b : V3) : Rat := a.x * b.x + a.y * b.y + a.z * b.z
def V3.cross (a b : V3) : V3 := ⟨a.y * b.z - a.z * b.y, a.z * b.x - a.x * b.z, a.x * b.y - a.y * b.x⟩
def V3.norm2 (a : V3) : Rat := a.dot a

/-- Three s32 lengths in metres. -/
def Vec3.metres (v : Vec3) : V3 := ⟨(v.x : Rat) / 65536, (v.y : Rat) / 65536, (v.z : Rat) / 65536⟩

/-- Three s32 fields at an offset. -/
def vec3At (bs : List Byte) (o : Nat) : Vec3 := ⟨rdS bs o 4, rdS bs (o + 4) 4, rdS bs (o + 8) 4⟩

/-! ### Frames -/

/-- A frame: the images of the three axes, and the origin. -/
structure Frame where
  ex : V3
  ey : V3
  ez : V3
  o  : V3
  deriving DecidableEq, Repr

/-- A direction through a frame. -/
def Frame.dir (f : Frame) (v : V3) : V3 := ((f.ex.scale v.x).add (f.ey.scale v.y)).add (f.ez.scale v.z)

/-- A point through a frame. -/
def Frame.point (f : Frame) (p : V3) : V3 := f.o.add (f.dir p)

/-- Composition of two frames. -/
def Frame.mul (f g : Frame) : Frame := ⟨f.dir g.ex, f.dir g.ey, f.dir g.ez, f.point g.o⟩

/-- The transform of a chain entry: its quaternion normalised (R233), then its translation. -/
def KinFrame.frame (k : KinFrame) : Frame :=
  let w : Rat := k.w
  let x : Rat := k.x
  let y : Rat := k.y
  let z : Rat := k.z
  let n := w * w + x * x + y * y + z * z
  { ex := V3.scale (1 / n) ⟨w * w + x * x - y * y - z * z, 2 * (x * y + w * z), 2 * (x * z - w * y)⟩,
    ey := V3.scale (1 / n) ⟨2 * (x * y - w * z), w * w - x * x + y * y - z * z, 2 * (y * z + w * x)⟩,
    ez := V3.scale (1 / n) ⟨2 * (x * z + w * y), 2 * (y * z - w * x), w * w - x * x - y * y + z * z⟩,
    o := k.translation.metres }

/-- The axis an AXIS byte names. -/
def axisOf (a : Byte) : V3 :=
  let s : Rat := if a.getLsbD 7 then -1 else 1
  match a.toNat % 4 with
  | 0 => ⟨s, 0, 0⟩
  | 1 => ⟨0, s, 0⟩
  | _ => ⟨0, 0, s⟩

/-- Rotation of a direction about a unit axis, by its cosine and sine. -/
def rotate (a v : V3) (cs sn : Rat) : V3 := ((v.scale cs).add ((a.cross v).scale sn)).add (a.scale (a.dot v * (1 - cs)))

/-- M_n(q): a rotation by 2π·q about the axis, or a translation by q metres along it. -/
def jointMotion (linear : Bool) (a : V3) (q : Rat) : Frame :=
  if linear then ⟨⟨1, 0, 0⟩, ⟨0, 1, 0⟩, ⟨0, 0, 1⟩, a.scale q⟩
  else
    let t := turnCosSin q
    ⟨rotate a ⟨1, 0, 0⟩ t.1 t.2, rotate a ⟨0, 1, 0⟩ t.1 t.2, rotate a ⟨0, 0, 1⟩ t.1 t.2, ⟨0, 0, 0⟩⟩

/-- The frames after F of a chain: for each joint F_(n−1)·T_n with the joint's axis, and F_n. -/
def chainFrames (f : Frame) : List (KinFrame × Byte × Bool × Rat) → List (Frame × V3 × Frame)
  | [] => []
  | (t, ax, linear, q) :: r =>
    let g := f.mul t.frame
    let n := g.mul (jointMotion linear (axisOf ax) q)
    (g, axisOf ax, n) :: chainFrames n r

/-! ### What the item writes -/

/-- Numbers of a chain (Table 7.8). -/
def CfgKinematics.numbers (k : CfgKinematics) : List Int :=
  (k.joints : Int) :: (k.axes.map fun a => (a.toNat : Int)) ++
    (k.frames.map fun f => [f.translation.x, f.translation.y, f.translation.z, f.w, f.x, f.y, f.z]).flatten

/-- The capsules of a configuration in ascending entry index, with their numbers (R209). -/
def Cfg.capsules (c : Cfg) : List (Nat × GeoEntry) :=
  let l := (c.geometry.map fun e => e.2).filter fun e => match e with
    | .capsule .. => true
    | _ => false
  (List.range l.length).zip l

/-- A coordinate in 2⁻¹⁶ m that stands for an exact one: each lies within 2⁻¹⁵ m, so that a point lies within the 2⁻¹⁴ m of R212, in a cell of ±32 m. Beyond that the spec
bounds nothing. -/
def nearCoordinate (key : List Int) (n : Nat) (exact : Rat) : Int :=
  let free := Config.placement key n
  satInt 32 ((exact * 65536).floor + (if absQ exact ≤ 32 then max (-1) (min 2 free) else free))

/-- Three coordinates of a point. -/
def nearPoint (key : List Int) (n : Nat) (p : V3) : List Byte :=
  leInt 4 (nearCoordinate key n p.x) ++ leInt 4 (nearCoordinate key (n + 1) p.y) ++ leInt 4 (nearCoordinate key (n + 2) p.z)

/-- Three components of a unit vector in 2⁻³⁰. -/
def unitBytes (v : V3) : List Byte :=
  let c := fun (x : Rat) => leInt 4 (satInt 32 (toCode x (1 / 1073741824)))
  c v.x ++ c v.y ++ c v.z

/-- The stores of the item for an arm (R212): the end points of its capsules through the frame of their LINK, then for each joint origin and axis. -/
def kinematicsOut (c : Cfg) (a : Fin 8) (js : List (Fin 64)) (linear : Fin 64 → Bool) (q : Fin 64 → Int) : List (Nat × List Byte) :=
  match c.kinematics[a] with
  | none => []
  | some k =>
    match k.frames with
    | [] => []
    | base :: ts =>
      let key := k.numbers ++ js.map q
      let fs := chainFrames base.frame ((ts.zip (k.axes.zip js)).map fun e => (e.1, e.2.1, linear e.2.2, posOf (q e.2.2)))
      let frameOf := fun (link : Nat) => ((base.frame :: fs.map fun f => f.2.2)[link]?).getD base.frame
      let caps := c.capsules.filterMap fun e => match e.2 with
        | .capsule arm link _ p0 p1 _ =>
          if arm = a.val then
            let key := key ++ [(link : Int), p0.x, p0.y, p0.z, p1.x, p1.y, p1.z]
            some (0x580000 + 32 * e.1, nearPoint key 0 ((frameOf link).point p0.metres) ++ nearPoint key 3 ((frameOf link).point p1.metres))
          else none
        | _ => none
      caps ++ (js.zip fs).map fun e =>
        (0x581000 + 32 * e.1.val, nearPoint (key ++ [(e.1.val : Int)]) 6 e.2.1.o ++ unitBytes (e.2.1.dir e.2.2.1))

end Sys2Proof.Machine
end

