-- ==== Sys2Proof/Machine/Control.lean ====
section
/-! DEFINITION. The control law and the library items (chapter 6, Table 8.6, R212, R291): feedback conversion, velocity
estimate, feed-forward and compensation, loop law, filters, limits, freeze check, and what the ring-pack item writes. Every
named quantity is formed exactly from its operands and narrowed once, toward −∞ with saturation. DEDUCED. -/

namespace Sys2Proof.Machine

/-- Narrow to s32: the exact rational toward −∞, saturated (R179). -/
def narrow (x : Rat) : Int := satInt 32 x.floor

/-! ### Filters (R184, R185) -/

/-- tan(π·r) in binary64 for 0 ≤ r < 1/2. -/
def tanPi (r : Rat) : Rat :=
  let x := (r * piFix).floor
  let x2 := x * x / 2 ^ 128
  let sn := series x2 40 1 x
  let cs := series x2 40 0 (2 ^ 128)
  fl64 ((sn : Rat) / cs)

/-- The five coefficients b0, b1, b2, a1, a2 in 2⁻²⁸ of a filter at a servo period (R185). -/
def CfgFilter.coefs (f : CfgFilter) (tS : Nat) : List Int :=
  let k := tanPi ((f.fHz : Rat) / 65536 * secs tS)
  let k2 := fl64 (k * k)
  let out := fun (x : Rat) => satInt 32 (roundEven (x * 268435456))
  match f.type_ with
  | 1 =>
    let zk := fl64 (2 * fl64 (((f.zeta : Rat) / 32768) * k))
    let n := fl64 (1 / fl64 (fl64 (1 + zk) + k2))
    let b := fl64 (k2 * n)
    [out b, out (fl64 (2 * b)), out b, out (fl64 (fl64 (2 * fl64 (k2 - 1)) * n)), out (fl64 (fl64 (fl64 (1 - zk) + k2) * n))]
  | 2 =>
    let zk := fl64 (2 * fl64 (fl64 ((f.widthHz : Rat) / (2 * f.fHz)) * k))
    let d := fl64 (fl64 ((f.depth : Rat) / 65535) * zk)
    let n := fl64 (1 / fl64 (fl64 (1 + zk) + k2))
    let m := out (fl64 (fl64 (2 * fl64 (k2 - 1)) * n))
    [out (fl64 (fl64 (fl64 (1 + d) + k2) * n)), m, out (fl64 (fl64 (fl64 (1 - d) + k2) * n)), m, out (fl64 (fl64 (fl64 (1 - zk) + k2) * n))]
  | 3 => [f.b0, f.b1, f.b2, f.a1, f.a2]
  | _ => []

/-- Steady state of a filter at its last input (R185): the output G·x. -/
def steady (c : List Int) (x : Int) : Int :=
  match c with
  | [b0, b1, b2, a1, a2] => narrow ((x : Rat) * (b0 + b1 + b2) / (268435456 + a1 + a2))
  | _ => x

/-- One output of a biquad; without coefficients the input passes unchanged (R184). -/
def biquad (c : List Int) (x x1 x2 y1 y2 : Int) : Int :=
  match c with
  | [b0, b1, b2, a1, a2] => narrow (((b0 * x + b1 * x1 + b2 * x2 - a1 * y1 - a2 * y2 : Int) : Rat) / 268435456)
  | _ => x

/-- One of the two filters of a joint: its output and the control state with the filter's states moved on. A new type, new coefficients
and a SOFT start first set the states to the steady state of the last input (R185); `filters` keeps type and coefficients. -/
def Control.filter (c : Control) (k : Fin 2) (f : CfgFilter) (tS : Nat) (restart : Bool) (x : Int) : Int × Control :=
  let coefs := f.coefs tS
  let key : List Int := (f.type_ : Int) :: coefs
  let fresh := restart || c.filters[k] != key
  let x1 := c.lastX[k]
  let s := steady coefs x1
  let x2 := if fresh then x1 else c.x2[k]
  let y1 := if fresh then s else c.y1[k]
  let y2 := if fresh then s else c.y2[k]
  let y := biquad coefs x x1 x2 y1 y2
  (y, { c with filters := c.filters.set k key, lastX := c.lastX.set k x, x2 := c.x2.set k x1, y1 := c.y1.set k y,
               y2 := c.y2.set k y1 })

/-! ### Compensation and external torque -/

/-- Entry `i` of the cogging (0) or friction (1) table of a joint, as the control item reads it (R188, R191). -/
def Die.compEntry (x : Die) (j : Fin 64) (t i : Nat) : Int :=
  let o := 1024 * j.val + 512 * t + 2 * (i % 256)
  toSigned 16 ((x.compByte o).toNat + 256 * (x.compByte (o + 1)).toNat)

/-- The table of a joint with its descriptor. -/
def Die.compTable (x : Die) (j : Fin 64) (t : Fin 2) : CfgTable :=
  x.cfg.tables[2 * j.val + t.val]'(by have := j.isLt; have := t.isLt; omega)

/-- τ_cog (R189). -/
def Die.tauCog (x : Die) (j : Fin 64) (ff : CfgFeedforward) (qSet : Int) : Int :=
  let d := x.compTable j 0
  if d.enable then
    let m := ((qSet * ff.gearNum / (max ff.gearDen 1 : Nat)) % 4294967296 + ff.cogOffset) % 4294967296
    let i := (m / 16777216).toNat
    let f := m % 16777216
    let e0 := x.compEntry j 0 i
    let e1 := x.compEntry j 0 (i + 1)
    satInt 32 ((e0 * 16777216 + (e1 - e0) * f) * 2 ^ d.shift / 16777216)
  else 0

/-- τ_fric (R190). -/
def Die.tauFric (x : Die) (j : Fin 64) (ff : CfgFeedforward) (qSet vSet : Int) : Int :=
  let d := x.compTable j 1
  let span := ff.travelMax - ff.travelMin
  if d.enable && decide (0 < span) then
    let q := max ff.travelMin (min qSet ff.travelMax)
    let p := (q - ff.travelMin) * 255 * 16777216 / span
    let i := min (p / 16777216) 254
    let f := p - i * 16777216
    let e0 := x.compEntry j 1 i.toNat
    let e1 := x.compEntry j 1 (i.toNat + 1)
    let big := (e0 * 16777216 + (e1 - e0) * f) * 2 ^ d.shift / 16777216
    narrow ((big : Rat) * clampQ ((vSet : Rat) / ff.vBand) (-1) 1)
  else 0

/-- Periods of a time, rounded up (R187). -/
def periodsOf (ns tS : Nat) : Nat := (ns + tS - 1) / max tS 1

/-- τ_host of a value in period `k` (R187). -/
def ExtTorque.at_ (e : ExtTorque) (k tS fadeNs : Nat) : Int :=
  if k < e.bS then 0
  else if e.validNs = 0 then e.tau
  else
    let V := periodsOf e.validNs tS
    let F := periodsOf fadeNs tS
    let n := k - e.bS
    if n < V then e.tau
    else
      let m := n + 1 - V
      if m ≤ F ∧ 0 < F then narrow ((e.tau : Rat) * ((F - m : Nat) : Rat) / F) else 0

/-- τ_host of a joint in period `k`: a waiting value replaces the old one from its own boundary (R187). -/
def Joint.tauHost (x : Joint) (k tS fadeNs : Nat) : Int :=
  match x.extNext with
  | some e => if e.bS ≤ k then e.at_ k tS fadeNs else x.ext.at_ k tS fadeNs
  | none => x.ext.at_ k tS fadeNs

/-! ### The control item of a joint (R176) -/

/-- Fields of the generator and feedback parts of the exchange block as the item read it at entry. -/
structure BlockIn where
  qSet : Int
  vSet : Int
  aSet : Int
  gen  : Nat
  lHold : Nat
  elapsed : Nat
  state : Nat
  count : Nat
  vel  : Int
  tauMeas : Int
  age  : Nat
  fb   : Nat
  tauItem : Int
  deriving DecidableEq, Repr

def readBlock (m : Memory) (j : Nat) : BlockIn where
  qSet := m.int (256 * j) 8
  vSet := m.int (256 * j + 0x08) 4
  aSet := m.int (256 * j + 0x0C) 4
  state := m.nat (256 * j + 0x12) 1
  gen := m.nat (256 * j + 0x14) 2
  lHold := m.nat (256 * j + 0x16) 2
  elapsed := m.nat (256 * j + 0x18) 4
  count := m.nat (256 * j + 0x40) 4
  vel := m.int (256 * j + 0x44) 4
  tauMeas := m.int (256 * j + 0x48) 4
  age := m.nat (256 * j + 0x50) 1
  fb := m.nat (256 * j + 0x51) 1
  tauItem := m.int (256 * j + 0xC0) 4

/-- The position a raw count stands for (R177). -/
def CfgFeedback.position (f : CfgFeedback) (raw shift : Int) : Int :=
  satInt 64 ((if f.invert then -raw else raw) * 4294967296 / (max f.countsPerUnit 1 : Nat) + f.offset + shift)

/-- Feedback conversion and velocity estimate of R177, R178, R194, R195 in period `b`; the difference spans the periods since that of the last fresh sample whose item was on time. Lost or frozen feedback stays so through the stop it causes (R197); after it, fresh
feedback clears the one and the end of the stop the other. DEDUCED. -/
def Control.feedback (c : Control) (g : CfgJointAll) (velShift tS : Nat) (shift : Int) (i : BlockIn) (softStart : Bool) (b : Nat) : Control :=
  let fresh := i.age == 0 && bit i.fb 0 && !bit i.fb 1
  let stops := i.state == JState.stopping.code || i.state == JState.braking.code
  let c := { c with frozen := c.frozen && stops }
  if fresh then
    let raw := if c.rawValid then c.raw + toSigned 32 ((i.count + 4294967296 - c.lastCount) % 4294967296) else toSigned 32 i.count
    let q := g.feedback.position raw shift
    let vRaw : Int :=
      if g.control.velFromNode then
        narrow ((if g.feedback.invert then -(i.vel : Rat) else i.vel) * 2 ^ velShift / (max g.feedback.countsPerUnit 1 : Nat))
      else if c.rawValid then
        narrow (((q - c.qLast : Int) : Rat) * 1000000000 / 65536 / (max 1 (b - c.lastB) * max tS 1 : Nat))
      else satInt 32 (Config.unstated [178, raw])
    let beta : Nat := if g.control.tauVNs = 0 then 65535 else 65535 * tS / (g.control.tauVNs + tS)
    let v := if softStart then vRaw else satInt 32 (c.vEst + (beta * (vRaw - c.vEst)) / 65535)
    { c with raw := raw, rawValid := true, lastCount := i.count, qFb := q, qLast := q, lastB := b, vEst := v, holdCount := 0, holding := false,
             lost := c.lost && stops }
  else
    let n := c.holdCount + 1
    let ext := min n g.feedback.holdLimit
    { c with holdCount := n, holding := true,
             qFb := satInt 64 (c.qLast + (((ext * tS : Nat) : Rat) * c.vEst * 65536 / 1000000000).floor) }

/-- The control law of one period for one joint (R176..R196); `x` gives the tables, `b` the period. -/
def Control.law (c0 : Control) (x : Die) (j : Fin 64) (i : BlockIn) (velShift b : Nat) : Control :=
  let g := x.jointCfg j
  let tS := x.cfg.periods.tS
  let ff := g.ff
  let jt := x.joints[j]
  let softStart := bit i.gen 0
  let inSoft := bit i.gen 1
  let torqueOff := bit i.gen 4
  let tq := g.control.tq
  let tMax := g.control.torqueMax
  let c := c0.feedback g velShift tS jt.homeShift i softStart b
  let inertia := narrow ((ff.kaff * ff.inertia * i.aSet : Rat) / 268435456)
  let host := jt.tauHost b tS ff.extFadeNs
  let cog := x.tauCog j ff i.qSet
  let fric := x.tauFric j ff i.qSet i.vSet
  let tauExt := satInt 32 (i.tauItem + host)
  let tauFf := satInt 32 (inertia + tauExt + cog + fric)
  let qHat := if g.control.predict then satInt 64 (c.qFb + ((tS : Rat) * c.vEst * 65536 / 1000000000).floor) else c.qFb
  let lim : Int := 140737488355328
  let eq := max (-lim) (min (i.qSet - qHat) lim)
  let vFf := narrow ((ff.kvff * i.vSet : Rat) / 65536)
  let vCmd := narrow (((g.control.kp * eq + ff.kvff * i.vSet * 65536 : Int) : Rat) / 4294967296)
  let ev := satInt 32 (vCmd - c.vEst)
  let clampMax := fun (v : Int) => max (-tMax) (min v tMax)
  let i0 : Int :=
    if !tq then 0
    else if softStart then (if bit i.fb 2 then clampMax (i.tauMeas - tauFf) else 0)
    else c.integral
  let xIn := if tq then narrow (((g.control.kv * ev + i0 * 65536 : Int) : Rat) / 65536) else tauFf
  let r0 := c.filter 0 g.filter0 tS softStart xIn
  let r1 := r0.2.filter 1 g.filter1 tS softStart r0.1
  let y := r1.1
  let c := r1.2
  let tMaxN : Rat := if 0 < tMax then tMax else 1
  let l0 : Nat :=
    if softStart then
      min 65535 (max g.control.softLimitStart (((tauFf.natAbs : Rat) + (tMax : Rat) / 10) / tMaxN * 65535).floor.toNat)
    else c.softL0
  let soft : Nat :=
    if inSoft then
      min 65535 (l0 + (65535 - l0) * i.elapsed / max g.joint.softTimeNs 1)
    else 65535
  let limit := if torqueOff then 0 else min g.control.limitFraction (min soft i.lHold)
  let tLim := (limit : Int) * tMax / 65535
  let clamp := fun (v : Int) => max (-tLim) (min v tLim)
  let untrusted := (c.lost || c.frozen) && (i.state == JState.stopping.code || i.state == JState.braking.code)
  let tauFb := if tq then y else 0
  let raw := if tq then (if untrusted then satInt 32 (tauExt + cog) else satInt 32 (y + tauFf)) else y
  let out := clamp raw
  let grow := !c.holding && !torqueOff && (out == raw || ev.sign != raw.sign)
  let i1 : Int :=
    if tq && grow then
      clampMax (i0 + (((g.control.kv * g.control.ki * ev * tS : Int) : Rat) / (4294967296 * 1000000000)).floor)
    else i0
  let ind := if tq then out else if bit i.fb 2 then i.tauMeas else out
  let still := decide (g.feedback.freezeV ≠ 0) && !c.holding && c0.rawValid && decide (c.raw = c0.raw) &&
    decide (g.feedback.freezeV < i.vSet.natAbs) && decide (g.feedback.freezeTorque < ind.natAbs)
  let frz := if c.holding then c.freeze else if still then c.freeze + tS else 0
  { c with integral := i1, tauOut := out, tauFb := tauFb, tauInertia := inertia, tauItem := i.tauItem, tauHost := host, tauCog := cog,
           tauFric := fric, saturated := decide (out ≠ raw), currentLimit := limit, softL0 := l0, softRamp := inSoft, freeze := frz,
           age := i.age, velFf := vFf, b := b }

/-- CTRL_FLAGS (Table 8.6). -/
def Control.flagByte (c : Control) : Nat := packBits [c.holding, c.saturated, c.lost, c.frozen]

/-- The control part of the exchange block (Table 8.6). -/
def Control.part (c : Control) : List Byte :=
  leInt 8 c.qFb ++ leInt 4 c.vEst ++ leInt 4 c.tauOut ++ le 1 c.flagByte ++ le 1 (min c.holdCount 255) ++ le 2 c.currentLimit

/-! ### The library items -/

/-- Address of a joint exchange block and of a node's slot in the OUT bank (Table 8.4). -/
def exchangeAt (j off : Nat) : Nat := 0x400000 + 256 * j + off
def outSlotAt (ring pos : Nat) : Nat := 0x500000 + 64 * (16 * ring + pos)

/-- Joints whose feedback comes through a ring: its PF and TQ nodes' joints, and those of encoder ports mirrored on it. -/
def Die.fedBy (x : Die) (ring : Nat) : List (Fin 64 × Option Nat × Nat) :=
  (List.finRange 64).filterMap fun j =>
    let f := (x.jointCfg j).feedback
    match x.cfg.nodeOf j.val with
    | some (r, p) =>
      if f.encoderPort then
        let e := x.cfg.encoders[f.port % 4]'(Nat.mod_lt _ (by decide))
        if e.mirrorRing = ring then some (j, some (16 * e.mirrorRing + e.mirrorNode), 16 * r + p) else none
      else if r = ring then some (j, none, 16 * r + p) else none
    | none => none

/-- The feedback part of one joint from the IN window mirror (Tables 10.6, 12.6). With an encoder port the sample is fresh only where the joint's own part is, too
(R194): READY and AGE stand for both, ENC_FAULT for either. -/
def feedbackPart (m : Memory) (enc : Option Nat) (slot : Nat) : List Byte :=
  let a := 64 * slot
  let st := m.nat a 1
  let ds := m.nat (a + 1) 1
  let own := [bit st 4, bit ds 2, bit ds 3, bit ds 4, bit ds 1, bit ds 0]
  match enc with
  | none => m.readN (a + 4) 4 ++ m.readN (a + 8) 4 ++ m.readN (a + 12) 4 ++ m.readN (a + 16) 4 ++ le 1 (bits st 3 0) ++ le 1 (packBits own)
  | some e =>
    let o := 64 * e
    let es := m.nat o 1
    let ec := m.nat (o + 1) 1
    m.readN (o + 4) 4 ++ m.readN (a + 8) 4 ++ m.readN (a + 12) 4 ++ m.readN (o + 8) 4 ++ le 1 (max (bits st 3 0) (bits es 3 0)) ++
      le 1 (packBits [bit st 4 && bit es 4, bit ds 2 || !bit ec 0, bit ds 3, decide (m.nat (o + 2) 1 ≠ 0), bit ds 1, bit ds 0])

/-- OUT part of a PF or TQ node as the ring-pack item fills it, without status age and CRC (Tables 10.4, 10.5, R291). Its
FAULT_RESET bit is not stated. -/
def packPart (x : Die) (m : Memory) (j : Fin 64) (node : CfgNode) : List Byte :=
  let g := x.jointCfg j
  let jt := x.joints[j]
  let gen := m.nat (256 * j.val + 0x14) 2
  let arm := match jt.homing with
    | some h => h.phase == .index || h.phase == .creep
    | none => false
  let reset := decide (Config.unstated [1044, j.val, m.nat (256 * j.val + 0x12) 1] % 2 = 1)
  let control := packBits [bit gen 5, bit gen 6, reset, arm]
  let status := le 1 (16 + 32 * b2n jt.fault)
  let limit := m.readN (256 * j.val + 0x92) 2
  let tau := m.readN (256 * j.val + 0x8C) 4
  if node.format = 2 then status ++ le 1 control ++ limit ++ tau ++ zeros 4
  else
    let q := (m.int (256 * j.val) 8 - g.feedback.offset - jt.homeShift) * g.feedback.countsPerUnit
    let counts := if g.feedback.invert then -q else q
    let v : Rat := (narrow ((g.ff.kvff * m.int (256 * j.val + 8) 4 : Rat) / 65536) : Rat) * g.feedback.countsPerUnit
    let vel := narrow ((if g.feedback.invert then -v else v) / 2 ^ node.velShift)
    status ++ le 1 control ++ limit ++ leInt 4 (counts % 4294967296) ++ leInt 4 (counts / 4294967296) ++ leInt 4 vel ++ tau ++ zeros 4

/-- What a library item writes when it ends, and the control state it computes (R176, R212, R291). A user item writes nothing
here: its stores are in the core's output buffer. -/
def libraryOutputs (x : Die) (k : Core) (i : Item) : List (Nat × List Byte) × Option (Nat × Control) :=
  match i.lib with
  | .user => ([], none)
  | .feedback =>
    ((x.fedBy i.inst).map fun f => (exchangeAt f.1.val 0x40, feedbackPart x.stores.inMirror f.2.1 f.2.2), none)
  | .control =>
    let j : Fin 64 := ⟨i.inst % 64, Nat.mod_lt _ (by decide)⟩
    let shift := match x.cfg.nodeOf j.val with
      | some (r, p) => (x.cfg.node r p).velShift
      | none => 0
    let c := (x.joints[j]).ctl.law x j (readBlock k.blocks j.val) shift i.b
    ([(exchangeAt j.val 0x80, c.part)], some (j.val, c))
  | .gravity =>
    let a : Fin 8 := ⟨i.inst % 8, Nat.mod_lt _ (by decide)⟩
    let js := x.armJoints a
    let qs := js.map fun j => k.blocks.int (256 * j.val + 0x80) 8
    (js.map fun j => (exchangeAt j.val 0xC0, leInt 4 (satInt 32 (Config.unstated (186 :: j.val :: qs)))), none)
  | .kinematics =>
    let a : Fin 8 := ⟨i.inst % 8, Nat.mod_lt _ (by decide)⟩
    (kinematicsOut x.cfg a (x.armJoints a) (fun j => (x.jointCfg j).joint.linear) fun j => k.blocks.int (256 * j.val + 0x80) 8, none)
  | .ringPack =>
    ((List.finRange 64).filterMap fun j => match x.cfg.nodeOf j.val with
      | some (r, p) => if r = i.inst then some (outSlotAt r p, packPart x k.blocks j (x.cfg.node r p)) else none
      | none => none, none)

end Sys2Proof.Machine
end

