-- ==== Sys2Proof/Machine/JointCommands.lean ====
section
/-! DEFINITION. What the commands of 0x03xx do on a die (R164..R173, R155..R159, R472). -/

namespace Sys2Proof.Machine

/-! ### Configuration -/

/-- Change the staged configuration of a joint. -/
def Cfg.onJoint (c : Cfg) (j : Fin 64) (f : CfgJointAll → CfgJointAll) : Cfg := { c with joints := c.joints.set j (f c.joints[j]) }

/-- R138 for one joint against its arm in a configuration; joints without limits are not checked (R165). -/
def Cfg.scaleOk (c : Cfg) (j : Fin 64) : Bool :=
  match (c.joints[j]).limits, (c.joints[j]).arm? with
  | some l, some a =>
    let r := max (c.arms[a]).rateDown (c.arms[a]).rateUp
    decide (accOf l.aMax + (r : Rat) / 65536 * velOf l.vMax ≤ accOf l.aStop)
  | _, _ => true

/-- R138 for every joint. -/
def Cfg.scalesOk (c : Cfg) : Bool := (List.finRange 64).all c.scaleOk

/-- Joints assigned to an arm. -/
def Cfg.armCount (c : Cfg) (a : Nat) : Nat := ((List.finRange 64).filter fun j => (c.joints[j]).joint.arm == a).length

/-- `CONFIG_JOINT`, joint target (Table 5.9). -/
def parseJoint (p : List Byte) : CfgJoint where
  arm := rd p 0 1
  linear := rd p 1 1 == 1
  faultStop := if rd p 2 1 = 0 then 2 else rd p 2 1
  brake := rd p 3 1
  brakeOut := rd p 4 1
  brakeReleaseNs := orDefault (rd p 8 4) 50000000
  brakeEngageNs := orDefault (rd p 12 4) 50000000
  enableTimeoutNs := orDefault (rd p 16 4) 100000000
  softTimeNs := orDefault (rd p 20 4) 200000000
  softFraction := orDefault (rd p 24 2) 16383

/-- `CONFIG_JOINT` (R164). -/
def bodyConfigJoint (h : HostCmd) (d : DieId) (s : State) : Answer :=
  let p := h.params
  let sh := (s.die d).shadow
  if tKind h.target = 1 then
    let j := tJoint h.target
    let c := parseJoint p
    let new := sh.onJoint j fun x => { x with joint := c }
    let bad := firstFail [
      (h.plen != 4, St.badLength),
      (!(decide (c.arm < 8) || c.arm == 255), St.range),
      (decide (1 < rd p 1 1) || decide (3 < rd p 2 1) || decide (2 < rd p 3 1), St.range),
      (c.brake == 1 && (decide (15 < c.brakeOut) || (sh.outputs[c.brakeOut % 16]'(Nat.mod_lt _ (by decide))).function != 1), St.range),
      (decide (2000000000 < c.brakeReleaseNs) || decide (2000000000 < c.brakeEngageNs) || decide (4000000000 < c.enableTimeoutNs), St.range),
      (!within c.softTimeNs 10000000 2000000000, St.range),
      (!zeroAt p 5 3 || !zeroAt p 26 6, St.range),
      (decide (c.arm < 8) && decide (9 < new.armCount c.arm), St.range),
      (!new.scaleOk j, St.range)]
    s.config d bad [generatorUnit d j] fun _ => new
  else
    let a := tArm h.target
    let c : CfgArm := { rateDown := orDefault (rd p 0 4) 1310720, rateUp := orDefault (rd p 4 4) 131072 }
    let new := { sh with arms := sh.arms.set a c }
    let bad := firstFail [
      (h.plen != 2, St.badLength),
      (!within c.rateDown 6554 65536000 || !within c.rateUp 6554 65536000, St.range),
      (!zeroAt p 8 8, St.range),
      (!new.scalesOk, St.range)]
    let units := ((List.finRange 64).filter fun j => (new.joints[j]).arm? == some a).map (generatorUnit d)
    s.config d bad units fun _ => new

/-- `CONFIG_LIMITS` (R165). -/
def bodyConfigLimits (h : HostCmd) (d : DieId) (s : State) : Answer :=
  let p := h.params
  let j := tJoint h.target
  let l : CfgLimits :=
    { qMin := rdS p 0 8, qMax := rdS p 8 8, vMax := rdS p 16 4, aMax := rdS p 20 4, jMax := rdS p 24 4, aStop := rdS p 28 4,
      jStop := rdS p 32 4, catchOmega := orDefault (rd p 36 4) 1966080 }
  let new := (s.die d).shadow.onJoint j fun x => { x with limits := some l }
  let bad := firstFail [
    (!decide (l.qMin < l.qMax), St.range),
    (!(decide (0 < l.vMax) && decide (0 < l.aMax) && decide (0 < l.jMax)), St.range),
    (!(decide (l.aMax ≤ l.aStop) && decide (l.jMax ≤ l.jStop)), St.range),
    (!within l.catchOmega 65536 131072000, St.range),
    (!new.scaleOk j, St.range)]
  s.config d bad [generatorUnit d j] fun _ => new

/-- `CONFIG_HOMING` parameters with defaults (Table 5.15). -/
def parseHoming (p : List Byte) : CfgHoming where
  method := rd p 0 1
  direction := rd p 1 1
  homeSrc := rd p 2 1
  limPos := rd p 3 1
  limNeg := rd p 4 1
  chatterEdges := orDefault (rd p 5 1) 4
  homeActiveLow := bit (rd p 6 1) 0
  limActiveLow := bit (rd p 6 1) 1
  homePosition := rdS p 8 8
  backoff := rdS p 16 8
  maxTravel := rdS p 24 8
  vFast := rdS p 32 4
  vCreep := rdS p 36 4
  aHome := rdS p 40 4
  torqueLimit := rdS p 44 4
  torqueThreshold := rdS p 48 4
  settleNs := orDefault (rd p 52 4) 5000000
  chatterWindowNs := orDefault (rd p 56 4) 50000000
  dwellNs := orDefault (rd p 60 4) 100000000
  timeoutMs := orDefault (rd p 64 4) 60000

/-- A switch source byte is well formed (R171). -/
def switchOk (b : Nat) : Bool :=
  !bit b 5 && (match bits b 7 6 with
    | 0 => true
    | 1 => true
    | 2 => decide (bits b 4 0 < 8)
    | _ => false)

/-- `CONFIG_HOMING` (R171). -/
def bodyConfigHoming (h : HostCmd) (d : DieId) (s : State) : Answer :=
  let p := h.params
  let j := tJoint h.target
  let c := parseHoming p
  let moves := c.method == 1 || c.method == 2 || c.method == 3
  let bad := firstFail [
    (decide (5 < c.method) || decide (1 < c.direction), St.range),
    (!switchOk c.homeSrc || !switchOk c.limPos || !switchOk c.limNeg, St.range),
    (decide (c.chatterEdges < 2) || decide (3 < rd p 6 1), St.range),
    (!zeroAt p 7 1 || !zeroAt p 68 4, St.range),
    (moves && !(decide (0 < c.backoff) && decide (0 < c.maxTravel) && decide (0 < c.vFast) && decide (0 < c.vCreep) &&
      decide (c.vCreep ≤ c.vFast) && decide (0 < c.aHome)), St.range),
    (decide (c.torqueLimit < 0) || decide (c.torqueThreshold < 0) || decide (c.torqueLimit < c.torqueThreshold), St.range)]
  s.config d bad [generatorUnit d j] fun x => x.onJoint j fun y => { y with homing := c }

/-- `CONFIG_STANDSTILL` (R172). -/
def bodyConfigStandstill (h : HostCmd) (d : DieId) (s : State) : Answer :=
  let p := h.params
  let j := tJoint h.target
  let c : CfgStandstill := { delayNs := orDefault (rd p 0 4) 500000000, fraction := orDefault (rd p 4 2) 26214 }
  s.config d (firstFail [(!zeroAt p 6 2, St.range)]) [generatorUnit d j] fun x => x.onJoint j fun y => { y with standstill := c }

/-- `CONFIG_FOLLOWING` (R172). -/
def bodyConfigFollowing (h : HostCmd) (d : DieId) (s : State) : Answer :=
  let p := h.params
  let j := tJoint h.target
  let c : CfgFollowing := { windowMoving := rdS p 0 8, windowStandstill := rdS p 8 8, timeNs := orDefault (rd p 16 4) 10000000 }
  let bad := firstFail [(decide (c.windowMoving < 0) || decide (c.windowStandstill < 0), St.range), (!zeroAt p 20 4, St.range)]
  s.config d bad [generatorUnit d j] fun x => x.onJoint j fun y => { y with following := c }

/-! ### Enable, disable and stop -/

/-- A later `JOINT_ENABLE` replaces a deferred one; the replacement is recorded in Preserve (R157). -/
def State.replaceDeferred (s : State) (d : DieId) (j : Fin 64) (tag : Nat) : State :=
  match (s.joint d j).deferred with
  | some (old, _) => s.record d 0x121 (s.jointTarget j) (le 2 old ++ le 2 tag)
  | none => s

/-- `JOINT_ENABLE` on one joint (R155, R157, R166): its status and effect. -/
def State.enableJoint (s : State) (d : DieId) (j : Fin 64) (clear : Bool) (tag : Nat) : State × Nat :=
  let x := s.joint d j
  if !s.jogOk d j then (s, St.wrongState)
  else match x.state with
    | .enabling | .soft | .enabled => (s, St.ok)
    | .stopping | .braking =>
      if x.state = .stopping ∧ !x.toDisabled then (s, St.ok)
      else ((s.replaceDeferred d j tag).onJoint d j fun x => { x with deferred := some (tag, clear) }, St.deferred)
    | .disabled =>
      match s.enableRefused d j clear true with
      | some _ => (s, St.wrongState)
      | none => ((s.replaceDeferred d j tag).startEnable d j clear, St.ok)

/-- The joints a target of kind joint or arm, or ALL, names (R166). -/
def State.jointsOf (s : State) (d : DieId) (w : Word) : List (Fin 64) :=
  if tIndex w = tAll then (List.finRange 64).filter (s.die d).jointInUse
  else if tKind w = 1 then [tJoint w]
  else (s.die d).armJoints (tArm w)

/-- The status that stands for several joints: `WRONG_STATE`, then `DEFERRED`, then `OK` (R166). -/
def worstStatus (l : List Nat) : Nat :=
  if l.contains St.wrongState then St.wrongState else if l.contains St.deferred then St.deferred else St.ok

/-- `JOINT_ENABLE` (R155, R157, R166). -/
def bodyJointEnable (h : HostCmd) (d : DieId) (s : State) : Answer :=
  let p := h.params
  if decide (1 < rd p 0 1) || !zeroAt p 1 7 then reject s St.range
  else
    let clear := bit (rd p 0 1) 0
    let r := (s.jointsOf d h.target).foldl (fun (a : State × List Nat) j =>
      let r := a.1.enableJoint d j clear h.tag.toNat
      (r.1, a.2 ++ [r.2])) (s, [])
    (r.1, { status := worstStatus r.2 })

/-- `JOINT_DISABLE` (R156, R166); in Blossom a joint without the jog conditions is left as it is and answers `WRONG_STATE`. -/
def bodyJointDisable (h : HostCmd) (d : DieId) (s : State) : Answer :=
  let r := (s.jointsOf d h.target).foldl (fun (a : State × List Nat) j =>
    if a.1.jogOk d j then (a.1.disableJoint d j h.tag.toNat, a.2 ++ [St.ok]) else (a.1, a.2 ++ [St.wrongState])) (s, [])
  (r.1, { status := worstStatus r.2 })

/-- `JOINT_STOP` (R167). -/
def bodyJointStop (h : HostCmd) (d : DieId) (s : State) : Answer :=
  let p := h.params
  let c := rd p 0 1
  if !within c 1 3 || !zeroAt p 1 7 then reject s St.range
  else
    let cat := c - 1
    let w := h.target
    if tIndex w = tAll then
      let s := (List.finRange 8).foldl (fun s a => s.hostArmStop d a cat) s
      let lone := (List.finRange 64).filter fun j => (s.die d).jointInUse j && ((s.die d).jointCfg j).arm?.isNone
      answer (lone.foldl (fun s j => s.commandStop d j cat) s)
    else if tKind w = 1 then answer (s.commandStop d (tJoint w) cat)
    else answer (s.hostArmStop d (tArm w) cat)

/-! ### Motion -/

/-- The ends of a POINT target (R168). -/
def CfgLimits.holds (l : CfgLimits) (q : Int) : Bool := decide (l.qMin ≤ q) && decide (q ≤ l.qMax)

/-- Leave what the joint did for a new motion command. -/
def State.beginMotion (s : State) (d : DieId) (j : Fin 64) : State :=
  (s.abortHoming d j).onJoint d j fun x => { x.leaveStream with real := false, softLimit := false }

/-- `MOVE_POINT` (R142, R145, R168). -/
def bodyMovePoint (h : HostCmd) (d : DieId) (s : State) : Answer :=
  let p := h.params
  let j := tJoint h.target
  let x := s.joint d j
  let c := (s.die d).jointCfg j
  match c.limits with
  | none => reject s St.wrongState
  | some l =>
    let v := rdS p 8 4
    let a := rdS p 12 4
    let jk := rdS p 16 4
    let ref := if bit (rd p 20 1) 0 then (if x.mode = .point then x.qT else x.q) else 0
    let qT := rdS p 0 8 + ref
    match firstFail [
      (x.state != .enabled || !x.homed, St.wrongState),
      (decide (v < 0) || decide (a < 0) || decide (jk < 0) || decide (1 < rd p 20 1) || !zeroAt p 21 3, St.range),
      (!l.holds qT, St.range)] with
    | some st => reject s st
    | none =>
      let s := s.beginMotion d j
      let clamped := decide (l.vMax < v) || decide (l.aMax < a) || decide (l.jMax < jk)
      let s := s.onJoint d j fun x =>
        { ({ x with qT := qT, reqV := v, reqA := a, reqJ := jk, mode := .point } : Joint).planPoint c.lim with limited := clamped }
      (s, { status := if clamped then St.limited else St.ok })

/-- `MOVE_VELOCITY` (R146, R169, R472). -/
def bodyMoveVelocity (h : HostCmd) (d : DieId) (s : State) : Answer :=
  let p := h.params
  let j := tJoint h.target
  let x := s.joint d j
  let c := (s.die d).jointCfg j
  match c.limits with
  | none => reject s St.wrongState
  | some l =>
    let v := rdS p 0 4
    let a := rdS p 4 4
    let jk := rdS p 8 4
    let cap : Int := if s.phase = .ripe then l.vMax else l.vMax / 10
    match firstFail [
      (x.state != .enabled || !s.jogOk d j, St.wrongState),
      (decide (a < 0) || decide (jk < 0) || !zeroAt p 12 4, St.range)] with
    | some st => reject s st
    | none =>
      let s := s.beginMotion d j
      let vt := max (-cap) (min v cap)
      let clamped := decide (vt ≠ v) || decide (l.aMax < a) || decide (l.jMax < jk)
      let s := s.onJoint d j fun x =>
        { ({ x with vT := vt, reqV := v.natAbs, reqA := a, reqJ := jk, jogNs := s.now } : Joint).planVelocity c.lim with limited := clamped }
      (s, { status := if clamped then St.limited else St.ok })

/-- The points of a `STREAM_POINTS` packet (Table 5.14). -/
def streamPoints (p : List Byte) (n : Nat) : List HostPoint :=
  (List.range n).map fun i =>
    let o := 8 + 24 * i
    { key := rd p o 4, q := rdS p (o + 8) 8, v := rdS p (o + 16) 4, a := rdS p (o + 20) 4 }

/-- Keys rise strictly with gaps of at most 2²⁰ (R170). -/
def keysRise : List Nat → Bool
  | a :: b :: r => decide (a < b) && decide (b - a ≤ 1048576) && keysRise (b :: r)
  | _ => true

/-- `STREAM_POINTS` (R147, R170). MODE 2 on a joint that follows the Juggler changes nothing. -/
def bodyStreamPoints (h : HostCmd) (d : DieId) (s : State) : Answer :=
  let p := h.params
  let j := tJoint h.target
  let x := s.joint d j
  let c := (s.die d).jointCfg j
  let mode := rd p 0 1
  let n := rd p 1 1
  let pts := streamPoints p n
  let keys := pts.map (fun q => q.key)
  let hostStream := x.mode == .stream && x.source == .host
  let held := if mode = 0 then x.points else []
  let first := match keys with
    | [] => true
    | k :: _ => if mode = 1 then k = 0 else match held.getLast? with
      | some q => decide (q.key < k) && decide (k - q.key ≤ 1048576)
      | none => true
  let reservedOk := (List.range n).all fun i => zeroAt p (8 + 24 * i + 4) 4
  if mode = 2 ∧ s.jugglers = 0 then reject s St.unitAbsent
  else match firstFail [
    (decide (h.plen.toNat ≠ 1 + 3 * n), St.badLength),
    (x.state != .enabled, St.wrongState),
    (mode == 2 && !(s.die d).cfg.juggler.jointSet.getLsbD j.val, St.wrongState),
    (mode == 0 && !hostStream, St.wrongState),
    (mode == 1 && !x.homed, St.wrongState),
    (decide (3 < mode) || decide (9 < n) || !zeroAt p 2 6 || !reservedOk, St.range),
    (decide (2 ≤ mode) && decide (0 < n), St.range),
    (!keysRise keys || !first, St.range),
    (x.homed && (match c.limits with
      | some l => pts.any fun q => !l.holds q.q
      | none => false), St.range),
    (decide (32 < held.length + n), St.busy)] with
  | some st => reject s st
  | none =>
    let follows := mode == 2 && x.mode == .stream && x.source == .juggler
    let s := if mode = 0 ∨ follows then s else s.beginMotion d j
    answer (s.onJoint d j fun x =>
      match mode with
      | 0 => { x with points := x.points ++ pts }
      | 1 => { x with mode := .stream, source := .host, points := pts, tau := 0, tauLaps := 0, plan := [] }
      | 2 => if follows then x else { x with mode := .stream, source := .juggler, plan := [], plan2 := none }
      | _ => x.stopPath c.lim.a c.lim.j)

/-- `HOME` (R159, R171). -/
def bodyHome (h : HostCmd) (d : DieId) (s : State) : Answer :=
  let j := tJoint h.target
  let x := s.joint d j
  let c := (s.die d).jointCfg j
  if x.state != .enabled || x.v != 0 || c.homing.method == 0 then reject s St.wrongState
  else answer ((s.beginMotion d j).startHoming d j)

/-! ### Status -/

/-- The 64 bytes of Table 5.16 as the joint stands, for period `b`. -/
def Die.jointStatus (y : Die) (j : Fin 64) (b : Nat) : List Byte :=
  let x := y.joints[j]
  let tgt : Int := if x.mode = .stream then (match x.points.getLast? with
    | some q => q.q
    | none => x.qT) else x.qT
  le 1 x.state.code ++ le 1 x.mode.code ++ le 2 x.flagBits ++ le 1 x.faultCause ++ le 1 x.homingResult ++
    le 2 (sigmaCode (y.sigmaOf j).1) ++ leInt 8 x.qSet ++ leInt 4 x.vSet ++ leInt 4 x.aSet ++
    leInt 8 (y.qFb j) ++ leInt 8 x.err ++ leInt 8 tgt ++ le 2 x.ctl.currentLimit ++ zeros 6 ++ le 8 b

/-- `JOINT_STATUS` (R173): the values of the last completed period; before the first has completed, those of the moment. DESIGN CHOICE. -/
def bodyJointStatus (h : HostCmd) (d : DieId) (s : State) : Answer :=
  let j := tJoint h.target
  answer s ((s.joint d j).shown.getD ((s.die d).jointStatus j s.mw.b))

end Sys2Proof.Machine
end

