-- ==== Sys2Proof/Machine/ControlCommands.lean ====
section
/-! DEFINITION. What the control opcodes do on a die (R198..R205), the events of the control law, and the home event. -/

namespace Sys2Proof.Machine

/-- AT_EPOCH of a command (Table 3.9). -/
def cmdAtEpoch (h : HostCmd) : Bool := bit h.flags.toNat 1

/-- Present joints of the variant. -/
def State.presentJoints (s : State) : List (Fin 64) := (List.finRange 64).filter fun j => s.jointPresent j.val

/-- `CONFIG_CONTROL` (R198, Table 6.4): a joint, or ALL. -/
def bodyConfigControl (h : HostCmd) (d : DieId) (s : State) : Answer :=
  let p := h.params
  let c : CfgControl :=
    { tq := rd p 0 1 == 1, predict := bit (rd p 1 1) 0, velFromNode := bit (rd p 1 1) 1, kp := rd p 4 4, kv := rd p 8 4, ki := rd p 12 4,
      torqueMax := rdS p 16 4, limitFraction := orDefault (rd p 20 2) 65535, softLimitStart := orDefault (rd p 22 2) 16383,
      tauVNs := rd p 24 4 }
  let bad := firstFail [
    (decide (1 < rd p 0 1) || decide (3 < rd p 1 1), St.range),
    (decide (655360000 < c.kp) || decide (4294901760 < c.kv) || decide (655360000 < c.ki), St.range),
    (!decide (0 < c.torqueMax) || decide (100000000 < c.tauVNs), St.range),
    (!zeroAt p 2 2 || !zeroAt p 28 4, St.range)]
  let js := if tIndex h.target = tAll then s.presentJoints else [tJoint h.target]
  s.config d bad (js.map (generatorUnit d) ++ s.servoUnits d) fun x => js.foldl (fun x j => x.onJoint j fun y => { y with control := c }) x

/-- `CONFIG_FILTER` parameters (Table 6.5). -/
def parseFilter (p : List Byte) : CfgFilter where
  type_ := rd p 1 1
  zeta := rd p 2 2
  fHz := rd p 4 4
  widthHz := rd p 8 4
  depth := rd p 12 2
  b0 := rdS p 16 4
  b1 := rdS p 20 4
  b2 := rdS p 24 4
  a1 := rdS p 28 4
  a2 := rdS p 32 4

/-- Ranges of a filter at a servo period (R199). -/
def CfgFilter.ok (f : CfgFilter) (tS : Nat) : Bool :=
  let shaped := f.type_ == 1 || f.type_ == 2
  let one : Int := 268435456
  (!shaped || (decide (65536 ≤ f.fHz) && decide (10 * f.fHz * tS ≤ 4000000000 * 65536))) &&
  (f.type_ != 1 || (decide (32768 ≤ 20 * f.zeta) && decide (f.zeta ≤ 65536))) &&
  (f.type_ != 2 || (decide (f.fHz ≤ 100 * f.widthHz) && decide (f.widthHz ≤ f.fHz))) &&
  (f.type_ != 3 || (decide ((f.a2.natAbs : Int) < one) && decide ((f.a1.natAbs : Int) < one + f.a2)))

/-- `CONFIG_FILTER` (R199, Table 6.5); the result is computed for the T_s staged or in force. -/
def bodyConfigFilter (h : HostCmd) (d : DieId) (s : State) : Answer :=
  let p := h.params
  let j := tJoint h.target
  let f := parseFilter p
  let tS := (s.die d).shadow.periods.tS
  let bad := firstFail [
    (decide (1 < rd p 0 1) || decide (3 < f.type_), St.range),
    (!f.ok tS, St.range),
    (f.type_ != 3 && !zeroAt p 16 20, St.range),
    (!zeroAt p 14 2 || !zeroAt p 36 4, St.range)]
  let out := match f.coefs tS with
    | [] => [268435456, 0, 0, 0, 0]
    | l => l
  s.config d bad (generatorUnit d j :: s.servoUnits d)
    (fun x => x.onJoint j fun y => if rd p 0 1 = 0 then { y with filter0 := f } else { y with filter1 := f })
    ((out.map (leInt 4)).flatten)

/-- `CONFIG_FEEDFORWARD` (R200, Table 6.6). -/
def bodyConfigFeedforward (h : HostCmd) (d : DieId) (s : State) : Answer :=
  let p := h.params
  let j := tJoint h.target
  let c : CfgFeedforward :=
    { kvff := rd p 0 4, kaff := rd p 4 4, inertia := rd p 8 4, gearNum := rd p 12 4, gearDen := rd p 16 4, cogOffset := rd p 20 4,
      travelMin := rdS p 24 8, travelMax := rdS p 32 8, vBand := orDefaultI (rdS p 40 4) 655, extFadeNs := orDefault (rd p 44 4) 20000000 }
  let bad := firstFail [
    (decide (131072 < c.kvff) || decide (131072 < c.kaff) || decide (4294901760 < c.inertia), St.range),
    (c.gearDen == 0 || !decide (c.travelMin < c.travelMax), St.range),
    (!decide (0 < c.vBand) || decide (1000000000 < c.extFadeNs), St.range),
    (!zeroAt p 48 8, St.range)]
  s.config d bad (generatorUnit d j :: s.servoUnits d) fun x => x.onJoint j fun y => { y with ff := c }

/-- `CONFIG_FEEDBACK` (R204, Table 6.8). -/
def bodyConfigFeedback (h : HostCmd) (d : DieId) (s : State) : Answer :=
  let p := h.params
  let j := tJoint h.target
  let c : CfgFeedback :=
    { encoderPort := rd p 0 1 == 1, port := rd p 1 1, invert := bit (rd p 2 1) 0, holdLimit := if rd p 3 1 = 255 then 2 else rd p 3 1,
      countsPerUnit := rd p 4 4, offset := rdS p 8 8, freezeV := rdS p 16 4, freezeTorque := rdS p 20 4,
      freezeTimeNs := orDefault (rd p 24 4) 20000000 }
  let bad := firstFail [
    (decide (1 < rd p 0 1) || decide (1 < rd p 2 1), St.range),
    (c.encoderPort && decide (3 < c.port), St.range),
    (decide (4 < c.holdLimit) || c.countsPerUnit == 0, St.range),
    (decide (c.freezeV < 0) || decide (c.freezeTorque < 0) || decide (1000000000 < c.freezeTimeNs), St.range),
    (!zeroAt p 28 4, St.range)]
  s.config d bad [generatorUnit d j] fun x => x.onJoint j fun y => { y with feedback := c }

/-! ### Tables (R201, R202) -/

/-- Identifier and object number of a table target (R77). -/
def tTable (w : Word) : Nat := bits w.toNat 23 16
def tInstance (w : Word) : Nat := bits w.toNat 15 0

/-- The compensation table a target names, none where it names none: index 2·joint + t. -/
def tComp (w : Word) : Option (Fin 128) :=
  if h : (tTable w = 0x40 ∨ tTable w = 0x41) ∧ tInstance w < 64 then
    some ⟨2 * tInstance w + (tTable w - 0x40), by omega⟩
  else none

/-- `TABLE_WRITE` (R201, Table 6.7). -/
def bodyTableWrite (h : HostCmd) (d : DieId) (s : State) : Answer :=
  let p := h.params
  let first := rd p 0 1
  let count := rd p 1 1
  match tComp h.target with
  | none => reject s St.badTarget
  | some t =>
    if !s.jointPresent (tInstance h.target) then reject s St.unitAbsent
    else
      let bad := firstFail [
        (decide (h.plen.toNat ≠ 1 + (count + 3) / 4), St.badLength),
        (!within count 1 112 || decide (256 < first + count) || decide (15 < rd p 2 1) || decide (1 < rd p 3 1), St.range),
        (!zeroAt p 4 4 || !padded h (8 + 2 * count), St.range)]
      let put := fun (e : Sparse Int) (n : Nat) =>
        let v := rdS p (8 + 2 * n) 2
        if v = 0 then e.erase (first + n) else e.set (first + n) v
      s.config d bad [unitOf d 0 6 0] fun x =>
        let old := x.tables[t]
        let new : CfgTable := { shift := rd p 2 1, enable := bit (rd p 3 1) 0, entries := (List.range count).foldl put old.entries }
        { x with tables := x.tables.set t new }

/-- `TABLE_READ` (R202). -/
def bodyTableRead (h : HostCmd) (d : DieId) (s : State) : Answer :=
  let p := h.params
  let first := rd p 0 1
  let count := rd p 1 1
  match tComp h.target with
  | none => reject s St.badTarget
  | some t =>
    if !s.jointPresent (tInstance h.target) then reject s St.unitAbsent
    else if !within count 1 108 || decide (256 < first + count) || decide (1 < rd p 2 1) || !zeroAt p 3 5 then reject s St.range
    else
      let x := s.die d
      let tb := if rd p 2 1 = 0 then x.cfg.tables[t] else x.shadow.tables[t]
      answer s (le 1 first ++ le 1 count ++ le 1 tb.shift ++ le 1 (b2n tb.enable) ++ zeros 4 ++
        ((List.range count).map fun n => leInt 2 (tb.entries.getD (first + n) 0)).flatten)

/-! ### External torque (R187, R203) -/

/-- `EXT_TORQUE` (R187, R203). A Catcher takes B_s from the period in which the Flier executed the command. -/
def bodyExtTorque (h : HostCmd) (d : DieId) (s : State) : Answer :=
  let p := h.params
  let count := rd p 0 1
  let valid := rd p 4 4
  let js := if tKind h.target = 1 then [tJoint h.target] else (s.die d).armJoints (tArm h.target)
  if h.plen.toNat ≠ 1 + (count + 1) / 2 then reject s St.badLength
  else if decide (count ≠ js.length) || !within count 1 9 || decide (10000000000 < valid) || !zeroAt p 1 3 || !padded h (8 + 4 * count) then reject s St.range
  else
    let bS := if cmdAtEpoch h then s.mw.b else (s.die d).rm.flierB.getD s.mw.b + 1
    let put := fun (s : State) (x : Nat × Fin 64) =>
      s.onJoint d x.2 fun y => { (y.settleExt s.mw.b) with extNext := some { tau := rdS p (8 + 4 * x.1) 4, bS := bS, validNs := valid } }
    let s := ((List.range js.length).zip js).foldl put s
    answer (if cmdAtEpoch h then js.foldl (fun s j => s.onJoint d j fun y => y.settleExt s.mw.b) s else s)

/-- The 64 bytes of Table 6.9 as the joint stands. -/
def Die.controlStatus (x : Die) (j : Fin 64) : List Byte :=
  let t := x.joints[j]
  let c := t.ctl
  let flags := packBits [c.holding, c.saturated, t.extStale, c.softRamp, (x.compTable j 0).enable, (x.compTable j 1).enable]
  le 1 (b2n (x.jointCfg j).control.tq) ++ le 1 flags ++ le 1 c.age ++ le 1 (min c.holdCount 255) ++ leInt 4 c.tauOut ++ leInt 4 c.tauFb ++
    leInt 4 c.integral ++ leInt 4 c.tauInertia ++ leInt 4 c.tauItem ++ leInt 4 c.tauHost ++ leInt 4 c.tauCog ++ leInt 4 c.tauFric ++
    leInt 4 c.vEst ++ le 2 c.currentLimit ++ zeros 2 ++ le 4 c.freeze ++ leInt 8 c.qFb ++ le 8 c.b

/-- `CONTROL_STATUS` (R205): the values of the last completed period; before the first has completed, those of the moment. DESIGN CHOICE. -/
def bodyControlStatus (h : HostCmd) (d : DieId) (s : State) : Answer :=
  let j := tJoint h.target
  answer s ((s.joint d j).shownCtl.getD ((s.die d).controlStatus j))

/-- A period completes: what the status commands of the joints show from now on (R173, R205). -/
def State.showPeriod (s : State) (d : DieId) : State :=
  s.onDie d fun x => { x with joints := Vector.ofFn fun j : Fin 64 =>
    { x.joints[j] with shown := some (x.jointStatus j s.mw.b), shownCtl := some (x.controlStatus j) } }

/-! ### The generator's advance -/

/-- GENERATOR_ADVANCE (R135): once in a period for each present joint; it reads the generator's state array (R13, R424). After the cut-off its profile state
is late and discarded (R44). -/
def execGeneratorAdvance (d : DieId) (j : Fin 64) (s : State) : Result :=
  if s.computes d && s.jointPresent j.val && (s.joint d j).advB != some s.mw.b then
    let s := s.useArray d 0 (4 + j.val / 32)
    if s.mw.cutDone || !s.computes d then .next (s.onJoint d j fun x => { x with advB := some s.mw.b }) else .next (s.advance d j)
  else .next s

/-! ### Events of the control law -/

/-- Write a byte of CTRL_FLAGS from the control state. -/
def State.writeCtrlFlags (s : State) (d : DieId) (j : Fin 64) : State :=
  s.onDie d fun x => { x with stores := { x.stores with
    exchange := x.stores.exchange.write (256 * j.val + 0x90) (BitVec.ofNat 8 (x.joints[j]).ctl.flagByte) } }

/-- Feedback counts as lost (R195): the (HOLD_LIMIT + 1)-th consecutive missing period on a joint that is not DISABLED. In ENABLING, periods that were missed while
it was DISABLED do not fault; its step 4 waits through HOLD_LIMIT missing periods. -/
def Joint.feedbackGone (x : Joint) (limit b : Nat) : Bool :=
  match x.state with
  | .disabled => false
  | .enabling => decide (x.ctl.holdCount = limit + 1) || (!x.feedbackFresh && (match x.softWait with
      | some b0 => decide (limit ≤ b - b0)
      | none => false))
  | _ => decide (limit < x.ctl.holdCount)

/-- FEEDBACK_LOST (R195). The next advance turns the flag into the fault stop (R249). -/
def execFeedbackLost (d : DieId) (j : Fin 64) (s : State) : Result :=
  let x := s.joint d j
  let c := (s.die d).jointCfg j
  if s.computes d && !x.ctl.lost && x.feedbackGone c.feedback.holdLimit s.mw.b then
    .next (((s.onJoint d j fun x => { x with ctl := { x.ctl with lost := true } }).writeCtrlFlags d j).raise d 39 (s.jointTarget j) [])
  else .next s

/-- FEEDBACK_FROZEN (R196): the freeze timer has reached FREEZE_TIME_NS. -/
def execFeedbackFrozen (d : DieId) (j : Fin 64) (s : State) : Result :=
  let x := s.joint d j
  let c := (s.die d).jointCfg j
  if s.computes d && !x.ctl.frozen && decide (c.feedback.freezeV ≠ 0) && decide (c.feedback.freezeTimeNs ≤ x.ctl.freeze) then
    .next (((s.onJoint d j fun x => { x with ctl := { x.ctl with frozen := true } }).writeCtrlFlags d j).raise d 40 (s.jointTarget j) [])
  else .next s

/-- The period in which a value of `EXT_TORQUE` goes stale (R187). -/
def Die.staleB (x : Die) (e : ExtTorque) : Nat := e.bS + periodsOf e.validNs x.cfg.periods.tS

/-- EXT_TORQUE_STALE (R187): in period B_s + V the value is stale and its fade begins. -/
def execExtTorqueStale (d : DieId) (j : Fin 64) (s : State) : Result :=
  let x := (s.joint d j).settleExt s.mw.b
  if s.computes d && decide (x.ext.validNs ≠ 0) && !x.extStale && decide ((s.die d).staleB x.ext ≤ s.mw.b) then
    let s := s.onJoint d j fun y => { (y.settleExt s.mw.b) with extStale := true }
    .next ((s.count d 2 j.val 3).raise d 41 (s.jointTarget j) [])
  else .next s

/-- EXT_TORQUE_FADED (R187): after period B_s + V − 1 + F the value is 0. -/
def execExtTorqueFaded (d : DieId) (j : Fin 64) (s : State) : Result :=
  let x := (s.joint d j).settleExt s.mw.b
  let c := (s.die d).jointCfg j
  if s.computes d && decide (x.ext.validNs ≠ 0) && x.extStale &&
      decide ((s.die d).staleB x.ext + periodsOf c.ff.extFadeNs (s.die d).cfg.periods.tS ≤ s.mw.b) then
    .next (s.onJoint d j fun y => { (y.settleExt s.mw.b) with ext := { tau := 0, bS := s.mw.b, validNs := 0 } })
  else .next s

/-- TABLE_COPY_DONE (R191): a redirected table has been copied into the store, and its reads go there again. -/
def execTableCopyDone (d : DieId) (j : Fin 64) (friction : Bool) (s : State) : Result :=
  let t := 2 * j.val + b2n friction
  if (s.die d).works && (s.die d).redirect.contains t then
    .next (s.onDie d fun x =>
      { x with
        redirect := x.redirect.filter fun k => k != t,
        stores := { x.stores with compStore := x.stores.compStore.writeN (512 * t) ((List.range 512).map fun n => x.compByte (512 * t + n)) } })
  else .next s

/-! ### The home event (R159, Table 5.6) -/

/-- The position of the index latch (R177). -/
def Die.indexPosition (x : Die) (j : Fin 64) : Int :=
  let t := x.joints[j]
  let raw := t.ctl.raw + toSigned 32 ((x.indexLatch j + 4294967296 - t.ctl.lastCount) % 4294967296)
  (x.jointCfg j).feedback.position raw t.homeShift

/-- HOME_EVENT (R159): the index latch of method 1, the dwell of method 3, the next valid feedback of method 4. -/
def execHomeEvent (d : DieId) (j : Fin 64) (s : State) : Result :=
  let x := s.die d
  let t := x.joints[j]
  let c := x.jointCfg j
  let fb := (x.stores.exchange.read (256 * j.val + 0x51)).toNat
  match t.homing with
  | none => .next s
  | some h =>
    if !s.computes d then .next s
    else match h.phase with
      | .index =>
        let seen := if c.feedback.encoderPort then decide (x.indexSeq j ≠ h.latch0) else bit fb 3
        if seen then .next (s.homingDone d j (x.indexPosition j)) else .next s
      | .push =>
        match h.dwell with
        | some t0 =>
          if t0 + c.homing.dwellNs ≤ s.now then
            .next (s.onJoint d j fun y =>
              let z := y.homeBack c h.up .retreat
              { z with homing := z.homing.map fun g => { g with reachedQ := x.qFb j } })
          else .next s
        | none => .next s
      | .event =>
        if bit fb 0 && !bit fb 1 && !t.ctl.holding && t.ctl.rawValid then .next (s.homingDone d j (x.qFb j)) else .next s
      | _ => .next s

end Sys2Proof.Machine
end

