-- ==== Sys2Proof/Machine/Lanes.lean ====
section
/-! DEFINITION. Admission of the Juggler (R112, R113) and of the separation share (R208), and the structure signature (R114). -/

namespace Sys2Proof.Machine

/-- Set bits of a number below `n`. -/
def ones (v n : Nat) : Nat := ((List.range n).filter fun i => bit v i).length

/-- Present, unfenced lane groups of clusters of region P on a die. -/
def State.laneGroups (s : State) (d : DieId) (clusters : List Nat) : Nat :=
  let x := s.die d
  total (clusters.filter fun c => s.clusterExists 1 c && !x.removed.contains (1, c)) fun c =>
    4 - (x.fenced.filter fun f => f.1 == 1 && f.2.1 == c && decide (f.2.2 < 4)).length

/-- Lane groups of JC0..JC3 and of SE0..SE1. -/
def State.jugglerLanes (s : State) (d : DieId) : Nat := s.laneGroups d [0, 1, 2, 3]
def State.sepLanes (s : State) (d : DieId) : Nat := s.laneGroups d [4, 5]

/-! ### Juggler -/

/-- Quotient rounded up; a zero divisor never divides (no lane is present). -/
def upDiv (a b : Nat) : Nat := if b = 0 then 0 else (a + b - 1) / b

/-- Member joints in ascending number. -/
def CfgJuggler.memberList (c : CfgJuggler) : List (Fin 64) := (List.finRange 64).filter fun j => c.jointSet.getLsbD j.val

/-- Largest joint count of any arm. -/
def Cfg.largestArm (c : Cfg) : Nat := largest (List.range 8) fun a => ((List.finRange 64).filter fun j => (c.joints[j]).joint.arm == a).length

/-- The nonzero counts of the slots of one step (R112). -/
def Cfg.slotNnz (c : Cfg) : List Nat :=
  List.replicate c.juggler.sepRows (2 * c.largestArm) ++ List.replicate c.juggler.zoneRows c.largestArm ++
    (List.range c.juggler.hostRows).map fun i => match c.rows.find i with
      | some r => r.nnz
      | none => 0

/-- The worst-corner times of Table 4.3 for `lanes` lane groups: t_fact, t_iter, t_req in ns. -/
def Cfg.jugglerTimes (c : Cfg) (lanes : Nat) : Nat × Nat × Nat :=
  let n := c.juggler.memberList.length
  let N := c.juggler.n
  let steps := ones c.juggler.rowStepMask.toNat 16
  let fFact := 30 * n ^ 3 * N + 2 * (steps * total c.slotNnz fun k => k * k)
  let fIter := 12 * n ^ 2 * N + 4 * (steps * total c.slotNnz fun k => k) + 40 * n * N
  let l := 16 * lanes
  let tFact := upDiv (10 * fFact) (14 * l) + 5000
  let tIter := upDiv (10 * fIter) (14 * l) + 250
  (tFact, tIter, upDiv (5 * (tFact + 25 * tIter + 10000)) 4)

/-- DEADLINE_PCT/100 × T_p (R113). -/
def Cfg.jugglerBudget (c : Cfg) : Nat := c.juggler.deadlinePct * c.periods.tP / 100

/-- R113. -/
def Cfg.jugglerAdmitted (c : Cfg) (lanes : Nat) : Bool :=
  decide (0 < lanes) && decide ((c.jugglerTimes lanes).2.2 ≤ c.jugglerBudget)

/-- h in ns (R92). -/
def Cfg.hNs (c : Cfg) : Nat := c.juggler.hMult * c.periods.tP

/-- The structure signature (R114). -/
def Cfg.signature (c : Cfg) : Word :=
  let j := c.juggler
  crc32 (le 8 j.jointSet.toNat ++ le 1 j.n ++ le 4 c.hNs ++ le 2 j.rowStepMask.toNat ++ le 1 j.sepRows ++ le 1 j.zoneRows ++
    le 1 j.hostRows ++ le 1 (b2n j.terminalStop) ++
    ((List.range j.hostRows).map fun i => match c.rows.find i with
      | some r => le 2 r.stepMask.toNat ++ padTo 20 r.index
      | none => zeros 22).flatten)

/-! ### Separation -/

/-- Planes of all polytopes. -/
def Cfg.planes (c : Cfg) : Nat := total c.geometry fun e => match e.2 with
  | .header _ p _ _ _ => p
  | _ => 0

/-- Capsules: arm and ARM_ARM. -/
def Cfg.capsuleArms (c : Cfg) : List (Nat × Bool) := c.geometry.filterMap fun e => match e.2 with
  | .capsule a _ aa _ _ _ => some (a, aa)
  | _ => none

/-- Sum of QUOTA over enabled sensors. -/
def Cfg.quota (c : Cfg) : Nat := total (c.sensors.toList.filter fun x => x.enable) fun x => x.quota

/-- Capsule pairs on different arms with ARM_ARM in both. -/
def pairsOf : List (Nat × Bool) → Nat
  | [] => 0
  | x :: r => (if x.2 then (r.filter fun y => y.2 && y.1 != x.1).length else 0) + pairsOf r

/-- t_sep in ns (R208). -/
def Cfg.tSepNs (c : Cfg) (lanes : Nat) : Nat :=
  let k := c.capsuleArms.length
  10000 + upDiv (24 * (k * c.quota) + 60 * pairsOf c.capsuleArms + 6 * (k * c.planes)) (8 * lanes)

/-- R208: 1.25 × t_sep ≤ T_sep − T_s. -/
def Cfg.sepAdmitted (c : Cfg) (lanes : Nat) : Bool :=
  decide (0 < lanes) && decide (5 * c.tSepNs lanes + 4 * c.periods.tS ≤ 4 * c.periods.tSep)

end Sys2Proof.Machine
end

