-- ==== Sys2Proof/Machine/ServoMem.lean ====
section
/-! DEFINITION. The servo-core instructions that use memory, accumulators and pointers, and those that move control
(R242..R245, R256, R260, R261). `EXIT` stands with the dispatcher. -/

namespace Sys2Proof.Machine

/-! ### Addresses (Table 8.3) -/

/-- Bytes of an access. -/
def memBytes : MemSize → Nat
  | .word => 4
  | .shalf => 2
  | .uhalf => 2
  | .ubyte => 1
  | .pair => 8

/-- A circular access through a descriptor keeps R245. -/
def circularOk (b : CbDesc) (p : Nat) : Bool :=
  let n := b.len.toNat
  decide (n ≠ 0) && b.base.toNat % 4 == 0 && n % 4 == 0 && decide (n ≤ 16384) && decide (b.base.toNat ≤ p) && decide (p < b.base.toNat + n)

/-- Address used and the pointer after, in one of the four modes. -/
def effective (k : Core) (p : Fin 8) (m : AddrMode) : Except Cause (Int × Core) :=
  let a : Int := (k.ptr p).toNat
  match m with
  | .disp d => .ok (a + d.toInt, k)
  | .postInc d => .ok (a, k.setPtr p ((a + d.toInt) % 8388608).toNat)
  | .circular cb inc =>
    let b := k.cb[cb]
    if circularOk b a.toNat then
      .ok (a, k.setPtr p (b.base.toNat + ((a - b.base.toNat + inc.toInt) % (b.len.toNat : Int)).toNat))
    else .error .circular
  | .indexed dk sh => .ok (a + (k.reg dk).toInt * 2 ^ sh.toNat, k)

/-- A checked address: in the map and a multiple of min(size, 4) (R244, R246). -/
def alignedAt (a : Int) (sz : MemSize) : Option Nat :=
  if 0 ≤ a ∧ a < 8388608 ∧ a % (min (memBytes sz) 4 : Nat) = 0 then some a.toNat else none

/-- The odd partner of an even register. -/
def partner (r : Fin 16) : Fin 16 := ⟨(r.val + 1) % 16, Nat.mod_lt _ (by decide)⟩

/-- The value a load writes (R244, R260). -/
def putLoad (k : Core) (r : Fin 16) (sz : MemSize) (bs : List Byte) : Core :=
  match sz with
  | .word => k.setReg r (BitVec.ofNat 32 (leNat bs))
  | .shalf => k.setReg r (BitVec.ofInt 32 (toSigned 16 (leNat bs)))
  | .uhalf => k.setReg r (BitVec.ofNat 32 (leNat bs))
  | .ubyte => k.setReg r (BitVec.ofNat 32 (leNat bs))
  | .pair => (k.setReg r (BitVec.ofNat 32 (leNat (bs.take 4)))).setReg (partner r) (BitVec.ofNat 32 (leNat (bs.drop 4)))

/-- The bytes a store takes from its register (R244, R260). -/
def storeData (k : Core) (r : Fin 16) (sz : MemSize) : List Byte :=
  match sz with
  | .pair => le 4 (k.reg r).toNat ++ le 4 (k.reg (partner r)).toNat
  | _ => le (memBytes sz) (k.reg r).toNat

/-- A pair names an even register (R250). -/
def pairOk (r : Fin 16) (sz : MemSize) : Bool := sz != .pair || r.val % 2 == 0

/-- LD without its SECDED outcome (R244). -/
def loadEff (core : Nat) (r : Fin 16) (p : Fin 8) (m : AddrMode) (sz : MemSize) (x : Die) (k : Core) (i : Item) : Except Cause Eff :=
  if !pairOk r sz then .error .illegal
  else match effective k p m with
    | .error e => .error e
    | .ok (a, k') =>
      match alignedAt a sz with
      | none => .error .address
      | some n =>
        match spaceOf n, loadBytes x core k i n (memBytes sz) with
        | some sp, some bs => .ok { core := putLoad k' r sz bs, cost := memTicks sp (sz == .pair) }
        | _, _ => .error .address

/-- ST (R244). -/
def storeEff (r : Fin 16) (p : Fin 8) (m : AddrMode) (sz : MemSize) (k : Core) : Except Cause Eff :=
  if !pairOk r sz then .error .illegal
  else match effective k p m with
    | .error e => .error e
    | .ok (a, k') =>
      match alignedAt a sz with
      | none => .error .address
      | some n => storeBytes k' n (storeData k r sz) (sz == .pair)

/-- The place whose SRAM array a load reads: the core, its cluster, the compensation store, or another array of the die (R424). -/
inductive ArrayOwner where | unit | cluster | store | die
  deriving DecidableEq, Repr

/-- Owner of the array a load of this form reads, by the address it uses. -/
def loadOwner (k : Core) (p : Fin 8) (m : AddrMode) : ArrayOwner :=
  match effective k p m with
  | .error _ => .unit
  | .ok (a, _) =>
    match spaceOf a.toNat with
    | some (.parameter _) | some (.scratch _) | some (.regs _) => .unit
    | some (.cluster _) => .cluster
    | some (.comp _) => .store
    | _ => .die

/-- Place of an array's owner. -/
def ownerPlace (s : State) (c : CoreRef) (o : ArrayOwner) : Word × Nat :=
  match o with
  | .unit => (s.unitTarget (coreUnit c), placeNumber (coreUnit c))
  | .cluster =>
    let n := placeIndex c.die.code 0 (c.core.val / 8) 31
    (s.target 7 n, n)
  | .store => (s.target 7 (placeIndex c.die.code 0 6 0), placeIndex c.die.code 0 6 0)
  | .die => (s.target 7 (wholeDie c.die), wholeDie c.die)

/-- Region, cluster and unit of an array's owner as the errors of arrays name it; cluster 7 of region M is the work-item data store. -/
def ownerArray (c : CoreRef) (o : ArrayOwner) : Nat × Nat × Nat :=
  match o with
  | .unit => (0, c.core.val / 8, c.core.val % 8)
  | .cluster => (0, c.core.val / 8, 31)
  | .store => (0, 6, 31)
  | .die => (0, 7, 31)

/-- Words that an instruction reads at an address, with what SECDED sees there (R13, R421, R424): a corrected bit is counted; an uncorrectable word of local memory is a
detection of the core (R257), of any other array one that lasts where its re-read fails too: then the array's owner takes the fault. -/
def State.readOperand (s : State) (c : CoreRef) (i : Item) (owner : ArrayOwner) (check : ReadCheck) (go : State → State) : State :=
  let place := ownerPlace s c owner
  let at_ := ownerArray c owner
  let hit := fun (n : Injection) => match owner with
    | .cluster => n.atArray c.die.code 0 (c.core.val / 8)
    | .store => n.atArray c.die.code 0 6
    | _ => n.target == place.1
  let r := s.readWord c.die at_.1 at_.2.1 at_.2.2 hit
  match r.2.with check with
  | .clean => go r.1
  | .corrected => go (r.1.countSingle c.die)
  | .bad again by_ => match owner with
    | .unit => r.1.coreDetection c i 0 by_.isSome
    | _ =>
      let n := r.1.detect c.die place.1 place.2 0 again by_.isSome []
      if !n.2 then go n.1
      else match owner with
        | .cluster => (n.1.loseCluster c.die 0 (c.core.val / 8) { injected := by_.isSome, detector := 0 }).reschedule c.die
        | _ => n.1.dieFault c.die

/-- LD (R244). A load that faults reads nothing. -/
def execLd (c : CoreRef) (r : Fin 16) (p : Fin 8) (m : AddrMode) (sz : MemSize) (check : ReadCheck) (s : State) : Result :=
  let ld := fun (t : State) => t.coreStep c (.ld c r p m sz check) (loadEff c.core.val r p m sz)
  match s.runningOn c with
  | none => .next s
  | some i =>
    let k := (s.die c.die).cores[c.core]
    if !s.atInstruction c i (.ld c r p m sz check) || !(loadEff c.core.val r p m sz (s.die c.die) k i).isOk then .next (ld s)
    else .next (s.readOperand c i (loadOwner k p m) check ld)

/-- ST (R244, R247). -/
def execSt (c : CoreRef) (r : Fin 16) (p : Fin 8) (m : AddrMode) (sz : MemSize) (s : State) : Result :=
  .next (s.coreStep c (.st c r p m sz) fun _ k _ => storeEff r p m sz k)

/-! ### Accumulators (R242, R243) -/

/-- Read an operand signed or unsigned. -/
def readAs (signed : Bool) (w : Word) : Int := if signed then w.toInt else w.toNat

/-- The exact product under MODE: the first letter reads the first operand (R242). -/
def productOf (mode : MulMode) (a b : Word) : Int :=
  match mode with
  | .ss => readAs true a * readAs true b
  | .us => readAs false a * readAs true b
  | .su => readAs true a * readAs false b
  | .uu => readAs false a * readAs false b

/-- Write an accumulator from an exact value, saturating at 72 bits with AOV (R242). -/
def accOut (k : Core) (acc : Fin 4) (v : Int) (cost : Nat) : Except Cause Eff :=
  let r := sat72i v
  .ok { core := (k.setAcc acc r.1).withFlags (setAov k.flags r.2), cost := cost }

/-- Write an accumulator, dropping what lies above 72 bits. -/
def accWrap (k : Core) (acc : Fin 4) (v : Int) : Except Cause Eff := .ok { core := k.setAcc acc (BitVec.ofInt 72 v), cost := 4 }

/-- acc ≫ sh, truncating toward minus infinity (R243). -/
def accShift (k : Core) (acc : Fin 4) (sh : BitVec 6) : Int := Int.fdiv (k.accOf acc).toInt (2 ^ sh.toNat)

/-- Write a register with SAT where it saturated; FLAGS otherwise kept. -/
def narrowOut (k : Core) (rd : Fin 16) (v : Word) (sat : Bool) (cost : Nat) : Except Cause Eff :=
  .ok { core := (k.setReg rd v).withFlags (setSat k.flags sat), cost := cost }

/-- MPY (R242). -/
def execMpy (c : CoreRef) (acc : Fin 4) (ra rb : Fin 16) (mode : MulMode) (residueOk : Bool) (s : State) : Result :=
  .next (s.coreStepChecked c (.mpy c acc ra rb mode residueOk) residueOk fun _ k _ => accOut k acc (productOf mode (k.reg ra) (k.reg rb)) 6)

/-- MAC (R242). -/
def execMac (c : CoreRef) (acc : Fin 4) (ra rb : Fin 16) (mode : MulMode) (residueOk : Bool) (s : State) : Result :=
  .next (s.coreStepChecked c (.mac c acc ra rb mode residueOk) residueOk fun _ k _ => accOut k acc ((k.accOf acc).toInt + productOf mode (k.reg ra) (k.reg rb)) 6)

/-- MSU (R242). -/
def execMsu (c : CoreRef) (acc : Fin 4) (ra rb : Fin 16) (mode : MulMode) (residueOk : Bool) (s : State) : Result :=
  .next (s.coreStepChecked c (.msu c acc ra rb mode residueOk) residueOk fun _ k _ => accOut k acc ((k.accOf acc).toInt - productOf mode (k.reg ra) (k.reg rb)) 6)

/-- ACLR. -/
def execAclr (c : CoreRef) (acc : Fin 4) (s : State) : Result :=
  .next (s.coreStep c (.aclr c acc) fun _ k _ => accOut k acc 0 4)

/-- AMOV. -/
def execAmov (c : CoreRef) (acc accb : Fin 4) (s : State) : Result :=
  .next (s.coreStep c (.amov c acc accb) fun _ k _ => accOut k acc (k.accOf accb).toInt 4)

/-- AADD, saturating at 72 bits. -/
def execAadd (c : CoreRef) (acc accb : Fin 4) (s : State) : Result :=
  .next (s.coreStep c (.aadd c acc accb) fun _ k _ => accOut k acc ((k.accOf acc).toInt + (k.accOf accb).toInt) 4)

/-- ASUB, saturating at 72 bits. -/
def execAsub (c : CoreRef) (acc accb : Fin 4) (s : State) : Result :=
  .next (s.coreStep c (.asub c acc accb) fun _ k _ => accOut k acc ((k.accOf acc).toInt - (k.accOf accb).toInt) 4)

/-- ANEG, saturating at 72 bits. -/
def execAneg (c : CoreRef) (acc : Fin 4) (s : State) : Result :=
  .next (s.coreStep c (.aneg c acc) fun _ k _ => accOut k acc (-(k.accOf acc).toInt) 4)

/-- ASHR (R243). -/
def execAshr (c : CoreRef) (acc : Fin 4) (sh : BitVec 6) (s : State) : Result :=
  .next (s.coreStep c (.ashr c acc sh) fun _ k _ => accOut k acc (accShift k acc sh) 4)

/-- ASHL, saturating at 72 bits. -/
def execAshl (c : CoreRef) (acc : Fin 4) (sh : BitVec 6) (s : State) : Result :=
  .next (s.coreStep c (.ashl c acc sh) fun _ k _ => accOut k acc ((k.accOf acc).toInt * 2 ^ sh.toNat) 4)

/-- ASET: acc := sext(rd) ≪ sh; Table 8.13 does not list it among those that saturate. -/
def execAset (c : CoreRef) (acc : Fin 4) (rd : Fin 16) (sh : BitVec 6) (s : State) : Result :=
  .next (s.coreStep c (.aset c acc rd sh) fun _ k _ => accWrap k acc ((k.reg rd).toInt * 2 ^ sh.toNat))

/-- ASETP: acc := sext(rd+1:rd) ≪ sh, rd even. -/
def execAsetp (c : CoreRef) (acc : Fin 4) (rd : Fin 16) (sh : BitVec 6) (s : State) : Result :=
  .next (s.coreStep c (.asetp c acc rd sh) fun _ k _ => 
    if rd.val % 2 = 1 then .error .illegal
    else accWrap k acc ((k.reg (partner rd) ++ k.reg rd).toInt * 2 ^ sh.toNat))

/-- STA: rd := sat32(acc ≫ sh) (R243). -/
def execSta (c : CoreRef) (rd : Fin 16) (acc : Fin 4) (sh : BitVec 6) (s : State) : Result :=
  .next (s.coreStep c (.sta c rd acc sh) fun _ k _ => 
    let r := sat32i (accShift k acc sh)
    narrowOut k rd r.1 r.2 6)

/-- STAL: low word of sat64(acc ≫ sh) (R243). -/
def execStal (c : CoreRef) (rd : Fin 16) (acc : Fin 4) (sh : BitVec 6) (s : State) : Result :=
  .next (s.coreStep c (.stal c rd acc sh) fun _ k _ => 
    let r := sat64i (accShift k acc sh)
    narrowOut k rd (r.1.setWidth 32) r.2 6)

/-- STAH: high word of sat64(acc ≫ sh) (R243). -/
def execStah (c : CoreRef) (rd : Fin 16) (acc : Fin 4) (sh : BitVec 6) (s : State) : Result :=
  .next (s.coreStep c (.stah c rd acc sh) fun _ k _ => 
    let r := sat64i (accShift k acc sh)
    narrowOut k rd ((r.1 >>> 32).setWidth 32) r.2 6)

/-- DIVA: rd := sat32(⌊acc / rb⌋); a divisor of 0 is a DIVIDE fault (R243, Table 8.10). -/
def execDiva (c : CoreRef) (rd : Fin 16) (acc : Fin 4) (rb : Fin 16) (s : State) : Result :=
  .next (s.coreStep c (.diva c rd acc rb) fun _ k _ => 
    if k.reg rb = 0 then .error .divide
    else
      let r := sat32i (Int.fdiv (k.accOf acc).toInt (k.reg rb).toInt)
      narrowOut k rd r.1 r.2 44)

/-! ### Pointers -/

/-- Class A on a core. -/
def coreOut (k : Core) : Except Cause Eff := .ok { core := k, cost := 4 }

/-- PSETI. -/
def execPseti (c : CoreRef) (p : Fin 8) (imm : BitVec 23) (s : State) : Result :=
  .next (s.coreStep c (.pseti c p imm) fun _ k _ => coreOut (k.setPtr p imm.toNat))

/-- PADDI: modulo 2²³. -/
def execPaddi (c : CoreRef) (p : Fin 8) (imm : BitVec 23) (s : State) : Result :=
  .next (s.coreStep c (.paddi c p imm) fun _ k _ => coreOut (k.setPtr p (((k.ptr p).toNat + imm.toInt) % 8388608).toNat))

/-- PSET: p := r[22:0]. -/
def execPset (c : CoreRef) (p : Fin 8) (r : Fin 16) (s : State) : Result :=
  .next (s.coreStep c (.pset c p r) fun _ k _ => coreOut (k.setPtr p (k.reg r).toNat))

/-- PGET. -/
def execPget (c : CoreRef) (r : Fin 16) (p : Fin 8) (s : State) : Result :=
  .next (s.coreStep c (.pget c r p) fun _ k _ => coreOut (k.setReg r ((k.ptr p).setWidth 32)))

/-- PMOV: p := pq. -/
def execPmov (c : CoreRef) (p q : Fin 8) (s : State) : Result :=
  .next (s.coreStep c (.pmov c p q) fun _ k _ => coreOut (k.setPtr p (k.ptr q).toNat))

/-- PADD: modulo 2²³. -/
def execPadd (c : CoreRef) (p : Fin 8) (r : Fin 16) (s : State) : Result :=
  .next (s.coreStep c (.padd c p r) fun _ k _ => coreOut (k.setPtr p ((k.ptr p).toNat + (k.reg r).toNat)))

/-- CBSET: base from a pointer, length from the low 15 bits of a data register (R245). -/
def execCbset (c : CoreRef) (cb : Fin 4) (p : Fin 8) (r : Fin 16) (s : State) : Result :=
  .next (s.coreStep c (.cbset c cb p r) fun _ k _ => coreOut { k with cb := k.cb.set cb { base := k.ptr p, len := (k.reg r).setWidth 15 } })

/-! ### MINI and MAXI -/

/-- The better of two words and its index; the first occurrence stands. -/
def pickBest (isMin uns : Bool) (best : Word × Nat) (w : Word) (i : Nat) : Word × Nat :=
  let less := fun (a b : Word) => if uns then a.ult b else a.slt b
  if (if isMin then less w best.1 else less best.1 w) then (w, i) else best

/-- Best of the words that follow the first. -/
def scanBest (isMin uns : Bool) : List Word → Nat → Word × Nat → Word × Nat
  | [], _, b => b
  | w :: r, i, b => scanBest isMin uns r (i + 1) (pickBest isMin uns b w i)

/-- The words a byte string holds. -/
def wordsOf : List Byte → List Word
  | a :: b :: c :: d :: r => BitVec.ofNat 32 (leNat [a, b, c, d]) :: wordsOf r
  | _ => []

/-- MINI and MAXI: n words at p, stride 4; rd := value, then ri := its index; p unchanged (Table 8.12, class S). -/
def scanEff (isMin uns : Bool) (core : Nat) (rd ri : Fin 16) (p : Fin 8) (rn : Fin 16) (x : Die) (k : Core) (i : Item) : Except Cause Eff :=
  let n := (k.reg rn).toNat
  if n = 0 ∨ 1024 < n then .error .count
  else
    let a := (k.ptr p).toNat
    if a % 4 ≠ 0 then .error .address
    else match spaceOf a, loadBytes x core k i a (4 * n) with
      | some sp, some bs =>
        match wordsOf bs with
        | [] => .error .count
        | w :: r =>
          let best := scanBest isMin uns r 1 (w, 0)
          .ok { core := (k.setReg rd best.1).setReg ri (BitVec.ofNat 32 best.2), cost := 12 + n * memTicks sp false }
      | _, _ => .error .address

/-- MINI and MAXI with the words they read (R13). -/
def State.scan (s : State) (c : CoreRef) (op : Instr) (p : Fin 8) (f : Die → Core → Item → Except Cause Eff) : State :=
  match s.runningOn c with
  | none => s
  | some i =>
    let k := (s.die c.die).cores[c.core]
    if !s.atInstruction c i op || !(f (s.die c.die) k i).isOk then s.coreStep c op f
    else s.readOperand c i (loadOwner k p (.disp 0)) .clean fun t => t.coreStep c op f

/-- MINI. -/
def execMini (c : CoreRef) (rd ri : Fin 16) (p : Fin 8) (rn : Fin 16) (uns : Bool) (s : State) : Result :=
  .next (s.scan c (.mini c rd ri p rn uns) p (scanEff true uns c.core.val rd ri p rn))

/-- MAXI. -/
def execMaxi (c : CoreRef) (rd ri : Fin 16) (p : Fin 8) (rn : Fin 16) (uns : Bool) (s : State) : Result :=
  .next (s.scan c (.maxi c rd ri p rn uns) p (scanEff false uns c.core.val rd ri p rn))

/-! ### Control -/

/-- A jump to a word of the block; a target outside it is a PC fault (Table 8.10). -/
def jumpTo (k : Core) (words : Nat) (t : Int) (cost : Nat) : Except Cause Eff :=
  if 0 ≤ t ∧ t < words then .ok { core := { k with loops := leaveLoops t.toNat k.loops }, cost := cost, jump := some t.toNat }
  else .error .pc

/-- Bcc (R260, R261). -/
def execBcc (c : CoreRef) (cond : BitVec 4) (off : BitVec 22) (s : State) : Result :=
  .next (s.coreStep c (.bcc c cond off) fun _ k i =>
    match condHolds k.flags cond.toNat with
    | none => .error .illegal
    | some true => jumpTo k i.code.length (k.pc + off.toInt) 8
    | some false => .ok { core := k, cost := 4 })

/-- CALL: push PC + 1, four entries at most; it ends no loop (R261). -/
def execCall (c : CoreRef) (target : BitVec 10) (s : State) : Result :=
  .next (s.coreStep c (.call c target) fun _ k i =>
    if 4 ≤ k.calls.length then .error .stack
    else if i.code.length ≤ target.toNat then .error .pc
    else .ok { core := { k with calls := (k.pc + 1) :: k.calls }, cost := 8, jump := some target.toNat })

/-- RET: to the newest return word (R261). -/
def execRet (c : CoreRef) (s : State) : Result :=
  .next (s.coreStepAt c (fun w => spellsSystem w 2) fun _ k _ =>
    match k.calls with
    | [] => .error .stack
    | t :: r => .ok { core := { k with calls := r, loops := leaveLoops t k.loops }, cost := 8, jump := some t })

/-- LOOP: the body is the next word through word LOOP + end; a register count of 0 skips it (Table 8.12, R261), and the core
goes on as after the body's last word. DEDUCED: an outer body that ends with it returns to its first word. -/
def execLoop (c : CoreRef) (fromReg : Bool) (ra : Fin 16) (count : BitVec 10) (last : BitVec 11) (s : State) : Result :=
  .next (s.coreStep c (.loop_ c fromReg ra count last) fun _ k i =>
    let n := if fromReg then (k.reg ra).toNat else if count = 0 then 1024 else count.toNat
    let e := k.pc + last.toNat
    if last.toNat = 0 ∨ 1023 < last.toNat then .error .illegal
    else if 2 ≤ k.loops.length then .error .stack
    else if i.code.length ≤ e then .error .pc
    else if n = 0 then
      let past := loopAdvance e k.loops
      .ok { core := { k with loops := past.1 }, cost := 8 + 8 * past.2.2, jump := some past.2.1 }
    else .ok { core := { k with loops := { first := k.pc + 1, last := e, count := n } :: k.loops }, cost := 8, jump := some (k.pc + 1) })

/-- FAULT: a SOFTWARE program fault with its code (R255), where its ticks fit the bound (R258). -/
def execFaultOp (c : CoreRef) (code : Byte) (s : State) : Result :=
  .next (s.coreStepAt c (fun w => spellsFault w code) fun _ k i => .error (if i.bound < k.ticks + 4 then .budget else .software code))

end Sys2Proof.Machine
end

