-- ==== Sys2Proof/Machine/Schedule.lean ====
section
/-! DEFINITION. The dispatcher (chapter 9): release, prefetch, EXIT and completion, drops, state repair and
re-admission (R250..R257, R262..R277). -/

namespace Sys2Proof.Machine

/-! ### Release -/

/-- Rings of a mask: those in use for 0 (R266). -/
def Cfg.ringsOf (c : Cfg) (mask : Byte) : List Nat :=
  if mask = 0 then c.masters else (List.range 8).filter fun r => mask.getLsbD r

/-- The instant of the release reference of an item run, none while it has not come (R266). -/
def State.reference (s : State) (d : DieId) (i : Inst) (e : ProgEntry) : Option Nat :=
  let x := s.die d
  if !e.ringReturn then some i.bNs
  else
    let rs := x.cfg.ringsOf e.ringMask
    let latest := i.bNs + x.cfg.slowest rs
    let merged := rs.map fun r => (s.mw.rings[r % 8]'(Nat.mod_lt _ (by decide))).mergedNs.filter fun t => decide (i.bNs ≤ t)
    if merged.all Option.isSome then some (min latest (largest merged fun o => o.getD 0))
    else if latest ≤ s.now then some latest else none

/-- The die still holds at-epoch commands of a boundary that has fired (R80). -/
def Die.holds (x : Die) (b : Nat) : Bool := x.rm.held.any fun k => decide (k.b ≤ b)

/-- ITEM_RELEASE (R80, R266): an item run is released once its reference and offset have passed, a servo-class one once
the at-epoch commands of the boundary have executed. A Catcher whose item still awaits state repair at its release loses its eligibility (R271). -/
def execItemRelease (d : DieId) (entry : Fin 1024) (s : State) : Result :=
  let s := s.ringsSettle
  let x := s.die d
  match x.disp.insts.find? fun i => i.entry == entry.val && !i.released && !i.state.ended with
  | none => .next s
  | some i =>
    match x.entryOf i with
    | none => .next s
    | some e =>
      let due := match s.reference d i e with
        | some t => decide (t + e.offsetNs ≤ s.now)
        | none => false
      if s.computes d && due && !(e.cls == 0 && x.holds s.mw.b) then
        let unrepaired := !s.isFlier d && x.disp.repair.any fun r => r.1 == entry.val
        let s := if unrepaired then (s.onDie d fun x => { x with disp := { x.disp with repair := [] } }).catcherLost d 6 else s
        let s := s.onDie d fun x => { x with disp := x.disp.onInst entry.val i.b fun j => { j with released := true } }
        let s := s.trace d entry.val 0 0 255 e.homeNo e.cls i.b 0
        .next (s.reschedule d)
      else .next s

/-- PREFETCH_DONE (R251, R268, R269): code and parameters have been read from cluster memory (R13) into the free slots; a core that runs nothing enters the item. -/
def execPrefetchDone (d : DieId) (core : Fin 32) (s : State) : Result :=
  let c := (s.die d).cores[core]
  if s.computes d && c.next.isSome && !c.prefetched then
    let s := s.useArray d 0 (clusterOf core)
    let x := s.die d
    let s := s.onCore ⟨d, core⟩ fun c => match c.next with
      | some n =>
        let n := x.prefetch core n
        { c.putParams (!c.slot) n.params with next := some n, prefetched := true }
      | none => c
    let s := s.startNext ⟨d, core⟩
    .next (s.reschedule d)
  else .next s

/-! ### EXIT and completion (R254) -/

/-- What EXIT does on the core: the library item's outputs join the buffer; the charge of Table 8.14 counts the bytes sent. -/
def exitEff (x : Die) (k : Core) (i : Item) : Eff :=
  let l := libraryOutputs x k i
  let out := k.out ++ l.1
  { core := { k with out := out, ctl := l.2, exited := true }, cost := 16 + 4 * ((out.foldl (fun n e => n + e.2.length) 0 + 7) / 8), jump := some (k.pc + 1) }

/-- EXIT (R254): the core sends its output buffer; ITEM_COMPLETE is the last acknowledgement. A control item has read the compensation store (R13). -/
def execExit (c : CoreRef) (s : State) : Result :=
  let s := s.coreStepAt c (fun w => spellsSystem w 1) fun x k i => .ok (exitEff x k i)
  let k := (s.die c.die).cores[c.core]
  if k.exited && k.run.isSome then
    let s := if k.run.any fun i => i.lib == .control then s.useArray c.die 0 6 else s
    .next (s.onDie c.die fun x =>
      { x with disp := { x.disp with insts := x.disp.insts.map fun i => if i.state = .running c.core.val then { i with state := .exited c.core.val } else i } })
  else .next s

/-- Make one buffered store (Table 8.4). -/
def Die.land (x : Die) (a : Nat) (bs : List Byte) : Die :=
  match spaceOf a with
  | some (.exchange o) => { x with stores := { x.stores with exchange := x.stores.exchange.writeN o bs } }
  | some (.outBank o) =>
    { x with stores := { x.stores with outBank := x.stores.outBank.writeN o bs },
             outSlots := if x.outSlots.contains (o / 64) then x.outSlots else x.outSlots ++ [o / 64] }
  | some (.field o) =>
    { x with stores := { x.stores with fieldWords := x.stores.fieldWords.writeN o bs },
             partner := { x.partner with fieldCrc := crc32From x.partner.fieldCrc bs } }
  | some (.placement o) => { x with stores := { x.stores with placements := x.stores.placements.writeN o bs } }
  | some (.frame o) => { x with stores := { x.stores with frames := x.stores.frames.writeN o bs } }
  | _ => x

/-- Combine a word with later values under a mask. -/
def underMask (old value mask : Word) : Word := (old &&& ~~~mask) ||| (value &&& mask)

/-- Combine the field output word an item has written with those of the period's items before it (R364): the item's own stores alone make its word, what it has not
stored being 0. -/
def Die.landField (x : Die) (stored : List (Nat × List Byte)) : Die :=
  let m := stored.foldl (fun (m : Memory) e => m.writeN e.1 e.2) []
  let k := BitVec.ofNat 32 (m.nat 2 2)
  let level := stored.any fun e => decide (e.1 ≤ 4) && decide (4 < e.1 + e.2.length)
  { x with fieldOut := { value := underMask x.fieldOut.value (BitVec.ofNat 32 (m.nat 0 2)) k, mask := x.fieldOut.mask ||| k,
                         tpo := if level then some (bit (m.nat 4 1) 0) else x.fieldOut.tpo } }

/-- An item's stores to the field output words, with their offsets. -/
def fieldStores (out : List (Nat × List Byte)) : List (Nat × List Byte) := out.filterMap fun e => match spaceOf e.1 with
  | some (.field o) => some (o, e.2)
  | _ => none

/-- A capsule placement written for period `b` is its arm's latest (R212), made from the joint positions in the item's exchange blocks (R223). -/
def Die.markPlaced (x : Die) (blocks : Memory) (capsule b : Nat) : Die :=
  match x.cfg.capsules.find? fun k => k.1 == capsule with
  | some (_, .capsule arm _ _ _ _ _) =>
    let a : Fin 8 := ⟨arm % 8, Nat.mod_lt _ (by decide)⟩
    let v : SepArm := { x.sep.arms[a] with lastPlaceB := b, placedQ := (x.armJoints a).map fun j => (j.val, blocks.int (256 * j.val + 0x80) 8) }
    let y : Sep := { x.sep with arms := x.sep.arms.set a v }
    { x with sep := y }
  | _ => x

/-- The state halves of an item that completed on time are exchanged (R44, R252). -/
def State.exchangeHalves (s : State) (d : DieId) (i : Item) : State :=
  if i.stateBytes = 0 then s
  else s.onDie d fun x => { x with
    partner := { x.partner with exchanged := x.partner.exchanged ++ [i.entry.val] },
    disp := { x.disp with half := x.disp.half.set i.entry.val !(x.disp.half.getD i.entry.val false) } }

/-- Outputs of an item that completed on time (R44, R247, R254): its stores in order, its control state. `blocks` are the exchange blocks it read. -/
def State.applyOutputs (s : State) (d : DieId) (i : Item) (blocks : Memory) (out : List (Nat × List Byte)) (ctl : Option (Nat × Control)) : State :=
  let go := fun (s : State) (e : Nat × List Byte) =>
    let s := s.onDie d fun x => x.land e.1 e.2
    match spaceOf e.1 with
    | some (.field _) =>
      s.onDie d fun x =>
        { x with partner := { x.partner with fieldEntries := if x.partner.fieldEntries.contains i.entry.val then x.partner.fieldEntries else x.partner.fieldEntries ++ [i.entry.val] } }
    | some (.placement o) => s.onDie d fun x => x.markPlaced blocks (o / 32) i.b
    | some (.exchange o) =>
      if o % 256 / 4 = 48 then s.onDie d fun x => { x with disp := { x.disp with extWriter := x.disp.extWriter.set (o / 256) i.entry.val } } else s
    | _ => s
  let s := (out.foldl go s).onDie d fun x => x.landField (fieldStores out)
  match ctl with
  | none => s
  | some (j, c) =>
    let jj : Fin 64 := ⟨j % 64, Nat.mod_lt _ (by decide)⟩
    let s := s.onJoint d jj fun x => { x with ctl := { c with lost := x.ctl.lost && c.lost, frozen := x.ctl.frozen && c.frozen } }
    let s := if c.holding then s.count d 2 j 1 else s
    if c.saturated then s.count d 2 j 2 else s

/-- A lower-class item run that missed its deadline (R270). -/
def State.itemLate (s : State) (d : DieId) (cls entry : Nat) : State :=
  if cls = 1 ∨ cls = 2 then
    let s := s.count d 3 0 1
    if (s.die d).disp.lateRaised then s
    else (s.onDie d fun x => { x with disp := { x.disp with lateRaised := true } }).raise d 43 (s.target 6 (0x72 * 65536 + entry)) (le 2 entry)
  else s

/-- Slack of an item run's period whose output comes at an instant after its cut-off (R41), within s32. -/
def Inst.slackAt (i : Inst) (now : Nat) : Int := max (-2147483648) ((i.cutNs : Int) - now)

/-- An item run's stores reach MW: its set-point bank, the held-output buffers or the TPO settings (R41). -/
def toMw (out : List (Nat × List Byte)) : Bool := out.any fun e => match spaceOf e.1 with
  | some (.outBank _) | some (.field _) => true
  | _ => false

/-- ITEM_COMPLETE (R254): the last destination has acknowledged. On time the outputs stand and the halves are exchanged; late
they are discarded (R43, R44, R270). A re-execution that completes makes its detection transient (R257). -/
def execItemComplete (d : DieId) (core : Fin 32) (s : State) : Result :=
  let x := s.die d
  let k := x.cores[core]
  match k.run with
  | none => .next s
  | some i =>
    match x.disp.insts.find? fun n => n.state == .exited core.val with
    | some n =>
      if !s.computes d then .next s
      else
        let ok := s.beforeDeadline d n.b i.cls
        let s := s.onDie d fun x => { x with disp := x.disp.ranOnce core.val i.entry.val }
        let s := if ok then s.applyOutputs d i k.blocks k.out k.ctl else s.itemLate d i.cls i.entry.val
        let s := if ok && n.frozen.all (fun f => f.kept) then s.exchangeHalves d i else s
        let s := s.onDie d fun x =>
          { x with
            disp := x.disp.onInst n.entry n.b fun j => { j with state := if ok then .done else .late },
            lastOutNs := if i.cls = 0 ∧ ok ∧ toMw k.out then s.now else x.lastOutNs,
            cutSlack := if i.cls = 0 ∧ !ok ∧ s.mw.cutDone ∧ n.b = s.mw.b then n.slackAt s.now else x.cutSlack,
            lastSlack := if i.cls = 0 ∧ !ok ∧ n.b + 1 = s.mw.b then n.slackAt s.now else x.lastSlack }
        let s := if i.cls = 0 ∧ !ok then s.onDie d fun x => { x with stats := { x.stats with live := x.stats.live.minS32 1 0 0 (n.slackAt s.now) } } else s
        let s := s.trace d i.entry.val 3 (b2n (!ok) + 4 * b2n i.retried) core.val (clusterOf core) i.cls i.b k.ticks
        let s := if i.retried then
            let r := s.detect d (s.unitTarget (coreUnit ⟨d, core⟩)) (placeNumber (coreUnit ⟨d, core⟩)) i.detector false i.injected []
            if r.2 then r.1.fenceUnit d 0 (clusterOf core) (core.val % 8) { injected := i.injected, detector := i.detector } else r.1
          else s
        let s := s.onCore ⟨d, core⟩ fun c => { c with run := none, out := [], ctl := none, exited := false }
        let s := s.onCluster ⟨d, core⟩ fun m => m.complete core.val
        .next ((s.startNext ⟨d, core⟩).reschedule d)
    | none => .next s

/-- Drop an item run (R270). -/
def State.dropInst (s : State) (d : DieId) (i : Inst) (e : ProgEntry) : State :=
  let s := match i.state with
    | .prefetched k => s.onCore ⟨d, ⟨k % 32, Nat.mod_lt _ (by decide)⟩⟩ fun c => { c with next := none, prefetched := false }
    | _ => s
  let s := s.onDie d fun x => { x with disp := x.disp.onInst i.entry i.b fun j => { j with state := .dropped } }
  let s := s.trace d i.entry 4 0 255 e.homeNo e.cls i.b 0
  let s := s.itemLate d e.cls i.entry
  if e.cls = 3 then s.count d 3 0 0 else s

/-- ITEM_DROP (R270): an item run not dispatched by its class deadline, and a BACKGROUND item run at its boundary, is dropped. -/
def execItemDrop (d : DieId) (entry : Fin 1024) (s : State) : Result :=
  let x := s.die d
  let due := fun (i : Inst) => match i.state, x.entryOf i with
    | .waiting, some e | .ready, some e | .prefetched _, some e => !s.inTime d i e
    | _, _ => false
  match x.disp.insts.find? fun i => i.entry == entry.val && due i with
  | some i => match x.entryOf i with
    | some e => if s.computes d then .next (s.dropInst d i e) else .next s
    | none => .next s
  | none => .next s

/-! ### State repair and re-admission -/

/-- Bytes of a state half on a die. -/
def Die.halfBytes (x : Die) (i : Nat) (e : ProgEntry) (half : Bool) : List Byte :=
  match e.home with
  | some h => (x.clusters[h]).mem.readN (x.stateOf i e half) (x.cfg.block e).stateBytes
  | none => []

/-- Write a state half. -/
def Die.setHalf (x : Die) (i : Nat) (e : ProgEntry) (half : Bool) (bs : List Byte) : Die :=
  match e.home with
  | some h =>
    let m := x.clusters[h]
    let m' : ClusterMem := { m with mem := m.mem.writeN (x.stateOf i e half) bs }
    { x with clusters := x.clusters.set h m' }
  | none => x

/-- STATE_REPAIR (R271): before an item's next release the Catcher undoes its exchange where the Flier was late, or takes the
Flier's new half where it was late itself. -/
def execStateRepair (d : DieId) (entry : Fin 1024) (s : State) : Result :=
  let x := s.die d
  match x.disp.repair.find? fun r => r.1 == entry.val, x.cfg.program.find entry.val with
  | some r, some e =>
    if !(s.computes d && !s.isFlier d) then .next s
    else
      let s := s.onDie d fun x => { x with disp := { x.disp with repair := x.disp.repair.filter fun q => q != r } }
      let flip := fun (s : State) => s.onDie d fun x => { x with disp := { x.disp with
        half := x.disp.half.set entry.val !(x.disp.half.getD entry.val false) } }
      let s := if r.2 then flip s
        else
          let o := s.die d.other
          match o.cfg.program.find entry.val with
          | some oe =>
            let bs := o.halfBytes entry.val oe (o.disp.half.getD entry.val false)
            let s := flip s
            s.onDie d fun x => x.setHalf entry.val e (x.disp.half.getD entry.val false) bs
          | none => s
      .next (s.count d 3 0 4)
  | _, _ => .next s

/-- Load the code and parameter blocks that `load` names from the configuration into the clusters of a die (Table 8.5). -/
def Die.loadBlocks (x : Die) (load : Piece → Bool) : Die :=
  let go := fun (x : Die) (p : Piece) =>
    let h : Fin 4 := ⟨p.cluster % 4, Nat.mod_lt _ (by decide)⟩
    let bs := if p.kind = 0 then (x.cfg.code.getD p.id {}).all p.size else if p.kind = 1 then (x.cfg.paramBlocks.getD p.id {}).all p.size else []
    let m := x.clusters[h]
    let m' : ClusterMem := { m with mem := m.mem.writeN p.at_ bs }
    { x with clusters := x.clusters.set h m' }
  (x.disp.places.filter load).foldl go x

/-- The two state halves of an entry. -/
def Die.halves (x : Die) (i : Nat) (e : ProgEntry) : List Byte × List Byte := (x.halfBytes i e false, x.halfBytes i e true)

/-- An entry that a change of configuration leaves with its state: the same home and STATE_BYTES (R253). -/
def Cfg.keepsState (old new : Cfg) (p : Nat × ProgEntry) : Bool := match old.program.find p.1 with
  | some q => q.home == p.2.home && (old.block q).stateBytes == (new.block p.2).stateBytes
  | none => false

/-- The item runs released under the old configuration keep its entry, code and parameters where the new one has others (R253). -/
def Die.freeze (x : Die) (new : Cfg) (i : Inst) : Inst :=
  match x.cfg.program.find i.entry with
  | some e =>
    let next := new.program.find i.entry
    let same := match next with
      | some n => decide ({ n with home := none } = { e with home := none }) && decide (new.block n = x.cfg.block e) &&
          decide (new.paramBlocks.find i.entry = x.cfg.paramBlocks.find i.entry)
      | none => false
    if i.state.ended || i.frozen.isSome || same then i
    else { i with frozen := some {
      entry := e, block := x.cfg.block e, params := (x.cfg.paramBlocks.getD i.entry {}).all (x.cfg.block e).paramBytes,
      kept := match next with
        | some n => x.cfg.keepsState new (i.entry, n)
        | none => false,
      half := x.disp.half.getD i.entry false, cold := x.disp.cold.contains i.entry, stateAt := x.pieceAt e.homeNo 2 i.entry } }
  | none => i

/-- Take a new configuration of the program into a die: an entry whose state size or home changes starts COLD with both halves zero, or with the halves `from_` supplies
(R253, R276); every other keeps its halves. Blocks that are new, changed or moved are loaded. -/
def Die.placeProgram (x : Die) (new : Cfg) (from_ : Nat → Option (List Byte × List Byte)) : Die :=
  let old := x
  let insts := x.disp.insts.map (x.freeze new)
  let unchanged := fun (p : Piece) => old.disp.places.contains p &&
    (if p.kind = 0 then decide (old.cfg.code.find p.id = new.code.find p.id) else decide (old.cfg.paramBlocks.find p.id = new.paramBlocks.find p.id))
  let x : Die := ({ x with cfg := new, disp := { x.disp with insts := insts, places := new.pieces x.disp.places } } : Die).loadBlocks fun p => !unchanged p
  let go := fun (x : Die) (p : Nat × ProgEntry) =>
    let put := fun (x : Die) (h : List Byte × List Byte) => (x.setHalf p.1 p.2 false h.1).setHalf p.1 p.2 true h.2
    if old.cfg.keepsState new p then
      if old.pieceAt p.2.homeNo 2 p.1 = x.pieceAt p.2.homeNo 2 p.1 then x
      else put x (match old.cfg.program.find p.1 with
        | some q => old.halves p.1 q
        | none => ([], []))
    else
      let n := (new.block p.2).stateBytes
      let x : Die := { x with disp := { x.disp with half := x.disp.half.erase p.1 } }
      match from_ p.1 with
      | some h => put x h
      | none =>
        put { x with disp := { x.disp with cold := if x.disp.cold.contains p.1 then x.disp.cold else x.disp.cold ++ [p.1] } } (zeros n, zeros n)
  new.program.foldl go x

/-! ### Power of clusters (R24, R122, R403) -/

/-- Clusters whose power a commit may change. -/
def gateable : List ClusterId := [.sc 0, .sc 1, .sc 2, .sc 3, .jc 0, .jc 1, .jc 2, .jc 3, .se 0, .se 1]

/-- A configuration uses a cluster of a variant; while there is no period program the ROM program uses every servo cluster (R24, R470). A Juggler cluster the variant lacks
is fused off. -/
def Cfg.usesCluster (c : Cfg) (variant : Nat) : ClusterId → Bool
  | .sc k => c.program.isEmpty || c.program.any fun p => p.2.at_ k.val
  | .jc k => decide (k.val < jugglersOf variant) && c.juggler.enable
  | .se _ => !c.capsules.isEmpty

/-- The clusters of a die that a configuration leaves without power. -/
def Cfg.unused (c : Cfg) (variant : Nat) : List ClusterId := gateable.filter fun k => !c.usesCluster variant k

/-- A cluster of region P (Table 1.2): the Juggler clusters and the separation clusters. -/
def clusterInP : ClusterId → Bool
  | .sc _ => false
  | _ => true

/-- The clusters of region P that a die's configuration uses. -/
def Die.regionP (x : Die) : List ClusterId := gateable.filter fun k => clusterInP k && x.cfg.usesCluster x.fuses.variant k

/-- A LATENT Catcher has no power in region P (R403); its servo clusters, in retention, are `latentGated`. -/
def Die.latentGate (x : Die) : Die :=
  { x with gated := (x.gated ++ x.regionP).eraseDups, ungating := x.ungating.filter fun k => !clusterInP k, partner := { x.partner with waking := false } }

/-- A cluster of region P that the die's configuration uses is without power, or has not reported ready yet. -/
def Die.noJugglerPower (x : Die) : Bool := x.regionP.any x.gated.contains

/-- The separation clusters are without power, where the die's configuration uses them. -/
def Die.noSepPower (x : Die) : Bool := x.regionP.any fun k => x.gated.contains k && (match k with
  | .se _ => true
  | _ => false)

/-- Region P of a die that has it gated for LATENT starts to ungate without a commit (R24, R122, R411); it is ready once each cluster has reported. -/
def Die.latentUngate (x : Die) : Die :=
  { x with ungating := (x.ungating ++ x.regionP.filter x.gated.contains).eraseDups, partner := { x.partner with waking := true } }

/-- A die whose state may be taken over: the Flier, or an eligible CONTINUOUS Catcher (R276). -/
def State.supplies (s : State) (d : DieId) : Bool :=
  (s.die d).live && (s.isFlier d || ((s.die d).partner.eligible && !s.mw.cfg.trapeze.latent))

/-- A die whose Juggler is admitted in its present state (R113): one with no Juggler, or without member joints, needs no admission. DESIGN CHOICE of the
second. -/
def State.jugglerFits (s : State) (d : DieId) : Bool :=
  let c := (s.die d).cfg
  decide (s.jugglers = 0) || c.juggler.jointSet == 0 || c.jugglerAdmitted (s.jugglerLanes d)

/-- A die whose separation engine is admitted in its present state (R208); without capsules there is nothing to admit. DESIGN CHOICE. -/
def State.sepFits (s : State) (d : DieId) : Bool :=
  let c := (s.die d).cfg
  c.capsuleArms.isEmpty || c.sepAdmitted (s.sepLanes d)

/-- The period program of a die is admitted in its present state (R276). -/
def Die.programFits (x : Die) : Bool := (x.cfg.admission x.admitDie).fail == 0

/-- Every admission of a die in its present state (R113, R208, R276). -/
def State.readmitOk (s : State) (d : DieId) : Bool := (s.die d).programFits && s.jugglerFits d && s.sepFits d

/-- The admission that the share of a cluster belongs to fails (R19). -/
def State.shareFails (s : State) (d : DieId) (p : Nat × Nat) : Bool :=
  if p.1 = 0 then decide (p.2 < 4) && !(s.die d).programFits else if p.2 < 4 then !s.jugglerFits d else !s.sepFits d

/-- The clusters a failed re-admission loses (R19): those with a unit fenced since the last one whose share no longer fits. -/
def State.escalated (s : State) (d : DieId) : List (Nat × Nat) := (s.die d).readmitFenced.filter fun p => s.shareFails d p

/-- The shadow's entries take the homes a re-admission has given (R276). -/
def Die.shadowHomes (x : Die) (prog : Sparse ProgEntry) : Die :=
  let home := fun (p : Nat × ProgEntry) =>
    match prog.find p.1 with
    | some q => if p.2.home.isSome then (p.1, { p.2 with home := q.home }) else p
    | none => p
  let sh : Cfg := { x.shadow with program := x.shadow.program.map home }
  { x with shadow := sh, rehoming := none }

/-- The halves of an entry that is homed anew, from the other die where that one supplies them, as its pending state repair will leave them (R271, R276). -/
def State.suppliedHalves (s : State) (d : DieId) (i : Nat) : Option (List Byte × List Byte) :=
  let o := s.die d.other
  if s.supplies d.other then match o.cfg.program.find i with
    | some e =>
      let h := o.disp.half.getD i false != o.disp.repair.any fun r => r.1 == i && r.2
      some (o.halfBytes i e h, o.halfBytes i e !h)
    | none => none
  else none

/-- A re-admission takes effect at the first boundary after the change (R276). -/
def State.rehome (s : State) (d : DieId) : State :=
  match (s.die d).rehoming with
  | none => s
  | some prog => s.onDie d fun x => (x.placeProgram { x.cfg with program := prog } (s.suppliedHalves d)).shadowHomes prog

/-- READMISSION (R276): admission is evaluated again after a fence or a loss, for the next boundary. Failure raises READMIT_FAILED; after a unit fence the cluster is lost
(R19), after a cluster loss the die has a die fault (R20). -/
def execReadmission (d : DieId) (s : State) : Result :=
  let x := s.die d
  if !(x.works && x.readmit) then .next s
  else if s.readmitOk d then
    let a := x.cfg.admission x.admitDie
    let s := s.onDie d fun x => { x with rehoming := some a.cfg.program, readmit := false, readmitFenced := [] }
    .next (s.spoilNext d)
  else
    let ks := s.escalated d
    let s := (s.onDie d fun x => { x with readmit := false, readmitFenced := [] }).spoilCommit (fun u => trapezeDie u.die == some d) 4
    let s := s.raise d 15 (s.target 7 (wholeDie d)) [] { lasting := true }
    if ks.isEmpty then .next (s.dieFault d)
    else .next ((ks.foldl (fun s k => s.loseCluster d k.1 k.2) s).reschedule d)

end Sys2Proof.Machine
end

