-- ==== Sys2Proof/Machine/SepGeometry.lean ====
section
/-! DEFINITION. The geometry of the separation engine: distances (R211), protective separation (R218, R219, R221), and the
obstacles of a cycle (R216, R217, R220). -/

namespace Sys2Proof.Machine

/-- A square root taken down to 2⁻⁴⁰. -/
def rootDown (x : Rat) : Rat := if x ≤ 0 then 0 else ((isqrt (x * (2 ^ 80 : Nat)).floor.toNat : Nat) : Rat) / (2 ^ 40 : Nat)

/-! ### Closest points -/

/-- Parameter of the point of the segment `p0 p1` closest to `c`. -/
def segParam (p0 p1 c : V3) : Rat :=
  let u := p1.sub p0
  if u.norm2 = 0 then 0 else clampQ ((c.sub p0).dot u / u.norm2) 0 1

/-- A point of a segment. -/
def segAt (p0 p1 : V3) (t : Rat) : V3 := p0.add ((p1.sub p0).scale t)

/-- The point of a segment closest to a point. -/
def segClosest (p0 p1 c : V3) : V3 := segAt p0 p1 (segParam p0 p1 c)

/-- The pair of smaller squared distance. -/
def nearer (a b : V3 × V3) : V3 × V3 := if (b.2.sub b.1).norm2 < (a.2.sub a.1).norm2 then b else a

/-- Closest points of two segments: the inner minimum where it exists, else the best of the four edges. -/
def segPair (a0 a1 b0 b1 : V3) : V3 × V3 :=
  let u := a1.sub a0
  let v := b1.sub b0
  let w := a0.sub b0
  let den := u.norm2 * v.norm2 - u.dot v * u.dot v
  let s := (u.dot v * v.dot w - v.norm2 * u.dot w) / den
  let t := (u.norm2 * v.dot w - u.dot v * u.dot w) / den
  if den ≠ 0 ∧ 0 ≤ s ∧ s ≤ 1 ∧ 0 ≤ t ∧ t ≤ 1 then (segAt a0 a1 s, segAt b0 b1 t)
  else
    nearer (nearer (a0, segClosest b0 b1 a0) (a1, segClosest b0 b1 a1))
      (nearer (segClosest a0 a1 b0, b0) (segClosest a0 a1 b1, b1))

/-! ### Distances used (R211) -/

/-- The guard, 2⁻¹⁴ m. -/
def sepGuard : Rat := 1 / 16384

/-- The distance used for an exact one taken down: a binary32 error no larger than the guard, then the guard. The error is free:
the spec fixes the guard and that the result never exceeds the exact distance. -/
def usedDistance (key : List Int) (exact : Rat) : Rat :=
  exact + clampQ ((Config.unstated (211 :: key) : Rat) / (2 ^ 40 : Nat)) (-sepGuard) sepGuard - sepGuard

/-- A plane: outward normal and offset. -/
structure Plane where
  n : V3
  o : Rat
  deriving DecidableEq, Repr

/-- n·p − o. -/
def Plane.of (h : Plane) (p : V3) : Rat := h.n.dot p - h.o

/-- The planes of a polytope with their ordinals. -/
def Cfg.planesOf (c : Cfg) (first count : Nat) : List (Nat × Plane) :=
  (List.range count).filterMap fun i => match c.geometry.find (first + i) with
    | some (.plane n o) => some (i, { n := ⟨(n.x : Rat) / 1073741824, (n.y : Rat) / 1073741824, (n.z : Rat) / 1073741824⟩, o := (o : Rat) / 65536 })
    | _ => none

/-- The plane bound of a segment with the ordinal of the plane that attains it: max of min(n·P0 − o, n·P1 − o). -/
def planeBound (hs : List (Nat × Plane)) (p0 p1 : V3) : Option (Rat × Nat × Plane) :=
  hs.foldl (fun best h =>
    let v := min (h.2.of p0) (h.2.of p1)
    match best with
    | none => some (v, h.1, h.2)
    | some b => if b.1 < v then some (v, h.1, h.2) else best) none

/-! ### Capsules as placed -/

/-- A capsule of a cycle: number, arm, link, ARM_ARM, end points in the cell frame, radius with any growth (R212). -/
structure Cap where
  idx : Nat
  arm : Nat
  link : Nat
  armArm : Bool
  raw0 : Vec3
  raw1 : Vec3
  r   : Rat
  deriving DecidableEq, Repr

def Cap.p0 (c : Cap) : V3 := c.raw0.metres
def Cap.p1 (c : Cap) : V3 := c.raw1.metres

/-- Coordinates of a capsule, as a key. -/
def Cap.key (c : Cap) : List Int := [c.raw0.x, c.raw0.y, c.raw0.z, c.raw1.x, c.raw1.y, c.raw1.z, (c.r * 65536).floor]

/-- SSM parameters of an arm. -/
def Cfg.ssm (c : Cfg) (arm : Nat) : CfgSsmArm := c.ssmArm[arm % 8]'(Nat.mod_lt _ (by decide))
def Cfg.ssmCls (c : Cfg) (k : Nat) : CfgSsmClass := c.ssmClass[k % 8]'(Nat.mod_lt _ (by decide))

/-- A length, or a speed in 2⁻¹⁶ m/s. -/
def len (x : Int) : Rat := (x : Rat) / 65536

/-- V_R_MAX in m/s. -/
def Cfg.vR (c : Cfg) (arm : Nat) : Rat := len (c.ssm arm).vRMax

/-- r_d in 1/s. -/
def Cfg.rDown (c : Cfg) (arm : Nat) : Rat := ((c.arms[arm % 8]'(Nat.mod_lt _ (by decide))).rateDown : Rat) / 65536

/-- T_r of an arm (R207). -/
def Cfg.tR (c : Cfg) (arm : Nat) : Rat := secs (c.periods.tSep + c.periods.tS + (c.ssm arm).tRAddNs)

/-- The capsules of a configuration at placements; a capsule of an arm whose placement is of an earlier period grows by
V_R_MAX·(b_s − b_last)·T_s (R212). -/
def Cfg.placedCaps (c : Cfg) (p : Placed) (b : Nat) : List Cap :=
  c.capsules.filterMap fun x => match x.2 with
    | .capsule arm link aa _ _ r =>
      let bs := p.places.readN (32 * x.1) 24
      let late := b - p.lastB.getD arm 0
      some { idx := x.1, arm := arm, link := link, armArm := aa, raw0 := vec3At bs 0, raw1 := vec3At bs 12,
             r := len r + c.vR arm * secs (late * c.periods.tS) }
    | _ => none

/-! ### Protective separation (R218, R219, R221) -/

/-- Coefficients A, B and Cc of S_p for an arm, a class and an intrusion distance. -/
def Cfg.coefficients (c : Cfg) (arm cls : Nat) (intrusion : Rat) : Rat × Rat × Rat :=
  let k := c.ssmCls cls
  let v := c.vR arm
  let r := c.rDown arm
  let vh := len k.vH
  (v / (2 * r), vh / r + v * c.tR arm, vh * c.tR arm + intrusion + len k.zD + len (c.ssm arm).zR)

/-- S_p(σ). -/
def sP (k : Rat × Rat × Rat) (sigma : Rat) : Rat := k.1 * sigma * sigma + k.2.1 * sigma + k.2.2

/-- The largest n in `0..2^bits − 1` that `fits`, where `fits` is downward closed and holds of 0. -/
def largestFit (fits : Nat → Bool) : Nat → Nat → Nat
  | 0, acc => acc
  | b + 1, acc => largestFit fits b (if fits (acc + 2 ^ b) then acc + 2 ^ b else acc)

/-- ⌊65,535·σ_pair⌋ for a bound that grows with σ: 0 where even σ = 0 exceeds it (R219, R222). -/
def scaleCode (need : Rat → Rat) (e : Rat) : Nat :=
  if e < need 0 then 0 else min 65535 (largestFit (fun n => decide (n ≤ 65535) && decide (need ((n : Rat) / 65535) ≤ e)) 16 0)

/-- d_req of an arm-arm pair (R221). -/
def Cfg.dReq (c : Cfg) (i j : Nat) : Rat :=
  len (c.ssm i).armClear + len (c.ssm j).armClear + len (c.ssm i).zR + len (c.ssm j).zR

/-- The left side of the arm-arm scale condition at σ (R221). -/
def Cfg.armArmNeed (c : Cfg) (i j : Nat) (sigma : Rat) : Rat :=
  let tr := max (c.tR i) (c.tR j)
  let rm := min (c.rDown i) (c.rDown j)
  (c.vR i + c.vR j) * (sigma * tr + sigma * sigma / (2 * rm))

/-- What one arm covers before it stands, at its own σ (R221). -/
def Cfg.armCovers (c : Cfg) (a : Nat) (sigma : Rat) : Rat := c.vR a * sigma * c.tR a + c.vR a * sigma * sigma / (2 * c.rDown a)

/-! ### Obstacles of a cycle (R216, R217, R220) -/

/-- The shape of an obstacle. -/
inductive Shape where
  | sphere (c : V3) (r : Rat)
  | poly (planes : List (Nat × Plane))
  deriving DecidableEq, Repr

/-- An obstacle: NEAREST kind and index (Table 7.9), class, intrusion distance, whether a person's (with S_SLOW and
PERSON_STOP_CAT), the zone whose holder it does not concern, its shape and a key of what it was built from. -/
structure Obstacle where
  kind  : Nat
  idx   : Nat
  cls   : Nat
  intrusion : Rat
  person : Bool
  zone  : Option Nat
  shape : Shape
  key   : List Int
  deriving DecidableEq, Repr

/-- Age of a frame at a cycle (R216). -/
def frameAge (tCut time : Nat) : Nat := tCut - time

/-- An object aged to t_cut (R216). -/
def Cfg.aged (c : Cfg) (x : CfgSensor) (age : Nat) (o : SightObj) : V3 × Rat :=
  if age ≤ x.tAgeMaxNs then (o.p.metres.add (o.v.metres.scale (secs age)), len o.r)
  else (o.p.metres, len o.r + len (c.ssmCls o.cls).vH * secs age)

/-- First object slot of a sensor: slots are split among the sensors in their order by QUOTA. DEDUCED. -/
def Cfg.slotBase (c : Cfg) (sensor : Nat) : Nat :=
  total ((List.finRange 32).filter fun n => decide (n.val < sensor) && (c.sensors[n]).enable) fun n => (c.sensors[n]).quota

/-- A polytope header. -/
def Cfg.header (c : Cfg) (i : Nat) : Option (Nat × Nat × Nat × Nat × Nat) :=
  match c.geometry.find i with
  | some (.header u p k f o) => some (u, p, k, f, o)
  | _ => none

/-- The polytope of a header entry. -/
def Cfg.polytope (c : Cfg) (i : Nat) : List (Nat × Plane) :=
  match c.header i with
  | some (_, p, _, f, _) => c.planesOf f p
  | none => []

/-- Polytope headers of a use, with entry index, class and owner. -/
def Cfg.headersOf (c : Cfg) (use_ : Nat) : List (Nat × Nat × Nat) :=
  c.geometry.filterMap fun e => match e.2 with
    | .header u _ k _ o => if u = use_ then some (e.1, k, o) else none
    | _ => none

/-- A polytope obstacle. -/
def Cfg.polyObstacle (c : Cfg) (kind entry cls : Nat) (intrusion : Rat) (person : Bool) (zone : Option Nat) : Obstacle :=
  { kind := kind, idx := entry, cls := cls, intrusion := intrusion, person := person, zone := zone, shape := .poly (c.polytope entry),
    key := [(kind : Int), (entry : Int)] }

/-- The obstacles of a cycle, zones included whoever holds them. -/
def Cfg.obstacles (c : Cfg) (cy : SepCycle) (timedOut : Nat → Bool) : List Obstacle :=
  let objs := (cy.frames.filter fun f => (c.sensors[f.1 % 32]'(Nat.mod_lt _ (by decide))).enable && !timedOut f.1).map fun f =>
    let x := c.sensors[f.1 % 32]'(Nat.mod_lt _ (by decide))
    ((List.range f.2.2.length).zip f.2.2).map fun o =>
      let a := c.aged x (frameAge cy.tCut f.2.1) o.2
      ({ kind := 0, idx := c.slotBase f.1 + o.1, cls := o.2.cls, intrusion := len (c.ssmCls o.2.cls).c, person := true, zone := none,
         shape := .sphere a.1 a.2,
         key := [0, (a.1.x * 1099511627776).floor, (a.1.y * 1099511627776).floor, (a.1.z * 1099511627776).floor, (a.2 * 1099511627776).floor] } : Obstacle)
  let cover := (List.finRange 32).filterMap fun n =>
    let x := c.sensors[n]
    if x.enable && timedOut n.val then some (c.polyObstacle 2 x.coverage x.clsOnTimeout (len (c.ssmCls x.clsOnTimeout).c) true none) else none
  let static := (c.headersOf 0).map fun h => c.polyObstacle 1 h.1 h.2.1 (len (c.ssmCls h.2.1).c) false none
  let partner := ((c.headersOf 3).filter fun h => cy.lostPeers.contains h.2.2).map fun h => c.polyObstacle 4 h.1 h.2.1 (len (c.ssmCls h.2.1).c) false none
  let zones := c.geometry.map fun e => match e.2 with
    | .zone z vols _ _ _ clear => vols.map fun v => c.polyObstacle 3 v 0 (len clear) false (some z)
    | _ => []
  objs.flatten ++ cover ++ static ++ partner ++ zones.flatten

/-- The distance used of a capsule and an obstacle (R211). A polytope without planes is nowhere. -/
def capsuleDistance (k : Cap) (o : Obstacle) : Option Rat :=
  match o.shape with
  | .sphere c r => some (usedDistance (k.key ++ o.key) (rootDown ((segClosest k.p0 k.p1 c).sub c).norm2 - k.r - r))
  | .poly hs => (planeBound hs k.p0 k.p1).map fun b => usedDistance (k.key ++ o.key) (b.1 - k.r)

end Sys2Proof.Machine
end

