-- ==== Sys2Proof/Machine/Separation.lean ====
section
/-! DEFINITION. The separation cycle (R206, R212..R225, R48): its start, zone arbitration (R226..R231), the computation, the
exchange of the two dies' results, completion, and the release of stop requests. -/

namespace Sys2Proof.Machine

/-- Change the separation engine of a die. -/
def State.onSep (s : State) (d : DieId) (f : Sep → Sep) : State := s.onDie d fun x => { x with sep := f x.sep }

/-- Target word of an arm. -/
def State.armTarget (s : State) (a : Nat) : Word := s.target 2 a

/-- Target word of a zone. -/
def State.zoneTarget (s : State) (z : Nat) : Word := s.target 5 z

/-- A package is a lost or unknown partner: no live contact (R344). -/
def State.peerLive (s : State) (p : Nat) : Bool := (s.mw.net.peers[p % 4]'(Nat.mod_lt _ (by decide))).live

/-- The time skew of a partner stands (R345). -/
def State.peerSkewed (s : State) (p : Nat) : Bool := (s.mw.net.peers[p % 4]'(Nat.mod_lt _ (by decide))).skew

/-! ### Zone definitions -/

/-- A zone definition: volumes, SHARED, AUTO_RELEASE, PEERS, ZONE_CLEAR. -/
def Cfg.zoneDef (c : Cfg) (z : Nat) : Option (List Nat × Bool × Bool × BitVec 4 × Int) :=
  match c.geometry.find (4032 + z) with
  | some (.zone _ v s a p k) => some (v, s, a, p, k)
  | _ => none

/-- The packages a zone is shared with, own bit ignored. -/
def State.zonePeers (s : State) (shared : Bool) (peers : BitVec 4) : List Nat :=
  if shared then (List.range 4).filter fun p => peers.getLsbD p && p != s.pkgid.toNat else []

/-- The arbiter of a zone: the lowest PKGID among its packages (R230). -/
def State.arbiter (s : State) (ps : List Nat) : Nat := ps.foldl min s.pkgid.toNat

/-- What a partner's last zone message before the boundary says of a zone (R206), none where nothing has been heard. -/
def State.zoneWord (s : State) (p z : Nat) : Option (Option ZoneEntry) :=
  (s.mw.bZones[p % 4]'(Nat.mod_lt _ (by decide))).map fun l => l.find? fun e => e.zone == z

/-- The placements as they stand, with the joint positions they were made from (R223). -/
def Die.placedNow (x : Die) : Placed where
  places := x.stores.placements
  frames := x.stores.frames
  q := (List.finRange 64).map fun j =>
    let placed := (x.sep.arms.toList.flatMap fun a => a.placedQ).find? fun e => e.1 == j.val
    (placed.map fun e => e.2).getD (x.qFb j)
  lastB := x.sep.arms.toList.map fun a => a.lastPlaceB

/-- No capsule of an arm is inside any of the volumes (R211, R228). The arbitration step of boundary `b` precedes the cycle's placements, so those of the period before
count, grown only where that period's kinematics item was late (R212). DEDUCED. -/
def Die.armOutside (x : Die) (arm b : Nat) (vols : List Nat) : Bool :=
  let caps := (x.cfg.placedCaps x.placedNow (b - 1)).filter fun k => k.arm == arm
  caps.all fun k => vols.all fun v => match capsuleDistance k (x.cfg.polyObstacle 3 v 0 0 false none) with
    | some dist => decide (0 < dist)
    | none => true

/-! ### Arbitration (R227..R231) -/

/-- The releases, withdrawals and adoptions that take effect at a step for one zone. -/
def State.zoneRelease (s : State) (x : Die) (z : Nat) (zn : Zone) : Zone :=
  match x.cfg.zoneDef z with
  | none => zn
  | some (vols, shared, auto, peers, _) =>
    let own := s.pkgid.toNat
    let ps := s.zonePeers shared peers
    let arb := s.arbiter ps
    let gone := if arb = own then [] else zn.withdraw
    let zn := { zn with requests := zn.requests.filter fun r => !zn.withdraw.contains r.1, withdraw := [], stale := (zn.stale ++ gone).eraseDups }
    match zn.holder with
    | some (p, a) =>
      if p = own then
        let out := x.armOutside a s.mw.b vols
        if out && (zn.releasing || (auto && zn.inside)) then
          { zn with holder := none, inside := false, releasing := false, stale := if arb = own then zn.stale else (zn.stale ++ [a]).eraseDups }
        else { zn with inside := zn.inside || !out }
      else if arb = own then
        match s.zoneWord p z with
        | some e =>
          let names := (e.bind fun e => e.holder) == some (p, a)
          let asks := (e.bind fun e => e.request) == some a
          if !s.peerLive p then { zn with confirmed := true }
          else if names then { zn with confirmed := true }
          else if zn.confirmed || !asks then { zn with holder := none, confirmed := false } else zn
        | none => zn
      else { zn with holder := none }
    | none =>
      if arb = own then
        match ps.filterMap fun p => if s.peerLive p then (s.zoneWord p z).bind fun e => e.bind fun e => e.holder.bind fun h =>
            if h.1 = p then some h else none else none with
        | h :: _ => { zn with holder := some h, confirmed := true }
        | [] => zn
      else zn

/-- The better of two requests: earlier entry, lower arm, lower package (R227). -/
def earlierRequest (a b : Nat × Nat × Nat) : Bool :=
  decide (a.1 < b.1) || (a.1 == b.1 && (decide (a.2.1 < b.2.1) || (a.2.1 == b.2.1 && decide (a.2.2 < b.2.2))))

/-- The best of a list of requests (entry, arm, package). -/
def bestRequest (l : List (Nat × Nat × Nat)) : Option (Nat × Nat × Nat) :=
  l.foldl (fun best r => match best with
    | none => some r
    | some b => if earlierRequest r b then some r else some b) none

/-- The grant of one zone: the new state and the granted (package, arm). Where another package arbitrates, an arm takes the token its message names it for, but for a `stale` arm: one
whose token or request the arbiter had not heard the end of at its message, which one that no longer names it clears, from the step after (`was` is what was stale before this one). That keeps
one holder (R226); a request of such an arm goes out only then. DESIGN CHOICE. -/
def State.zoneGrant (s : State) (x : Die) (z : Nat) (was : List Nat) (zn : Zone) : Zone × Option (Nat × Nat) :=
  match x.cfg.zoneDef z, zn.holder with
  | some (_, shared, _, peers, _), none =>
    let own := s.pkgid.toNat
    let ps := s.zonePeers shared peers
    let arb := s.arbiter ps
    if arb = own then
      if ps.all fun p => s.peerLive p && !s.peerSkewed p then
        let mine := zn.requests.map fun r => (r.2, r.1, own)
        let theirs := ps.filterMap fun p => (s.zoneWord p z).bind fun e => e.bind fun e => e.request.map fun a => (e.entry, a, p)
        match bestRequest (mine ++ theirs) with
        | none => (zn, none)
        | some (_, a, p) =>
          ({ zn with holder := some (p, a), requests := if p = own then zn.requests.filter fun r => r.1 != a else zn.requests,
                     inside := false, releasing := false, confirmed := false }, some (p, a))
      else (zn, none)
    else
      match (s.zoneWord arb z).bind fun e => e with
      | none => (zn, none)
      | some e =>
        if !e.arbiter then (zn, none)
        else
          let fresh := fun (a : Nat) => { zn with stale := zn.stale.filter fun k => k == a || !was.contains k }
          match e.holder with
          | some (p, a) =>
            if p ≠ own then (fresh 8, none)
            else if zn.stale.contains a then (fresh a, none)
            else ({ fresh a with holder := some (own, a), requests := zn.requests.filter fun r => r.1 != a, inside := false, releasing := false }, some (own, a))
          | none => (fresh 8, none)
  | _, _ => (zn, none)

/-- The arbitration step on one die (R227): releases first, then grants; each grant raises ZONE_GRANTED. -/
def State.arbitrate (s : State) (d : DieId) : State :=
  let go := fun (s : State) (z : Fin 64) =>
    let x := s.die d
    let zn := s.zoneRelease x z.val x.sep.zones[z]
    let g := s.zoneGrant x z.val x.sep.zones[z].stale zn
    let s := s.onSep d fun y => { y with zones := y.zones.set z g.1 }
    match g.2 with
    | some (p, a) => s.raise d 72 (s.zoneTarget z.val) (le 1 p ++ le 1 a)
    | none => s
  (List.finRange 64).foldl go s

/-- The token decisions of a die: the holder of every zone. -/
def Sep.tokenList (x : Sep) : List (Option (Nat × Nat)) := x.zones.toList.map fun z => z.holder

/-! ### Ageing and sensor timeouts (R216, R217) -/

/-- Sensor states at a cycle start; `b0` is the boundary of the previous cycle start. -/
def State.sensorStep (s : State) (d : DieId) (tCut b0 : Nat) (n : Fin 32) : State :=
  let x := s.die d
  let c := x.cfg.sensors[n]
  let i := s.mw.bSight[n]
  let st := x.sep.sensors[n]
  let put := fun (s : State) (v : SensorState) => s.onSep d fun y => { y with sensors := y.sensors.set n v }
  if !c.enable then put s {}
  else
    let age := frameAge tCut i.time
    let fresh := match i.acceptedB with
      | some b => decide (b0 ≤ b)
      | none => false
    let out := match i.acceptedB with
      | none => true
      | some _ => decide (c.timeoutNs < age)
    if st.timedOut && st.entered then
      let good := st.good + b2n (fresh && decide (age ≤ c.tAgeMaxNs))
      if !out && decide (2 ≤ good) && fresh && decide (age ≤ c.tAgeMaxNs) then put s { timedOut := false, entered := true, good := 0 }
      else put s { st with good := good }
    else if out || (st.timedOut && !st.entered) then
      let good := b2n (!out && fresh && decide (age ≤ c.tAgeMaxNs))
      let s := put s { timedOut := true, entered := true, good := good }
      let s := s.count d 5 0 5
      s.raise d 71 (s.target 6 (0x63 * 65536 + n.val)) (le 1 n.val)
    else s

/-- Frames a cycle uses, one for each enabled sensor that has delivered one. -/
def State.sightFrames (s : State) : List (Nat × Nat × List SightObj) :=
  (List.finRange 32).filterMap fun n =>
    let i := s.mw.bSight[n]
    i.acceptedB.map fun _ => (n.val, i.time, i.objs)

/-- Objects a cycle counts as aged: those of sensors not timed out whose frame is beyond T_AGE_MAX. -/
def Die.agedObjects (x : Die) (cy : SepCycle) : Nat :=
  total cy.frames fun f =>
    let n : Fin 32 := ⟨f.1 % 32, Nat.mod_lt _ (by decide)⟩
    if (x.cfg.sensors[n]).enable && !(x.sep.sensors[n]).timedOut && decide ((x.cfg.sensors[n]).tAgeMaxNs < frameAge cy.tCut f.2.1) then f.2.2.length else 0

/-- Open a cycle on a die at the boundary that has fired (R206): its inputs of that boundary are taken. The first after a forced step of TB0 takes every sensor as timed
out (R334). -/
def State.sepStart (s : State) (d : DieId) : State :=
  let x := s.die d
  let arms := List.finRange 8
  let cy : SepCycle :=
    { b := s.mw.b, tCut := s.mw.bTb0, frames := s.sightFrames,
      sigma := arms.map fun a => (x.arms[a]).sigma,
      sigmaMax := arms.map fun a => max (x.sep.arms[a]).sigmaMax (x.arms[a]).sigma,
      lostPeers := (List.range 4).filter fun p => !s.peerLive p, cfg := x.cfg }
  s.onSep d fun y => { y with cycle := some cy, raw := none, other := none, combined := none, mismatch := false, running := true, stepped := false,
                              sensors := if y.stepped then Vector.replicate 32 {} else y.sensors,
                              arms := y.arms.map fun a => { a with sigmaMax := 0 } }

/-- Steps 1 and 2 of a cycle that has been opened (R206): arbitration, which the at-epoch commands of b_s precede, then ageing and timeouts. -/
def State.sepDue (s : State) (d : DieId) : State :=
  match (s.die d).sep.cycle with
  | none => s
  | some c =>
    if !c.due then s
    else
      let s := s.arbitrate d
      let b0 := (s.die d).sep.startB
      let s := (List.finRange 32).foldl (fun s n => s.sensorStep d c.tCut b0 n) s
      let s := s.count d 5 0 4 ((s.die d).agedObjects c)
      s.onSep d fun y => { y with cycle := some { c with tokens := y.tokenList, due := false }, startB := c.b }

/-- Keep the placements of the period in which the cycle started, at its cut-off. -/
def State.sepLatch (s : State) (d : DieId) : State :=
  s.onDie d fun x =>
    match x.sep.cycle with
    | some c =>
      if c.held.isNone then
        let c' : SepCycle := { c with held := some x.placedNow }
        let y : Sep := { x.sep with cycle := some c' }
        { x with sep := y }
      else x
    | none => x

/-! ### Pairs (R219..R222) -/

/-- What one pair says of one arm: σ_pair as a code, whether its stop test fails, category and cause, distance, NEAREST word. -/
structure PairOut where
  arm   : Nat
  scale : Nat
  fails : Bool
  cat   : Nat
  cause : Nat
  d     : Rat
  near  : Nat
  deriving DecidableEq, Repr

/-- The arm holds the token of the zone. -/
def holdsZone (tokens : List (Option (Nat × Nat))) (own z arm : Nat) : Bool := (tokens.getD z none) == some (own, arm)

/-- σ_a of the arm at b_s. -/
def SepCycle.sigmaAt (c : SepCycle) (a : Nat) : Rat := c.sigma.getD a 0

/-- A capsule and an obstacle (R219, R220). -/
def Cfg.obstaclePair (c : Cfg) (cy : SepCycle) (own : Nat) (k : Cap) (o : Obstacle) : Option PairOut :=
  let free := match o.zone with
    | some z => holdsZone cy.tokens own z k.arm
    | none => false
  if free then none
  else (capsuleDistance k o).map fun dist =>
    let co := c.coefficients k.arm o.cls o.intrusion
    let e := if o.person then dist - len (c.ssm k.arm).sSlow else dist
    { arm := k.arm, scale := scaleCode (sP co) e, fails := decide (dist < sP co (cy.sigmaAt k.arm)),
      cat := if o.person then (c.ssm k.arm).personCat - 1 else (c.ssm k.arm).machineCat - 1,
      cause := if o.person then 1 else 2, d := dist, near := 4096 * o.kind + o.idx % 4096 }

/-- The arm-arm pairs of a list of capsules. -/
def armPairs : List Cap → List (Cap × Cap)
  | [] => []
  | k :: r => (if k.armArm then (r.filter fun m => m.armArm && m.arm != k.arm).map fun m => (k, m) else []) ++ armPairs r

/-- The distance used of two capsules (R211). -/
def capsDistance (k m : Cap) : Rat :=
  let p := segPair k.p0 k.p1 m.p0 m.p1
  usedDistance (k.key ++ m.key) (rootDown (p.2.sub p.1).norm2 - k.r - m.r)

/-- An arm-arm pair as each of its arms sees it (R221). -/
def Cfg.armPairOut (c : Cfg) (cy : SepCycle) (k m : Cap) : List PairOut :=
  let dist := capsDistance k m
  let req := c.dReq k.arm m.arm
  let scale := if dist < req then 0 else scaleCode (c.armArmNeed k.arm m.arm) (dist - req)
  let fails := decide (dist < req + c.armCovers k.arm (cy.sigmaAt k.arm) + c.armCovers m.arm (cy.sigmaAt m.arm))
  let out := fun (a : Nat) (other : Nat) =>
    ({ arm := a, scale := scale, fails := fails, cat := (c.ssm a).machineCat - 1, cause := 2, d := dist, near := 4096 * 5 + other } : PairOut)
  [out k.arm m.idx, out m.arm k.idx]

/-- Every pair of a cycle. -/
def Die.pairs (x : Die) (cy : SepCycle) (caps : List Cap) (own : Nat) : List PairOut :=
  let obs := x.cfg.obstacles cy fun n => (x.sep.sensors[n % 32]'(Nat.mod_lt _ (by decide))).timedOut
  (caps.map fun k => obs.filterMap fun o => x.cfg.obstaclePair cy own k o).flatten ++
    ((armPairs caps).map fun p => x.cfg.armPairOut cy p.1 p.2).flatten

/-- An end point of the arm has moved too far since the previous cycle (R213). -/
def Cfg.movedFar (c : Cfg) (arm : Nat) (sigmaMax : Rat) (old : List (Nat × Vec3 × Vec3)) (caps : List Cap) : Bool :=
  let lim := sigmaMax * c.vR arm * secs c.periods.tSep + len (c.ssm arm).speedTol
  let far := fun (a b : Vec3) => decide (lim * lim < (a.metres.sub b.metres).norm2)
  (caps.filter fun k => k.arm == arm).any fun k => match old.find? fun o => o.1 == k.idx with
    | some o => far k.raw0 o.2.1 || far k.raw1 o.2.2
    | none => false

/-- A stop request becomes or stays active; a new one raises SEP_STOP with arm, category and cause (R222). -/
def State.requestStop (s : State) (d : DieId) (a : Fin 8) (cat cause : Nat) : State :=
  let x := (s.die d).sep.arms[a]
  if x.reqs.any fun r => r.cat == cat && r.cause == cause then s
  else
    let r : StopReq := { cat := cat, cause := cause, lastFail := s.now }
    let s := s.onSep d fun y => { y with arms := y.arms.set a { y.arms[a] with reqs := y.arms[a].reqs ++ [r] } }
    let s := s.count d 5 0 6
    s.raise d 67 (s.armTarget a.val) (le 1 a.val ++ le 1 (cat + 1) ++ le 1 cause)

/-- An arm's tests have failed at `t`, or a cycle has not tested it: its requests count their time of passing tests anew (R219). -/
def State.failAgain (s : State) (d : DieId) (a : Fin 8) (t : Nat) : State :=
  s.onSep d fun y => { y with arms := y.arms.set a { y.arms[a] with
    reqs := y.arms[a].reqs.map fun r => { r with lastFail := t }, passNs := none } }

/-- The hardest of an arm's requests (R222). -/
def SepArm.hardest (x : SepArm) : Option StopReq :=
  x.reqs.foldl (fun best r => match best with
    | none => some r
    | some b => if r.cat < b.cat then some r else some b) none

/-- The result of an arm from its pairs and its requests (R222). -/
def armOut (ps : List PairOut) (x : SepArm) : SepOut :=
  let near := ps.foldl (fun best p => match best with
    | none => some p
    | some b => if p.d < b.d then some p else some b) (none : Option PairOut)
  { scale := ps.foldl (fun n p => min n p.scale) 65535,
    stop := match x.hardest with
      | some r => r.cat + 1
      | none => 0,
    cause := match x.hardest with
      | some r => r.cause
      | none => 0,
    minD := match near with
      | some p => satInt 32 (p.d * 65536).floor
      | none => 2147483647,
    nearest := match near with
      | some p => p.near
      | none => 0 }

/-! ### Items for the Juggler (R223) -/

/-- 2π as a rational number. -/
def twoPi : Rat := 2 * (piFix : Rat) / (2 ^ 128 : Nat)

/-- Joints of an arm in ascending number with their frame numbers from 1. -/
def Die.armChain (x : Die) (arm : Nat) : List (Nat × Fin 64) :=
  let js := x.armJoints ⟨arm % 8, Nat.mod_lt _ (by decide)⟩
  ((List.range js.length).map (· + 1)).zip js

/-- n·∂p/∂q for each joint of a capsule's arm with q̂ (R223). -/
def Die.gradient (x : Die) (p : Placed) (k : Cap) (pt n : V3) : List (Nat × Rat × Rat) :=
  (x.armChain k.arm).map fun f =>
    let j := f.2
    let bs := p.frames.readN (32 * j.val) 24
    let o := (vec3At bs 0).metres
    let av := vec3At bs 12
    let ax : V3 := ⟨(av.x : Rat) / 1073741824, (av.y : Rat) / 1073741824, (av.z : Rat) / 1073741824⟩
    let dp := if k.link < f.1 then ⟨0, 0, 0⟩ else if (x.jointCfg j).joint.linear then ax else (ax.cross (pt.sub o)).scale twoPi
    (j.val, n.dot dp, posOf (p.q.getD j.val 0))

/-- A unit vector along `v`, none for a zero vector. -/
def unit? (v : V3) : Option V3 := let r := rootDown v.norm2; if r = 0 then none else some (v.scale (1 / r))

/-- Negated gradients. -/
def negGrad (l : List (Nat × Rat × Rat)) : List (Nat × Rat × Rat) := l.map fun g => (g.1, -g.2.1, g.2.2)

/-- The normal of a pair: between its closest points, else that of the previous cycle, else between the midpoints. -/
def Die.pairNormal (x : Die) (k m : Cap) : Option V3 :=
  let p := segPair k.p0 k.p1 m.p0 m.p1
  match unit? (p.2.sub p.1) with
  | some n => some n
  | none => match x.sep.normals.find? fun n => n.1 == k.idx && n.2.1 == m.idx with
    | some n => some ⟨n.2.2.1, n.2.2.2.1, n.2.2.2.2⟩
    | none => unit? ((segAt m.p0 m.p1 (1 / 2)).sub (segAt k.p0 k.p1 (1 / 2)))

/-- Arm-arm items and the normals kept for the next cycle. -/
def Die.armItems (x : Die) (p : Placed) (caps : List Cap) : List (SepItem × (Nat × Nat × Rat × Rat × Rat)) :=
  (armPairs caps).filterMap fun km =>
    let k := if km.2.arm < km.1.arm then km.2 else km.1
    let m := if km.2.arm < km.1.arm then km.1 else km.2
    let dist := capsDistance km.1 km.2
    let req := x.cfg.dReq k.arm m.arm
    if dist ≤ req + max (len (x.cfg.ssm k.arm).rowWindow) (len (x.cfg.ssm m.arm).rowWindow) then
      (x.pairNormal k m).map fun n =>
        let q := segPair k.p0 k.p1 m.p0 m.p1
        ({ zone := false, occupant := k.idx + 128 * m.idx, d := dist, dReq := req,
           g := negGrad (x.gradient p k q.1 n) ++ x.gradient p m q.2 n }, (k.idx, m.idx, n.x, n.y, n.z))
    else none

/-- The zone item of an arm and a volume: the capsule with the least plane bound, its plane and nearer end point. -/
def Die.zoneItem (x : Die) (p : Placed) (caps : List Cap) (z arm ord vol : Nat) (clear : Int) : Option SepItem :=
  let hs := x.cfg.polytope vol
  let bounds := (caps.filter fun k => k.arm == arm).filterMap fun k => (planeBound hs k.p0 k.p1).map fun b => (k, b)
  let least := bounds.foldl (fun best k => match best with
    | none => some k
    | some b => if k.2.1 - k.1.r < b.2.1 - b.1.r then some k else some b) (none : Option (Cap × Rat × Nat × Plane))
  least.bind fun kb =>
    let k := kb.1
    let req := len clear + len (x.cfg.ssm arm).zR
    let used := usedDistance (k.key ++ [3, (vol : Int)]) (kb.2.1 - k.r)
    if used ≤ req + len (x.cfg.ssm arm).rowWindow then
      let h := kb.2.2.2
      let pt := if h.of k.p1 < h.of k.p0 then k.p1 else k.p0
      some { zone := true, occupant := z + 64 * arm + 512 * (32 * ord + kb.2.2.1), d := usedDistance (k.key ++ [3, (vol : Int)]) (h.of pt - k.r), dReq := req,
             g := x.gradient p k pt h.n }
    else none

/-- Zone items of a cycle. -/
def Die.zoneItems (x : Die) (cy : SepCycle) (p : Placed) (caps : List Cap) (own : Nat) : List SepItem :=
  let arms := (caps.map fun k => k.arm).eraseDups
  (x.cfg.geometry.map fun e => match e.2 with
    | .zone z vols _ _ _ clear =>
      ((arms.filter fun a => !holdsZone cy.tokens own z a).map fun a =>
        ((List.range vols.length).zip vols).filterMap fun v => x.zoneItem p caps z a v.1 v.2 clear).flatten
    | _ => []).flatten

/-! ### The rows -/

/-- Every arm with capsules has its placement of the cycle's period, or the cut-off of that period has passed (R206, R212). -/
def State.placementsReady (s : State) (d : DieId) (cy : SepCycle) : Bool :=
  let x := s.die d
  cy.held.isSome || decide (cy.b < s.mw.b) ||
    (cy.cfg.capsuleArms.map fun k => k.1).all fun a => (x.sep.arms[a % 8]'(Nat.mod_lt _ (by decide))).lastPlaceB == cy.b

/-- The two-channel rule is in force (R224, R225): an eligible Catcher computes in CONTINUOUS mode. -/
def State.dualSep (s : State) : Bool :=
  match s.mw.trapeze.token with
  | some f => s.hasPartner && (s.die f.other).live && (s.die f.other).partner.eligible && !(s.die f.other).partner.latentGated
  | none => false

/-- Tests and requests of one arm in a cycle (R213, R219, R221). -/
def State.testArm (s : State) (d : DieId) (caps : List Cap) (ps : List PairOut) (cy : SepCycle) (a : Fin 8) : State :=
  let x : Die := { s.die d with cfg := cy.cfg }
  let mine := ps.filter fun p => p.arm == a.val
  let failing := mine.filter fun p => p.fails
  let old := x.sep.arms[a]
  let skips := old.skip.any fun b => decide (b ≤ cy.b)
  let far := !skips && x.cfg.movedFar a.val (cy.sigmaMax.getD a.val 0) old.ends caps
  let ends := (caps.filter fun k => k.arm == a.val).map fun k => (k.idx, k.raw0, k.raw1)
  let s := failing.foldl (fun s p => s.requestStop d a p.cat p.cause) s
  let s := if far && old.fast then (s.raise d 69 (s.armTarget a.val) (le 1 a.val)).requestStop d a 1 3 else s
  let s := if !failing.isEmpty || (far && old.fast) then s.failAgain d a s.now
    else s.onSep d fun y => { y with arms := y.arms.set a { y.arms[a] with passNs := some (y.arms[a].passNs.getD s.now) } }
  s.onSep d fun y => { y with arms := y.arms.set a { y.arms[a] with fast := far, skip := if skips then none else old.skip, ends := ends } }

/-- SEP_CYCLE_COMPUTE (R206 steps 3 to 6): once the placements exist, distances, pair scales, stop tests and items, from the tables in force at b_s. The cluster memories
are read (R13). Without power the engine computes nothing (R24). -/
def execSepCycleCompute (d : DieId) (s : State) : Result :=
  match (s.die d).sep.cycle with
  | none => .next s
  | some cy =>
    if !(s.computes d) || cy.computed || cy.due || (s.die d).noSepPower || !s.placementsReady d cy then .next s
    else
      let s := (s.useArray d 1 4).useArray d 1 5
      let x : Die := { s.die d with cfg := cy.cfg }
      let p := cy.held.getD x.placedNow
      let own := s.pkgid.toNat
      let caps := x.cfg.placedCaps p cy.b
      let ps := x.pairs cy caps own
      let s := (List.finRange 8).foldl (fun s a => s.testArm d caps ps cy a) s
      let arm := x.armItems p caps
      let items := (arm.map fun i => i.1) ++ x.zoneItems cy p caps own
      let outs := (List.finRange 8).map fun a => armOut (ps.filter fun p => p.arm == a.val) ((s.die d).sep.arms[a])
      let objects := total (cy.frames.filter fun f => !(x.sep.sensors[f.1 % 32]'(Nat.mod_lt _ (by decide))).timedOut) fun f => f.2.2.length
      .next (s.onSep d fun y => { y with
        cycle := some { cy with computed := true }, raw := some outs, nextItems := items, normals := arm.map fun i => i.2, objects := objects })

/-- The lower scale and the harder request of two results; distance and nearest are the first's (R224). -/
def SepOut.combine (f c : SepOut) : SepOut :=
  let harder := f.stop ≠ 0 ∧ (c.stop = 0 ∨ f.stop ≤ c.stop)
  { f with scale := min f.scale c.scale, stop := if harder then f.stop else c.stop, cause := if harder then f.cause else c.cause }

/-- A token counts as held only where both dies hold it. -/
def combineTokens (f c : List (Option (Nat × Nat))) : List (Option (Nat × Nat)) := (f.zip c).map fun p => if p.1 = p.2 then p.1 else none

/-- The first difference of two results (R224): cause, kind, index and both values. -/
def sepDifference (tol : Nat) (f c : List SepOut) (tf tc : List (Option (Nat × Nat))) (own : Nat) : Option (Nat × Nat × Nat × Nat × Nat) :=
  let arms := (List.range 8).zip (f.zip c)
  let held := fun (t : Option (Nat × Nat)) => b2n (match t with
    | some (p, _) => p == own
    | none => false)
  match arms.find? fun x => decide (tol < max (x.2.1.scale - x.2.2.scale) (x.2.2.scale - x.2.1.scale)) with
  | some x => some (1, 0, x.1, x.2.1.scale, x.2.2.scale)
  | none => match arms.find? fun x => decide (x.2.1.stop ≠ x.2.2.stop ∨ x.2.1.cause ≠ x.2.2.cause) with
    | some x => some (2, 0, x.1, x.2.1.stop + 256 * x.2.1.cause, x.2.2.stop + 256 * x.2.2.cause)
    | none => match ((List.range 64).zip (tf.zip tc)).find? fun x => decide (x.2.1 ≠ x.2.2) with
      | some x => some (3, 1, x.1, held x.2.1, held x.2.2)
      | none => none

/-- Raise SEP_MISMATCH for a cycle (R224, R497). -/
def State.sepMismatch (s : State) (d : DieId) (b : Nat) (m : Nat × Nat × Nat × Nat × Nat) : State :=
  let s := s.onSep d fun y => { y with mismatch := true, mismatches := sat32 (y.mismatches + 1) }
  let s := s.count d 5 0 1
  s.raise d 68 (s.target 0 0) (le 1 m.1 ++ le 1 m.2.1 ++ le 1 m.2.2.1 ++ zeros 1 ++ le 4 m.2.2.2.1 ++ le 4 m.2.2.2.2 ++ zeros 4 ++ le 8 b)

/-- Take combined tokens as the zones' holders (R224). -/
def Sep.applyTokens (x : Sep) (t : List (Option (Nat × Nat))) : Sep :=
  { x with zones := Vector.ofFn fun z : Fin 64 => { x.zones[z] with holder := t.getD z.val none } }

/-- SEP_RESULT_EXCHANGE (R17, R224 steps 1 and 2): over a path between the dies the Flier `d` has the Catcher's results of the same cycle and combines them. -/
def execSepResultExchange (d : DieId) (s : State) : Result :=
  let f := (s.die d).sep
  let c := (s.die d.other).sep
  match f.cycle, c.cycle, f.raw, c.raw with
  | some cf, some cc, some rf, some rc =>
    if s.isFlier d && s.dualSep && s.linked && f.combined.isNone && cf.b == cc.b then
      let s := match sepDifference (s.die d).cfg.scaleTol rf rc cf.tokens cc.tokens s.pkgid.toNat with
        | some m => s.sepMismatch d cf.b m
        | none => s
      let both := (rf.zip rc).map fun p => p.1.combine p.2
      let toks := combineTokens cf.tokens cc.tokens
      .next (s.onSep d fun y => { y.applyTokens toks with combined := some both, other := some (rc, cc.tokens) })
    else .next s
  | _, _, _, _ => .next s

/-- SEP_COMBINED_RESULT (R224 step 3): the Catcher `d` takes the Flier's combined result and token state. -/
def execSepCombinedResult (d : DieId) (s : State) : Result :=
  let c := (s.die d).sep
  let f := (s.die d.other).sep
  match f.cycle, c.cycle, f.combined with
  | some cf, some cc, some both =>
    if s.isFlier d.other && s.dualSep && s.linked && c.combined.isNone && cf.b == cc.b then
      .next (s.onSep d fun y => { y.applyTokens f.tokenList with combined := some both, mismatch := f.mismatch })
    else .next s
  | _, _, _ => .next s

/-! ### Completion and lateness (R206, R48) -/

/-- Put the result of one arm in force (R150, R151): its scale, and a stop request where it is new or harder. -/
def State.applySepArm (s : State) (d : DieId) (a : Fin 8) (o : SepOut) : State :=
  let old := ((s.die d).arms[a]).sepStop
  let new := if o.stop = 0 then none else some (o.stop - 1, o.cause)
  let s := s.onArm d a fun x => { x with sep := o.scale, sepStop := new }
  let s := s.onDie d fun x => { x with stats := { x.stats with live := (x.stats.live.minNat 6 a.val 0 o.scale).minS32 6 a.val 1 o.minD } }
  match new with
  | none =>
    ((s.die d).armJoints a).foldl (fun s j => s.onJoint d j fun x => if x.state = .enabled then { x with armStop := ((s.die d).arms[a]).hostStop.isSome } else x) s
  | some (c, _) =>
    let again := match old with
      | some (c0, _) => decide (c0 ≤ c)
      | none => false
    let s := if c = 1 then s.onArm d a fun x => { x with stopping := true } else s
    if again then s else ((s.die d).armJoints a).foldl (fun s j => s.armStopJoint d c true j) s

/-- The 80-byte stream record of a cycle (R239). -/
def Sep.streamBytes (x : Sep) : List Byte :=
  le 8 x.lastB ++ le 1 (packBits [x.running, x.single, x.lastMismatch]) ++ zeros 7 ++
    (x.outs.toList.map fun o => le 2 o.scale ++ le 1 o.stop ++ le 1 o.cause ++ leInt 4 o.minD).flatten

/-- What SEP_STATUS is to show of a cycle that completes (R238). -/
def Die.sepView (x : Die) (own : Nat) : SepView where
  objects := x.sep.objects
  out := packBits ((List.finRange 32).map fun n => (x.cfg.sensors[n]).enable && (x.sep.sensors[n]).timedOut)
  held := packBits (x.sep.zones.toList.map fun z => match z.holder with
    | some (p, _) => p == own
    | none => false)
  asked := packBits (x.sep.zones.toList.map fun z => !z.requests.isEmpty)

/-- Put a completed cycle's results in force. -/
def State.sepApply (s : State) (d : DieId) (cy : SepCycle) (outs : List SepOut) (single : Bool) : State :=
  let before := (s.die d).sep.outs.toList.map fun o => (o.stop, o.cause)
  let s := (List.finRange 8).foldl (fun s a => s.applySepArm d a (outs.getD a.val {})) s
  let s := s.onSep d fun y => { y with outs := Vector.ofFn fun a : Fin 8 => outs.getD a.val {}, items := y.nextItems, lastB := cy.b, late := 0,
                                       single := single, cycles := y.cycles + 1, lastMismatch := y.mismatch,
                                       view := (s.die d).sepView s.pkgid.toNat }
  let s := s.count d 5 0 0
  let x := (s.die d).sep
  let changed := decide (before ≠ x.outs.toList.map fun o => (o.stop, o.cause))
  s.stream d 0x0608 1 false (fun st => changed || x.cycles % (max 1 (st.args.getD 0 1)) == 0) s.epoch fun _ => x.streamBytes

/-- What two late cycles in a row make of every arm (R48): scale 0 and a Category 1 stop. -/
def twiceLateOut : SepOut := { scale := 0, stop := 2, cause := 4 }

/-- A late cycle (R48): the second in a row sets every scale to 0 and requests a Category 1 stop of every arm. No late cycle passes a stop test. -/
def State.sepLate (s : State) (d : DieId) : State :=
  let s := s.raise d 70 (s.target 0 0) []
  let s := s.onSep d fun y => { y with late := y.late + 1 }
  let s := (List.finRange 8).foldl (fun s a => s.failAgain d a s.now) s
  if (s.die d).sep.late = 2 then
    (List.finRange 8).foldl (fun s a =>
      let s := s.requestStop d a 1 4
      s.applySepArm d a { (s.die d).sep.outs[a] with scale := 0, stop := 2, cause := 4 }) s
  else s

/-- Every SEPARATION item run of a cycle's start boundary has completed by its class deadline (R263). -/
def Die.sepItemsDone (x : Die) (b : Nat) : Bool :=
  x.disp.insts.all fun i => decide (i.b ≠ b) || i.state == .done || (match x.entryOf i with
    | some e => e.cls != 1
    | none => true)

/-- The cycle of `b` is at least the second in a row that is late on a die, for its result or for its SEPARATION items, whether or not the die has finished it yet
(R48, R263). -/
def Die.twiceLate (x : Die) (b : Nat) : Bool :=
  match x.sep.cycle with
  | some c => if c.b = b then (x.sep.raw.isNone || !x.sepItemsDone b) && decide (1 ≤ x.sep.late) else decide (2 ≤ x.sep.late)
  | none => decide (2 ≤ x.sep.late)

/-- Boundary b_s + r_sep (R206, R224, R48): the cycle completes, or it is late, as it is where a SEPARATION item of
its start boundary has not completed (R263). A Flier whose Catcher's result is missing raises SEP_MISMATCH and uses its own; a Catcher without the combined result
has not completed step 7. What a die puts in force under the two-channel rule is made more restrictive where the other die's cycles are late twice in a row (R48). -/
def State.sepFinish (s : State) (d : DieId) : State :=
  match (s.die d).sep.cycle with
  | none => s
  | some cy =>
    let x := (s.die d).sep
    let harder := fun (l : List SepOut) => if s.dualSep && (s.die d.other).twiceLate cy.b then l.map fun o => o.combine twiceLateOut else l
    if !(s.die d).sepItemsDone cy.b then s.sepLate d
    else match x.combined, x.raw with
    | some outs, _ => s.sepApply d cy (harder outs) false
    | none, some raw =>
      if !s.dualSep then s.sepApply d cy raw true
      else if s.isFlier d then
        let s := (s.sepMismatch d cy.b (4, 255, 255, 0, 0)).onSep d fun y => { y with missB := some s.mw.b }
        s.sepApply d cy (harder raw) false
      else s.sepLate d
    | none, none => s.sepLate d

/-- The separation share of a boundary (R206): at every r_sep-th boundary of Ripe the last cycle finishes and the next opens. -/
def State.sepBoundary (s : State) (d : DieId) : State :=
  if s.phase ≠ .ripe ∨ !s.computes d then s
  else if s.mw.b % max 1 (s.die d).cfg.rSep = 0 then (s.sepFinish d).sepStart d
  else s

/-- Follow the applied scales in the periods of a cycle (R206). -/
def State.sepTrack (s : State) (d : DieId) : State :=
  s.onDie d fun x =>
    let y : Sep := { x.sep with arms := Vector.ofFn fun a : Fin 8 => { x.sep.arms[a] with sigmaMax := max (x.sep.arms[a]).sigmaMax (x.arms[a]).sigma } }
    { x with sep := y }

/-- STOP_REQUEST_RELEASE (R219): every pair of the arm has passed in every cycle for RELEASE_NS, counted from the first cycle that passed. -/
def execStopRequestRelease (d : DieId) (a : Fin 8) (s : State) : Result :=
  let x := s.die d
  let y := x.sep.arms[a]
  let long := match y.passNs with
    | some t => decide (t + (x.cfg.ssm a.val).releaseNs ≤ s.now)
    | none => false
  if s.computes d && !y.reqs.isEmpty && long then
    .next (s.onSep d fun z => { z with arms := z.arms.set a { z.arms[a] with reqs := [] } })
  else .next s

end Sys2Proof.Machine
end

