-- ==== Sys2Proof/Machine/SepCommands.lean ====
section
/-! DEFINITION. Commands of the separation engine (R232..R239), Sight datagrams (R214, R215), zone messages (R230), and the
checks a commit makes of the geometry (R210, R229, R233). -/

namespace Sys2Proof.Machine

/-! ### Shared by the chapters -/

/-- Open a stream for a command, in place of one of the same opcode and target that is open. -/
def State.openStream (s : State) (d : DieId) (opcode : Nat) (h : HostCmd) (args : List Nat) : State :=
  let st : Stream := { opcode := opcode, queue := h.queue.val, tag := h.tag.toNat, target := h.target.toNat, seq := 0, args := args }
  s.onDie d fun x =>
    { x with rm := { x.rm with streams := (x.rm.streams.filter fun t => !(t.opcode == opcode && t.target == h.target.toNat)) ++ [st] } }

/-- Close the streams of an opcode and target. -/
def State.closeStream (s : State) (d : DieId) (opcode : Nat) (target : Word) : State :=
  s.onDie d fun x => { x with rm := { x.rm with streams := x.rm.streams.filter fun t => !(t.opcode == opcode && t.target == target.toNat) } }

/-- Units of the separation clusters. -/
def State.sepUnits (s : State) (d : DieId) : List UnitId := s.clusterUnits d 1 4 ++ s.clusterUnits d 1 5

/-- Stage a change that an admission covers: a failure on the Flier refuses it, a failure on the Catcher alone stages it and costs
the Catcher its eligibility (R275). -/
def State.configGated (s : State) (d : DieId) (check : Option Nat) (units : List UnitId) (admitted : Cfg → Bool) (f : Cfg → Cfg) : Answer :=
  if (s.die d).committing then reject s St.busy
  else match check with
  | some st => reject s st
  | none =>
    let ok := admitted (f (s.die d).shadow)
    if !ok && (s.isFlier d || !s.hasPartner || s.mw.trapeze.token.isNone) then reject s St.range
    else
      let s := s.stage d units f
      answer (if ok then s else s.catcherLost d 7)

/-! ### CONFIG_GEOMETRY (R232, Table 7.1) -/

/-- The entry 32 bytes spell: none for fields outside Table 7.1, else the entry, `some none` for an empty one. -/
def readGeometry (p : List Byte) : Option (Option GeoEntry) :=
  match rd p 0 1 with
  | 0 => if zeroAt p 1 31 then some none else none
  | 1 =>
    if decide (rd p 1 1 ≤ 7) && decide (rd p 3 1 ≤ 1) && decide (1 ≤ rdS p 28 4) && decide (rdS p 28 4 ≤ 131072) then
      some (some (.capsule (rd p 1 1) (rd p 2 1) (bit (rd p 3 1) 0) (vec3At p 4) (vec3At p 16) (rdS p 28 4)))
    else none
  | 2 =>
    let u := rd p 1 1
    let owner := rd p 6 1
    let top := match u with
      | 0 => 0
      | 1 => 63
      | 2 => 31
      | _ => 3
    if decide (u ≤ 3) && within (rd p 2 1) 4 32 && (u == 1 || u == 2 || decide (rd p 3 1 ≤ 7)) && decide (owner ≤ top) && zeroAt p 7 25 then
      some (some (.header u (rd p 2 1) (rd p 3 1) (rd p 4 2) owner))
    else none
  | 3 =>
    let n := vec3At p 4
    let m := n.x * n.x + n.y * n.y + n.z * n.z
    if zeroAt p 1 3 && zeroAt p 20 12 && decide (2 ^ 60 - 2 ^ 40 ≤ m) && decide (m ≤ 2 ^ 60 + 2 ^ 40) then some (some (.plane n (rdS p 16 4))) else none
  | _ => none

/-- Counts of entries. -/
def Cfg.geoCount (c : Cfg) (f : GeoEntry → Bool) : Nat := (c.geometry.filter fun e => f e.2).length

/-- The limits of R209. -/
def Cfg.geoLimits (c : Cfg) : Bool :=
  let arms := c.capsuleArms.map fun k => k.1
  decide (arms.length ≤ 128) && (List.range 8).all (fun a => decide ((arms.filter fun b => b == a).length ≤ 32)) &&
    decide (c.geoCount (fun e => match e with
      | .header .. => true
      | _ => false) ≤ 256)

/-- A capsule names an arm with joints and a frame of it (R232). -/
def Cfg.capsuleOk (c : Cfg) (e : GeoEntry) : Bool :=
  match e with
  | .capsule arm link _ _ _ _ => decide (0 < c.armCount arm) && decide (link ≤ c.armCount arm)
  | _ => true

/-- Write or empty a geometry entry. -/
def Cfg.setGeo (c : Cfg) (i : Nat) (e : Option GeoEntry) : Cfg :=
  match e with
  | some g => { c with geometry := c.geometry.set i g }
  | none => { c with geometry := c.geometry.erase i }

/-- `CONFIG_GEOMETRY` (R232). -/
def bodyConfigGeometry (h : HostCmd) (d : DieId) (s : State) : Answer :=
  let p := h.params
  let n := rd p 0 1
  let first := tInstance h.target
  if tTable h.target ≠ 0x60 ∨ 4032 ≤ first then reject s St.badTarget
  else if h.plen.toNat ≠ 1 + 4 * n then reject s St.badLength
  else if 4032 < first + n then reject s St.badTarget
  else
    let es := (List.range n).map fun k => readGeometry ((p.drop (8 + 32 * k)).take 32)
    let put := fun (c : Cfg) => ((List.range n).zip es).foldl (fun c x => c.setGeo (first + x.1) (x.2.getD none)) c
    let new := put (s.die d).shadow
    let bad := firstFail [
      (!within n 1 7 || !zeroAt p 1 7 || es.any Option.isNone, St.range),
      (!(es.all fun e => match e with
        | some (some g) => new.capsuleOk g
        | _ => true), St.range),
      (!new.geoLimits, St.range)]
    s.configGated d bad (s.sepUnits d) (fun c => c.sepAdmitted (s.sepLanes d)) put

/-! ### CONFIG_KINEMATICS (R233, Table 7.8) -/

/-- Frame `n` of the parameters. -/
def readFrame (p : List Byte) (n : Nat) : KinFrame :=
  let o := 16 + 20 * n
  { translation := vec3At p o, w := rdS p (o + 12) 2, x := rdS p (o + 14) 2, y := rdS p (o + 16) 2, z := rdS p (o + 18) 2 }

/-- The squared norm of a quaternion is within 1 ± 2⁻⁸. -/
def KinFrame.unitary (f : KinFrame) : Bool :=
  let m := f.w * f.w + f.x * f.x + f.y * f.y + f.z * f.z
  decide (2 ^ 30 - 2 ^ 22 ≤ m) && decide (m ≤ 2 ^ 30 + 2 ^ 22)

/-- `CONFIG_KINEMATICS` (R233). -/
def bodyConfigKinematics (h : HostCmd) (d : DieId) (s : State) : Answer :=
  let p := h.params
  let n := rd p 0 1
  let a := tInstance h.target
  if ha : tTable h.target = 0x61 ∧ a < 8 then
    let axis := fun (k : Nat) => rd p k 1
    let frames := (List.range (n + 1)).map (readFrame p)
    let bad := firstFail [
      (!within n 1 9 || decide (n ≠ (s.die d).shadow.armCount a), St.range),
      ((List.range 9).any (fun k => if k < n then decide (2 < bits (axis (k + 1)) 1 0) || decide (bits (axis (k + 1)) 6 2 ≠ 0) else axis (k + 1) != 0), St.range),
      (!zeroAt p 10 6 || !zeroAt p (16 + 20 * (n + 1)) (200 - 20 * (n + 1)), St.range),
      (!frames.all KinFrame.unitary, St.range)]
    let new : CfgKinematics := { joints := n, axes := (p.drop 1).take n, frames := frames }
    s.config d bad (s.sepUnits d) fun c => { c with kinematics := c.kinematics.set a (some new) ha.2 }
  else reject s St.badTarget

/-! ### CONFIG_SSM_PARAMS (R234) -/

/-- `CONFIG_SSM_PARAMS` (R234, Tables 7.4 and 7.5). -/
def bodyConfigSsmParams (h : HostCmd) (d : DieId) (s : State) : Answer :=
  let p := h.params
  let neg := fun (o : Nat) => decide (rdS p o 4 < 0)
  match tKind h.target with
  | 2 =>
    if h.plen.toNat ≠ 5 then reject s St.badLength
    else
      let a := tArm h.target
      let v : CfgSsmArm :=
        { vRMax := rd p 0 4, tRAddNs := rd p 4 4, zR := rdS p 8 4, sSlow := rdS p 12 4, armClear := rdS p 16 4, rowWindow := rdS p 20 4,
          releaseNs := rd p 24 4, personCat := rd p 28 1, machineCat := rd p 29 1, speedTol := rdS p 32 4 }
      let bad := firstFail [
        (!within v.vRMax 1 1310720 || decide (100000000 < v.tRAddNs) || decide (10000000000 < v.releaseNs), St.range),
        (neg 8 || neg 12 || neg 16 || neg 20 || neg 32, St.range),
        (!within v.personCat 1 3 || !within v.machineCat 1 3, St.range),
        (!zeroAt p 30 2 || !zeroAt p 36 4, St.range)]
      s.config d bad (s.sepUnits d) fun c => { c with ssmArm := c.ssmArm.set a v }
  | 6 =>
    if hk : tTable h.target = 0x62 ∧ tInstance h.target < 8 then
      if h.plen.toNat ≠ 2 then reject s St.badLength
      else
        let k := tInstance h.target
        let v : CfgSsmClass := { vH := rd p 0 4, c := rdS p 4 4, zD := rdS p 8 4 }
        let bad := firstFail [
          (decide (655360 < v.vH) || neg 4 || neg 8, St.range),
          (k == 0 && (v.vH != 0 || v.c != 0), St.range),
          (!zeroAt p 12 4, St.range)]
        s.config d bad (s.sepUnits d) fun c => { c with ssmClass := c.ssmClass.set k v hk.2 }
    else reject s St.badTarget
  | _ =>
    if h.plen.toNat ≠ 1 then reject s St.badLength
    else s.config d (firstFail [(decide (655 < rd p 0 2) || !zeroAt p 2 6, St.range)]) (s.sepUnits d) fun c => { c with scaleTol := rd p 0 2 }

/-! ### CONFIG_SENSOR (R235, Table 7.7) -/

/-- Two enabled sensors share UDP_PORT and SENSOR_ID. -/
def Cfg.sensorsClash (c : Cfg) : Bool :=
  (List.finRange 32).any fun i => (List.finRange 32).any fun j =>
    i != j && (c.sensors[i]).enable && (c.sensors[j]).enable && (c.sensors[i]).udpPort == (c.sensors[j]).udpPort && (c.sensors[i]).sensorId == (c.sensors[j]).sensorId

/-- `CONFIG_SENSOR` (R235). -/
def bodyConfigSensor (h : HostCmd) (d : DieId) (s : State) : Answer :=
  let p := h.params
  let n := tInstance h.target
  if hn : tTable h.target = 0x63 ∧ n < 32 then
    let v : CfgSensor :=
      { enable := rd p 0 1 == 1, clsOnTimeout := orDefault (rd p 1 1) 1, sensorId := rd p 2 2, udpPort := orDefault (rd p 4 2) 40117, quota := rd p 6 2,
        tAgeMaxNs := orDefault (rd p 8 4) 20000000, timeoutNs := orDefault (rd p 12 4) 100000000, coverage := rd p 16 2 }
    let put : Cfg → Cfg := fun c => { c with sensors := c.sensors.set n v hn.2 }
    let new : Cfg := put (s.die d).shadow
    let bad := firstFail [
      (decide (1 < rd p 0 1) || decide (7 < rd p 1 1) || !zeroAt p 18 14, St.range),
      (v.enable && (!within v.udpPort 1024 65535 || !within v.quota 1 720 || !within v.tAgeMaxNs 1000000 1000000000 ||
        decide (2000000000 < v.timeoutNs) || decide (4031 < v.coverage)), St.range),
      (v.enable && (new.sensorsClash || decide (1024 < new.quota) || decide (v.timeoutNs < v.tAgeMaxNs)), St.range)]
    s.configGated d bad (s.sepUnits d) (fun c => !v.enable || c.sepAdmitted (s.sepLanes d)) put
  else reject s St.badTarget

/-! ### Zones (R236, R237) -/

/-- The zone definition 32 bytes spell for zone `z`; `some none` deletes it. -/
def readZone (p : List Byte) (z : Nat) : Option (Option GeoEntry) :=
  match rd p 0 1 with
  | 0 => if zeroAt p 1 31 then some none else none
  | 4 =>
    let n := rd p 2 1
    let shared := bit (rd p 3 1) 0
    let vols := (List.range n).map fun i => rd p (4 + 2 * i) 2
    if decide (rd p 1 1 = z) && within n 1 4 && decide (rd p 3 1 ≤ 3) && (List.range 4).all (fun i => decide (i < n) || rd p (4 + 2 * i) 2 == 0) &&
        decide (rd p 12 1 ≤ 15) && (shared || rd p 12 1 == 0) && zeroAt p 13 3 && decide (0 ≤ rdS p 16 4) && zeroAt p 20 12 then
      some (some (.zone z vols shared (bit (rd p 3 1) 1) (BitVec.ofNat 4 (rd p 12 1)) (rdS p 16 4)))
    else none
  | _ => none

/-- `CONFIG_ZONE` (R236). -/
def bodyConfigZone (h : HostCmd) (d : DieId) (s : State) : Answer :=
  let z := tIndex h.target % 64
  let e := readZone h.params z
  s.config d (firstFail [(e.isNone, St.range)]) (s.sepUnits d) fun c => c.setGeo (4032 + z) (e.getD none)

/-- Change one zone of a die. -/
def State.onZone (s : State) (d : DieId) (z : Fin 64) (f : Zone → Zone) : State :=
  s.onSep d fun y => { y with zones := y.zones.set z (f y.zones[z]) }

/-- `ZONE_REQUEST` (R226, R237). -/
def bodyZoneRequest (h : HostCmd) (d : DieId) (s : State) : Answer :=
  let p := h.params
  let z : Fin 64 := ⟨tIndex h.target % 64, Nat.mod_lt _ (by decide)⟩
  let a := rd p 0 1
  match rdStamp p 6 with
  | none => reject s St.range
  | some entry =>
    if decide (7 < a) || !zeroAt p 1 5 then reject s St.range
    else if ((s.die d).cfg.zoneDef z.val).isNone then reject s St.wrongState
    else if ((s.die d).sep.zones[z]).holder = some (s.pkgid.toNat, a) then answer s
    else answer (s.onZone d z fun x =>
      { x with requests := (x.requests.filter fun r => r.1 != a) ++ [(a, entry)], withdraw := x.withdraw.filter fun w => w != a })

/-- `ZONE_RELEASE` (R228, R237). -/
def bodyZoneRelease (h : HostCmd) (d : DieId) (s : State) : Answer :=
  let p := h.params
  let z : Fin 64 := ⟨tIndex h.target % 64, Nat.mod_lt _ (by decide)⟩
  let a := rd p 0 1
  let x := s.die d
  let zn := x.sep.zones[z]
  if decide (7 < a) || !zeroAt p 1 7 then reject s St.range
  else match x.cfg.zoneDef z.val with
  | none => reject s St.wrongState
  | some (vols, _) =>
    if zn.holder = some (s.pkgid.toNat, a) then
      let s := s.onZone d z fun y => { y with releasing := true }
      (s, { status := if x.armOutside a s.mw.b vols then St.ok else St.deferred })
    else if zn.requests.any fun r => r.1 == a then answer (s.onZone d z fun y => { y with withdraw := y.withdraw ++ [a] })
    else reject s St.wrongState

/-! ### Status and stream (R238, R239) -/

/-- `SEP_STATUS` (R238, Table 7.9). -/
def bodySepStatus (_h : HostCmd) (d : DieId) (s : State) : Answer :=
  let x := s.die d
  let y := x.sep
  let v := y.view
  answer s
    (le 8 y.lastB ++ le 1 (packBits [y.running, y.single, y.lastMismatch]) ++ zeros 1 ++ le 2 v.objects ++ le 4 v.out ++ le 8 v.held ++ le 8 v.asked ++
      (y.outs.toList.map fun o => le 2 o.scale ++ le 1 o.stop ++ le 1 o.cause ++ leInt 4 o.minD ++ le 2 o.nearest ++ zeros 6).flatten ++
      le 4 (x.cfg.tSepNs (s.sepLanes d)) ++ le 4 y.mismatches ++ zeros 8)

/-- `SEP_STREAM` (R239). -/
def bodySepStream (h : HostCmd) (d : DieId) (s : State) : Answer :=
  let p := h.params
  if decide (1 < rd p 0 1) || !zeroAt p 2 6 then reject s St.range
  else if rd p 0 1 = 0 then answer (s.closeStream d 0x0608 h.target)
  else answer (s.openStream d 0x0608 h [orDefault (rd p 1 1) 1])

/-! ### Readiness and conditions of a commit (R210, R229, R233) -/

/-- Every plane a header names exists, and no other header names it. -/
def Cfg.headerOk (c : Cfg) (i : Nat) : Bool :=
  match c.header i with
  | some (_, n, _, first, _) =>
    let range := fun (k : Nat) => match c.header k with
      | some (_, m, _, f, _) => (f, f + m)
      | none => (0, 0)
    (c.planesOf first n).length == n &&
      c.geometry.all fun e => e.1 == i || (c.header e.1).isNone || (let r := range e.1; decide (r.2 ≤ first) || decide (first + n ≤ r.1))
  | none => true

/-- How often the zones and enabled sensors name a header, with the matching use and owner. -/
def Cfg.named (c : Cfg) (i : Nat) : Nat :=
  match c.header i with
  | some (1, _, _, _, owner) => total c.geometry fun e => match e.2 with
    | .zone z vols _ _ _ _ => if z = owner then (vols.filter fun v => v == i).length else 2 * (vols.filter fun v => v == i).length
    | _ => 0
  | some (2, _, _, _, owner) => total (List.finRange 32) fun n =>
    let x := c.sensors[n]
    if x.enable && x.coverage == i then (if n.val = owner then 1 else 2) else 0
  | _ => 1

/-- The checks of R210 on one entry of the complete table. -/
def State.geometryOk (s : State) (c : Cfg) (i : Nat) (e : GeoEntry) : Bool :=
  match e with
  | .capsule arm link _ _ _ _ =>
    let chain := match c.kinematics[arm % 8]'(Nat.mod_lt _ (by decide)) with
      | some k => decide (k.joints = c.armCount arm)
      | none => false
    decide (0 < (c.ssm arm).vRMax) && chain && decide (link ≤ c.armCount arm)
  | .header use_ _ _ _ owner => c.headerOk i && c.named i == 1 && (use_ != 3 || owner != s.pkgid.toNat)
  | .plane .. => true
  | .zone _ vols _ _ _ _ => vols.all fun v => match c.header v with
    | some (1, _, _, _, _) => true
    | _ => false

/-- The first entry of a staged table that fails R210 (R210), as the table target of its REASON 1. -/
def State.geometryFail (s : State) (c : Cfg) : Option Nat := (c.geometry.find? fun e => !s.geometryOk c e.1 e.2).map fun e => e.1

/-- Coverage of an enabled sensor names a coverage header. -/
def Cfg.coverageFail (c : Cfg) : Option Nat :=
  ((List.finRange 32).find? fun n => (c.sensors[n]).enable && (match c.header (c.sensors[n]).coverage with
    | some (2, _, _, _, o) => o != n.val
    | _ => true)).map fun n => n.val

/-- A zone whose definition or volumes a commit changes (R229). -/
def zoneChanged (old new : Cfg) (z : Nat) : Bool :=
  let vols := fun (c : Cfg) => match c.zoneDef z with
    | some (v, _) => v
    | none => []
  let poly := fun (c : Cfg) (v : Nat) => (c.header v, c.polytope v)
  decide (old.geometry.find (4032 + z) ≠ new.geometry.find (4032 + z)) ||
    (vols old ++ vols new).any fun v => decide (poly old v ≠ poly new v)

/-- The first zone that must be FREE without requests for a commit and is not (R229). -/
def Die.zoneBusy (x : Die) : Option Nat :=
  ((List.finRange 64).find? fun z => zoneChanged x.cfg x.shadow z.val && !((x.sep.zones[z]).holder.isNone && (x.sep.zones[z]).requests.isEmpty)).map fun z => z.val

/-! ### Sight datagrams (R214, R215) -/

/-- SEQ `a` is newer than `b` (R215). -/
def newerSeq (a b : Nat) : Bool := within ((a + 4294967296 - b % 4294967296) % 4294967296) 1 2147483647

/-- The objects of a datagram. -/
def sightObjects (p : List Byte) (n : Nat) : List SightObj :=
  (List.range n).map fun i =>
    let o := 32 + 32 * i
    { p := vec3At p o, r := rdS p (o + 12) 4, v := vec3At p (o + 16), cls := rd p (o + 28) 1 }

/-- CLASS, RADIUS and speed of an object are in range. -/
def SightObj.ok (o : SightObj) : Bool :=
  within o.cls 1 7 && decide (1 ≤ o.r) && decide (o.r ≤ 524288) && decide (o.v.x * o.v.x + o.v.y * o.v.y + o.v.z * o.v.z ≤ 1310720 * 1310720)

/-- A rejection (R214, R497): counted, and SIGHT_REJECTED the first time in an interval. -/
def State.sightReject (s : State) (sensor cause port : Nat) (p : List Byte) : State :=
  let s := s.onLive fun d s => s.count d 5 0 3
  if s.mw.sightRejected then s
  else
    let s := s.onMw fun m => { m with sightRejected := true }
    let id := if 8 ≤ p.length then rd p 6 2 else 0
    let seq := if 12 ≤ p.length then rd p 8 4 else 0
    s.raiseMw 137 (if sensor = 255 then s.target 0 0 else s.target 6 (0x63 * 65536 + sensor))
      (le 1 sensor ++ le 1 cause ++ le 2 port ++ le 2 id ++ zeros 2 ++ le 4 seq ++ le 4 ((s.die s.lead).stats.live.word 5 0 3))

/-- Change what MW keeps of a sensor. -/
def State.onSight (s : State) (n : Fin 32) (f : SensorIn → SensorIn) : State := s.onMw fun m => { m with sight := m.sight.set n (f m.sight[n]) }

/-- A fragment of a sensor's frame (R215). -/
def State.sightFragment (s : State) (n : Fin 32) (port : Nat) (p : List Byte) (time : Nat) : State :=
  let seq := rd p 8 4
  let frag := bits (rd p 22 1) 3 0
  let frags := bits (rd p 22 1) 7 4 + 1
  let objs := sightObjects p (rd p 23 1)
  let i := s.mw.sight[n]
  let quota := (s.mw.cfg.sensors[n]).quota
  let spoil := fun (s : State) (a : Assembly) (cause : Nat) =>
    (s.onSight n fun x => { x with assembly := some { a with rejected := true } }).sightReject n.val cause port p
  let stale := match i.lastSeq with
    | some l => !newerSeq seq l
    | none => false
  if stale then s.sightReject n.val 9 port p
  else
    let cur := match i.assembly with
      | some a => if a.seq = seq then some a else none
      | none => none
    let older := match i.assembly with
      | some a => decide (a.seq ≠ seq) && !newerSeq seq a.seq
      | none => false
    if older then s
    else
      let a : Assembly := cur.getD { seq := seq, time := time, frags := frags, got := [] }
      if a.rejected then s
      else if a.time ≠ time ∨ a.frags ≠ frags then spoil s a 10
      else if a.got.any fun g => g.1 == frag then s
      else
        let a : Assembly := { a with got := a.got ++ [(frag, objs)] }
        if quota < total a.got fun g => g.2.length then spoil s a 7
        else if !objs.all SightObj.ok then spoil s a 8
        else if a.got.length < frags then s.onSight n fun x => { x with assembly := some a }
        else
          let all := ((List.range frags).map fun k => match a.got.find? fun g => g.1 == k with
            | some g => g.2
            | none => []).flatten
          let s := s.onSight n fun x => { x with assembly := none, lastSeq := some seq, time := time, objs := all, acceptedB := some s.mw.b }
          s.onLive fun d s => s.count d 5 0 2

/-- A Sight datagram at a UDP port (R214): the checks in the order of the rule, then the fragment joins its frame. -/
def State.takeSight (s : State) (port : Nat) (p : List Byte) : State :=
  match (List.finRange 32).find? fun n => (s.mw.cfg.sensors[n]).enable && (s.mw.cfg.sensors[n]).udpPort == port && decide (8 ≤ p.length) &&
      (s.mw.cfg.sensors[n]).sensorId == rd p 6 2 with
  | none => s.sightReject 255 1 port p
  | some n =>
    let zeroed := p.take 24 ++ zeros 4 ++ p.drop 28
    match firstFail [
      (rd p 0 4 != 0x53475448 || rd p 4 1 != 1, 2),
      (decide (45 < rd p 23 1) || decide (p.length ≠ 32 + 32 * rd p 23 1), 3),
      (decide (rd p 24 4 ≠ (crc32 zeroed).toNat), 4),
      (decide (bits (rd p 22 1) 7 4 < bits (rd p 22 1) 3 0), 5),
      (match rdStamp p 12 with
        | some t => decide (s.tb0 + 1000000 < t)
        | none => true, 6)] with
    | some cause => s.sightReject n.val cause port p
    | none => s.sightFragment n port p ((rdStamp p 12).getD 0)

/-- SIGHT_DATAGRAM (R214). -/
def execSightDatagram (udpPort : BitVec 16) (bytes : List Byte) (s : State) : Result := .next (s.takeSight udpPort.toNat bytes)

/-! ### Peer acceptance and zone messages (R343, R230) -/

/-- A peer message is accepted (R343): the sender and the body. -/
def State.peerAccept (s : State) (type_ : Nat) (p : List Byte) : Option (Fin 4 × List Byte) :=
  let from_ : Fin 4 := ⟨rd p 6 1 % 4, Nat.mod_lt _ (by decide)⟩
  let newer := match (s.mw.net.peers[from_]).rxSeq with
    | some l => newerSeq (rd p 8 4) l
    | none => true
  if s.mw.net.peersOn && decide (16 ≤ p.length) && rd p 0 4 == 0x51504B31 && rd p 4 1 == 1 && rd p 5 1 == type_ &&
      decide (p.length = 16 + rd p 12 2) && rd p 7 1 == s.pkgid.toNat && decide (rd p 6 1 < 4) && from_.val != s.pkgid.toNat &&
      (s.mw.cfg.peers.entries[from_]).enable && newer then some (from_, p.drop 16)
  else none

/-- Change what MW keeps of a peer. -/
def State.onPeer (s : State) (p : Fin 4) (f : Peer → Peer) : State :=
  s.onMw fun m => { m with net := { m.net with peers := m.net.peers.set p (f m.net.peers[p]) } }

/-- The zone entries of a message body (Table 7.6). A request whose ENTRY is no valid stamp (R9 speaks of commands only) counts as entry time 0, the earliest. DESIGN CHOICE. -/
def zoneEntries (p : List Byte) : List ZoneEntry :=
  (List.range (rd p 2 1)).map fun i =>
    let o := 24 + 16 * i
    let h := rd p (o + 1) 1
    let r := rd p (o + 2) 1
    { zone := rd p o 1, holder := if bit h 7 then some (bits h 6 5, bits h 2 0) else none, request := if bit r 7 then some (bits r 2 0) else none,
      arbiter := bit (rd p (o + 3) 1) 0, entry := (rdStamp p (o + 4)).getD 0 }

/-- A zone message (R230): MW keeps the partner's newest zone view; cycles that start later use it. -/
def State.takeZone (s : State) (bytes : List Byte) : State :=
  match s.peerAccept 2 bytes with
  | none => s
  | some (p, body) =>
    if rd body 0 1 = 1 ∧ rd body 1 1 = p.val ∧ rd body 2 1 ≤ 64 ∧ body.length = 24 + 16 * rd body 2 1 then
      let s := s.onPeer p fun x => { x with rxSeq := some (rd bytes 8 4), lastNs := s.now }
      s.onMw fun m => { m with zoneMsgs := m.zoneMsgs.set p (some (zoneEntries body)) }
    else s

/-- ZONE_MESSAGE (R230). -/
def execZoneMessage (bytes : List Byte) (s : State) : Result := .next (s.takeZone bytes)

/-- The body of the zone message of a cycle start (R230, Table 7.6), with the SEQ of zone messages. -/
def State.zoneBody (s : State) (d : DieId) (seq : Nat) : List Byte :=
  let x := s.die d
  let own := s.pkgid.toNat
  let one := fun (z : Fin 64) => match x.cfg.zoneDef z.val with
    | some (_, true, _, peers, _) =>
      let zn := x.sep.zones[z]
      let arb := decide (s.arbiter (s.zonePeers true peers) = own)
      let holder : Nat := match zn.holder with
        | some (p, a) => if arb || p == own then 128 + 32 * p + a else 0
        | none => 0
      let sent := zn.requests.filter fun r => arb || !zn.stale.contains r.1
      let req := bestRequest (sent.map fun r => (r.2, r.1, own))
      let rb : Nat := match req with
        | some r => 128 + r.2.1
        | none => 0
      le 1 z.val ++ le 1 holder ++ le 1 rb ++ le 1 (b2n arb) ++ stamp (match req with
        | some r => r.1
        | none => 0) ++ zeros 2
    | _ => []
  let es := (List.finRange 64).map one
  le 1 1 ++ le 1 own ++ le 1 (es.filter fun e => !e.isEmpty).length ++ zeros 1 ++ le 4 seq ++ stamp s.tb0 ++ zeros 6 ++ es.flatten

end Sys2Proof.Machine
end

