-- ==== Sys2Proof/Machine/FieldIo.lean ====
section
/-! DEFINITION. Region I of MW (chapter 12): input filters, safety pairs, outputs and their precedence, field supplies, the logic-silent
watchdog, encoder ports, and the field I/O opcodes (R357..R386). -/

namespace Sys2Proof.Machine

/-! ### Access -/

def State.onField (s : State) (f : Field → Field) : State := s.onMw fun m => { m with field := f m.field }
def State.onIn (s : State) (c : Fin 32) (f : InChan → InChan) : State := s.onField fun x => { x with ins := x.ins.set c (f x.ins[c]) }
def State.onOut (s : State) (c : Fin 16) (f : OutChan → OutChan) : State := s.onField fun x => { x with outs := x.outs.set c (f x.outs[c]) }
def State.onSupply (s : State) (u : Fin 2) (f : Supply → Supply) : State := s.onField fun x => { x with supplies := x.supplies.set u (f x.supplies[u]) }
def State.onEncoder (s : State) (n : Fin 4) (f : Encoder → Encoder) : State := s.onField fun x => { x with encoders := x.encoders.set n (f x.encoders[n]) }

/-- Target word of a field channel (Table 3.10): class 0 input, 1 output, 2 encoder. -/
def State.channelTarget (s : State) (cls n : Nat) : Word := s.target 8 (32 * cls + n)

/-- Reference supply of an input and supply of an output (R357, R362). -/
def inSupply (c : Fin 32) : Fin 2 := if c.val < 16 then 0 else 1
def outSupply (c : Fin 16) : Fin 2 := if c.val < 8 then 0 else 1

/-! ### Inputs (R358..R361) -/

/-- A filtered input as a consumer takes it: inactive while invalid (R371). -/
def InChan.active (x : InChan) : Bool := x.out && x.valid

/-- One sample through the counter filter of R359. -/
def InChan.sample (x : InChan) (raw : Bool) (n : Nat) (invert : Bool) (now : Nat) : InChan :=
  let r := raw != invert
  let c := if r && decide (x.c < n) then x.c + 1 else if !r && decide (0 < x.c) then x.c - 1 else x.c
  let out := if c = 0 then false else if c = n then true else x.out
  let changed := out != x.out
  let edge := r != x.rPrev
  let stable := if edge then 0 else x.stable + 1
  let clear := changed || decide (n ≤ stable)
  { x with raw := raw, c := c, out := out, rPrev := r, edges := if clear then 0 else if edge then x.edges + 1 else x.edges, stable := stable,
           chatter := x.chatter && !clear, stuck := x.stuck && out, since := if changed then now else x.since }

/-- The filter preset from the current sample (R359). -/
def InChan.preset (x : InChan) (n : Nat) (invert : Bool) (now : Nat) : InChan :=
  let r := x.raw != invert
  { x with c := if r then n else 0, out := r, rPrev := r, edges := 0, stable := 0, chatter := false, stuck := false, since := now, fresh := false }

/-- A sample of a valid input: the first after reset presets its filter, every other runs through it (R359). -/
def InChan.take (x : InChan) (raw : Bool) (n : Nat) (invert : Bool) (now : Nat) : InChan :=
  if x.fresh then ({ x with raw := raw } : InChan).preset n invert now else x.sample raw n invert now

/-- One sample of a channel of the curtain pair (R375). -/
def Debounce.sample (x : Debounce) (r : Bool) (n : Nat) : Debounce :=
  let c := if r && decide (x.c < n) then x.c + 1 else if !r && decide (0 < x.c) then x.c - 1 else x.c
  { c := c, out := if c = 0 then false else if n ≤ c then true else x.out }

/-- The filtered state of an input of a pair. -/
def Field.pairIn (x : Field) (c : Option (Fin 32)) : Bool := match c with
  | some i => (x.ins[i]).active
  | none => false

/-- Since when two channels differ. -/
def differSince (was : Option Nat) (differ : Bool) (now : Nat) : Option Nat := if differ then some (was.getD now) else none

/-- Evaluate the enabling-device pair (R374). In Blossom, ceasing to be ENABLED stops every jogged joint (R473). -/
def State.enablePair (s : State) : State :=
  let c := s.mw.cfg.safety
  let x := s.mw.field
  let set := c.enA.isSome && c.enB.isSome
  let a := x.pairIn c.enA
  let b := x.pairIn c.enB
  let fault := x.enFault && (a || b)
  let on := set && !fault && a && b
  let s := s.onField fun f => { f with enFault := fault, enabled := on, enDiff := differSince f.enDiff (set && a != b) s.now }
  if x.enabled && !on && s.phase == .blossom then
    s.onLive fun d s => (List.finRange 64).foldl (fun s j => if (s.joint d j).state = .enabled then s.jogStop d j else s) s
  else s

/-- A channel of the curtain pair as the sequencer filters it: active and valid. -/
def Field.cuIn (x : Field) (c : Option (Fin 32)) (d : Debounce) : Bool := match c with
  | some i => d.out && (x.ins[i]).valid
  | none => false

/-- Both channels of the configured curtain pair are active. -/
def State.curtainPairOk (s : State) : Bool :=
  let c := s.mw.cfg.safety
  s.mw.field.cuIn c.cuA s.mw.field.cuA && s.mw.field.cuIn c.cuB s.mw.field.cuB

/-- Evaluate the difference of the curtain pair's channels (R375). -/
def State.curtainPair (s : State) : State :=
  let c := s.mw.cfg.safety
  let x := s.mw.field
  let differ := c.cuA.isSome && (x.cuIn c.cuA x.cuA != x.cuIn c.cuB x.cuB)
  s.onField fun f => { f with cuDiff := differSince f.cuDiff differ s.now }

/-- INPUT_SAMPLE (R358, R359, R371): each microsecond every valid input's sample runs through its filter; the counter of an invalid one
is frozen. The curtain pair has its own filters. -/
def execInputSample (raw : Word) (s : State) : Result :=
  let c := s.mw.cfg
  let go := fun (s : State) (i : Fin 32) =>
    let g := c.inputs[i]
    s.onIn i fun x => if x.valid then x.take (raw.getLsbD i.val) g.filterN g.invert s.now else { x with raw := raw.getLsbD i.val }
  let s := (List.finRange 32).foldl go s
  let one := fun (i : Option (Fin 32)) (x : Debounce) => match i with
    | some k => x.sample (raw.getLsbD k.val != (c.inputs[k]).invert) c.safety.cuFilterN
    | none => x
  let s := s.onField fun f => { f with cuA := one c.safety.cuA f.cuA, cuB := one c.safety.cuB f.cuB }
  .next s.enablePair.curtainPair

/-- CHATTER (R360). -/
def execChatter (ch : Fin 32) (s : State) : Result :=
  let x := s.mw.field.ins[ch]
  if !x.chatter && decide ((s.mw.cfg.inputs[ch]).chatterLimit < x.edges) then
    .next ((s.onIn ch fun x => { x with chatter := true }).raiseMw 160 (s.channelTarget 0 ch.val) [])
  else .next s

/-- STUCK_ACTIVE (R361). -/
def execStuckActive (ch : Fin 32) (s : State) : Result :=
  let x := s.mw.field.ins[ch]
  let g := s.mw.cfg.inputs[ch]
  if g.stuckEnable && x.active && !x.stuck && decide (x.since + 1000000 * g.stuckMs ≤ s.now) then
    .next ((s.onIn ch fun x => { x with stuck := true }).raiseMw 161 (s.channelTarget 0 ch.val) [])
  else .next s

/-- A supply reads between two bounds, as no row reports: a reading outside them gives way to a free value between them. -/
def State.readsWithin (s : State) (u : Fin 2) (lo hi : Nat) : State :=
  if within (s.mw.field.supplies[u]).mv lo hi then s
  else
    let (n, s) := s.draw
    s.onSupply u fun x => { x with mv := lo + Config.freeNat n % (hi + 1 - lo) }

/-- INPUT_VALID (R371): the reference supply has been within UP_OFF + 1 V to 32.0 V for 10 ms; the filter is preset. -/
def execInputValid (ch : Fin 32) (s : State) : Result :=
  let u := inSupply ch
  if (s.mw.field.ins[ch]).valid then .next s
  else
    let g := s.mw.cfg.inputs[ch]
    let s := s.readsWithin u (s.mw.cfg.field.upOffMv[u] + 1000) 32000
    let s := s.onIn ch fun x => { (x.preset g.filterN g.invert s.now) with valid := true }
    .next s.enablePair.curtainPair

/-! ### Outputs (R362..R369) -/

/-- First channel of the group a channel belongs to (R365). -/
def Cfg.leader (c : Cfg) (i : Fin 16) : Fin 16 :=
  let q : Fin 16 := ⟨i.val / 4 * 4, by omega⟩
  let p : Fin 16 := ⟨i.val / 2 * 2, by omega⟩
  if (c.outputs[q]).group = 2 then q else if (c.outputs[p]).group = 1 then p else i

/-- The joint that names an output as its BRAKE_OUT (R362). -/
def Cfg.brakeOf (c : Cfg) (i : Nat) : Option (Fin 64) := (List.finRange 64).find? fun j => (c.joints[j]).joint.brake == 1 && (c.joints[j]).joint.brakeOut == i

/-- What forces an output: the first row of Table 12.3 that applies, 5 for none. -/
def State.outRow (s : State) (i : Fin 16) : Nat :=
  let x := s.mw.field
  let v := x.supplies[outSupply i]
  if decide (v.mv < s.mw.cfg.field.upOffMv[outSupply i]) || (v.lost && !v.recovered) then 1
  else if (x.outs[s.mw.cfg.leader i]).fault then 2
  else if s.curtained then 3
  else if x.wdLatched || v.lost then 4
  else 5

/-- Safe value of an output (R367). -/
def State.safeValue (s : State) (i : Fin 16) : Bool :=
  let l := s.mw.cfg.leader i
  let g := s.mw.cfg.outputs[l]
  if (s.mw.cfg.brakeOf l.val).isSome then false
  else if g.safe = 2 then (if s.phase = .ripe then ((s.mw.field.outs[l]).held).getD (s.mw.field.outs[l]).cmd else false)
  else decide (g.safe = 1)

/-- The value MW drives on an output (R369); in Seed and Blossom the safe value (R367). -/
def State.driven (s : State) (i : Fin 16) : Bool :=
  let l := s.mw.cfg.leader i
  if (s.mw.cfg.outputs[l]).function = 0 then false
  else match s.outRow i with
    | 1 | 2 => false
    | 3 | 4 => s.safeValue i
    | _ => if s.phase = .ripe then (s.mw.field.outs[l]).cmd else s.safeValue i

/-- Keep the value a HOLD output had when a row of Table 12.3 first took it from its commanded value (R367). -/
def State.holdOutputs (s : State) : State :=
  (List.finRange 16).foldl (fun s i =>
    if s.outRow i = 5 then s.onOut i fun o => { o with held := none }
    else s.onOut i fun o => { o with held := some (o.held.getD o.cmd) }) s

/-- The brake state that the set-point sent at this boundary carries (R363): BRAKE_RELEASE of the joint's OUT part in the frozen bank (Table 10.4). Engaged where no
item has written the slot. -/
def State.brakeSent (s : State) (j : Fin 64) : Bool :=
  match s.mw.cfg.nodeOf j.val with
  | some (r, p) => (s.mw.bankAge.find (16 * r + p)).isSome && bit (s.mw.bank.nat (64 * (16 * r + p) + 1) 1) 1
  | none => false

/-- The commanded values of a fired boundary (R363, R364): item values, `FIO_WRITE`s, brakes with the set-point that carries them. -/
def State.commandOutputs (s : State) : State :=
  let c := s.mw.cfg
  let go := fun (s : State) (i : Fin 16) =>
    match (c.outputs[i]).function with
    | 2 => s.onOut i fun o => { o with cmd := s.mw.field.itemValue.getLsbD i.val, next := none }
    | 1 =>
      match c.brakeOf i.val with
      | some j => s.onOut i fun o => { o with cmd := s.brakeSent j, next := none }
      | none => s.onOut i fun o => { o with cmd := o.next.getD o.cmd, next := none }
    | _ => s.onOut i fun o => { o with cmd := false, next := none }
  (List.finRange 16).foldl go s

/-- OUTPUT_FAULT (R366): the channel or its group goes off and the fault is latched. READBACK is a detector (Table 14.1). -/
def execOutputFault (ch : Fin 16) (cause : OutCause) (s : State) : Result :=
  let l := s.mw.cfg.leader ch
  if (s.mw.cfg.outputs[l]).function = 0 ∨ (s.mw.field.outs[l]).fault then .next s
  else
    let code : Nat := match cause with
      | .overload => 1
      | .thermal => 2
      | .readback => 3
    let s := s.onOut l fun o => { o with fault := true, cause := code, rearm := false }
    let s := s.holdOutputs
    let w := s.channelTarget 1 l.val
    let data := le 1 l.val ++ le 1 code
    if code = 3 then
      let inj := s.checkInjectedMw 11 fun i => i.target == w
      .next ((inj.1.detectMw w (2 ^ 27 + l.val) 11 true inj.2.isSome data).1)
    else .next (s.raiseMw 162 w data)

/-- OPEN_LOAD (R366): a flag, while the output is on. -/
def execOpenLoad (ch : Fin 16) (s : State) : Result :=
  let l := s.mw.cfg.leader ch
  if (s.mw.cfg.outputs[l]).openLoadEnable && s.driven l then .next (s.onOut l fun o => { o with openLoad := true }) else .next s

/-! ### Field supplies (R370..R372) -/

/-- Inputs of a supply become invalid (R371). -/
def State.invalidate (s : State) (u : Fin 2) : State :=
  let s := (List.finRange 32).foldl (fun s c => if inSupply c = u then s.onIn c fun x => { x with valid := false } else s) s
  s.enablePair.curtainPair

/-- Data of a supply event (Table 14.7). -/
def supplyData (u : Fin 2) (mv threshold : Nat) : List Byte := le 1 (u.val + 1) ++ zeros 1 ++ le 2 mv ++ le 2 threshold

/-- UP_LOW (R370): the fourth sample below 18.0 V. -/
def execUpLow (supply : Fin 2) (mv : Nat) (s : State) : Result :=
  if mv < 18000 ∧ !(s.mw.field.supplies[supply]).low then
    .next ((s.onSupply supply fun u => { u with low := true, mv := mv }).raiseMw 163 (s.target 0 0) (supplyData supply mv 18000))
  else .next s

/-- UP_LOST (R370, R372): the fourth sample below UP_OFF. A fall before UP_LOST has cleared ends a recovery. -/
def execUpLost (supply : Fin 2) (mv : Nat) (s : State) : Result :=
  let off := s.mw.cfg.field.upOffMv[supply]
  let was := (s.mw.field.supplies[supply]).lost
  if mv < off then
    let s := s.onSupply supply fun u => { u with lost := true, mv := mv, recovered := false, rearm := false }
    let s := (s.invalidate supply).holdOutputs
    .next (if was then s else s.raiseMw 164 (s.target 0 0) (supplyData supply mv off))
  else .next s

/-- UP_HIGH (R370, R371): the fourth sample above 32.0 V; the event comes once for the flag, which a rise before it has cleared finds set. -/
def execUpHigh (supply : Fin 2) (mv : Nat) (s : State) : Result :=
  if 32000 < mv then
    let was := (s.mw.field.supplies[supply]).high
    let s := (s.onSupply supply fun u => { u with high := true, mv := mv }).invalidate supply
    .next (if was then s else s.raiseMw 165 (s.target 0 0) (supplyData supply mv 32000))
  else .next s

/-- UP_FLAG_CLEAR (R370): 10 ms back within 18..32 V. -/
def execUpFlagClear (supply : Fin 2) (s : State) : Result :=
  let x := s.mw.field.supplies[supply]
  if x.low || x.high then .next ((s.readsWithin supply 18000 32000).onSupply supply fun u => { u with low := false, high := false }) else .next s

/-- UP_RECOVERED (R372): 10 ms above 18.0 V after an UP_LOST. With AUTO_RESTORE the next boundary clears UP_LOST. -/
def execUpRecovered (supply : Fin 2) (s : State) : Result :=
  let x := s.mw.field.supplies[supply]
  if x.lost && !x.recovered then
    .next (((s.readsWithin supply 18001 (if x.high then 65535 else 32000)).onSupply supply fun u => { u with recovered := true, rearm := s.mw.cfg.field.autoRestoreUp[supply] }).holdOutputs)
  else .next s

/-! ### Safety pairs and the watchdog (R368, R374, R375, R413) -/

/-- ENABLE_PAIR_FAULT (R374). -/
def execEnablePairFault (s : State) : Result :=
  match s.mw.field.enDiff with
  | some t =>
    if t + 1000000 * s.mw.cfg.safety.enDiscrepancyMs < s.now ∧ !s.mw.field.enFault then
      .next (((s.onField fun f => { f with enFault := true }).enablePair).raiseMw 167 (s.target 0 0) [])
    else .next s
  | none => .next s

/-- CURTAIN_PAIR_FAULT (R375). -/
def execCurtainPairFault (s : State) : Result :=
  match s.mw.field.cuDiff with
  | some t =>
    if t + 1000000 * s.mw.cfg.safety.cuDiscrepancyMs < s.now ∧ !s.mw.field.cuFault then
      .next ((s.onField fun f => { f with cuFault := true }).raiseMw 168 (s.target 0 0) [])
    else .next s
  | none => .next s

/-- CURTAIN_DEMAND (R375): a channel of the configured curtain pair is inactive or invalid. -/
def execCurtainDemand (s : State) : Result :=
  if s.mw.cfg.safety.cuA.isSome && !s.curtainPairOk && !s.curtained then .next ((s.startCurtain 3).holdOutputs) else .next s

/-- CURTAIN_STOP_CODE (R413): T_stop after the trigger the stop code becomes 0x01. -/
def execCurtainStopCode (s : State) : Result :=
  match s.mw.trapeze.curtain with
  | some c =>
    if !c.torqueOff && decide (c.t0 + c.tStopNs ≤ s.now) then
      .next (s.onMw fun m => { m with trapeze := { m.trapeze with curtain := some { c with torqueOff := true } } })
    else .next s
  | none => .next s

/-- FIO_WATCHDOG (R368): no refresh for TIMEOUT_NS, counted from the first grant of the token before the first refresh (DEDUCED). -/
def execFioWatchdog (s : State) : Result :=
  if s.phase != .seed && (s.mw.trapeze.token.isSome || s.mw.trapeze.relinquished) && !s.mw.field.wdLatched && decide (s.mw.field.lastRefresh + s.mw.cfg.field.watchdogNs ≤ s.now) then
    let s := s.onField fun f => { f with wdLatched := true, wdRearm := false, refreshFrom := none }
    let s := s.holdOutputs.raiseMw 166 (s.target 0 0) []
    .next ((s.startCurtain 2).holdOutputs)
  else .next s

/-- A refresh: a path 2 heartbeat of the token holder (R368). A gap is more than two heartbeat intervals. -/
def State.refresh (s : State) : State :=
  s.onField fun f => { f with lastRefresh := s.now, refreshFrom := if f.lastRefresh + 10000 < s.now then some s.now else some (f.refreshFrom.getD s.now) }

/-- Refreshes are arriving. -/
def State.refreshing (s : State) : Bool := decide (s.now ≤ s.mw.field.lastRefresh + 10000)

/-- WATCHDOG_AUTO_RESTORE (R368): refreshes without a gap for 10 ms. -/
def execWatchdogAutoRestore (s : State) : Result :=
  match s.mw.field.refreshFrom with
  | some t =>
    if s.mw.field.wdLatched && s.mw.cfg.field.autoRestoreWd && s.refreshing && decide (t + 10000000 ≤ s.now) then
      .next ((s.onField fun f => { f with wdLatched := false }).holdOutputs)
    else .next s
  | none => .next s

/-! ### Encoder ports (R376..R378) -/

/-- t_xfer and DELIVER_NS of a port, rounded up (R377). -/
def CfgEncoder.tXfer (e : CfgEncoder) : Nat := if e.mode = 1 then (e.frameBits * 1000000 + e.clockKhz - 1) / e.clockKhz + 1000 else 200
def CfgEncoder.deliver (e : CfgEncoder) : Nat := e.sampleOffsetNs + e.tXfer + 1000

/-- Binary value of a Gray code: bit i is the exclusive or of the bits from i up. -/
def grayValue (g n : Nat) : Nat :=
  (List.range n).foldl (fun v i => v + 2 ^ i * (((List.range (n - i)).foldl (fun p k => p + b2n (bit g (i + k))) 0) % 2)) 0

/-- An SSI frame as the port reads it: position, ENC_ERROR, PARITY_FAIL (R376). The last bit of the frame is bit 0. -/
def CfgEncoder.readFrame (e : CfgEncoder) (frame : Nat) : Nat × Bool × Bool :=
  let raw := bits frame (e.posLsb + e.posBits - 1) e.posLsb
  let pos := if e.gray then grayValue raw e.posBits else raw
  let err := decide (e.errorBit < e.frameBits) && bit frame (e.frameBits - 1 - e.errorBit)
  let ones := (List.range e.frameBits).foldl (fun n i => n + b2n (bit frame i)) 0
  (pos, err, (decide (e.parity = 1) && decide (ones % 2 = 1)) || (decide (e.parity = 2) && decide (ones % 2 = 0)))

/-- The slot of a port (Table 12.6). -/
def Encoder.slotBytes (x : Encoder) (offset : Nat) : List Byte :=
  le 1 (x.age + 16 * b2n (bit x.status 0 && x.age == 0)) ++ le 1 x.status ++ le 1 x.index ++ zeros 1 ++ le 4 x.count ++ le 4 x.latched ++ le 4 offset

/-- A port's slot at a fired boundary (R377): AGE one more, READY clear, the rest as it was sampled. -/
def Encoder.aged (x : Encoder) : Encoder :=
  let age := min 15 (x.age + 1)
  { x with age := age, sampled := false, slot := le 1 age ++ (padTo 64 x.slot).drop 1 }

/-- ENCODER_FAULT for the first fault of each kind in the interval (R378). -/
def State.encoderFaults (s : State) (n : Fin 4) (kinds : List Nat) : State :=
  let x := s.mw.field.encoders[n]
  let fresh := kinds.filter fun k => !x.raised.contains k
  let s := s.onEncoder n fun y => { y with raised := y.raised ++ fresh }
  fresh.foldl (fun s _ => s.raiseMw 169 (s.channelTarget 2 n.val) []) s

/-- Put a port's slot into the IN window mirror (R377). -/
def State.deliverEncoder (s : State) (n : Fin 4) : State :=
  let e := s.mw.cfg.encoders[n]
  let bs := (s.mw.field.encoders[n]).slotBytes e.sampleOffsetNs
  (s.onEncoder n fun x => { x with slot := bs }).mirror (16 * e.mirrorRing + e.mirrorNode) bs

/-- ENCODER_SAMPLE (R376..R378): at its sample instant a port reads its SSI frame, or latches its count, and delivers it. -/
def execEncoderSample (n : Fin 4) (sample : EncSample) (s : State) : Result :=
  let e := s.mw.cfg.encoders[n]
  let x := s.mw.field.encoders[n]
  if x.sampled || decide (s.now < s.mw.bNs + e.sampleOffsetNs) then .next s
  else match e.mode, sample with
    | 1, .ssi frame idle line =>
      let (pos, err, par) := e.readFrame frame.toNat
      let ok := !err && !par && idle && !line
      let st := packBits [ok, err, par, line, false, !idle]
      let count := if !ok then x.count else match x.prevPos with
        | some p => (((x.count : Int) + toSigned e.posBits ((pos + 2 ^ e.posBits - p % 2 ^ e.posBits) % 2 ^ e.posBits)) % 4294967296).toNat
        | none => pos
      let s := s.onEncoder n fun y => { y with count := count, prevPos := if ok then some pos else y.prevPos, status := st, age := 0, sampled := true, lineFault := line }
      .next ((s.deliverEncoder n).encoderFaults n ([1, 2, 3, 5].filter (bit st)))
    | 2, .incremental line =>
      let st := packBits [!line && !x.countError, false, false, line, x.countError, false]
      let s := s.onEncoder n fun y => { y with status := st, age := 0, sampled := true, lineFault := line }
      .next ((s.deliverEncoder n).encoderFaults n ([3, 4].filter (bit st)))
    | _, _ => .next s

/-- INDEX_EDGE (R376): a rising Z edge. -/
def execIndexEdge (n : Fin 4) (s : State) : Result :=
  let e := s.mw.cfg.encoders[n]
  if e.mode = 2 ∧ e.zEnable then .next (s.onEncoder n fun x => { x with latched := x.count, index := (x.index + 1) % 256 }) else .next s

/-- QUADRATURE_EDGE (R376): one ×4 count. -/
def execQuadratureEdge (n : Fin 4) (forward : Bool) (s : State) : Result :=
  if (s.mw.cfg.encoders[n]).mode = 2 then
    .next (s.onEncoder n fun x => { x with count := (x.count + (if forward then 1 else 4294967295)) % 4294967296 })
  else .next s

/-- COUNT_ERROR (R378): an illegal quadrature transition latches. -/
def execCountError (n : Fin 4) (s : State) : Result :=
  if (s.mw.cfg.encoders[n]).mode = 2 then .next ((s.onEncoder n fun x => { x with countError := true }).encoderFaults n [4]) else .next s

/-! ### Boundaries -/

/-- What a rearm clears at a fired boundary, where the condition has ended (R372, R383). -/
def State.rearmed (s : State) : State :=
  let s := if s.mw.field.wdRearm then s.onField fun f => { f with wdRearm := false, wdLatched := f.wdLatched && !s.refreshing } else s
  let up := fun (s : State) (u : Fin 2) => s.onSupply u fun x => { x with lost := x.lost && !(x.rearm && x.recovered), recovered := x.recovered && !x.rearm, rearm := false }
  let s := up (up s 0) 1
  let s := (List.finRange 16).foldl (fun s i => s.onOut i fun o => if o.rearm then { o with fault := false, cause := 0, rearm := false } else o) s
  let s := (List.finRange 4).foldl (fun s n => s.onEncoder n fun x => if x.rearm then { x with countError := x.countError && x.lineFault, rearm := false } else x) s
  if s.mw.field.cuRearm then s.onField fun f => { f with cuRearm := false, cuFault := f.cuFault && !s.curtainPairOk } else s

/-- A fired boundary at region I: rearms, commanded values, latched inputs, ageing encoder slots (R358, R363, R377, R383). -/
def State.fieldBoundary (s : State) : State :=
  let s := s.holdOutputs.rearmed.commandOutputs.holdOutputs
  let s := (List.finRange 16).foldl (fun s i => if s.driven i then s else s.onOut i fun o => { o with openLoad := false }) s
  let word := (List.finRange 32).foldl (fun w i => if (s.mw.field.ins[i]).active then w ||| (1#32 <<< i.val) else w) 0#32
  let s := s.onField fun f => { f with latched := word, latchedB := s.mw.b }
  let age := fun (s : State) (n : Fin 4) =>
    if (s.mw.cfg.encoders[n]).mode = 0 then s
    else
      let s := s.onEncoder n Encoder.aged
      s.mirror (16 * (s.mw.cfg.encoders[n]).mirrorRing + (s.mw.cfg.encoders[n]).mirrorNode) (s.mw.field.encoders[n]).slot
  (List.finRange 4).foldl age s

/-- Ripe begins: every commanded value starts at the safe value it had in Blossom, with HOLD taken as 0 (R367). -/
def State.fieldRipe (s : State) : State :=
  let go := fun (s : State) (i : Fin 16) =>
    let v := ({ s with phase := .blossom } : State).safeValue i
    s.onOut i fun o => { o with cmd := v, next := none, held := none }
  let s := (List.finRange 16).foldl go s
  s.onField fun f => { f with itemValue := (List.finRange 16).foldl (fun w i => if (f.outs[i]).cmd then w ||| (1#32 <<< i.val) else w) 0#32, itemMask := 0 }

/-! ### Opcodes (R379..R386) -/

/-- CONFIG units of region I. -/
def inUnit (g : Nat) : UnitId := mwUnit 2 0 ⟨g % 32, Nat.mod_lt _ (by decide)⟩
def outUnit (b : Nat) : UnitId := mwUnit 2 1 ⟨b % 32, Nat.mod_lt _ (by decide)⟩
def encUnit (n : Nat) : UnitId := mwUnit 2 2 ⟨n % 32, Nat.mod_lt _ (by decide)⟩
def curtainUnit : UnitId := mwUnit 2 3 0

/-- Class and number of a channel target (Table 3.10). -/
def tClass (w : Word) : Nat := bits (tIndex w) 6 5
def tChannel (w : Word) : Nat := bits (tIndex w) 4 0

/-- `CONFIG_INPUTS` (R379). -/
def bodyConfigInputs (h : HostCmd) (d : DieId) (s : State) : Answer :=
  let p := h.params
  if tKind h.target = 0 then
    let f : Cfg → Cfg := fun c => { c with field := { c.field with types := BitVec.ofNat 8 (rd p 0 1) } }
    s.config d (if decide (15 < rd p 0 1) || !zeroAt p 1 7 then some St.range else none) [inUnit 0, inUnit 1, inUnit 2, inUnit 3] f
  else
    let k : Fin 32 := ⟨tChannel h.target % 32, Nat.mod_lt _ (by decide)⟩
    let new : CfgInput := { filterN := orDefault (rd p 0 2) 1000, chatterLimit := orDefault (rd p 2 1) 16, invert := bit (rd p 3 1) 0,
                            stuckEnable := bit (rd p 3 1) 1, stuckMs := orDefault (rd p 4 4) 60000 }
    let f : Cfg → Cfg := fun c => { c with inputs := c.inputs.set k new }
    s.config d (if decide (rd p 2 1 = 1) || decide (3 < rd p 3 1) || decide (3600000 < rd p 4 4) then some St.range else none) [inUnit (k.val / 8)] f

/-- The grouping rules of R365 over a configuration. -/
def Cfg.groupsOk (c : Cfg) : Bool :=
  (List.finRange 16).all fun i =>
    let g := c.outputs[i]
    let size := if g.group = 1 then 2 else if g.group = 2 then 4 else 1
    size == 1 || (decide (i.val % size = 0) && g.cls == 0 &&
      (List.range size).all fun k => k == 0 || (c.outputs[(i.val + k) % 16]'(Nat.mod_lt _ (by decide))).function == 0)

/-- `CONFIG_OUTPUTS` (R380). -/
def bodyConfigOutputs (h : HostCmd) (d : DieId) (s : State) : Answer :=
  let p := h.params
  if tKind h.target = 0 then
    let a := rd p 0 2
    let b := rd p 2 2
    let ok := fun (v : Nat) => v == 0 || within v 12000 17000
    let v : Vector Nat 2 := #v[orDefault a 15000, orDefault b 15000]
    let w : Vector Bool 2 := #v[bit (rd p 4 1) 0, bit (rd p 4 1) 1]
    let f : Cfg → Cfg := fun c => { c with field := { c.field with upOffMv := v, autoRestoreUp := w, autoRestoreWd := bit (rd p 4 1) 2 } }
    s.config d (if !ok a || !ok b || decide (7 < rd p 4 1) || !zeroAt p 5 3 then some St.range else none) [outUnit 0, outUnit 1] f
  else
    let k : Fin 16 := ⟨tChannel h.target % 16, Nat.mod_lt _ (by decide)⟩
    let new : CfgOutput := { function := rd p 0 1, cls := rd p 1 1, group := rd p 2 1, safe := rd p 3 1, openLoadEnable := bit (rd p 4 1) 0,
                             openLoadMs := orDefault (rd p 8 4) 100 }
    let f : Cfg → Cfg := fun c => { c with outputs := c.outputs.set k new }
    let sh := (s.die d).shadow
    let bad := decide (2 < rd p 0 1) || decide (1 < rd p 1 1) || decide (2 < rd p 2 1) || decide (2 < rd p 3 1) || decide (1 < rd p 4 1) || !zeroAt p 5 3 ||
      decide (10000 < rd p 8 4) || !zeroAt p 12 4 || !(f sh).groupsOk || ((sh.brakeOf k.val).isSome && decide (new.function ≠ 1))
    s.config d (if bad then some St.range else none) [outUnit (k.val / 8)] f

/-- `FIO_WRITE` (R381). A group member is named before it is found to be UNUSED. -/
def bodyFioWrite (h : HostCmd) (d : DieId) (s : State) : Answer :=
  let p := h.params
  let chs := (List.finRange 16).filter fun i => bit (rd p 2 2) i.val
  let c := s.mw.cfg
  if !zeroAt p 4 4 || chs.any fun i => c.leader i != i then reject s St.range
  else if chs.any fun i => (c.outputs[i]).function != 1 || (c.brakeOf i.val).isSome then reject s St.wrongState
  else if !s.isFlier d then answer s
  else answer (chs.foldl (fun s i => s.onOut i fun o => { o with next := some (bit (rd p 0 2) i.val) }) s)

/-- Sixteen bits of a property of the outputs. -/
def outBits (f : Fin 16 → Bool) : List Byte := le 2 (packBits ((List.finRange 16).map f))

/-- `FIO_READ` (R382, Table 12.8). The level of a pin whose READBACK fault is latched is not the part's; nor are the measured supplies, which the rows report only at
their thresholds (R370). -/
def bodyFioRead (_h : HostCmd) (_d : DieId) (s : State) : Answer :=
  let x := s.mw.field
  let ins := fun (f : InChan → Bool) => le 4 (packBits ((List.finRange 32).map fun i => f x.ins[i]))
  let pin := fun (i : Fin 16) => if (x.outs[i]).cause = 3 then decide (Config.unstated [382, i.val, s.now] % 2 = 1) else s.driven i
  let u := x.supplies[0]
  let v := x.supplies[1]
  let measured := fun (k : Nat) => le 2 ((Config.unstated [370, k, s.now]).toNat % 65536)
  answer s
    (le 8 x.latchedB ++ le 4 x.latched.toNat ++ ins InChan.raw ++ ins InChan.valid ++ ins InChan.chatter ++ ins InChan.stuck ++
      outBits (fun i => ((x.outs[i]).next).getD (x.outs[i]).cmd) ++ outBits s.driven ++ outBits pin ++ outBits (fun i => (x.outs[i]).fault) ++
      outBits (fun i => (x.outs[i]).openLoad) ++ outBits (fun i => s.outRow i != 5) ++
      le 1 (packBits [u.low, u.lost, u.high, v.low, v.lost, v.high, u.lost && u.recovered, v.lost && v.recovered]) ++
      le 1 (packBits [x.wdLatched, s.curtained, x.enabled, x.enFault, x.cuFault, s.mw.cfg.safety.cuA.isSome && !s.curtainPairOk]) ++
      measured 0 ++ measured 1 ++ zeros 2 ++
      le 8 ((List.finRange 16).foldl (fun n i => n + 16 ^ i.val * (x.outs[i]).cause) 0) ++
      ((List.finRange 4).map fun n => le 1 (x.encoders[n]).status).flatten ++ zeros 4)

/-- Whether the condition of a channel's fault still stands at a rearm (R383). An overload has ended with the switch off; of the channel's temperature and of a
voltage from outside no row tells, so that either is free. -/
def State.faultStands (s : State) (i : Fin 16) (n : Nat) : Bool := (s.mw.field.outs[i]).cause != 1 && Config.freeBool (n + i.val)

/-- `FIO_REARM` (R383): the latches named clear at the next fired boundary where their condition has ended. -/
def bodyFioRearm (h : HostCmd) (d : DieId) (s : State) : Answer :=
  let p := h.params
  let what := rd p 0 1
  let x := s.mw.field
  if decide (63 < what) || !zeroAt p 1 1 || decide (15 < rd p 4 1) || !zeroAt p 5 3 then reject s St.range
  else
    let named := (List.finRange 16).filter fun i => bit what 3 && bit (rd p 2 2) i.val && (x.outs[i]).fault
    let first := s.draws
    let s := if named.isEmpty then s else { s with draws := s.draws + 16 }
    let chs := named.filter fun i => !s.faultStands i first
    let stay := named.filter fun i => s.faultStands i first
    let encs := (List.finRange 4).filter fun n => bit what 5 && bit (rd p 4 1) n.val && (x.encoders[n]).countError
    let wd := bit what 0 && x.wdLatched
    let up := fun (u : Fin 2) => bit what (u.val + 1) && (x.supplies[u]).lost
    let pair := bit what 4 && (x.cuFault || x.enFault)
    let cleared := packBits [wd && s.refreshing, up 0 && (x.supplies[0]).recovered, up 1 && (x.supplies[1]).recovered, !chs.isEmpty,
      bit what 4 && x.cuFault && s.curtainPairOk, encs.any fun n => !(x.encoders[n]).lineFault]
    let remaining := packBits [wd && !s.refreshing, up 0 && !(x.supplies[0]).recovered, up 1 && !(x.supplies[1]).recovered, !stay.isEmpty,
      pair && (x.enFault || !s.curtainPairOk), encs.any fun n => (x.encoders[n]).lineFault]
    let result := le 1 cleared ++ le 1 remaining ++ outBits (fun i => stay.contains i) ++ zeros 4
    if !s.isFlier d then answer s result
    else
      let s := s.onField fun f => { f with wdRearm := f.wdRearm || wd, cuRearm := f.cuRearm || (bit what 4 && f.cuFault) }
      let mark := fun (s : State) (u : Fin 2) => if up u && (x.supplies[u]).recovered then s.onSupply u fun y => { y with rearm := true } else s
      let s := mark (mark s 0) 1
      let s := chs.foldl (fun s i => s.onOut i fun o => { o with rearm := true }) s
      answer (encs.foldl (fun s n => s.onEncoder n fun y => { y with rearm := true }) s) result

/-- `CONFIG_WATCHDOG` (R384). -/
def bodyConfigWatchdog (h : HostCmd) (d : DieId) (s : State) : Answer :=
  let p := h.params
  let t := rd p 0 4
  let f : Cfg → Cfg := fun c => { c with field := { c.field with watchdogNs := orDefault t 1000000 } }
  s.config d (if !(t == 0 || within t 100000 1000000000) || !zeroAt p 4 4 then some St.range else none) [curtainUnit] f

/-- The period conditions of a port (R385). -/
def CfgEncoder.fits (e : CfgEncoder) (tS : Nat) : Bool := decide (2 * e.deliver ≤ tS) && decide (e.tXfer + e.monoflopNs ≤ tS)

/-- Every port in use meets its period conditions (R385). -/
def Cfg.encodersFit (c : Cfg) : Bool := c.encoders.toList.all fun e => e.mode == 0 || e.fits c.periods.tS

/-- `CONFIG_ENCODER` (R385). A MIRROR on a ring the variant lacks counts as a field outside its range: R385 lists no UNIT_ABSENT. DESIGN CHOICE. -/
def bodyConfigEncoder (h : HostCmd) (d : DieId) (s : State) : Answer :=
  let p := h.params
  let k : Fin 4 := ⟨tChannel h.target % 4, Nat.mod_lt _ (by decide)⟩
  let new : CfgEncoder :=
    { mode := rd p 0 1, mirrorRing := bits (rd p 1 1) 6 4, mirrorNode := bits (rd p 1 1) 3 0, gray := bit (rd p 2 1) 0, zEnable := bit (rd p 2 1) 1,
      errorBit := rd p 3 1, clockKhz := orDefault (rd p 4 2) 1000, frameBits := rd p 6 1, posBits := rd p 7 1, posLsb := rd p 8 1, parity := rd p 9 1,
      sampleOffsetNs := rd p 12 4, monoflopNs := orDefault (rd p 16 4) 20000, filterNs := orDefault (rd p 20 2) 40 }
  let sh := (s.die d).shadow
  let bad := decide (2 < new.mode) || bit (rd p 1 1) 7 || decide (3 < rd p 2 1) || !(decide (new.errorBit ≤ 39) || new.errorBit == 255) ||
    !within new.clockKhz 100 4000 || !within new.frameBits 8 40 || !within new.posBits 8 32 || decide (new.frameBits < new.posBits) ||
    decide (new.frameBits - new.posBits < new.posLsb) || decide (2 < new.parity) || !zeroAt p 10 2 || decide (sh.periods.tS < 2 * new.sampleOffsetNs) ||
    !within new.monoflopNs 1000 100000 || !within new.filterNs 40 1000 || !zeroAt p 22 10 || !new.fits sh.periods.tS || decide (s.rings ≤ new.mirrorRing)
  let f : Cfg → Cfg := fun c => { c with encoders := c.encoders.set k new }
  s.config d (if bad then some St.range else none) [encUnit k.val] f (le 4 new.deliver)

/-- An input number of a safety pair: `none` for 0xFF. -/
def pairInput (v : Nat) : Option (Fin 32) := if h : v < 32 then some ⟨v, h⟩ else none

/-- `CONFIG_SAFETY_INPUTS` (R386). -/
def bodyConfigSafetyInputs (h : HostCmd) (d : DieId) (s : State) : Answer :=
  let p := h.params
  let v := (List.range 4).map fun i => rd p i 1
  let pairOk := fun (a b : Nat) => (a == 255 && b == 255) || (decide (a < 32) && decide (b < 32) && decide (a / 8 ≠ b / 8))
  let shared := [rd p 0 1, rd p 1 1].any fun a => a != 255 && (a == rd p 2 1 || a == rd p 3 1)
  let new : CfgSafety := { enA := pairInput (rd p 0 1), enB := pairInput (rd p 1 1), cuA := pairInput (rd p 2 1), cuB := pairInput (rd p 3 1),
                           enDiscrepancyMs := orDefault (rd p 4 2) 500, cuDiscrepancyMs := orDefault (rd p 6 2) 100, cuFilterN := orDefault (rd p 8 2) 1000 }
  let bad := v.any (fun a => decide (31 < a) && a != 255) || !pairOk (rd p 0 1) (rd p 1 1) || !pairOk (rd p 2 1) (rd p 3 1) || shared ||
    !within new.enDiscrepancyMs 10 5000 || !within new.cuDiscrepancyMs 10 5000 || !within new.cuFilterN 1 10000 || !zeroAt p 10 6
  let f : Cfg → Cfg := fun c => { c with safety := new }
  s.config d (if bad then some St.range else none) [curtainUnit] f

/-- MW takes a new field configuration (R53, R359, R375): filters whose FILTER_N or INVERT changes, and those of a new curtain pair, are
preset from the current sample; an encoder port that starts or is set anew starts without a position. -/
def State.fieldApply (s : State) (old new : Cfg) : State :=
  let s := (List.finRange 32).foldl (fun (s : State) (i : Fin 32) =>
    let a := old.inputs[i]
    let b := new.inputs[i]
    if a.filterN = b.filterN ∧ a.invert = b.invert then s else s.onIn i fun x => x.preset b.filterN b.invert s.now) s
  let one := fun (s : State) (i : Option (Fin 32)) => match i with
    | some k => if (s.mw.field.ins[k]).raw != (new.inputs[k]).invert then ({ c := new.safety.cuFilterN, out := true } : Debounce) else {}
    | none => {}
  let s := if old.safety.cuA = new.safety.cuA ∧ old.safety.cuB = new.safety.cuB ∧ old.safety.cuFilterN = new.safety.cuFilterN then s
    else s.onField fun f => { f with cuA := one s new.safety.cuA, cuB := one s new.safety.cuB, cuDiff := none }
  let s := (List.finRange 4).foldl (fun (s : State) (n : Fin 4) =>
    if old.encoders[n] = new.encoders[n] then s
    else s.onEncoder n fun x => { raised := x.raised, count := 0 }) s
  s.enablePair.curtainPair.holdOutputs

end Sys2Proof.Machine
end

