-- ==== Sys2Proof/Machine/Time.lean ====
section
/-! DEFINITION. Time bases, PTP, time pulses and their opcodes (chapter 11: R331..R340, R346..R353). -/

namespace Sys2Proof.Machine

/-- Change a time base. -/
def State.onTb (s : State) (n : Fin 4) (f : TimeBase → TimeBase) : State := s.onMw fun m => { m with tb := m.tb.set n (f m.tb[n]) }

/-- Change a PTP clock: 0 on TB0, 1 on TB3. -/
def State.onPtp (s : State) (n : Fin 2) (f : Ptp → Ptp) : State := s.onMw fun m => { m with ptp := m.ptp.set n (f m.ptp[n]) }

/-- 40 ns in 32.32, and the ppm that stand for a number of units. -/
def nominalInc : Nat := 171798691840
def ppm100 : Nat := 17179869
def ppm500 : Nat := 85899345

/-- The base of a clock. -/
def ptpBase (n : Fin 2) : Fin 4 := if n.val = 0 then 0 else 3

/-- Configuration of a clock. -/
def Cfg.ptp (c : Cfg) (n : Fin 2) : CfgPtp := if n.val = 0 then c.ptp0 else c.ptp3

/-- The nanoseconds a base counts before its 48-bit seconds wrap (R331). -/
def tbSpan : Nat := 2 ^ 48 * 1000000000

/-- One tick of a base (R331): its step, then its increment. -/
def TimeBase.tick (x : TimeBase) : TimeBase :=
  let v : Int := ((x.ns : Int) + x.step) * 4294967296 + x.frac + x.inc
  let n := (v % (tbSpan * 4294967296 : Nat)).toNat
  { x with ns := n / 4294967296, frac := n % 4294967296, step := 0 }

/-- A base moved by whole nanoseconds. -/
def TimeBase.shift (x : TimeBase) (v : Int) : TimeBase := { x with ns := (((x.ns : Int) + v) % (tbSpan : Nat)).toNat }

/-- Number of the last active edge of TPO at or before now: edges lie at base times t with (t − PHASE) mod PERIOD = 0 (R340). -/
def State.tpoIndex (s : State) : Int :=
  let c := s.mw.cfg.tpo
  Int.fdiv (((s.mw.tb[c.source % 4]'(Nat.mod_lt _ (by decide))).ns : Int) - c.phase) c.period

/-- Once a step has taken the source base of TPO back across edges it has driven, it drives them again as they come (R340). -/
def State.tpoBack (s : State) : State :=
  match s.mw.tpo.lastEdge with
  | some k => if s.tpoIndex < k then s.onMw fun m => { m with tpo := { m.tpo with lastEdge := some s.tpoIndex } } else s
  | none => s

/-! ### Egress of the cell switch (R329, R336, R337, R343) -/

/-- Change the network. -/
def State.onNet (s : State) (f : Network → Network) : State := s.onMw fun m => { m with net := f m.net }

/-- Change a cell port. -/
def State.onCell (s : State) (n : Fin 6) (f : CellPort → CellPort) : State := s.onNet fun x => { x with ports := x.ports.set n (f x.ports[n]) }

/-- Close a frame with its FCS. -/
def fcsClose (f : List Byte) : List Byte := f ++ le 4 (crc32 f).toNat

/-- The frame as it leaves a port, with FCS. -/
def EthFrame.egress (f : EthFrame) (untagged : Bool) : List Byte :=
  fcsClose (be 6 f.dst ++ be 6 f.src ++ (if untagged then [] else be 2 0x8100 ++ be 2 (f.pcp * 8192 + f.vid)) ++ f.rest)

/-- Bytes of a queued frame on the wire, FCS included. -/
def Queued.size (q : Queued) : Nat := 16 + (if q.untagged then 0 else 4) + q.frame.rest.length

/-- Add to the correctionField of a PTP message (R337), in 2⁻¹⁶ ns. -/
def EthFrame.corrected (f : EthFrame) (v : Int) : EthFrame :=
  { f with rest := splice f.rest 10 (be 8 ((((beNat ((f.rest.drop 10).take 8) : Nat) : Int) + v) % (2 ^ 64 : Nat)).toNat) }

/-- What MW writes into a frame as it leaves (R336, R337, R343). -/
def State.marked (s : State) (q : Queued) : EthFrame :=
  match q.mark with
  | .plain | .request _ _ => q.frame
  | .residence inst t =>
    let inc := match inst with
      | some k => (s.mw.tb[ptpBase k]).inc
      | none => nominalInc
    q.frame.corrected (((s.mw.tb[1]).ns - t) * 65536 * inc / nominalInc : Nat)
  | .stamp b o => { q.frame with rest := splice q.frame.rest o (Sys2Proof.Machine.stamp (s.mw.tb[b]).ns) }
  | .ptpStamp b o => { q.frame with rest := splice q.frame.rest o (be 6 ((s.mw.tb[b]).ns / 1000000000) ++ be 4 ((s.mw.tb[b]).ns % 1000000000)) }
  | .turnaround b t => q.frame.corrected ((((s.mw.tb[b]).ns : Int) - t) * 65536)

/-- A frame starts to leave a port. -/
def State.transmit (s : State) (p : Fin 6) (q : Queued) : State :=
  let s := s.onCell p fun x => { x with tx := sat32 (x.tx + 1), tcCorrected := match q.mark with
    | .residence _ _ => sat32 (x.tcCorrected + 1)
    | _ => x.tcCorrected }
  let s := match q.mark with
    | .request inst seq => s.onPtp inst fun c => { c with delayPend := some (seq, (s.mw.tb[ptpBase inst]).ns) }
    | _ => s
  s.emit (.cellFrame p.val q.cls ((s.marked q).egress q.untagged))

/-- The frame a port sends next: of the highest class with one waiting, the oldest (R329). -/
def nextQueued (l : List Queued) : Option Queued := [3, 2, 1, 0].findSome? fun k => l.find? fun q => q.cls == k

/-- Tenths of a nanosecond a byte takes on the wire (Table 11.1). -/
def CfgPort.byteTime (c : CfgPort) : Nat := if c.mode = 2 then 32 else 80

/-- A port over one tick of the reference (R329): once the frame before, its preamble and gap are over, the next one starts. -/
def State.wireTick (s : State) (p : Fin 6) : State :=
  let left := s.mw.net.wires[p]
  if 400 < left then s.onNet fun x => { x with wires := x.wires.set p (left - 400) }
  else match nextQueued s.mw.net.queues[p] with
    | none => if left = 0 then s else s.onNet fun x => { x with wires := x.wires.set p 0 }
    | some q =>
      let cost := (q.size + 20) * (s.mw.cfg.ports[p]).byteTime
      (s.onNet fun x => { x with queues := x.queues.set p (x.queues[p].erase q), wires := x.wires.set p (left + cost - 400) }).transmit p q

/-- The next nominal instant of TB2 after a forced step: the first that is reached at least T_s/2 after the previous fired boundary (R334). -/
def State.regrid (s : State) : Nat :=
  let tS := s.mw.grid.tS
  let ph := s.mw.grid.phase
  let wait := s.mw.bNs + tS / 2 - s.now
  let from_ := (s.mw.tb[2]).ns + wait
  ph + (from_ - ph + tS - 1) / tS * tS

/-- TIME_BASE_TICK (R331): every base advances by its increment; the cell ports send on (R329). A step of TB2 moves the next boundary (R334), one of TPO's source its
edges (R340). -/
def execTimeBaseTick (s : State) : Result :=
  let step2 := (s.mw.tb[2]).step ≠ 0
  let s := s.onMw fun m => { m with ticks := m.ticks + 1, tb := m.tb.map TimeBase.tick }
  let s := (if step2 then s.onMw fun m => { m with nextNominal := s.regrid } else s).tpoBack
  .next ((List.finRange 6).foldl (fun s p => s.wireTick p) s)

/-- The source base of TB2, none where it is free (R332). -/
def Cfg.tb2From (c : Cfg) : Option (Fin 4) :=
  match c.tb2Source with
  | .free => none
  | .tb0 => some 0
  | .tb3 => some 3

/-- TB2 at a boundary (R332, R333): pending slew at no more than 40 ns; with a source, its increment clamped to ±100 ppm and the difference
slewed; TB2_LOCKED and TB2_UNLOCKED. -/
def State.tb2Follow (s : State) : State :=
  let clamp := fun (x : Int) => max (-40) (min 40 x)
  match s.mw.cfg.tb2From with
  | none =>
    let v := clamp (s.mw.tb[2]).slew
    s.onTb 2 fun t => { t.shift v with slew := t.slew - v }
  | some k =>
    let src := s.mw.tb[k]
    let inc := max (nominalInc - ppm100) (min (nominalInc + ppm100) src.inc)
    let v := clamp ((src.ns : Int) - (s.mw.tb[2]).ns)
    let s := s.onTb 2 fun t => { t.shift v with inc := inc, slew := (src.ns : Int) - ((t.ns : Int) + v) }
    let diff := ((src.ns : Int) - (s.mw.tb[2]).ns).natAbs
    if diff ≤ 100 then s.onMw fun m => { m with tb2Locked := true }
    else if 1000 < diff ∧ s.mw.tb2Locked then (s.onMw fun m => { m with tb2Locked := false }).raiseMw 132 (s.target 9 2) []
    else s

/-! ### Offsets (R333, R334) -/

/-- JUMP_THRESHOLD of a base: 1 µs for TB2, which has no clock. -/
def Cfg.jump (c : Cfg) (n : Fin 4) : Nat := if n.val = 0 then c.ptp0.jump else if n.val = 3 then c.ptp3.jump else 1000

/-- An offset that is not applied: TIME_JUMP (R333, R497). -/
def State.timeJump (s : State) (n : Fin 4) (origin : Nat) (delta : Int) : State :=
  let s := if n.val = 0 then s.onPtp 0 fun p => { p with jumpsRefused := sat32 (p.jumpsRefused + 1) }
    else if n.val = 3 then s.onPtp 1 fun p => { p with jumpsRefused := sat32 (p.jumpsRefused + 1) } else s
  s.raiseMw 130 (s.target 9 n.val) (le 1 n.val ++ le 1 origin ++ zeros 6 ++ leInt 8 delta)

/-- Apply an offset to a base; false where it is above the threshold (R333). -/
def State.offset (s : State) (n : Fin 4) (origin : Nat) (delta : Int) : State × Bool :=
  let thr := s.mw.cfg.jump n
  let sum := if n.val = 2 then (s.mw.tb[n]).slew + delta else delta
  if delta.natAbs ≤ thr ∧ sum.natAbs ≤ thr then
    (if n.val = 2 then s.onTb n fun t => { t with slew := sum } else s.onTb n fun t => { t with step := t.step + delta }, true)
  else (s.timeJump n origin delta, false)

/-- The effects of a forced step (R334), which leaves `step` to be applied at the next tick. It ends the slew of a firmware servo that waits for it (R338): the
servo starts afresh, at an increment within Table 11.3, which is not stated. -/
def State.forceStep (s : State) (n : Fin 4) (step : Int) : State :=
  let slews := (s.mw.tb[n]).jumpPending
  let (k, s) := s.draw
  let s := s.onTb n fun t => { t with step := step, slew := if n.val = 2 then 0 else t.slew, jumpPending := false,
                                      inc := if slews then nominalInc - ppm500 + Config.freeNat k % (2 * ppm500 + 1) else t.inc,
                                      servoLocked := t.servoLocked && n.val == 2, lockRun := 0 }
  let fresh : Ptp → Ptp := fun p => { p with fresh := false, syncPend := none, lastSync := none, delayPend := none, peerPend := none }
  let s := if n.val = 0 then s.onPtp 0 fresh else if n.val = 3 then s.onPtp 1 fresh else s
  let s := if n.val = 0 then
      let s := s.onMw fun m => { m with interval := { m.interval with forced := true } }
      s.onLive fun d s => s.onDie d fun x => { x with sep := { x.sep with stepped := true } }
    else s
  if n.val = 0 ∨ n.val = 3 then s.raiseMw 131 (s.target 9 n.val) [] else s

/-! ### PTP (R335..R338) -/

/-- The clock acts as a time receiver. -/
def State.receives (s : State) (n : Fin 2) : Bool :=
  let c := s.mw.cfg.ptp n
  c.enable && (c.role == 0 || (c.role == 1 && (s.mw.ptp[n]).portState == 9))

/-- The firmware servo disciplines the base (R338). -/
def State.firmwareServo (s : State) (n : Fin 2) : Bool := s.receives n && !(s.mw.cfg.ptp n).servoHost

/-- The firmware of the Flier runs (R338). -/
def State.firmwareRuns (s : State) : Bool := allDies.any fun d => s.isFlier d && (s.die d).live

/-- Nanoseconds of a log interval. -/
def logNs (l : Int) : Nat := if 0 ≤ l then 1000000000 * 2 ^ l.toNat else 1000000000 / 2 ^ (-l).toNat

/-- The firmware servo at a Sync interval (R338). The increment it writes within Table 11.3 is not stated. -/
def State.servoStep (s : State) (inst : Fin 2) : State :=
  let n := ptpBase inst
  let p := s.mw.ptp[inst]
  let o := p.offsetNs
  let s := s.onPtp inst fun p => { p with fresh := false }
  let (k, s) := s.draw
  let small := decide (o.natAbs ≤ 100)
  let s := s.onTb n fun t =>
    let run := if small then min 16 (t.lockRun + 1) else 0
    { t with lockRun := run, servoLocked := decide (16 ≤ run) }
  if o.natAbs ≤ s.mw.cfg.jump n then
    let (s, _) := s.offset n 1 (-o)
    s.onTb n fun t => { t with inc := nominalInc - ppm500 + Config.freeNat k % (2 * ppm500 + 1), jumpPending := false }
  else
    let was := (s.mw.tb[n]).jumpPending
    let s := s.onTb n fun t => { t with jumpPending := true, inc := if 0 < o then nominalInc - ppm500 else nominalInc + ppm500 }
    if was then s else s.timeJump n 1 (-o)

/-! ### Time pulses (R339, R340) -/

/-- TPI_EDGE (R339): stamped on the stream's base to 1 ns; beyond 10,000 edges in a second of TB1 counted in TPI_LOST. -/
def execTpiEdge (edge_ : PinEdge) (s : State) : Result :=
  let rising := edge_.rising
  let sec := (s.mw.tb[1]).ns / 1000000000
  let edge := if rising then 1 else 2
  let open_ := allDies.filterMap fun d => (s.die d).rm.streams.find? fun t => t.opcode == 0x0121
  let listens := fun (t : Stream) => bit (t.args.getD 0 0) (if rising then 0 else 1)
  let s := if open_.isEmpty || open_.any listens then s.onMw fun m => { m with tpi := { m.tpi with count := sat32 (m.tpi.count + 1) } } else s
  if !open_.any listens then .next s
  else
    let s := s.onMw fun m => { m with tpi := { m.tpi with second := sec, inSecond := if m.tpi.second = sec then m.tpi.inSecond + 1 else 1 } }
    if 10000 < s.mw.tpi.inSecond then
      let was := s.mw.tpi.overrun
      let s := s.onMw fun m => { m with tpi := { m.tpi with lost := sat32 (m.tpi.lost + 1), overrun := true } }
      .next (if was then s else s.raiseMw 133 (s.target 0 0) [])
    else
      let rec_ := fun (t : Stream) => stamp ((s.mw.tb[t.args.getD 1 0 % 4]'(Nat.mod_lt _ (by decide))).ns + edge_.sub.val) ++ le 1 edge ++ zeros 5 ++ le 8 s.mw.b ++ le 4 s.mw.tpi.count ++ zeros 4
      .next (s.onLive fun d s => s.stream d 0x0121 1 false listens s.epoch rec_)

/-- The last tick has brought the source base of TPO past an edge (R340): less than one increment has gone by since. -/
def State.tpoDue (s : State) : Bool :=
  let c := s.mw.cfg.tpo
  let x := s.mw.tb[c.source % 4]'(Nat.mod_lt _ (by decide))
  decide (((x.ns : Int) - c.phase - s.tpoIndex * c.period) ≤ x.inc / 4294967296)

/-- TPO_EDGE (R340): the active edge of PERIODIC. -/
def execTpoEdge (s : State) : Result :=
  let c := s.mw.cfg.tpo
  if c.mode = 1 ∧ s.tpoDue ∧ !s.mw.tpo.pulse ∧ s.mw.tpo.lastEdge ≠ some s.tpoIndex then
    .next (s.onMw fun m => { m with tpo := { level := c.polarity == 0, pulse := true, endNs := s.now + c.width, lastEdge := some s.tpoIndex } })
  else .next s

/-- TPO_PULSE_END (R340). -/
def execTpoPulseEnd (s : State) : Result :=
  if s.mw.tpo.pulse && decide (s.mw.tpo.endNs ≤ s.now) then
    .next (s.onMw fun m => { m with tpo := { m.tpo with level := m.cfg.tpo.mode == 1 && m.cfg.tpo.polarity != 0, pulse := false } })
  else .next s

/-- TPO at a fired boundary: in LEVEL mode the word the items wrote (R340, R363). -/
def State.tpoBoundary (s : State) : State :=
  if s.mw.cfg.tpo.mode = 2 ∧ !s.mw.tpo.pulse then
    match s.mw.field.tpoLevel with
    | some v => s.onMw fun m => { m with tpo := { m.tpo with level := v } }
    | none => s
  else s

/-- MW takes a new TPO setting (R53): off and idle levels at once; a pulse in progress completes. -/
def State.tpoApply (s : State) (old new : CfgTpo) : State :=
  if old = new then s
  else s.onMw fun m => { m with tpo := { m.tpo with
    level := if m.tpo.pulse then m.tpo.level else if new.mode = 1 then new.polarity != 0 else if new.mode = 2 then m.tpo.level else false,
    lastEdge := some s.tpoIndex } }

/-- MW takes a new SOURCE of TB2 (R332): what was left to slew after the old one is dropped, and TB2_LOCKED waits for the new one. DESIGN CHOICE. -/
def State.tb2Apply (s : State) (old new : Cfg) : State :=
  if old.tb2Source = new.tb2Source then s else (s.onTb 2 fun t => { t with slew := 0 }).onMw fun m => { m with tb2Locked := false }

/-! ### Opcodes (R346..R353) -/

/-- A time base of a target of that kind. -/
def tBase (w : Word) : Fin 4 := ⟨tIndex w % 4, Nat.mod_lt _ (by decide)⟩

/-- FLAGS of a base (Table 11.6); a base whose servo has JUMP_PENDING is slewing (R338). -/
def State.tbFlags (s : State) (n : Fin 4) : Nat :=
  let t := s.mw.tb[n]
  packBits [n.val == 2 && s.mw.tb2Locked, t.slew != 0 || t.jumpPending, t.jumpPending, t.servoLocked]

/-- `TIME_GET` (R346). -/
def bodyTimeGet (_h : HostCmd) (_d : DieId) (s : State) : Answer :=
  let one := fun (n : Fin 4) => stamp (s.mw.tb[n]).ns ++ le 1 (s.tbFlags n) ++ zeros 5 ++ le 8 (s.mw.tb[n]).inc
  answer s (le 8 s.mw.b ++ le 8 s.mw.ticks ++ ((List.finRange 4).map one).flatten)

/-- TB1, or TB2 with a source: the state forbids a change (R347). -/
def State.tbFixed (s : State) (n : Fin 4) : Bool := n.val == 1 || (n.val == 2 && s.mw.cfg.tb2From.isSome)

/-- `TIME_SET_INCREMENT` (R347). -/
def bodyTimeSetIncrement (h : HostCmd) (d : DieId) (s : State) : Answer :=
  let n := tBase h.target
  let inc := rd h.params 0 8
  let servo := (n.val == 0 && s.firmwareServo 0) || (n.val == 3 && s.firmwareServo 1)
  let lim := if n.val = 2 then ppm100 else ppm500
  if s.tbFixed n || servo then reject s St.wrongState
  else if !within inc (nominalInc - lim) (nominalInc + lim) then reject s St.range
  else answer (if s.isFlier d then s.onTb n fun t => { t with inc := inc } else s)

/-- `TIME_OFFSET` (R348). -/
def bodyTimeOffset (h : HostCmd) (d : DieId) (s : State) : Answer :=
  let n := tBase h.target
  if s.tbFixed n then reject s St.wrongState
  else
    let r := s.offset n 0 (rdS h.params 0 8)
    if r.2 then answer (if s.isFlier d then r.1 else s) else reject (if s.isFlier d then r.1 else s) St.timeJumpRefused

/-- `TIME_FORCE_STEP` (R349): relative to where the base will stand with what is still to be stepped, or to TIME whatever is. -/
def bodyTimeForceStep (h : HostCmd) (d : DieId) (s : State) : Answer :=
  let p := h.params
  let n := tBase h.target
  let x := s.mw.tb[n]
  let now : Int := x.ns
  let step : Option Int := match rd p 0 1 with
    | 0 => if 0 ≤ now + x.step + rdS p 16 8 then some (x.step + rdS p 16 8) else none
    | 1 => (rdStamp p 6).map fun t => (t : Int) - now
    | _ => none
  if s.tbFixed n || (n.val == 2 && (s.die s.lead).anyEnabled) then reject s St.wrongState
  else if !zeroAt p 1 5 || (rdStamp p 6).isNone then reject s St.range
  else match step with
    | none => reject s St.range
    | some v => answer (if s.isFlier d then s.forceStep n v else s)

/-- Units of the time cluster (Table 1.4). -/
def timeUnit (u : Nat) : UnitId := mwUnit 1 1 ⟨u % 32, Nat.mod_lt _ (by decide)⟩

/-- Mode of a cell port in a configuration. -/
def Cfg.portMode (c : Cfg) (n : Nat) : Nat := if h : n < 6 then (c.ports[n]).mode else 0

/-- An 802.1AS clock names a port in MODE 0 (R350); `enabled` asks only of enabled clocks. -/
def Cfg.gptpBad (c : Cfg) (enabled : Bool) : Bool :=
  [c.ptp0, c.ptp3].any fun p => p.profile == 1 && (!enabled || p.enable) && c.portMode p.ptpPort == 0

/-- `CONFIG_PTP` (R350). -/
def bodyConfigPtp (h : HostCmd) (d : DieId) (s : State) : Answer :=
  let p := h.params
  let n := tBase h.target
  if n.val = 1 then reject s St.badTarget
  else if n.val = 2 then
    let src : Tb2Source := match rd p 14 1 with
      | 1 => .tb0
      | 2 => .tb3
      | _ => .free
    let f : Cfg → Cfg := fun c => { c with tb2Source := src }
    s.config d (if !zeroAt p 0 14 || decide (2 < rd p 14 1) || !zeroAt p 15 1 then some St.range else none) [timeUnit 2] f
  else
    let new : CfgPtp :=
      { enable := bit (rd p 0 1) 0, profile := rd p 1 1, role := rd p 2 1, domain := rd p 3 1, priority1 := rd p 4 1, priority2 := rd p 5 1,
        clockClass := rd p 6 1, servoHost := bit (rd p 7 1) 0, logSync := rdS p 8 1, logAnnounce := rdS p 9 1, logDelay := rdS p 10 1,
        ptpPort := rd p 11 1, jump := orDefault (rd p 12 2) 1000 }
    let f : Cfg → Cfg := fun c => if n.val = 0 then { c with ptp0 := new } else { c with ptp3 := new }
    let c := f (s.die d).shadow
    let bad := decide (1 < rd p 0 1) || decide (1 < new.profile) || decide (2 < new.role) || decide (127 < new.domain) || decide (1 < rd p 7 1) ||
      decide (new.logSync < -7) || decide (1 < new.logSync) || decide (new.logAnnounce < -3) || decide (3 < new.logAnnounce) ||
      decide (new.logDelay < -7) || decide (5 < new.logDelay) || decide (5 < new.ptpPort) || !within new.jump 100 65000 || !zeroAt p 14 2 ||
      c.ptp0.domain == c.ptp3.domain || (decide (new.profile = 1) && decide (c.portMode new.ptpPort = 0))
    s.config d (if bad then some St.range else none) [timeUnit n.val, timeUnit 6] f

/-- `PTP_STATUS` (R351). -/
def bodyPtpStatus (h : HostCmd) (_d : DieId) (s : State) : Answer :=
  let n := tBase h.target
  if n.val ≠ 0 ∧ n.val ≠ 3 then reject s St.badTarget
  else
    let inst : Fin 2 := if n.val = 0 then 0 else 1
    let p := s.mw.ptp[inst]
    let st := if (s.mw.cfg.ptp inst).enable then p.portState else 3
    let ppb := Int.fdiv ((((s.mw.tb[n]).inc : Int) - nominalInc) * 1000000000) nominalInc
    answer s (le 1 st ++ le 1 (s.tbFlags n) ++ le 2 p.stepsRemoved ++ zeros 4 ++ le 8 p.gmIdentity.toNat ++ leInt 8 p.offsetNs ++ le 4 p.meanPath ++
      leInt 4 ppb ++ le 4 p.jumpsRefused ++ zeros 4 ++ le 8 p.lastSyncB)

/-- `CONFIG_TPO` (R352). -/
def bodyConfigTpo (h : HostCmd) (d : DieId) (s : State) : Answer :=
  let p := h.params
  let new : CfgTpo := { mode := rd p 0 1, source := rd p 1 1, polarity := rd p 2 1, period := rd p 4 4, phase := rd p 8 4, width := rd p 12 4 }
  let bad := decide (2 < new.mode) || decide (3 < new.source) || decide (1 < new.polarity) || !zeroAt p 3 1 || !within new.period 1000 1000000000 ||
    decide (1000000000 % new.period ≠ 0) || decide (new.period ≤ new.phase) || decide (new.width < 100) || decide (new.period < new.width + 100)
  let f : Cfg → Cfg := fun c => { c with tpo := new }
  s.config d (if bad then some St.range else none) [timeUnit 5] f

/-- `TPI_STREAM` (R353). -/
def bodyTpiStream (h : HostCmd) (d : DieId) (s : State) : Answer :=
  let p := h.params
  let on := rd p 0 1
  if decide (1 < on) || !zeroAt p 3 5 || (on == 1 && (!within (rd p 1 1) 1 3 || decide (3 < rd p 2 1))) then reject s St.range
  else if on = 0 then answer (s.closeStream d 0x0121 h.target)
  else
    let s := s.openStream d 0x0121 h [rd p 1 1, rd p 2 1]
    answer (if s.isFlier d then s.onMw fun m => { m with tpi := { m.tpi with count := 0 } } else s)

end Sys2Proof.Machine
end

