-- ==== Sys2Proof/Machine/Switch.lean ====
section
/-! DEFINITION. The cell switch (chapter 11: R327..R329, R337, R342): links, frames, where they go and when they leave. -/

namespace Sys2Proof.Machine

/-! ### Access -/

/-- Target word of a cell port. -/
def State.cellTarget (s : State) (n : Nat) : Word := s.target 10 n

/-! ### Links (R328) -/

/-- The link of a cell port is up (R328): code-group synchronisation, and what MODE asks of the other side: auto-negotiation complete with full duplex unless
it is switched off, or an SGMII control word that reports link at 1000 Mb/s and full duplex. -/
def CfgPort.linkUp (c : CfgPort) (sync partner : Bool) : Bool :=
  match c.mode with
  | 1 => sync && (partner || c.anDisable)
  | 2 => sync
  | 3 => sync && partner
  | _ => false

/-- What a port has waiting is lost with its link (R328). -/
def Network.cutPort (x : Network) (p : Fin 6) : Network := { x with queues := x.queues.set p [], wires := x.wires.set p 0 }

/-- A port's link follows what it hears and its configuration (R328): each fall is counted and its cause kept. -/
def State.cellLink (s : State) (port : Fin 6) : State :=
  let x := s.mw.net.ports[port]
  let c := s.mw.cfg.ports[port]
  let up := c.linkUp x.sync x.partner
  if x.raw = up then s
  else if up then s.onCell port fun p => { p with raw := true, rawNs := s.now, been := true }
  else
    let cause := if !x.sync then 0 else if c.mode = 3 then 2 else 1
    (s.onNet fun n => n.cutPort port).onCell port fun p => { p with raw := false, rawNs := s.now, cause := cause, downs := sat32 (p.downs + 1) }

/-- CELL_LINK_CHANGE (R328): synchronisation or the partner's word at a port changes, and its link with them. -/
def execCellLinkChange (port : Fin 6) (sync partner : Bool) (s : State) : Result :=
  if (s.mw.cfg.ports[port]).mode = 0 then .next s
  else .next ((s.onCell port fun p => { p with sync := sync, partner := partner }).cellLink port)

/-- Data of the link events. -/
def State.linkData (s : State) (port : Fin 6) (cause : Nat) : List Byte :=
  le 1 port.val ++ le 1 (s.mw.cfg.portMode port.val) ++ le 1 cause ++ zeros 1 ++ le 4 (s.mw.net.ports[port]).downs

/-- CELL_LINK_DOWN (R328): down for 1 ms without a break after having been up. -/
def execCellLinkDown (port : Fin 6) (s : State) : Result :=
  let x := s.mw.net.ports[port]
  if s.mw.cfg.portMode port.val ≠ 0 ∧ x.been ∧ !x.raw ∧ x.rawNs + 1000000 ≤ s.now then
    .next ((s.onCell port fun p => { p with reported := false, been := false }).raiseMw 128 (s.cellTarget port.val) (s.linkData port x.cause))
  else .next s

/-- CELL_LINK_UP (R328): up for 10 ms without a break. -/
def execCellLinkUp (port : Fin 6) (s : State) : Result :=
  let x := s.mw.net.ports[port]
  if s.mw.cfg.portMode port.val ≠ 0 ∧ !x.reported ∧ x.raw ∧ x.rawNs + 10000000 ≤ s.now then
    .next ((s.onCell port fun p => { p with reported := true }).raiseMw 129 (s.cellTarget port.val) (s.linkData port 0))
  else .next s

/-! ### Frames (R329, R337) -/

/-- Check an FCS: the last four bytes are the CRC-32 of those before. -/
def fcsOk (f : List Byte) : Bool := decide (4 ≤ f.length) && decide (rd f (f.length - 4) 4 = (crc32 (f.take (f.length - 4))).toNat)

/-- Take a frame (without FCS) in at a port (R329); none for an untagged frame at a TAGGED_ONLY port. A tag of VID 0 gives the PCP only. -/
def CfgPort.ingress (c : CfgPort) (f : List Byte) : Option EthFrame :=
  let tagged := beNat ((f.drop 12).take 2) = 0x8100
  let tci := beNat ((f.drop 14).take 2)
  let dst := beNat (f.take 6)
  let src := beNat ((f.drop 6).take 6)
  if tagged then
    let vid := tci % 4096
    some { dst := dst, src := src, vid := if vid = 0 then c.pvid else vid, pcp := tci / 8192, rest := f.drop 16 }
  else if c.taggedOnly then none
  else some { dst := dst, src := src, vid := c.pvid, pcp := c.defaultPcp, rest := f.drop 12 }

/-- The VLAN entry of a VID. -/
def Cfg.vlan (c : Cfg) (vid : Nat) : Option CfgVlan := c.vlans.toList.find? fun v => v.vid == vid && vid != 0

/-- A group address. -/
def isGroup (mac : Nat) : Bool := bit mac 40

/-- Learn a source address (R329): at most 1,024 for each VLAN. -/
def Network.learn (x : Network) (vid mac port now : Nat) : Network :=
  let others := x.macs.filter fun e => !(e.vid == vid && e.mac == mac)
  if isGroup mac ∨ 1024 ≤ (others.filter fun e => e.vid == vid).length then x
  else { x with macs := others ++ [{ vid := vid, mac := mac, port := port, ns := now }] }

/-- A frame of a PTP clock (EtherType 0x88F7). -/
def EthFrame.isPtp (f : EthFrame) : Bool := beNat (f.rest.take 2) == 0x88F7

/-- A frame the switch does not relay: link-local PTP, to 01-80-C2-00-00-0E, or gPTP, whose messages carry SdoId 1 (R335). -/
def EthFrame.isGptp (f : EthFrame) : Bool := f.isPtp && (f.dst == 0x0180C200000E || rd f.rest 2 1 / 16 == 1)

/-- The frame is corrected as it passes (R337). -/
def State.tcFrame (s : State) (f : EthFrame) : Bool := f.isPtp && s.mw.cfg.switch.tcEnable && f.vid == s.mw.cfg.switch.ptpVid && !f.isGptp

/-- The unicast address of a configured peer (R343). -/
def Cfg.peerMac (c : Cfg) (mac : Nat) : Bool := c.peers.entries.toList.any fun e => e.enable && e.mac.toNat == mac

/-- Ports a frame leaves on: known unicast, else all members but the ingress; 6 is the package port (R329). Not flooded are PTP addresses, but for what R337 passes
on and, with TC_ENABLE clear, bridges, and the peers' addresses, but for the package's own messages to them. -/
def State.forward (s : State) (v : CfgVlan) (ingress : Nat) (f : EthFrame) : List Nat :=
  let all := (List.range 7).filter fun p => p != ingress && bit v.members p
  if f.dst = s.mw.cfg.switch.mac.toNat ∧ !isGroup f.dst then all.filter (· == 6)
  else if f.isGptp || (f.isPtp && isGroup f.dst && s.mw.cfg.switch.tcEnable && f.vid != s.mw.cfg.switch.ptpVid) then all.filter (· == 6)
  else if isGroup f.dst then all
  else match s.mw.net.macs.find? fun e => e.vid == f.vid && e.mac == f.dst with
    | some e => all.filter (· == e.port)
    | none => if ingress ≠ 6 ∧ s.mw.cfg.peerMac f.dst then [] else all

/-- The clock of a PTP message's domain (R337). -/
def State.clockOf (s : State) (f : EthFrame) : Option (Fin 2) :=
  (List.finRange 2).find? fun k => (s.mw.cfg.ptp k).enable && (s.mw.cfg.ptp k).domain == rd f.rest 6 1

/-- What a frame that comes in at a cell port takes with it through the switch (R337). -/
def State.inMark (s : State) (f : EthFrame) : EgressMark := if s.tcFrame f then .residence (s.clockOf f) (s.mw.tb[1]).ns else .plain

/-- The traffic class of a frame (R329, R337): two priorities to a class, PTP frames under the transparent clock in TC3. -/
def State.trafficClass (s : State) (f : EthFrame) : Nat := if s.tcFrame f then 3 else f.pcp / 2 % 4

/-- Bytes a list of queued frames holds in the packet buffer. -/
def queuedBytes (l : List Queued) : Nat := l.foldl (fun n q => n + q.size) 0

/-- There is room for a frame at a port (R329): 256 KiB for each port and class, 1,536 KiB in all. -/
def Network.room (x : Network) (p : Fin 6) (q : Queued) : Bool :=
  decide (queuedBytes (x.queues[p].filter fun r => r.cls == q.cls) + q.size ≤ 262144) &&
    decide (x.queues.foldl (fun n l => n + queuedBytes l) 0 + q.size ≤ 1572864)

/-- Put a frame into the packet buffer for ports with an up link, in its class; one that does not fit is dropped there (R329). -/
def State.sendOut (s : State) (v : CfgVlan) (f : EthFrame) (ports : List Nat) (mark : EgressMark) : State :=
  ports.foldl (fun s p =>
    if h : p < 6 then
      let k : Fin 6 := ⟨p, h⟩
      let q : Queued := { cls := s.trafficClass f, untagged := bit v.untagged p, frame := f, mark := mark }
      if !((s.mw.net.ports[k]).raw && s.mw.cfg.portMode p != 0) then s
      else if s.mw.net.room k q then s.onNet fun x => { x with queues := x.queues.set k (x.queues[k] ++ [q]) }
      else s.onCell k fun x => { x with tcDrop := sat32 (x.tcDrop + 1) }
    else s) s

/-- The PRP trailer of a frame: SeqNr, where suffix and LSDUsize match (R342). LSDUsize counts what follows the EtherType, trailer included. -/
def EthFrame.prpSeq (f : EthFrame) : Option Nat :=
  let n := f.rest.length
  let t := f.rest.drop (n - 6)
  if 8 ≤ n ∧ beNat (t.drop 4) = 0x88FB ∧ beNat ((t.drop 2).take 2) % 4096 = n - 2 then some (beNat (t.take 2)) else none

/-- Take a trailer into the duplicate window (R342): true where the copy is a duplicate. -/
def Network.prpTake (x : Network) (mac seq now : Nat) : Network × Bool :=
  match x.prp.find? fun e => e.mac == mac with
  | none =>
    if 64 ≤ x.prp.length then (x, false) else ({ x with prp := x.prp ++ [{ mac := mac, newest := seq, seen := 1#64, ns := now }] }, false)
  | some e =>
    let ahead := (seq + 65536 - e.newest) % 65536
    let behind := (e.newest + 65536 - seq) % 65536
    let put := fun (n : PrpEntry) => { x with prp := x.prp.map fun o => if o.mac = mac then n else o }
    if 0 < ahead ∧ ahead < 32768 then (put { e with newest := seq, seen := (e.seen <<< ahead) ||| 1#64, ns := now }, false)
    else if behind < 64 then
      (put { e with seen := e.seen ||| (1#64 <<< behind), ns := now }, e.seen.getLsbD behind)
    else (put { e with ns := now }, false)

/-- MAC_AGE_OUT (R329): an address not heard for AGE_S seconds. -/
def execMacAgeOut (vid : BitVec 12) (mac : BitVec 48) (s : State) : Result :=
  .next (s.onNet fun x => { x with macs := x.macs.filter fun e =>
    !(e.vid == vid.toNat && e.mac == mac.toNat && decide (e.ns + 1000000000 * s.mw.cfg.switch.ageS ≤ s.now)) })

/-- PRP_ENTRY_FORGOTTEN (R342): an entry not refreshed for 400 ms. -/
def execPrpEntryForgotten (mac : BitVec 48) (s : State) : Result :=
  .next (s.onNet fun x => { x with prp := x.prp.filter fun e => !(e.mac == mac.toNat && decide (e.ns + 400000000 ≤ s.now)) })

end Sys2Proof.Machine
end

