-- ==== Sys2Proof/Machine/Ptp.lean ====
section
/-! DEFINITION. The PTP engine (chapter 11: R335, R336, R338): one clock on TB0 and one on TB3, with the messages of IEEE 1588-2019 that the rules name. -/

namespace Sys2Proof.Machine

/-! ### Clocks and their choice (R335, R336) -/

/-- The order of the default best timeTransmitter clock algorithm: priority 1, class, accuracy, variance, priority 2, identity; for one grandmaster heard on two
paths the shorter path, then the sender's identity. -/
def PtpClock.better (a b : PtpClock) : Bool :=
  let key := fun (c : PtpClock) => [c.priority1, c.cls, c.accuracy, c.variance, c.priority2, c.identity, c.steps, c.port]
  match ((key a).zip (key b)).find? fun p => p.1 != p.2 with
  | some p => decide (p.1 < p.2)
  | none => false

/-- The own clock as the algorithm sees it; its identity, accuracy and variance are not stated. -/
def State.ownClock (s : State) (n : Fin 2) : PtpClock :=
  let c := s.mw.cfg.ptp n
  let id := (Config.unstated [336, n.val]).toNat % 2 ^ 64
  { priority1 := c.priority1, cls := c.clockClass, accuracy := (Config.unstated [336, n.val, 1]).toNat % 256, variance := (Config.unstated [336, n.val, 2]).toNat % 65536,
    priority2 := c.priority2, identity := id, steps := 0, port := 65536 * id + 1 }

/-- Port states of IEEE 1588-2019. -/
def ptpStateOf (c : CfgPtp) (best : Option PtpClock) (own : PtpClock) : Nat :=
  if !c.enable then 3
  else if c.role = 2 then 6
  else match best with
    | some b => if c.role = 0 ∨ b.better own then 9 else 6
    | none => if c.role = 1 then 6 else 4

/-! ### Messages (IEEE 1588-2019) -/

/-- SdoId of a profile: 1 for IEEE 802.1AS. -/
def CfgPtp.sdo (c : CfgPtp) : Nat := if c.profile = 1 then 1 else 0

/-- A message's header: type, length, domain, flags, correctionField, source port identity, sequence, log interval. -/
def ptpHeader (sdo kind len domain : Nat) (corr : Int) (src seq : Nat) (log : Int) : List Byte :=
  let control := if kind = 0 then 0 else if kind = 1 then 1 else if kind = 9 then 3 else 5
  be 1 (sdo * 16 + kind) ++ be 1 0x12 ++ be 2 len ++ be 1 domain ++ be 1 0 ++ be 2 0 ++ be 8 (corr % (2 ^ 64 : Nat)).toNat ++ be 4 0 ++ be 10 src ++ be 2 seq ++
    be 1 control ++ leInt 1 log

/-- A time stamp as IEEE 1588 lays it out. -/
def ptpStamp (ns : Nat) : List Byte := be 6 (ns / 1000000000) ++ be 4 (ns % 1000000000)

/-- The nanoseconds such a time stamp spells. -/
def rdPtpStamp (m : List Byte) (o : Nat) : Nat := beNat ((m.drop o).take 6) * 1000000000 + beNat ((m.drop (o + 6)).take 4)

/-- Fields of a received message. -/
def ptpKind (m : List Byte) : Nat := rd m 0 1 % 16
def ptpSeq (m : List Byte) : Nat := beNat ((m.drop 30).take 2)
def ptpSource (m : List Byte) : Nat := beNat ((m.drop 20).take 10)
def ptpCorr (m : List Byte) : Int := toSigned 64 (beNat ((m.drop 8).take 8))
def ptpTwoStep (m : List Byte) : Bool := bit (rd m 6 1) 1

/-- Send a message of a clock (R335, R336): under the default profile on PTP_VID, under 802.1AS out of PTP_PORT alone; peer delay and 802.1AS messages go to the
link-local address. -/
def State.sendPtp (s : State) (n : Fin 2) (link : Bool) (m : List Byte) (mark : EgressMark) : State :=
  let c := s.mw.cfg.ptp n
  match s.mw.cfg.vlan s.mw.cfg.switch.ptpVid with
  | none => s
  | some v =>
    let f : EthFrame := { dst := if link || c.profile == 1 then 0x0180C200000E else 0x011B19000000, src := s.mw.cfg.switch.mac.toNat, vid := s.mw.cfg.switch.ptpVid, pcp := 7,
                          rest := be 2 0x88F7 ++ m }
    s.sendOut v f (if c.profile = 1 then [c.ptpPort] else (List.range 6).filter fun p => bit v.members p) mark

/-! ### Reception (R335, R336) -/

/-- An offset and a path delay a Sync yields: origin and arrival, less the path. -/
def State.ptpSync (s : State) (n : Fin 2) (t1 : Int) (t2 : Nat) : State :=
  s.onPtp n fun p => { p with offsetNs := (t2 : Int) - t1 - p.meanPath, lastSync := some (t1, t2), lastSyncB := s.mw.b, fresh := true, portState := 9, syncPend := none }

/-- A measured path delay. -/
def State.ptpPath (s : State) (n : Fin 2) (v : Int) : State := s.onPtp n fun p => { p with meanPath := v.toNat, delayPend := none, peerPend := none }

/-- Correction fields in whole nanoseconds. -/
def corrNs (v : Int) : Int := Int.fdiv v 65536

/-- An Announce (R335): the sender of the best clock heard, or a better one, is taken. -/
def State.ptpAnnounce (s : State) (n : Fin 2) (m : List Byte) : State :=
  let c := s.mw.cfg.ptp n
  let new : PtpClock :=
    { priority1 := rd m 47 1, cls := rd m 48 1, accuracy := rd m 49 1, variance := beNat ((m.drop 50).take 2), priority2 := rd m 52 1,
      identity := beNat ((m.drop 53).take 8), steps := beNat ((m.drop 61).take 2), port := ptpSource m }
  let take := match (s.mw.ptp[n]).best with
    | some b => b.port == new.port || new.better b
    | none => true
  if c.role = 2 ∨ !take then s
  else
    let st := ptpStateOf c (some new) (s.ownClock n)
    s.onPtp n fun p => { p with best := some new, heardNs := s.now, portState := st, gmIdentity := if st = 9 then BitVec.ofNat 64 new.identity else p.gmIdentity,
                                stepsRemoved := if st = 9 then new.steps + 1 else 0 }

/-- A message of one of the clock's own kinds, at an instant of its base. -/
def State.ptpActs (s : State) (n : Fin 2) (m : List Byte) (t : Nat) : State :=
  let c := s.mw.cfg.ptp n
  let p := s.mw.ptp[n]
  let seq := ptpSeq m
  let corr := ptpCorr m
  let own := (s.ownClock n).port
  let mine := beNat ((m.drop 44).take 10) == own
  let parent := s.receives n && (match p.best with
    | some b => b.port == ptpSource m
    | none => false)
  match ptpKind m with
  | 0 =>
    if !parent then s
    else if ptpTwoStep m then s.onPtp n fun p => { p with syncPend := some (seq, t, corr) }
    else s.ptpSync n ((rdPtpStamp m 34 : Int) + corrNs corr) t
  | 8 => match p.syncPend with
    | some (q, t2, k) => if parent && q == seq then s.ptpSync n ((rdPtpStamp m 34 : Int) + corrNs (k + corr)) t2 else s
    | none => s
  | 1 =>
    if p.portState = 6 ∧ c.profile = 0 then s.onPtp n fun p => { p with requests := p.requests ++ [{ port := ptpSource m, seq := seq, t4 := t, corr := corr }] }
    else s
  | 9 => match p.delayPend, p.lastSync with
    | some (q, t3), some (t1, t2) =>
      if parent && mine && q == seq then s.ptpPath n (Int.fdiv (((t2 : Int) - t3) + ((rdPtpStamp m 34 : Int) - corrNs corr - t1)) 2) else s
    | _, _ => s
  | 2 =>
    if c.profile = 1 then
      s.sendPtp n true (ptpHeader c.sdo 3 54 c.domain corr own seq 0x7F ++ ptpStamp 0 ++ be 10 (ptpSource m)) (.turnaround (ptpBase n) t)
    else s
  | 3 => match p.delayPend with
    | some (q, t1) =>
      if !(c.profile == 1 && mine && q == seq) then s
      else if ptpTwoStep m then s.onPtp n fun p => { p with peerPend := some (seq, (rdPtpStamp m 34 : Int), t, corr) }
      else s.ptpPath n (Int.fdiv ((t : Int) - t1 - corrNs corr) 2)
    | none => s
  | 10 => match p.delayPend, p.peerPend with
    | some (_, t1), some (q, t2, t4, k) =>
      if mine && q == seq then s.ptpPath n (Int.fdiv (((t4 : Int) - t1) - ((rdPtpStamp m 34 : Int) - t2) - corrNs (k + corr)) 2) else s
    | _, _ => s
  | 11 => s.ptpAnnounce n m
  | _ => s

/-- Length of a message of a kind without TLVs. -/
def ptpLength (kind : Nat) : Nat := if kind = 11 then 64 else if kind = 3 ∨ kind = 9 ∨ kind = 10 then 54 else 44

/-- Management messages, signalling (unicast negotiation) and messages with a security TLV are not supported (R335). -/
def ptpUnsupported (m : List Byte) : Bool :=
  ptpKind m == 12 || ptpKind m == 13 || beNat ((m.drop (ptpLength (ptpKind m))).take 2) == 0x8009

/-- A clock takes a message of its profile and domain in, stamped on its base to 1 ns; one of a kind that is not supported is discarded and counted at its port (R335, R336).
Under 802.1AS only PTP_PORT counts. -/
def State.takePtp (s : State) (n : Fin 2) (m : PtpMsg) : State :=
  let c := s.mw.cfg.ptp n
  let b := m.bytes
  if !c.enable || b.length < 44 || rd b 0 1 / 16 != c.sdo || rd b 4 1 != c.domain || (c.profile == 1 && c.ptpPort != m.port.val) then s
  else if ptpUnsupported b then s.onCell m.port fun p => { p with ptpDiscarded := sat32 (p.ptpDiscarded + 1) }
  else s.ptpActs n b ((s.mw.tb[ptpBase n]).ns + m.sub.val)

/-- PTP_MESSAGE (R335, R336). A port whose link is down brings none (R328). -/
def execPtpMessage (inst : Fin 2) (msg : PtpMsg) (s : State) : Result :=
  if (s.mw.net.ports[msg.port]).raw && s.mw.cfg.portMode msg.port.val != 0 then .next (s.takePtp inst msg) else .next s

/-! ### What is due at an interval (R336, R338) -/

/-- A grandmaster's Sync and Announce (R336), their origin stamped as they leave. -/
def State.ptpMaster (s : State) (n : Fin 2) (announce : Bool) : State :=
  let c := s.mw.cfg.ptp n
  let p := s.mw.ptp[n]
  let own := s.ownClock n
  if announce then
    (s.sendPtp n false (ptpHeader c.sdo 11 64 c.domain 0 own.port p.announceSeq c.logAnnounce ++ ptpStamp 0 ++ be 3 0 ++ be 1 own.priority1 ++ be 1 own.cls ++
      be 1 own.accuracy ++ be 2 own.variance ++ be 1 own.priority2 ++ be 8 own.identity ++ be 2 0 ++ be 1 0xA0) (.ptpStamp (ptpBase n) 36)).onPtp n fun p =>
        { p with announceNs := s.now, announceSeq := (p.announceSeq + 1) % 65536 }
  else
    (s.sendPtp n false (ptpHeader c.sdo 0 44 c.domain 0 own.port p.syncSeq c.logSync ++ ptpStamp 0) (.ptpStamp (ptpBase n) 36)).onPtp n fun p =>
      { p with syncSeq := (p.syncSeq + 1) % 65536 }

/-- A grandmaster's Delay_Resp to every request that waits (R336). -/
def State.ptpAnswer (s : State) (n : Fin 2) : State :=
  let c := s.mw.cfg.ptp n
  let own := (s.ownClock n).port
  let one := fun (s : State) (r : PtpRequest) =>
    s.sendPtp n false (ptpHeader c.sdo 9 54 c.domain r.corr own r.seq c.logDelay ++ ptpStamp r.t4 ++ be 10 r.port) .plain
  ((s.mw.ptp[n]).requests.foldl one s).onPtp n fun p => { p with requests := [], delayNs := s.now }

/-- A Delay_Req, or under 802.1AS a Pdelay_Req (R335). -/
def State.ptpAsk (s : State) (n : Fin 2) : State :=
  let c := s.mw.cfg.ptp n
  let p := s.mw.ptp[n]
  let own := (s.ownClock n).port
  let m := if c.profile = 1 then ptpHeader c.sdo 2 54 c.domain 0 own p.delaySeq c.logDelay ++ ptpStamp 0 ++ be 10 0
    else ptpHeader c.sdo 1 44 c.domain 0 own p.delaySeq 0x7F ++ ptpStamp 0
  (s.sendPtp n (c.profile = 1) m (.request n p.delaySeq)).onPtp n fun p => { p with delayNs := s.now, delaySeq := (p.delaySeq + 1) % 65536 }

/-- PTP_SYNC_INTERVAL (R336, R338): what is due at its configured interval. A time receiver's firmware servo acts on the last offset, and the receiver sends
Delay_Req; a grandmaster sends Sync, Announce and Delay_Resp; under 802.1AS either measures its peer's delay. Three Announce intervals without one end the hold of a
foreign clock (PRESUMED). -/
def execPtpSyncInterval (inst : Fin 2) (s : State) : Result :=
  let c := s.mw.cfg.ptp inst
  if !c.enable then .next s
  else
    let p := s.mw.ptp[inst]
    let stale := p.best.isSome && decide (p.heardNs + 3 * logNs c.logAnnounce < s.now)
    let best := if stale then none else p.best
    let st := ptpStateOf c best (s.ownClock inst)
    let due := fun (last : Nat) (l : Int) => decide (last + logNs l ≤ s.now)
    let sync := due p.syncNs c.logSync
    let s := s.onPtp inst fun p => { p with best := best, portState := st, syncNs := if sync then s.now else p.syncNs }
    let s := if due p.delayNs c.logDelay then (if st = 6 ∧ c.profile = 0 then s.ptpAnswer inst else if st = 9 ∨ c.profile = 1 then s.ptpAsk inst else s) else s
    if st = 6 then
      let s := if sync then s.ptpMaster inst false else s
      .next (if due p.announceNs c.logAnnounce then s.ptpMaster inst true else s)
    else .next (if sync && s.firmwareServo inst && s.firmwareRuns && p.fresh then s.servoStep inst else s)

end Sys2Proof.Machine
end

