-- ==== Sys2Proof/Machine/Network.lean ====
section
/-! DEFINITION. The package port and peer packages (chapter 11: R330, R341, R343..R345, R354..R356). -/

namespace Sys2Proof.Machine

/-! ### Frames of the package port (R330, R341) -/

/-- Dies whose copy of a duplicated frame leaves (R341). -/
def State.senders (s : State) : List DieId := allDies.filter fun d => (s.die d).live && (s.isFlier d || (s.die d).partner.eligible)

/-- Send a frame of the duplicated class from the package port: one copy of each sending die with its PRP trailer (R341). -/
def State.sendDup (s : State) (dst vid pcp etherType : Nat) (payload : List Byte) (mark : EgressMark := .plain) : State :=
  match s.mw.cfg.vlan vid with
  | none => s
  | some v =>
    let c := s.mw.cfg.switch
    let seq := s.mw.net.seqNr
    let s := s.onNet fun x => { x with seqNr := (x.seqNr + 1) % 65536 }
    let pad := padTo (max payload.length 40) payload
    let one := fun (s : State) (d : DieId) =>
      let lan := match d with
        | .t0 => 0xA
        | .t1 => 0xB
      let f : EthFrame := { dst := dst, src := c.mac.toNat, vid := vid, pcp := pcp,
                            rest := be 2 etherType ++ pad ++ be 2 seq ++ be 2 (lan * 4096 + pad.length + 6) ++ be 2 0x88FB }
      let ports := if c.dupMode = 0 then (s.forward v 6 f).filter (· != 6) else [if lan = 0xA then c.dupPortA else c.dupPortB]
      s.sendOut v f ports mark
    s.senders.foldl one s

/-- An ARP request of 28 bytes for the package's address is answered (R330). -/
def State.takeArp (s : State) (bytes : List Byte) : State :=
  let c := s.mw.cfg.switch
  let ip := be 4 c.ipv4.toNat
  if decide (28 ≤ bytes.length) && beNat ((bytes.drop 6).take 2) == 1 && (bytes.drop 24).take 4 == ip && c.ipv4 != 0 then
    let sha := (bytes.drop 8).take 6
    let reply := be 2 1 ++ be 2 0x0800 ++ [6, 4] ++ be 2 2 ++ be 6 c.mac.toNat ++ ip ++ sha ++ (bytes.drop 14).take 4
    s.sendDup (beNat sha) c.pkgVid 0 0x0806 reply
  else s

/-- ARP_REQUEST (R330). -/
def execArpRequest (bytes : List Byte) (s : State) : Result := .next (s.takeArp bytes)

/-- The ones' complement sum of 16-bit words, folded. -/
def onesSum : List Byte → Nat → Nat
  | a :: b :: r, n =>
    let t := n + 256 * a.toNat + b.toNat
    onesSum r (t % 65536 + t / 65536)
  | _, n => n

/-- A UDP datagram between PEER_PORTs in IPv4, UDP checksum 0 (R343). TTL 64 and identification 0 are PRESUMED. -/
def udpPacket (src dst : Word) (port : Nat) (body : List Byte) : List Byte :=
  let head := fun (sum : Nat) => [0x45, 0] ++ be 2 (28 + body.length) ++ be 2 0 ++ be 2 0 ++ [64, 17] ++ be 2 sum ++ be 4 src.toNat ++ be 4 dst.toNat
  let sum := 65535 - onesSum (head 0) 0
  head sum ++ be 2 port ++ be 2 port ++ be 2 (8 + body.length) ++ be 2 0 ++ body

/-- Send a peer message (R343, Table 11.4). TX_TIME of a heartbeat is written as it leaves: after the EtherType, 28 bytes of IPv4 and UDP, the header and 16 bytes of
the body (Table 11.5). -/
def State.sendPeer (s : State) (p : Fin 4) (type_ : Nat) (body : List Byte) : State :=
  let e := s.mw.cfg.peers.entries[p]
  let c := s.mw.cfg.switch
  let seq := ((s.mw.net.peers[p]).txSeq + 1) % 4294967296
  let s := s.onPeer p fun x => { x with txSeq := seq }
  let msg := le 4 0x51504B31 ++ le 1 1 ++ le 1 type_ ++ le 1 s.pkgid.toNat ++ le 1 p.val ++ le 4 seq ++ le 2 body.length ++ zeros 2 ++ body
  s.sendDup e.mac.toNat c.pkgVid 5 0x0800 (udpPacket c.ipv4 e.ipv4 c.peerPort msg) (if type_ = 1 then .stamp 0 62 else .plain)

/-- Peers named in the configuration. -/
def State.peersNamed (s : State) : List (Fin 4) := (List.finRange 4).filter fun p => (s.mw.cfg.peers.entries[p]).enable && p.val != s.pkgid.toNat

/-- The heartbeat body (Table 11.5). -/
def State.heartbeatBody (s : State) (p : Fin 4) : List Byte :=
  let x := s.mw.net.peers[p]
  le 1 (s.phaseCode s.lead) ++ le 1 (packBits [s.curtained, s.mw.trapeze.token == some .t1, (s.mw.tb[0]).servoLocked]) ++ zeros 6 ++ le 8 s.mw.b ++
    stamp s.tb0 ++ stamp x.echoTx ++ stamp x.echoRx ++ zeros 2

/-- PEER_HEARTBEAT_SEND (R343): every HB_PERIOD_NS to each peer, from B_a + 1 of Blossom. -/
def execPeerHeartbeatSend (s : State) : Result :=
  if s.mw.net.peersOn && decide (s.mw.net.hbNs + s.mw.cfg.peers.hbPeriod ≤ s.now) then
    let s := s.onNet fun x => { x with hbNs := s.now }
    .next (s.peersNamed.foldl (fun s p => s.sendPeer p 1 (s.heartbeatBody p)) s)
  else .next s

/-- The zone messages of a separation cycle start, to every peer of a shared zone (R230). -/
def State.sendZones (s : State) : State :=
  let d := s.lead
  let shared := (List.range 64).filterMap fun z => match (s.die d).cfg.zoneDef z with
    | some (_, true, _, peers, _) => some peers
    | _ => none
  let ps := s.peersNamed.filter fun p => shared.any fun m => m.getLsbD p.val
  if !s.mw.net.peersOn || ps.isEmpty then s
  else
    let body := s.zoneBody d s.mw.zoneSeq
    let s := s.onMw fun m => { m with zoneSeq := (m.zoneSeq + 1) % 4294967296 }
    ps.foldl (fun s p => s.sendPeer p 2 body) s

/-! ### Peers (R343..R345) -/

/-- A peer is lost (R344): its zone view goes with it (R231). -/
def State.losePeer (s : State) (p : Fin 4) : State :=
  let s := s.onPeer p fun x => { x with live := false, everLost := true }
  let s := s.onMw fun m => { m with zoneMsgs := m.zoneMsgs.set p none }
  s.raiseMw 134 (s.target 0 0) [BitVec.ofNat 8 p.val]

/-- PEER_LOST (R344): HB_MISS periods without an accepted message. -/
def execPeerLost (p : Fin 4) (s : State) : Result :=
  let x := s.mw.net.peers[p]
  let c := s.mw.cfg.peers
  if x.live && decide (x.lastNs + c.hbMiss * c.hbPeriod ≤ s.now) then .next (s.losePeer p) else .next s

/-- An estimate of a peer's cell-time offset (R345). -/
def State.peerSkew (s : State) (p : Fin 4) (off : Int) : State :=
  let far := decide (s.mw.cfg.peers.skewTol < off.natAbs)
  let x := s.mw.net.peers[p]
  let run := if far then x.skewRun + 1 else 0
  let good := if far then 0 else x.goodRun + 1
  let set := !x.skew && decide (3 ≤ run)
  let s := s.onPeer p fun y => { y with offset := off, skewRun := run, goodRun := good, skew := set || (y.skew && decide (good < 3)) }
  if set then s.raiseMw 136 (s.target 0 0) (le 1 p.val ++ zeros 7 ++ leInt 8 off) else s

/-- A peer message (R343..R345): a heartbeat; a zone message acts as ZONE_MESSAGE does. -/
def State.takePeer (s : State) (bytes : List Byte) : State :=
  match s.peerAccept 1 bytes with
  | none => if rd bytes 5 1 = 2 then s.takeZone bytes else s
  | some (p, body) =>
    match body.length, rdStamp body 16, rdStamp body 26, rdStamp body 36 with
    | 48, some tx, some eTx, some eRx =>
      let s := s.onPeer p fun x => { x with rxSeq := some (rd bytes 8 4), lastNs := s.now, echoTx := tx, echoRx := s.tb0 }
      let up := decide (rd body 0 1 = 2) && !bit (rd body 1 1) 0
      let x := s.mw.net.peers[p]
      let s := if up && !x.live then
          let s := s.onPeer p fun y => { y with live := true }
          if x.everLost then s.raiseMw 135 (s.target 0 0) [BitVec.ofNat 8 p.val] else s
        else if !up && x.live then s.losePeer p else s
      if eTx = 0 then s
      else s.peerSkew p (Int.fdiv (((eRx : Int) - eTx) + ((tx : Int) - s.tb0)) 2)
    | _, _, _, _ => s

/-- PEER_MESSAGE (R343..R345). -/
def execPeerMessage (bytes : List Byte) (s : State) : Result := .next (s.takePeer bytes)

/-! ### What the package port takes in (R330) -/

/-- The ones' complement sum of a byte string is all ones: its checksum is good. A byte string of odd length is padded. -/
def sumOk (p : List Byte) : Bool := onesSum (if p.length % 2 = 1 then p ++ [0] else p) 0 == 65535

/-- The UDP datagram in a frame to an IPv4 address (R330): source port, destination port and body; none with options, in fragments, or with a checksum that is
not zero and fails. -/
def EthFrame.udp (f : EthFrame) (own : Word) : Option (Nat × Nat × List Byte) :=
  let p := f.rest.drop 2
  let len := beNat ((p.drop 2).take 2)
  let u := (p.drop 20).take (len - 20)
  let n := beNat ((u.drop 4).take 2)
  let d := u.take n
  let plain := beNat (f.rest.take 2) == 0x0800 && p.take 1 == [0x45] && beNat ((p.drop 6).take 2) % 16384 == 0 && (p.drop 9).take 1 == [17] &&
    (p.drop 16).take 4 == be 4 own.toNat && sumOk (p.take 20)
  let whole := decide (28 ≤ len) && decide (len ≤ p.length) && decide (8 ≤ n) && decide (n ≤ u.length)
  let sum := beNat ((d.drop 6).take 2) == 0 || sumOk ((p.drop 12).take 8 ++ be 2 17 ++ be 2 n ++ d)
  if plain && whole && sum then some (beNat (d.take 2), beNat ((d.drop 2).take 2), d.drop 8) else none

/-- A frame from a cell port reaches the package port (R330): ARP, Sight datagrams and peer messages on PKG_VID to its addresses and PTP messages are taken, all else
is dropped. -/
def State.deliver (s : State) (port : Fin 6) (f : EthFrame) : State :=
  let c := s.mw.cfg.switch
  if f.isPtp then
    let (k, s) := s.draw
    let m : PtpMsg := { port := port, bytes := f.rest.drop 2, sub := ⟨Config.freeNat k % 40, Nat.mod_lt _ (by decide)⟩ }
    if f.isGptp || f.vid == c.ptpVid then (s.takePtp 0 m).takePtp 1 m else s
  else if !(f.dst == c.mac.toNat || isGroup f.dst) || f.vid != c.pkgVid then s
  else if beNat (f.rest.take 2) = 0x0806 then s.takeArp (f.rest.drop 2)
  else match f.udp c.ipv4 with
    | none => s
    | some (src, dst, body) =>
      if (s.mw.cfg.sensors.toList).any fun n => n.enable && n.udpPort == dst then s.takeSight dst body
      else if src = c.peerPort ∧ dst = c.peerPort then s.takePeer body
      else s

/-- CELL_FRAME_RECEIVE (R327, R329, R330, R337, R342): the frame (with FCS) is checked, learned from and forwarded; at the package port a duplicate is discarded and
anything else delivered. A frame the packet buffer cannot give back is dropped (R424). -/
def execCellFrameReceive (port : Fin 6) (bytes : List Byte) (s : State) : Result :=
  if s.mw.cfg.portMode port.val = 0 ∨ !(s.mw.net.ports[port]).raw then .next s
  else
    let s := s.onCell port fun p => { p with rx := sat32 (p.rx + 1) }
    let inj := s.checkInjectedMw 5 fun i => i.target == s.cellTarget port.val
    if 1528 < bytes.length then .next (s.onCell port fun p => { p with oversize := sat32 (p.oversize + 1) })
    else
    let s := inj.1
    if !fcsOk bytes || inj.2.isSome then
      let s := s.onCell port fun p => { p with fcsErr := sat32 (p.fcsErr + 1) }
      .next (s.detectMw (s.cellTarget port.val) (2 ^ 28 + port.val) 5 false inj.2.isSome [BitVec.ofNat 8 port.val]).1
    else if bytes.length < 64 then .next s
    else
      let drop := s.onCell port fun p => { p with vlanDrop := sat32 (p.vlanDrop + 1) }
      match (s.mw.cfg.ports[port]).ingress (bytes.take (bytes.length - 4)) with
      | none => .next drop
      | some f =>
        match s.mw.cfg.vlan f.vid with
        | none => .next drop
        | some v =>
          if !bit v.members port.val then .next drop
          else
            let s := s.onNet fun x => x.learn f.vid f.src port.val s.now
            let dests := s.forward v port.val f
            let buffer := s.readMwArray 1 0 true
            let s := buffer.1
            if buffer.2.1 then .next (s.onCell port fun p => { p with tcDrop := sat32 (p.tcDrop + 1) })
            else
            let s := s.sendOut v f dests (s.inMark f)
            if !dests.contains 6 then .next s
            else match f.prpSeq with
              | none => .next (s.deliver port f)
              | some q =>
                let r := s.mw.net.prpTake f.src q s.now
                let s := s.onNet fun _ => r.1
                .next (if r.2 then s.onCell port fun p => { p with prpDiscards := sat32 (p.prpDiscards + 1) } else s.deliver port { f with rest := f.rest.take (f.rest.length - 6) })

/-! ### Opcodes (R354..R356) -/

/-- Units of the switch cluster (Table 1.4). -/
def switchUnit (u : Nat) : UnitId := mwUnit 1 0 ⟨u % 32, Nat.mod_lt _ (by decide)⟩

/-- Parameters of a package target (Table 11.8). -/
def readSwitch (p : List Byte) : CfgSwitch where
  mac := BitVec.ofNat 48 (beNat (p.take 6))
  peerPort := orDefault (rd p 6 2) 40118
  ipv4 := BitVec.ofNat 32 (beNat ((p.drop 8).take 4))
  pkgVid := rd p 12 2
  ptpVid := rd p 14 2
  tcEnable := bit (rd p 16 1) 0
  dupMode := rd p 17 1
  dupPortA := rd p 18 1
  dupPortB := rd p 19 1
  ageS := orDefault (rd p 20 2) 300

/-- `CONFIG_SWITCH` (R354). A port that an 802.1AS clock names may not be staged to MODE 0 (R350). -/
def bodyConfigSwitch (h : HostCmd) (d : DieId) (s : State) : Answer :=
  let p := h.params
  match tKind h.target with
  | 0 =>
    let new := readSwitch p
    let bad := isGroup new.mac.toNat || decide (new.peerPort < 1024) || !within new.pkgVid 1 4094 || !within new.ptpVid 1 4094 || decide (1 < rd p 16 1) ||
      decide (1 < new.dupMode) || decide (5 < new.dupPortA) || decide (5 < new.dupPortB) || new.dupPortA == new.dupPortB || decide (new.ageS < 10) || !zeroAt p 22 2
    if p.length ≠ 24 then reject s St.badLength
    else
      let f : Cfg → Cfg := fun c => { c with switch := new }
      s.config d (if bad then some St.range else none) [switchUnit 6] f
  | 10 =>
    let k : Fin 6 := ⟨tIndex h.target % 6, Nat.mod_lt _ (by decide)⟩
    let new : CfgPort := { mode := rd p 0 1, anDisable := bit (rd p 1 1) 0, taggedOnly := bit (rd p 1 1) 1, pvid := rd p 2 2, defaultPcp := rd p 4 1 }
    let f : Cfg → Cfg := fun c => { c with ports := c.ports.set k new }
    let bad := decide (3 < new.mode) || decide (3 < rd p 1 1) || !within new.pvid 1 4094 || decide (7 < new.defaultPcp) || !zeroAt p 5 3 ||
      (decide (new.mode = 0) && [(s.die d).shadow.ptp0, (s.die d).shadow.ptp3].any fun q => q.enable && q.profile == 1 && q.ptpPort == k.val)
    if p.length ≠ 8 then reject s St.badLength
    else s.config d (if bad then some St.range else none) [switchUnit k.val] f
  | _ =>
    if p.length ≠ 8 then reject s St.badLength
    else if tTable h.target ≠ 0x30 ∨ 64 ≤ tInstance h.target then reject s St.badTarget
    else
      let k : Fin 64 := ⟨tInstance h.target % 64, Nat.mod_lt _ (by decide)⟩
      let new : CfgVlan := { vid := rd p 0 2, members := rd p 2 1, untagged := rd p 3 1 }
      let f : Cfg → Cfg := fun c => { c with vlans := c.vlans.set k new }
      s.config d (if decide (4094 < new.vid) || decide (127 < new.members) || decide (127 < new.untagged) || !zeroAt p 4 4 then some St.range else none)
        [switchUnit 6] f

/-- `CELL_PORT_STATUS` (R355). -/
def bodyCellPortStatus (h : HostCmd) (_d : DieId) (s : State) : Answer :=
  let k : Fin 6 := ⟨tIndex h.target % 6, Nat.mod_lt _ (by decide)⟩
  let x := s.mw.net.ports[k]
  answer s (le 1 (b2n x.raw) ++ le 1 (s.mw.cfg.portMode k.val) ++ zeros 6 ++
    ([x.rx, x.tx, x.fcsErr, x.oversize, x.vlanDrop, x.tcDrop, x.prpDiscards, x.downs, x.ptpDiscarded, x.tcCorrected].map fun n => le 4 n).flatten)

/-- `CONFIG_CELL_PEERS` (R356). -/
def bodyConfigCellPeers (h : HostCmd) (d : DieId) (s : State) : Answer :=
  let p := h.params
  let one := fun (k : Fin 4) =>
    let o := 16 + 12 * k.val
    ({ enable := bit (rd p o 1) 0, mac := BitVec.ofNat 48 (beNat ((p.drop (o + 2)).take 6)), ipv4 := BitVec.ofNat 32 (beNat ((p.drop (o + 8)).take 4)) } : CfgPeer)
  let new : CfgPeers := { hbPeriod := orDefault (rd p 0 4) 1000000, hbMiss := orDefault (rd p 4 1) 4, skewTol := orDefault (rd p 8 4) 10000,
                          entries := Vector.ofFn one }
  let bad := !within new.hbPeriod 250000 100000000 || !within new.hbMiss 2 16 || !zeroAt p 5 3 || !zeroAt p 12 4 ||
    (List.range 4).any (fun k => decide (1 < rd p (16 + 12 * k) 1) || !zeroAt p (17 + 12 * k) 1) || !zeroAt p (16 + 12 * s.pkgid.toNat) 12
  let f : Cfg → Cfg := fun c => { c with peers := new }
  s.config d (if bad then some St.range else none) [switchUnit 6] f

/-- MW takes new cell ports (R328): a changed MODE restarts the link state without an event, any other change lets the link follow; learned addresses stand. -/
def State.cellApply (s : State) (old new : Cfg) : State :=
  (List.finRange 6).foldl (fun (s : State) (k : Fin 6) =>
    if (old.ports[k]).mode = (new.ports[k]).mode then s.cellLink k
    else (s.onNet fun n => n.cutPort k).onCell k fun x => { x with sync := false, partner := false, raw := false, rawNs := s.now, been := false, reported := false }) s

end Sys2Proof.Machine
end

