-- ==== Sys2Proof/Machine/Replies.lean ====
section
/-! DEFINITION. Replies: the record a completed command leaves (R78, R79, R83), and replies that come after execution (R53, R418, R440). -/

namespace Sys2Proof.Machine

/-- The reply record of a command on a die (Table 3.11). -/
def State.replyRecord (s : State) (d : DieId) (opcode : Nat) (h : HostCmd) (r : Reply) : Record where
  kind := 0
  own := r.own
  flier := s.isFlier d
  status := r.status
  tag := h.tag.toNat
  seq := h.seq.toNat
  target := h.target.toNat
  epoch := s.epoch
  opcode := opcode
  queue := h.queue.val
  result := r.result

/-- A rejection (R91). -/
def Reply.rejects (r : Reply) : Bool := decide (0x8000 ≤ r.status)

/-- A command completes on a die: its result enters REPLY_CRC where both dies report the same one, and its reply is sent where
REPLY_REQUIRED asks for it or the command is rejected (R79, R391). -/
def State.finish (s : State) (d : DieId) (opcode : Nat) (h : HostCmd) (r : Reply) : State :=
  let s := if r.own then s
    else s.onDie d fun x => { x with partner := { x.partner with replyCrc := crc32From x.partner.replyCrc (le 2 r.status ++ r.result) } }
  if bit h.flags.toNat 0 || r.rejects then s.sendReply (s.portOf d) d (s.replyRecord d opcode h r) else s

/-- Remember a command whose reply comes later. -/
def State.awaitReply (s : State) (d : DieId) (opcode : Nat) (h : HostCmd) (mine : Option Reply := none) : State :=
  s.onDie d fun x => { x with rm := { x.rm with awaiting := x.rm.awaiting ++ [{ opcode := opcode, cmd := h, mine := mine }] } }

/-- The reply named is for this remembered command: same opcode, queue, SEQ and TAG. -/
def Awaiting.isFor (w : Awaiting) (opcode : Nat) (h : HostCmd) : Bool :=
  w.opcode == opcode && w.cmd.queue == h.queue && w.cmd.seq == h.seq && w.cmd.tag == h.tag

/-- Give a notice that has not met its copy the reply that came later. -/
def State.noticeReply (s : State) (d : DieId) (h : HostCmd) (r : Reply) : State :=
  let f : Notice → Notice := fun n =>
    if n.queue = h.queue.val ∧ n.seq = h.seq.toNat ∧ n.reply.status = St.later then { n with reply := r, b := s.mw.b } else n
  s.onDie d fun x => { x with rm := { x.rm with notices := x.rm.notices.map f } }

/-- Send one die's later reply. -/
def State.lateReplyOn (s : State) (d : DieId) (opcode : Nat) (h : HostCmd) (r : Reply) : State :=
  match (s.die d).rm.awaiting.find? fun w => w.isFor opcode h with
  | none => s.noticeReply d h r
  | some w =>
    let s := s.onDie d fun x => { x with rm := { x.rm with awaiting := x.rm.awaiting.filter fun v => v != w } }
    s.finish d opcode w.cmd r

/-- Send the later reply of a command from every die that remembers it (R83). -/
def State.lateReply (s : State) (opcode : Nat) (h : HostCmd) (r : Reply) : State :=
  (s.lateReplyOn .t0 opcode h r).lateReplyOn .t1 opcode h r

end Sys2Proof.Machine
end

