-- ==== Sys2Proof/Machine/Trapeze.lean ====
section
/-! DEFINITION. Flier and Catcher (chapter 13): heartbeats, the per-period digest, full sync, the journal of LATENT mode, HALTED,
handover, the inter-die links and the Trapeze commands but for the takeover itself. -/

namespace Sys2Proof.Machine

/-- Change what a die keeps of the partnership. -/
def State.onPartner (s : State) (d : DieId) (f : Partner → Partner) : State := s.onDie d fun x => { x with partner := f x.partner }

/-- Count a lasting detection that raises no detector event of its own. -/
def State.noteLasting (s : State) (d : DieId) (det : Nat) (injected : Bool) : State :=
  s.onDie d fun x => { x with det := { x.det with
    lasting := bump x.det.lasting det 65535, injected := if injected then bump x.det.injected det 65535 else x.det.injected } }

/-- Target word of a whole die. -/
def State.dieTarget (s : State) (d : DieId) : Word := s.target 7 (wholeDie d)

/-! ### Heartbeats (R388, R398) -/

/-- A die sends heartbeats: present, out of Seed, not HALTED, no Ringmaster core halted by a debug session (R481). -/
def Die.beats (x : Die) : Bool := x.present && (x.status == .running || x.status == .sync) && x.rm.halted == 0

/-- HEARTBEAT_SEND (R388): every 5 µs on both paths; an injection suppresses the paths it names (R429). -/
def execHeartbeatSend (d : DieId) (s : State) : Result :=
  let p := (s.die d).partner
  if !((s.die d).beats && decide (p.hbSentNs + 5000 ≤ s.now)) then .next s
  else
    let s := if s.hasPartner && decide (p.heard1Ns < p.hbSentNs) then s.count d 9 0 2 else s
    let s := if s.hasPartner && decide (p.heard2Ns < p.hbSentNs) then s.count d 9 0 3 else s
    let r := s.checkInjected d 13 fun i => i.target == s.dieTarget d
    let path := match r.2 with
      | some i => i.path
      | none => 0
    .next (r.1.onPartner d fun q => { q with
      hbSentNs := s.now, hbOn1 := s.mw.trapeze.directUp && !bit path 0, hbOn2 := q.mwLinkUp && !bit path 1,
      injected := q.injected || decide (path ≠ 0) })

/-- HEARTBEAT (R388): path 1 reaches the other die; path 2 reaches MW, refreshes the watchdog where its sender holds the token
(R368), and is relayed to the other die. -/
def execHeartbeat (sender : DieId) (path : HbPath) (s : State) : Result :=
  let p := (s.die sender).partner
  match path with
  | .path1 =>
    if p.hbOn1 && s.mw.trapeze.directUp then
      let s := s.onPartner sender fun q => { q with hbOn1 := false }
      .next (s.onPartner sender.other fun q => { q with heard1Ns := s.now, requested := false })
    else .next s
  | .path2 =>
    if p.hbOn2 && p.mwLinkUp then
      let s := s.onPartner sender fun q => { q with hbOn2 := false, hbMwNs := s.now }
      let s := if s.isFlier sender then s.refresh else s
      if (s.die sender.other).partner.mwLinkUp then
        .next (s.onPartner sender.other fun q => { q with heard2Ns := s.now, requested := false })
      else .next s
    else .next s

/-- A die has heard no heartbeat of its partner on either path for 20 µs. -/
def State.silent (s : State) (d : DieId) : Bool :=
  let p := (s.die d).partner
  decide (p.heard1Ns + 20000 ≤ s.now) && decide (p.heard2Ns + 20000 ≤ s.now)

/-- HEARTBEAT_SILENCE (R398): the Catcher requests the token; the Flier takes the Catcher's eligibility. -/
def execHeartbeatSilence (d : DieId) (s : State) : Result :=
  let o := d.other
  if !((s.die d).works && s.hasPartner && s.silent d) then .next s
  else if s.isFlier d then
    if (s.die o).partner.eligible then .next ((s.noteLasting d 13 (s.die o).partner.injected).catcherLost o 10) else .next s
  else if s.isFlier o && !(s.die d).partner.requested then
    .next ((s.noteLasting d 13 (s.die o).partner.injected).onPartner d fun q => { q with requested := true })
  else .next s

/-! ### The digest (R391, R392, R46) -/

/-- Joints with a window, and its slot. -/
def Die.windowJoints (x : Die) : List (Fin 64 × Nat) := (List.finRange 64).filterMap fun j => (x.cfg.nodeOf j.val).map fun n => (j, 16 * n.1 + n.2)

/-- The joints whose window part is not in MW (R43). -/
def Die.lateJoints (x : Die) : List (Fin 64) := (x.windowJoints.filter fun w => !x.outSlots.contains w.2).map fun w => w.1

/-- SERVO item runs of a period that have not completed. -/
def Die.servoLate (x : Die) (b : Nat) : List Nat :=
  (x.disp.insts.filter fun i => i.b == b && i.state != .done && (match x.entryOf i with
    | some e => e.cls == 0
    | none => false)).map fun i => i.entry

/-- Item runs of every class whose class deadline is the cut-off of period `b` and that have not completed by it (R263, R271). -/
def Die.missed (x : Die) (b : Nat) : List Nat :=
  ((x.disp.insts.filter fun i => i.state != .done && (match x.entryOf i with
    | some e => i.b + x.cfg.ratio e.cls == b + 1
    | none => false)).map fun i => i.entry).eraseDups

/-- An item run that writes field or TPO words is late (R47). -/
def Die.fieldLate (x : Die) (b : Nat) : Bool := (x.servoLate b).any fun e => x.partner.fieldEntries.contains e

/-- Instances late or dropped in a period that count as EXCLUDED: all but control items without persistent state, whose joint LATE
names. -/
def Die.excluded (x : Die) (l : List Nat) : List Nat := l.filter fun n => match x.cfg.program.find n with
  | some e =>
    let c := x.cfg.block e
    !(decide (c.stateBytes = 0) && libOf c.code == .control)
  | none => true

/-- STATE_CRC: the state halves exchanged in the period, in entry order. -/
def Die.stateCrc (x : Die) : Word :=
  crc32 ((x.cfg.program.filter fun p => x.partner.exchanged.contains p.1).map fun p => x.halfBytes p.1 p.2 (x.disp.half.getD p.1 false)).flatten

/-- JOINT_CRC of a joint. -/
def Die.jointCrc (x : Die) (j : Fin 64) : Nat :=
  match x.cfg.nodeOf j.val with
  | some (r, p) =>
    if x.outSlots.contains (16 * r + p) then (crc16 (x.stores.outBank.readN (64 * (16 * r + p)) (x.cfg.node r p).outLen)).toNat else 0
  | none => 0

/-- The plans of a planning period are left out of the compare on a Catcher that publishes in another period than the Flier, as on one that is behind (R121 step 4): in the period in
which the Flier published and in its own. DEDUCED: R121 lets the Catcher iterate on after k_F has come, and Table 13.1 knows only the period of publication. -/
def Die.planLag (x fl : Die) (b : Nat) : Bool :=
  (fl.jug.pubB == some b && (x.jug.solve.isSome || x.jug.pubB != some b)) || (x.jug.pubB == some b && fl.jug.pubB != some b)

/-- The digest of a period (Table 13.1). A result of the Catcher that had not come by boundary B enters the digest of the period that begins there (R224): that of the period
before has been closed. DEDUCED. `lag` leaves the plan out of the compare. -/
def Die.digestOf (x : Die) (b : Nat) (lag : Bool) : List Byte :=
  let ex := (x.excluded (x.missed b)).length
  let pub := x.jug.planPresent && x.jug.pubB == some b
  le 8 b ++
  le 2 (packBits [x.fieldLate b, pub, x.jug.behind || lag, (x.sep.mismatch && decide ((b + 1) % x.cfg.rSep = 0)) || x.sep.missB == some b, ex != 0]) ++
  le 2 ex ++ le 4 (~~~x.partner.fieldCrc).toNat ++ le 4 (if pub then x.jug.planCrc.toNat else 0) ++ le 4 x.stateCrc.toNat ++ le 4 (~~~x.partner.replyCrc).toNat ++
  zeros 4 ++ le 8 (packBits ((List.finRange 64).map fun j => x.lateJoints.contains j)) ++
  ((List.finRange 64).map fun j => le 2 (x.jointCrc j)).flatten ++ zeros 24

/-- Two digests of one period match (R392). -/
def digestsMatch (f c : List Byte) : Bool :=
  let fl := rd f 8 2
  let cl := rd c 8 2
  let either := fun (i : Nat) => bit fl i || bit cl i
  let same := fun (o n : Nat) => decide (rd f o n = rd c o n)
  let late := fun (j : Nat) => bit (rd f 32 8) j || bit (rd c 32 8) j
  same 0 8 && (same 12 4 || either 0) && same 24 4 && (List.range 64).all (fun j => late j || same (40 + 2 * j) 2) &&
  (same 16 4 || either 2) && (same 20 4 || decide (rd f 10 2 ≠ 0) || decide (rd c 10 2 ≠ 0)) && !either 3

/-- A die closes a period's digest at the cut-off (R391), and starts the sums of the next. An injection corrupts its own (R429). -/
def State.closeDigest (s : State) (d : DieId) : State :=
  let r := s.checkInjected d 12 fun i => i.target == s.dieTarget d
  let lag := !s.isFlier d && (s.die d).planLag (s.die d.other) s.mw.b
  r.1.onDie d fun x => { x with
    partner := { x.partner with
      digest := x.digestOf s.mw.b lag, digestB := s.mw.b, digestBad := r.2.isSome, compared := false,
      marks := x.missed s.mw.b,
      replyCrc := 0xFFFFFFFF, fieldCrc := 0xFFFFFFFF, exchanged := [] } }

/-- The Catcher's digest does not match, or has not come (R392). -/
def State.digestMismatch (s : State) (c : DieId) (injected : Bool) : State :=
  let was := (s.die c).partner.eligible
  let s := (s.detect c (s.dieTarget c) (wholeDie c) 12 true injected []).1
  let s := s.onPartner c fun q => { q with matchRun := 0 }
  let s := s.onTrapeze fun t => { t with mismatches := sat32 (t.mismatches + 1) }
  let s := (s.count c 9 0 1).count c.other 9 0 1
  if was then s.catcherLost c 1 else s

/-- The Catcher has proved itself: MW's flag is set and `CATCHER_ELIGIBLE` raised (R394); the sync ends. -/
def State.makeEligible (s : State) (c : DieId) : State :=
  let old := s
  let s := s.onTrapeze fun t => { t with sync := none, syncFails := 0, syncWaitNs := none }
  let s := s.onDie c fun x => { x with status := .running, partner := { x.partner with eligible := true, eligibleB := old.mw.b, eligibleNs := old.now, injected := false } }
  (s.phaseRecords old).raise c.other 2 (s.dieTarget c) []

/-- State repair (R271): the entries late or dropped on one die only. -/
def State.markRepairs (s : State) (f c : DieId) : State :=
  let fm := (s.die f).partner.marks
  let cm := (s.die c).partner.marks
  let keeps := fun (n : Nat) => match (s.die c).cfg.program.find n with
    | some e => decide (((s.die c).cfg.block e).stateBytes ≠ 0)
    | none => false
  let a := (fm.filter fun n => !cm.contains n && keeps n).map fun n => (n, true)
  let b := (cm.filter fun n => !fm.contains n && keeps n).map fun n => (n, false)
  s.onDie c fun x => { x with disp := { x.disp with repair := (x.disp.repair ++ a ++ b).eraseDups } }

/-- The Catcher takes part in the compare: it computes after a full sync. -/
def State.inCompare (s : State) (c : DieId) : Bool := s.computes c && ((s.die c).partner.eligible || (s.die c).partner.synced)

/-- End a handover that will not happen: its command is answered `NOT_ELIGIBLE` (R418). -/
def State.endHandover (s : State) : State :=
  match s.mw.trapeze.handover with
  | none => s
  | some n =>
    let s := s.onTrapeze fun t => { t with handover := none }
    match n.cmd with
    | some h => s.lateReply 0x0803 h { status := St.notEligible }
    | none => s

/-- DIGEST_RECEIVE (R392): the Flier `d` compares the Catcher's digest with its own; sixteen matches in a row after a full sync make the
Catcher eligible (R394), and end the warm-up of a LATENT revert (R411). -/
def execDigestReceive (d : DieId) (s : State) : Result :=
  let c := d.other
  let f := (s.die d).partner
  let g := (s.die c).partner
  if !(s.isFlier d && s.hasPartner && s.linked && s.inCompare c && s.computes d && !f.compared && !g.compared && decide (f.digestB = g.digestB)) then .next s
  else
    let s := (s.onPartner d fun q => { q with compared := true }).onPartner c fun q => { q with compared := true }
    let s := (s.count d 9 0 0).count c 9 0 0
    let s := s.markRepairs d c
    if digestsMatch f.digest g.digest && !f.digestBad && !g.digestBad then
      let n := min 65535 (g.matchRun + 1)
      let s := s.onPartner c fun q => { q with matchRun := n }
      let s := if !g.eligible && decide (16 ≤ n) then s.makeEligible c else s
      if s.mw.trapeze.warmUp && decide (16 ≤ n) && s.mw.trapeze.handover.isNone && (s.die c).partner.eligible then
        .next (s.onTrapeze fun t => { t with handover := some { target := c, atB := s.mw.b } })
      else .next s
    else .next (s.digestMismatch c (f.digestBad || g.digestBad))

/-! ### Full sync (R395, R396) -/

/-- The functional state of a die taken from the Flier's: everything but what belongs to the die itself (its fuses, host port, events,
detectors, Preserve, statistics, trace, fences and its partnership). Copies and notices held so far go (R86). -/
def Die.follow (own fl : Die) : Die :=
  { fl with
    present := own.present, status := own.status, fuses := own.fuses, fuses2 := own.fuses2, port := own.port,
    events := own.events, det := own.det, preserve := own.preserve, stats := own.stats, partner := own.partner,
    fenced := own.fenced, removed := own.removed, ungating := [],
    readmit := decide (own.fenced ≠ fl.fenced ∨ own.removed ≠ fl.removed), readmitFenced := [],
    condemned := own.condemned, test := none,
    rm := { fl.rm with notices := [], copies := [], expired := [], latent := [], halted := own.rm.halted },
    disp := { fl.disp with trace := own.disp.trace, repair := [] } }

/-- Start a full sync of die `c` (R395): it enters SYNC. -/
def State.startSync (s : State) (c : DieId) : State :=
  let old := s
  let s := s.onTrapeze fun t => { t with sync := some { target := c, startNs := old.now }, syncBytes := 0, syncWaitNs := none }
  let s := s.onDie c fun x => { x with
    status := .sync, partner := { x.partner with eligible := false, synced := false, matchRun := 0, eligibleB := 0, compared := true, journalB := none },
    rm := { x.rm with notices := [], copies := [], expired := [], latent := [] } }
  s.phaseRecords old

/-- SYNC_PASS_DONE (R395): the bulk pass is followed by dirty passes until one ends with at most 64 KiB dirty, at most 8; then the sync
point is the cut-off of the next period. -/
def execSyncPassDone (copied dirty : Nat) (s : State) : Result :=
  match s.mw.trapeze.sync with
  | none => .next s
  | some y =>
    if y.syncB.isSome || !s.mw.trapeze.directUp || (s.die y.target).status != .sync then .next s
    else
      let s := s.onTrapeze fun t => { t with syncBytes := sat32 (t.syncBytes + copied) }
      if y.pass ≠ 0 ∧ dirty ≤ 65536 then .next (s.onTrapeze fun t => { t with sync := some { y with syncB := some (s.mw.b + 2) } })
      else if 8 ≤ y.pass then .next s.failSync
      else .next (s.onTrapeze fun t => { t with sync := some { y with pass := y.pass + 1 } })

/-- The sync point (R395 step 3): at the cut-off of period B_sync − 1 the Catcher has the Flier's state as it stands there. -/
def State.syncPoint (s : State) : State :=
  match s.mw.trapeze.sync with
  | some y =>
    if y.syncB = some (s.mw.b + 1) ∧ (s.die y.target).status = .sync ∧ s.isFlier y.target.other = true then
      let s := s.onDie y.target fun x => x.follow (s.die y.target.other)
      let s := s.onPartner y.target fun q => { q with
        synced := true, matchRun := 0, compared := true, latentGated := (s.die y.target).cfg.trapeze.latent, journalB := none,
        exchanged := [], replyCrc := 0xFFFFFFFF, fieldCrc := 0xFFFFFFFF, fieldEntries := (s.die y.target.other).partner.fieldEntries }
      s.onDie y.target fun x => if x.partner.latentGated then x.latentGate else x
    else s
  | none => s

/-- SYNC_TIMEOUT (R396): not eligible 100 ms after step 1 started. -/
def execSyncTimeout (s : State) : Result :=
  match s.mw.trapeze.sync with
  | some y => if y.startNs + 100000000 ≤ s.now then .next s.failSync else .next s
  | none => .next s

/-- The die beside the Flier. -/
def State.catcher (s : State) : Option DieId := if s.hasPartner then s.mw.trapeze.token.map DieId.other else none

/-- AUTO_SYNC (R396): SYNC_DELAY_MS after a loss, a failure or a rejoin the part starts a full sync on its own; without the direct link
it fails at once. -/
def execAutoSync (s : State) : Result :=
  match s.mw.trapeze.syncWaitNs, s.catcher with
  | some t, some c =>
    let g := (s.die c.other).cfg.trapeze
    let x := s.die c
    if !(s.phase == .ripe && s.mw.trapeze.sync.isNone && !g.noAutoSync && decide (s.mw.trapeze.syncFails < 3) && decide (t + 1000000 * g.syncDelayMs ≤ s.now) &&
        (x.status == .running || x.status == .sync) && !x.partner.eligible) then .next s
    else
      let s := s.startSync c
      .next (if s.mw.trapeze.directUp then s else s.failSync)
  | _, _ => .next s

/-! ### LATENT mode (R403, R405) -/

/-- The newest period whose cut-off has passed. -/
def State.closedB (s : State) : Option Nat := if s.mw.cutDone then some s.mw.b else if s.mw.b = 0 then none else some (s.mw.b - 1)

/-- A journal epoch holds the effect of a command that waits for a takeover (R403). -/
def Journal.holds (j : Journal) (c : LatentCmd) : Bool :=
  match c.no with
  | some n => decide (n < j.upTo)
  | none => decide (c.b ≤ j.b)

/-- The state of a LATENT Catcher after a journal epoch: the Flier's state of that epoch, with the notices it contains marked (R403). Its commands stay its own, those whose effect
the epoch holds are done with; so does the power of its clusters. -/
def Die.journalled (own : Die) (j : Journal) : Die :=
  let x := own.follow j.flier
  { x with
    gated := own.gated, ungating := own.ungating,
    rm := { x.rm with
      held := own.rm.held, notices := own.rm.notices.map fun n => { n with contained := n.contained || decide (n.no < j.upTo) },
      copies := own.rm.copies, expired := own.rm.expired, awaiting := own.rm.awaiting, noticed := own.rm.noticed,
      latent := own.rm.latent.filter fun c => !j.holds c } }

/-- The Flier closes the period's epoch at the cut-off (R403), while a LATENT Catcher follows it. -/
def State.closeJournal (s : State) : State :=
  match s.catcher with
  | some c =>
    if (s.die c).partner.latentGated && s.computes c.other then
      { s with journal := some { b := s.mw.b, flier := s.die c.other, upTo := (s.die c).rm.noticed } }
    else s
  | none => s

/-- JOURNAL_EPOCH (R403, R405): a LATENT Catcher applies the epoch of the newest closed period, as its journal buffer holds it. An epoch whose CRC fails twice, or a gap,
costs it its eligibility. -/
def execJournalEpoch (d : DieId) (epoch : Nat) (crcOk : Bool) (s : State) : Result :=
  let p := (s.die d).partner
  if !(s.hasPartner && (s.die d).works && p.latentGated && s.isFlier d.other && s.linked && (p.eligible || p.synced) &&
      decide (s.closedB = some epoch) && decide (p.journalB ≠ some epoch) && (s.journal.any fun j => j.b == epoch)) then .next s
  else if !crcOk then
    if p.journalBad then .next ((s.onPartner d fun q => { q with journalBad := false }).catcherLost d 11)
    else .next (s.onPartner d fun q => { q with journalBad := true })
  else
    let gap := match p.journalB with
      | some e => decide (epoch ≠ e + 1)
      | none => false
    if gap then .next (s.catcherLost d 11)
    else
      let s := match s.journal with
        | some j => s.onDie d fun x => x.journalled j
        | none => s
      let n := min 65535 (p.matchRun + 1)
      let s := s.onPartner d fun q => { q with journalB := some epoch, journalBad := false, matchRun := n }
      let s := s.count d 9 0 4
      .next (if !p.eligible && decide (16 ≤ n) then s.makeEligible d else s)

/-! ### HALTED and die reset (R398, R408) -/

/-- Die resets of a die within the last hour. -/
def State.resetsOf (s : State) (d : DieId) : Nat := ((s.die d).partner.resets.filter fun t => decide (s.now < t + 3600000000000)).length

/-- What the dies still owe of a place command for a die that has failed is answered `UNIT_ABSENT` (R28, R84). -/
def State.answerLost (s : State) (d : DieId) : State :=
  let mine := (s.die d.other).rm.awaiting.filter fun w => tKind w.cmd.target == 7 && bits w.cmd.target.toNat 25 24 == d.code
  mine.foldl (fun s w => s.lateReplyOn d.other w.opcode w.cmd { status := St.unitAbsent }) s

/-- A die enters HALTED; one that has used up its resets stays so and raises `DIE_HALTED` (R408), which its partner raises too. -/
def State.haltDie (s : State) (d : DieId) : State :=
  let old := s
  let s := match s.mw.trapeze.sync with
    | some _ => s.failSync
    | none => s
  let s := s.onDie d fun x => { x with
    status := .halted, condemned := false,
    partner := { x.partner with haltedNs := old.now, eligible := false, synced := false, matchRun := 0, hbOn1 := false, hbOn2 := false } }
  let s := (s.phaseRecords old).answerLost d
  if (s.die d).cfg.trapeze.resetLimit ≤ s.resetsOf d then
    let s := s.onPartner d fun q => { q with stuck := true }
    let s := s.raise d 6 (s.dieTarget d) []
    if (s.die d.other).live then s.raise d.other 6 (s.dieTarget d) [] else s
  else s

/-- TOKEN_RELINQUISH (R398, R407): a die condemned by a lasting die or region fault relinquishes the token where it holds it and can still
reach MW, and enters HALTED; a Catcher loses its eligibility. -/
def execTokenRelinquish (d : DieId) (s : State) : Result :=
  if !((s.die d).works && (s.die d).condemned) then .next s
  else if s.isFlier d then
    let s := s.endHandover
    let s := if (s.die d).partner.mwLinkUp then
        s.onTrapeze fun t => { t with token := none, relinquished := true, oldHolder := some d, leftNs := s.now }
      else s
    .next (s.haltDie d)
  else .next ((s.catcherLost d 9).haltDie d)

/-- A die as a reset leaves it (R458, R461): fuses and Preserve stay, everything else is cleared. -/
def Die.cleared (x : Die) : Die :=
  { present := x.present, status := .seed, fuses := x.fuses, fuses2 := x.fuses2, preserve := x.preserve,
    partner := { resets := x.partner.resets, lostCause := x.partner.lostCause } }

/-- DIE_RESET (R408): 10 ms after HALTED, unless NO_AUTO_RESET is set or RESET_LIMIT resets lay within the hour before HALTED, which only a package reset ends. -/
def execDieReset (d : DieId) (s : State) : Result :=
  let x := s.die d
  if x.status == .halted && !x.cfg.trapeze.noAutoReset && decide (x.partner.haltedNs + 10000000 ≤ s.now) &&
      !x.partner.stuck then
    let s := s.onDie d fun x => { x.cleared with resetCause := 1, partner := { x.cleared.partner with resets := s.now :: x.partner.resets } }
    .next s
  else .next s

/-! ### Handover and revert (R409..R411) -/

/-- A handover at this cut-off (R409): the token moves where the target is eligible and has no late joint; a late target waits for the
next cut-off, at most 16 periods. The answer is the die whose bank MW freezes. -/
def State.handoverCut (s : State) : State :=
  match s.mw.trapeze.handover, s.mw.trapeze.token with
  | some n, some f =>
    let x := s.die n.target
    let pending := n.cmd.isNone && (match (s.die f).commit with
      | some c => decide (c.bc ≤ s.mw.b + 1) && decide (s.mw.b ≤ c.bc)
      | none => false)
    if n.target = f then s.onTrapeze fun t => { t with handover := none }
    else if s.mw.b < n.atB || pending then s
    else if !(x.partner.eligible && decide (16 ≤ x.partner.matchRun) && s.computes n.target) then s.endHandover
    else if !x.lateJoints.isEmpty then
      if 16 ≤ n.tries + 1 then s.endHandover else s.onTrapeze fun t => { t with handover := some { n with tries := n.tries + 1 } }
    else
      let latent := x.cfg.trapeze.latent
      let s := s.onTrapeze fun t => { t with
        token := some n.target, handover := none, handovers := min 65535 (t.handovers + 1), lastMoveNs := s.now, warmUp := false }
      let s := s.onPartner f fun q => { q with
        eligible := true, synced := true, eligibleB := s.mw.b, eligibleNs := s.now, matchRun := x.partner.matchRun, latentGated := latent, journalB := none }
      let s := s.onDie f fun x => if latent then x.latentGate else x
      let s := s.onPartner n.target fun q => { q with eligible := false, latentGated := false }
      let s := s.raise n.target 1 (s.dieTarget n.target) []
      match n.cmd with
      | some h => s.lateReply 0x0803 h { status := St.ok }
      | none => s
  | _, _ => s

/-- When the hold-off of R411 ends, where one runs. -/
def State.holdoffEnd (s : State) : Option Nat :=
  match s.catcher with
  | some c =>
    let g := (s.die c.other).cfg.trapeze
    if g.homeFlier = c ∧ g.noRevert = false ∧ (s.die c).partner.eligible = true then
      some (max (s.die c).partner.eligibleNs s.mw.trapeze.lastMoveNs + 1000000 * g.holdoffMs)
    else none
  | none => none

/-- REVERT_HOLDOFF (R411): the home die is handed the token back; a LATENT one warms up first. -/
def execRevertHoldoff (s : State) : Result :=
  match s.holdoffEnd, s.catcher with
  | some t, some c =>
    if !(decide (t ≤ s.now) && s.mw.trapeze.handover.isNone && !s.mw.trapeze.warmUp && s.phase == .ripe) then .next s
    else if (s.die c).cfg.trapeze.latent then .next ((s.onTrapeze fun t => { t with warmUp := true }).onDie c Die.latentUngate)
    else .next (s.onTrapeze fun t => { t with handover := some { target := c, atB := s.mw.b } })
  | _, _ => .next s

/-- At the first planning boundary at which its region P is ready a warming home die starts to compute (R411). -/
def State.warmBoundary (s : State) : State :=
  match s.catcher with
  | some c =>
    if s.mw.trapeze.warmUp && (s.die c).partner.latentGated && !(s.die c).noJugglerPower && decide (s.mw.b % (s.die c).cfg.rP = 0) then
      s.onPartner c fun q => { q with latentGated := false, waking := false, matchRun := 0, compared := true }
    else s
  | none => s

/-! ### Links and MW compare (R14, R17, R425) -/

/-- The die and unit at which a link's detections are recorded: the Flier's end of the direct link, the die's own end of an MW link. -/
def State.linkUnit (s : State) (l : LinkId) : DieId × UnitId :=
  match l with
  | .direct => (s.lead, unitOf s.lead 2 3 0)
  | .t0mw => (.t0, unitOf .t0 2 3 1)
  | .t1mw => (.t1, unitOf .t1 2 3 1)

/-- The link is up. -/
def State.linkUp (s : State) (l : LinkId) : Bool :=
  match l with
  | .direct => s.hasPartner && s.mw.trapeze.directUp
  | .t0mw => s.t0.present && s.t0.partner.mwLinkUp
  | .t1mw => s.t1.present && s.t1.partner.mwLinkUp

/-- A flit of a link fails or passes (R17, R421): the first failure is resent, a failed resend is lasting; a resend that passes leaves a
transient. An injection in either has made the detection (R423). -/
def State.flit (s : State) (l : LinkId) (passes injected : Bool) : State :=
  let (d, u) := s.linkUnit l
  let again := s.mw.trapeze.flitRetry.contains l
  let clear := fun (s : State) => s.onTrapeze fun t => { t with
    flitRetry := t.flitRetry.filter fun k => k != l, flitFalse := t.flitFalse.filter fun k => k != l }
  if passes && !again then s
  else if !passes && !again then
    s.onTrapeze fun t => { t with flitRetry := t.flitRetry ++ [l], flitFalse := if injected then t.flitFalse ++ [l] else t.flitFalse }
  else
    let was := s.mw.trapeze.flitFalse.contains l
    let r := (clear s).detect d (s.unitTarget u) (placeNumber u) 7 (!passes) (injected || was) [BitVec.ofNat 8 u.unit.val]
    if r.2 then r.1.linkLost l else r.1

/-- Injections of link faults that hit a link: those on either of its ends. -/
def State.linkInjected (s : State) (l : LinkId) : State × Bool :=
  let one := fun (a : State × Bool) (d : DieId) (u : UnitId) =>
    let r := a.1.checkInjected d 7 fun i => i.target == a.1.unitTarget u
    (r.1, a.2 || r.2.isSome)
  match l with
  | .direct => one (one (s, false) .t0 (unitOf .t0 2 3 0)) .t1 (unitOf .t1 2 3 0)
  | .t0mw => one (s, false) .t0 (unitOf .t0 2 3 1)
  | .t1mw => one (s, false) .t1 (unitOf .t1 2 3 1)

/-- FLIT_RECEIVE (R17): a flit arrives; `crcOk` says whether its CRC-16 passes. -/
def execFlitReceive (link : LinkId) (crcOk : Bool) (s : State) : Result :=
  if !s.linkUp link then .next s
  else
    let r := s.linkInjected link
    .next (r.1.flit link (crcOk && !r.2) r.2)

/-- FLIT_ACK_TIMEOUT (R425): a flit without acknowledgement for 2 µs counts as failed. -/
def execFlitAckTimeout (link : LinkId) (s : State) : Result :=
  if s.linkUp link then .next (s.flit link false false) else .next s

/-- DIRECT_LINK_RESTORED (R17). -/
def execDirectLinkRestored (s : State) : Result :=
  if s.hasPartner && !s.mw.trapeze.directUp then
    .next (s.onTrapeze fun t => { t with directUp := true, flitRetry := t.flitRetry.filter fun k => k != .direct, flitFalse := t.flitFalse.filter fun k => k != .direct })
  else .next s

/-- MW's copies disagree (R14, R22): the Curtain starts, and its sequencer, for which the compared logic is no longer sound, counts T_s itself (R413). -/
def State.compareFailed (s : State) (injected : Bool) : State :=
  (((s.onLive fun d s => s.noteLasting d 14 injected).startCurtain 1).sequencerCounts).holdOutputs

/-- COMPARE_FAILURE (R14, R22): MW's copies disagree; the word is never driven and the Curtain starts. From then on the sequencer counts the boundaries itself (R413). -/
def execCompareFailure (s : State) : Result :=
  let r := s.checkInjectedMw 14 fun _ => true
  .next (r.1.compareFailed r.2.isSome)

/-! ### Commands -/

/-- The package has no Catcher (R2). -/
def State.noTrapeze (s : State) : Bool := s.mw.fuses.variant == 1

/-- Milliseconds times a million. -/
def msNs (n : Nat) : Nat := 1000000 * n

/-- Body of `CONFIG_TRAPEZE` (R416, Table 13.7). -/
def bodyConfigTrapeze (h : HostCmd) (d : DieId) (s : State) : Answer :=
  let p := h.params
  let u (o n : Nat) := rd p o n
  if s.noTrapeze then reject s St.unitAbsent
  else
    let new : CfgTrapeze :=
      { homeFlier := if u 0 1 = 1 then .t1 else .t0, latent := u 1 1 == 1, noRevert := bit (u 2 1) 0, noAutoSync := bit (u 2 1) 1,
        noAutoReset := bit (u 2 1) 2, resetLimit := orDefault (u 3 1) 3, holdoffMs := orDefault (u 4 4) 30000,
        pairingNs := orDefault (u 8 4) 500000, syncDelayMs := orDefault (u 12 4) 100, curtainTStopNs := orDefault (u 16 4) 500000000 }
    let bad := decide (1 < u 0 1) || decide (1 < u 1 1) || decide (7 < u 2 1) || decide (15 < u 3 1) ||
      !(u 4 4 == 0 || within (u 4 4) 1000 3600000) || !(u 8 4 == 0 || within (u 8 4) 50000 10000000) ||
      !(u 12 4 == 0 || within (u 12 4) 1 60000) || !(u 16 4 == 0 || within (u 16 4) 10000000 10000000000) || !zeroAt p 20 12 ||
      (u 1 1 == 1 && !(s.die d).shadow.latentFits)
    s.config d (if bad then some St.range else none) [unitOf d 2 0 0, mwUnit 2 3 0] fun c => { c with trapeze := new }

/-- Body of `SYNC_START` (R417). -/
def bodySyncStart (_h : HostCmd) (d : DieId) (s : State) : Answer :=
  if s.noTrapeze then reject s St.unitAbsent
  else if s.mw.trapeze.sync.isSome then reject s St.busy
  else
    let c := s.die d.other
    if c.partner.eligible || !(c.present && (c.status == .running || c.status == .sync)) || !s.mw.trapeze.directUp || s.curtained then reject s St.wrongState
    else if s.isFlier d then answer ((s.onTrapeze fun t => { t with syncFails := 0 }).startSync d.other)
    else answer s

/-- Body of `SWITCH_OVER` (R418). The reply comes after the handover or its abandonment. -/
def bodySwitchOver (h : HostCmd) (d : DieId) (s : State) : Answer :=
  let to_ : DieId := if rd h.params 0 1 = 1 then .t1 else .t0
  if s.noTrapeze then reject s St.unitAbsent
  else if decide (1 < rd h.params 0 1) || !zeroAt h.params 1 7 then reject s St.range
  else if s.isFlier to_ then answer s
  else if (s.die d).cfg.trapeze.latent || s.curtained then reject s St.wrongState
  else if !(s.die to_).partner.eligible then reject s St.notEligible
  else if s.isFlier d then
    let s := s.endHandover
    (s.onTrapeze fun t => { t with handover := some { target := to_, atB := s.mw.b, cmd := some h } }, { status := St.later })
  else (s, { status := St.later })

/-- CATCHER_STATE (Table 13.8). -/
def State.catcherState (s : State) : Nat :=
  match s.catcher with
  | none => 0
  | some c =>
    if s.phase ≠ .ripe then 0
    else match (s.die c).status with
      | .off | .seed => 0
      | .sync => 1
      | .halted => 4
      | .running => if (s.die c).partner.eligible then 2 else 3

/-- What the status reports of the Catcher, 0 in Blossom. -/
def State.ofCatcher (s : State) (f : Die → Nat) : Nat :=
  match s.catcher with
  | some c => if s.phase = .ripe then f (s.die c) else 0
  | none => 0

/-- Body of `TRAPEZE_STATUS` (R419, Table 13.8). -/
def bodyTrapezeStatus (_h : HostCmd) (_d : DieId) (s : State) : Answer :=
  let t := s.mw.trapeze
  let g := (s.die s.lead).cfg.trapeze
  let left := match s.holdoffEnd with
    | some e => min 4294967294 ((e - s.now + 999999) / 1000000)
    | none => 4294967295
  if s.noTrapeze then reject s St.unitAbsent
  else
    answer s (le 8 s.mw.b ++ le 1 (match t.token with
        | some d => d.code
        | none => 255) ++ le 1 g.homeFlier.code ++ le 1 (b2n g.latent) ++ le 1 s.catcherState ++
      le 2 (s.ofCatcher fun x => x.partner.matchRun) ++ le 1 (s.ofCatcher fun x => x.partner.lostCause) ++
      le 1 (packBits [s.holdoffEnd.isSome, t.handover.isSome, t.directUp,
        decide (s.ofCatcher (fun x => b2n (decide (s.now < x.partner.hbMwNs + 20000))) = 1), s.curtained, t.warmUp]) ++
      le 4 t.syncBytes ++ le 4 left ++ le 8 (s.ofCatcher fun x => if x.partner.eligible then x.partner.eligibleB else 0) ++ le 8 t.lastTakeoverB ++ le 4 t.lastTakeoverNs ++
      le 2 t.takeovers ++ le 2 t.handovers ++ le 4 t.mismatches ++
      le 1 (match t.curtain with
        | some c => c.cause
        | none => 0) ++ le 1 (s.resetsOf .t0 + s.resetsOf .t1) ++ le 2 t.refused ++ zeros 8)

/-- Body of `HEALTH_STREAM` (R420). -/
def bodyHealthStream (h : HostCmd) (d : DieId) (s : State) : Answer :=
  let p := h.params
  if s.noTrapeze then reject s St.unitAbsent
  else if decide (1 < rd p 0 1) || !zeroAt p 1 7 then reject s St.range
  else if rd p 0 1 = 0 then answer (s.closeStream d 0x0804 h.target)
  else answer (s.openStream d 0x0804 h [])

/-- ROLE of a die (Table 3.13). -/
def State.role (s : State) (d : DieId) : Nat :=
  if !s.hasPartner then 3 else if s.isFlier d then 0 else if (s.die d).partner.eligible then 1 else 2

end Sys2Proof.Machine
end

