-- ==== Sys2Proof/Machine/Records.lean ====
section
/-! DEFINITION. Preserve and the statistics banks (chapter 15): freezing, reading, the interval boundary and the commands. -/

namespace Sys2Proof.Machine

/-! ### Preserve (R447..R449, R453..R455) -/

/-- Change the Preserve recorder of a die. -/
def State.onPreserve (s : State) (d : DieId) (f : Preserve → Preserve) : State := s.onDie d fun x => { x with preserve := f x.preserve }

/-- Records held (R443). -/
def Preserve.count (p : Preserve) : Nat := min p.total 8192

/-- OLDEST_SEQ and NEXT_SEQ (R455). -/
def Preserve.oldest (p : Preserve) : Nat := (p.total - p.count) % 65536
def Preserve.next (p : Preserve) : Nat := p.total % 65536

/-- Bytes of a record (Table 15.1). -/
def PresRec.bytes (r : PresRec) : List Byte :=
  stamp r.time ++ stamp r.last ++ le 4 r.source.toNat ++ le 2 r.code ++ le 2 r.repeat_ ++ le 1 r.mark ++ zeros 1 ++ le 2 r.seq ++ padTo 32 r.data

/-- The end of a freeze (R448): `PRESERVE_LOST` where occurrences went unrecorded, the first record written, then LOST is 0. The answer is LOST and the duration. -/
def State.thaw (s : State) (d : DieId) : State × Nat × Nat :=
  let p := (s.die d).preserve
  let ms := (s.now - p.freezeNs) / 1000000
  let s := s.onPreserve d fun q => { q with frozen := false }
  let s := if p.lost = 0 then s else s.raise d 224 (s.unitTarget (unitOf d 2 2 0)) (le 4 p.lost ++ le 4 ms)
  (s.onPreserve d fun q => { q.settled with lost := 0 }, p.lost, ms)

/-- PRESERVE_AUTO_THAW (R448): MAX_MS has passed since the freeze began. -/
def execPreserveAutoThaw (d : DieId) (s : State) : Result :=
  let p := (s.die d).preserve
  if p.frozen && decide (p.countNs + 1000000 * p.maxMs ≤ s.now) then .next (s.thaw d).1 else .next s

/-- The target names the package, or cluster PV of region S by `unit` or as a whole (chapter 15, R28). -/
def pvTarget (w : Word) (unit : Nat) : Bool :=
  tKind w == 0 || (tKind w == 7 && (match placeScope (tIndex w) with
    | some (die, .unit 2 2 u) => die != 2 && u == unit
    | some (die, .cluster 2 2) => die != 2
    | _ => false))

/-- Body of `PRESERVE_FREEZE` (R453). -/
def bodyPreserveFreeze (h : HostCmd) (d : DieId) (s : State) : Answer :=
  let p := h.params
  if !pvTarget h.target 0 then reject s St.badTarget
  else if decide (3600000 < rd p 0 4) || !zeroAt p 4 4 then reject s St.range
  else
    let s := s.onPreserve d fun q =>
      { q.settled with frozen := true, freezeNs := if q.frozen then q.freezeNs else s.now, countNs := s.now, maxMs := orDefault (rd p 0 4) 60000 }
    let q := (s.die d).preserve
    answer s (le 2 q.oldest ++ le 2 q.next ++ le 2 q.count ++ zeros 2) true

/-- Body of `PRESERVE_THAW` (R454). -/
def bodyPreserveThaw (h : HostCmd) (d : DieId) (s : State) : Answer :=
  if !pvTarget h.target 0 then reject s St.badTarget
  else if !(s.die d).preserve.frozen then (s, { status := St.wrongState, own := true })
  else
    let r := s.thaw d
    answer r.1 (le 4 r.2.1 ++ le 4 r.2.2) true

/-- The record of a sequence number as read; a slot without a valid record reads as zeros. -/
def Preserve.readSeq (p : Preserve) (seq : Nat) : List Byte :=
  match p.slots.find (seq % 8192) with
  | some r => r.bytes
  | none => zeros 64

/-- Body of `PRESERVE_READ` (R455). -/
def bodyPreserveRead (h : HostCmd) (d : DieId) (s : State) : Answer :=
  let p := h.params
  let q := (s.die d).preserve.settled
  if !pvTarget h.target 0 then reject s St.badTarget
  else if !within (rd p 2 1) 1 3 || !zeroAt p 3 5 then reject s St.range
  else
    let off := (rd p 0 2 + 65536 - q.oldest) % 65536
    let n := (q.next + 65536 - q.oldest) % 65536
    let moved := decide (32768 ≤ off)
    let from_ := if moved then 0 else off
    let k := min (rd p 2 1) (n - from_)
    let recs := (List.range k).map fun i => q.readSeq ((q.oldest + from_ + i) % 65536)
    answer s (le 2 q.oldest ++ le 2 q.next ++ le 1 k ++ le 1 (packBits [q.frozen, q.rebuilt, moved]) ++ zeros 2 ++ le 4 q.lost ++ zeros 4 ++ recs.flatten) true

/-! ### Statistics (R450..R452, R456, R457) -/

/-- Words of a group, 0 for an undefined one (Table 15.3). -/
def statWords (group : Nat) : Nat :=
  match group with
  | 1 => 4
  | 2 => 4
  | 3 => 6
  | 4 => 9
  | 5 => 7
  | 6 => 2
  | 7 => 6
  | 8 => 16
  | 9 => 5
  | _ => 0

/-- Boundaries an interval has in its MODE. -/
def Cfg.intervalPeriods (c : Cfg) : Nat :=
  if c.statistics.mode = 0 then 2 ^ c.statistics.log2Periods else c.statistics.seconds * 1000000000 / max c.periods.tS 1

/-- The interval that ends does not hold the boundary that ends it, which was counted as it fired (R450, R457). -/
def Bank.ended (b : Bank) : Bank :=
  let k := statKey 1 0 3
  { b with periods := b.periods - 1, words := if (b.words.find k).isSome then b.words.set k (b.word 1 0 3 - 1) else b.words }

/-- The move of the banks (R450): the boundary `bStart` is the first of the new interval. -/
def Banks.latch (b : Banks) (n bStart expected : Nat) : Banks where
  live := { number := n, bStart := bStart, periods := 1, words := if (b.live.words.find (statKey 1 0 3)).isSome then Sparse.set [] (statKey 1 0 3) 1 else [] }
  latched := { b.live.ended with short_ := decide (b.live.ended.periods < expected) }
  previous := b.latched
  ended := true

/-- A word of a die's LATCHED bank. -/
def Die.latched (x : Die) (group word : Nat) : Nat := x.stats.latched.word group 0 word

/-- The health report (Table 13.9), from LATCHED. -/
def State.healthBytes (s : State) (d : DieId) : List Byte :=
  let x := s.die d
  le 8 x.stats.latched.number ++ le 8 s.mw.b ++ le 1 (s.role d) ++ le 1 (b2n x.cfg.trapeze.latent) ++ le 2 (s.ofCatcher fun x => x.partner.matchRun) ++
  le 4 (x.latched 9 0) ++ le 4 (x.latched 9 1) ++ le 4 (x.latched 9 2) ++ le 4 (x.latched 9 3) ++ le 4 (x.latched 1 0) ++
  le 4 (sat32 (total (List.range 16) fun i => x.latched 8 i)) ++ le 4 (x.latched 9 4) ++ le 4 (x.latched 3 4) ++ le 4 (x.latched 4 7) ++
  le 1 x.partner.lostCause ++ zeros 7

/-- The interval boundary (R451): the banks of every die and of MW move, the number rises, and what counts within an interval starts
again; the health reports leave (R420). -/
def State.intervalMove (s : State) : State :=
  let i := s.mw.interval
  let expected := i.expected
  let n := i.number + 1
  let s := s.onMw fun m =>
    let field : Field := { m.field with encoders := m.field.encoders.map fun e => { e with raised := [] } }
    { m with interval := { m.interval with number := n, bStart := m.b, due := false, forced := false, expected := (s.die s.lead).cfg.intervalPeriods },
             stats := m.stats.latch n m.b expected, tpi := { m.tpi with overrun := false }, sightRejected := false, field := field }
  let go := fun (s : State) (d : DieId) =>
    let s := s.onDie d fun x => { x with
      stats := x.stats.latch n s.mw.b expected,
      det := { x.det with interval := [], raised := [], promoted := [] },
      disp := { x.disp with lateRaised := false, slackRaised := false },
      jug := { x.jug with regRaised := false } }
    s.stream d 0x0804 1 true (fun _ => true) s.mw.b fun _ => s.healthBytes d
  allDies.foldl (fun s d => if (s.die d).beats || (s.die d).live then go s d else s) s

/-- The move of the banks that the boundary just fired asks for, where it has not been made (R450). -/
def State.dueInterval (s : State) : State := if s.mw.interval.due then s.intervalMove else s

/-- INTERVAL_BOUNDARY (R451): the boundary just fired is an interval boundary. -/
def execIntervalBoundary (s : State) : Result := .next s.dueInterval

/-- A boundary counts in the interval, and is found to be an interval boundary or not (R451). -/
def State.intervalBoundary (s : State) : State :=
  let c := (s.die s.lead).cfg.statistics
  let q := s.tb0 / (1000000000 * max c.seconds 1)
  let due := if c.mode = 0 then decide (s.mw.b ≠ 0 ∧ s.mw.b % 2 ^ c.log2Periods = 0)
    else decide (s.mw.b ≠ 0 ∧ q ≠ s.mw.interval.second) || s.mw.interval.forced
  let s := s.onMw fun m => { m with interval := { m.interval with due := due, second := q, forced := false } }
  let tick := fun (b : Banks) => { b with live := { b.live with periods := sat32 (b.live.periods + 1) } }
  let s := s.onMw fun m => { m with stats := tick m.stats }
  allDies.foldl (fun s d => if (s.die d).beats || (s.die d).live then (s.onDie d fun x => { x with stats := tick x.stats }).count d 1 0 3 else s) s

/-- `CONFIG_STATISTICS` (R456). -/
def bodyConfigStatistics (h : HostCmd) (d : DieId) (s : State) : Answer :=
  let p := h.params
  let new : CfgStatistics := { mode := rd p 0 1, log2Periods := orDefault (rd p 1 1) 14, seconds := orDefault (rd p 2 2) 1 }
  let bad := decide (1 < rd p 0 1) || !(rd p 1 1 == 0 || within (rd p 1 1) 4 24) || decide (3600 < rd p 2 2) || !zeroAt p 4 4
  if !pvTarget h.target 1 then reject s St.badTarget
  else
    let r := s.config d (if bad then some St.range else none) [unitOf d 2 2 1] fun c => { c with statistics := new }
    (r.1, { r.2 with own := true })

/-- Why a group or an index of it cannot be read (R452, R457). -/
def State.statFault (s : State) (group inst : Nat) : Option Nat :=
  if statWords group = 0 then some St.range
  else if inst ≥ (if group = 2 then 64 else if group = 6 ∨ group = 7 then 8 else 1) then some St.range
  else if (group = 2 ∧ s.jointPresent inst = false) ∨ (group = 7 ∧ s.rings ≤ inst) ∨ (group = 4 ∧ s.jugglers = 0) ∨ (group = 9 ∧ s.noTrapeze = true) then
    some St.unitAbsent
  else none

/-- Body of `STATS_READ` (R457): it executes after the latch of its boundary. -/
def bodyStatsRead (h : HostCmd) (d : DieId) (s : State) : Answer :=
  let p := h.params
  let g := rd p 0 1
  let i := rd p 1 1
  let t := s.dueInterval
  let bs := if g = 7 then t.mw.stats else (t.die d).stats
  let b := match rd p 2 1 with
    | 0 => bs.live
    | 1 => bs.latched
    | _ => bs.previous
  if !pvTarget h.target 1 then reject s St.badTarget
  else if decide (2 < rd p 2 1) || !zeroAt p 3 5 then reject s St.range
  else match s.statFault g i with
  | some st => reject s st
  | none =>
    answer t (le 8 b.number ++ le 8 b.bStart ++ le 4 b.periods ++ le 1 g ++ le 1 i ++ le 1 (rd p 2 1) ++
      le 1 (packBits [b.partial_, b.short_, !bs.ended]) ++ le 1 (statWords g) ++ zeros 7 ++
      ((List.range (statWords g)).map fun w => le 4 (b.word g i w)).flatten) true

end Sys2Proof.Machine
end

