-- ==== Sys2Proof/Machine/ProgramCommands.lean ====
section
/-! DEFINITION. Commands of the dispatcher (R275, R278..R282) and handshake stalls (R421, R425). -/

namespace Sys2Proof.Machine

/-- The dispatcher of a die (Table 1.2). -/
def dispatcherUnit (d : DieId) : UnitId := unitOf d 2 1 1

/-! ### Admission at staging (R275) -/

/-- The 24 bytes of Table 9.4. -/
def Admit.bytes (a : Admit) : List Byte :=
  le 4 a.makespan ++ leInt 4 a.budget ++ le 2 a.sepNeed ++ le 2 a.planNeed ++ le 1 a.fail ++ zeros 1 ++ le 2 a.entry ++ leInt 4 a.window ++ zeros 4

/-- Stage a change that program admission covers: a failure on the Flier rejects it, a failure on the Catcher alone stages it and
costs the Catcher its eligibility. The entries take the homes admission assigned (R265, R275). -/
def State.stageAdmitted (s : State) (d : DieId) (c : Cfg) (result : Admit → List Byte) : Answer :=
  let x := s.die d
  let a := c.admission x.admitDie
  if a.fail ≠ 0 ∧ (s.isFlier d ∨ !s.hasPartner ∨ s.mw.trapeze.token.isNone) then (s, { status := St.range, result := result a })
  else
    let s := s.stage d [dispatcherUnit d] fun _ => a.cfg
    let s := if a.fail ≠ 0 then s.catcherLost d 7 else s
    (s, { status := St.ok, result := result a })

/-! ### CODE_LOAD (R278) -/

/-- The block a target names, none where it names none: code or parameter, and its number. -/
def tBlock (w : Word) : Option (Bool × Nat) :=
  if tTable w = 0x70 ∧ tInstance w < 256 then some (true, tInstance w)
  else if tTable w = 0x71 ∧ tInstance w < 1024 then some (false, tInstance w)
  else none

/-- A block of a configuration. -/
def Cfg.blockOf (c : Cfg) (b : Bool × Nat) : CfgBlock := if b.1 then c.code.getD b.2 {} else c.paramBlocks.getD b.2 {}

/-- Replace a block; `none` removes it. -/
def Cfg.setBlock (c : Cfg) (b : Bool × Nat) (v : Option CfgBlock) : Cfg :=
  let put := fun (m : Sparse CfgBlock) => match v with
    | some x => m.set b.2 x
    | none => m.erase b.2
  if b.1 then { c with code := put c.code } else { c with paramBlocks := put c.paramBlocks }

/-- The committed block, none where there is none. -/
def Cfg.blockIs (c : Cfg) (b : Bool × Nat) : Option CfgBlock := if b.1 then c.code.find b.2 else c.paramBlocks.find b.2

/-- The block with a chunk written. A chunk for a complete block begins a new one. DESIGN CHOICE. -/
def CfgBlock.put (b : CfgBlock) (off : Nat) (bs : List Byte) : CfgBlock :=
  let b := if b.complete then {} else b
  { bytes := ((List.range bs.length).zip bs).foldl (fun m x => m.set (off + x.1) x.2) b.bytes, length := max b.length (off + bs.length), complete := false }

/-- Every byte below `n` has been written. -/
def CfgBlock.filled (b : CfgBlock) (n : Nat) : Bool := (List.range n).all fun i => (b.bytes.find i).isSome

/-- The checks of R250 over a filled code block (Table 8.9). -/
def CfgBlock.codeOk (b : CfgBlock) : Bool :=
  let code := b.code
  within b.wordCount 1 1024 && decide (b.paramBytes ≤ 4096) && b.paramBytes % 8 == 0 && decide (b.stateBytes ≤ 16384) &&
    b.stateBytes % 8 == 0 && b.field 6 2 == 0 && within b.bound 1 16777216 &&
    ((List.range code.length).zip code).all (fun x => encodingOk code.length x.1 x.2) &&
    crc32 ((List.range (4 * b.wordCount)).map fun i => b.bytes.getD (16 + i) 0) == BitVec.ofNat 32 (b.field 12 4)

/-- `CODE_LOAD` (R278). A code block that fails a check of R250 leaves nothing of it staged. -/
def bodyCodeLoad (h : HostCmd) (d : DieId) (s : State) : Answer :=
  let p := h.params
  let off := rd p 0 2
  let len := rd p 2 1
  let last := bit (rd p 3 1) 0
  let discard := bit (rd p 3 1) 1
  match tBlock h.target with
  | none => reject s St.badTarget
  | some b =>
    if h.plen.toNat ≠ 1 + len / 8 then reject s St.badLength
    else if (s.die d).committing then reject s St.busy
    else if !within len 8 224 || len % 8 != 0 || off % 8 != 0 || decide (3 < rd p 3 1) || !zeroAt p 4 4 ||
        decide ((if b.1 then 4112 else 4096) < off + len) || (discard && (len != 8 || last)) then reject s St.range
    else if discard then
      answer (s.stage d [dispatcherUnit d] fun c => c.setBlock b ((s.die d).cfg.blockIs b))
    else
      let new := ((s.die d).shadow.blockOf b).put off ((p.drop 8).take len)
      if !last then answer (s.stage d [dispatcherUnit d] fun c => c.setBlock b (some new))
      else
        let size := if b.1 then new.size else new.length
        if !new.filled (if b.1 then 16 else 0) || !new.filled size then reject s St.range
        else if b.1 && !new.codeOk then
          reject (s.onDie d fun x => { x with shadow := x.shadow.setBlock b (x.cfg.blockIs b) }) St.range
        else
          let done : CfgBlock := { new with complete := true }
          s.stageAdmitted d ((s.die d).shadow.setBlock b (some done)) fun _ => []

/-! ### CONFIG_PROGRAM and PROGRAM_READ (R279, R280) -/

/-- The entry the 32 bytes of Table 9.1 spell. -/
def readEntry (p : List Byte) : ProgEntry where
  codeId := rd p 0 2
  cls := rd p 2 1
  ringReturn := bit (rd p 3 1) 0
  offsetNs := rd p 4 4
  rankNs := rd p 8 4
  inst := rd p 12 2
  affinity := BitVec.ofNat 4 (rd p 14 1)
  ringMask := BitVec.ofNat 8 (rd p 15 1)
  predBase0 := rd p 16 2
  predMask0 := BitVec.ofNat 16 (rd p 18 2)
  predBase1 := rd p 20 2
  predMask1 := BitVec.ofNat 16 (rd p 22 2)
  home := none

/-- The 32 bytes of an entry with its HOME (R280). -/
def ProgEntry.bytes (e : ProgEntry) : List Byte :=
  le 2 e.codeId ++ le 1 e.cls ++ le 1 (b2n e.ringReturn) ++ le 4 e.offsetNs ++ le 4 e.rankNs ++ le 2 e.inst ++ le 1 e.affinity.toNat ++
    [e.ringMask] ++ le 2 e.predBase0 ++ le 2 e.predMask0.toNat ++ le 2 e.predBase1 ++ le 2 e.predMask1.toNat ++ le 1 1 ++
    le 1 (match e.home with
      | some h => h.val
      | none => 255) ++ zeros 6

/-- The fields of an entry are those of Table 9.1. An entry with ENABLE 0 takes part in no rule, so only its FLAGS, HOME and
reserved bytes are checked. DEDUCED. -/
def Cfg.entryFields (c : Cfg) (p : List Byte) : Bool :=
  let e := readEntry p
  decide (rd p 24 1 ≤ 1) && zeroAt p 25 7 &&
    (rd p 24 1 == 0 ||
      (decide (e.codeId < 256) && decide (e.cls ≤ 3) && decide (rd p 3 1 ≤ 1) && (!e.ringReturn || e.cls == 0) &&
        decide (e.offsetNs < c.ratio e.cls * c.periods.tS) && within (rd p 14 1) 1 15 && (c.code.getD e.codeId {}).complete))

/-- Write one entry; one that is enabled already keeps the home it has, for R265 to judge. -/
def Cfg.setEntry (c : Cfg) (i : Nat) (p : List Byte) : Cfg :=
  if rd p 24 1 = 0 then
    { c with program := c.program.erase i, emptyEntries := c.emptyEntries.set i (padTo 24 p) }
  else
    { c with program := c.program.set i { readEntry p with home := (c.program.find i).bind fun e => e.home }, emptyEntries := c.emptyEntries.erase i }

/-- Table 9.4 where an entry is refused before it is staged (R279): the figures are those of the shadow program as it stands, ADMIT_FAIL is 0, since no admission has run,
and FAIL_ENTRY is the first bad entry. DESIGN CHOICE: the spec gives the result's form alone. -/
def Cfg.refusedEntry (c : Cfg) (a : AdmitDie) (bad : Option Nat) : Admit := { c.admission a with fail := 0, entry := bad.getD 65535 }

/-- The bytes an entry reads as. -/
def Cfg.entryRead (c : Cfg) (i : Nat) : List Byte :=
  match c.program.find i with
  | some e => e.bytes
  | none => c.emptyEntries.getD i (zeros 24) ++ zeros 1 ++ [0xFF] ++ zeros 6

/-- First entry of a `CONFIG_PROGRAM` target. -/
def tProgram (w : Word) : Option Nat := if tTable w = 0x72 ∧ tInstance w < 1024 then some (tInstance w) else none

/-- `CONFIG_PROGRAM` (R279, Table 9.4). -/
def bodyConfigProgram (h : HostCmd) (d : DieId) (s : State) : Answer :=
  let p := h.params
  let n := rd p 0 1
  match tProgram h.target with
  | none => reject s St.badTarget
  | some first =>
    if h.plen.toNat ≠ 1 + 4 * n then reject s St.badLength
    else if 1024 < first + n then reject s St.badTarget
    else if (s.die d).committing then reject s St.busy
    else
      let c := (s.die d).shadow
      let part := fun (k : Nat) => (p.drop (8 + 32 * k)).take 32
      let bad := (List.range n).find? fun k => !c.entryFields (part k)
      if !within n 1 7 || !zeroAt p 1 7 || bad.isSome then
        (s, { status := St.range, result := (c.refusedEntry (s.die d).admitDie (bad.map fun k => first + k)).bytes })
      else
        let new := (List.range n).foldl (fun c k => c.setEntry (first + k) (part k)) c
        if (s.die d).cfg.trapeze.latent ∧ !new.latentFits then reject s St.range else s.stageAdmitted d new Admit.bytes

/-- An entry of the ROM program (R280): the spec names the program (R470) and does not give its entries, so every field of Table 9.1 is free within its range, ENABLE and HOME with
it; reserved bytes are 0. -/
def romEntry (i : Nat) : List Byte :=
  let u := fun (f m : Nat) => (Config.unstated [280, (i : Int), (f : Int)] % (m : Int)).toNat
  let e : ProgEntry :=
    { codeId := u 0 256, cls := u 1 4, ringReturn := decide (u 1 4 = 0) && decide (u 2 2 = 1), offsetNs := u 3 4294967296, rankNs := u 4 4294967296, inst := u 5 65536,
      affinity := BitVec.ofNat 4 (1 + u 6 15), ringMask := BitVec.ofNat 8 (u 7 256), predBase0 := u 8 1024, predMask0 := BitVec.ofNat 16 (u 9 65536),
      predBase1 := u 10 1024, predMask1 := BitVec.ofNat 16 (u 11 65536), home := some ⟨u 12 4 % 4, Nat.mod_lt _ (by decide)⟩ }
  if u 13 2 = 1 then e.bytes else zeros 25 ++ [0xFF] ++ zeros 6

/-- `PROGRAM_READ` (R280). -/
def bodyProgramRead (h : HostCmd) (d : DieId) (s : State) : Answer :=
  let p := h.params
  let n := rd p 0 1
  let x := s.die d
  match tProgram h.target with
  | none => reject s St.badTarget
  | some first =>
    if 1024 < first + n then reject s St.badTarget
    else if !within n 1 7 || decide (1 < rd p 1 1) || !zeroAt p 2 6 then reject s St.range
    else if rd p 1 1 = 0 ∧ x.disp.rom then
      answer s ((List.range n).map fun k => romEntry (first + k)).flatten
    else
      let c := if rd p 1 1 = 0 then x.cfg else x.shadow
      answer s ((List.range n).map fun k => c.entryRead (first + k)).flatten

/-! ### Trace and status (R277, R281, R282) -/

/-- `TRACE_OPEN` (R277, R281). -/
def bodyTraceOpen (h : HostCmd) (d : DieId) (s : State) : Answer :=
  let p := h.params
  if decide (15 < rd p 0 1) || decide (31 < rd p 1 1) || !zeroAt p 2 2 then reject s St.range
  else
    let fresh : Trace := { queue := h.queue.val, tag := h.tag.toNat, target := h.target.toNat, classMask := rd p 0 1, kindMask := rd p 1 1,
                           coreMask := BitVec.ofNat 32 (rd p 4 4) }
    match (s.die d).disp.trace with
    | none => answer (s.onDie d fun x => { x with disp := { x.disp with trace := some fresh } })
    | some t =>
      if t.queue ≠ h.queue.val then reject s St.busy
      else
        let kept : Trace := { t with classMask := fresh.classMask, kindMask := fresh.kindMask, coreMask := fresh.coreMask }
        answer (s.onDie d fun x => { x with disp := { x.disp with trace := some kept } })

/-- `TRACE_CLOSE` (R281). -/
def bodyTraceClose (_h : HostCmd) (d : DieId) (s : State) : Answer :=
  match (s.die d).disp.trace with
  | none => reject s St.wrongState
  | some _ => answer ((s.flushTrace d).onDie d fun x => { x with disp := { x.disp with trace := none } })

/-- A count of the current statistics interval of a die. -/
def Die.stat (x : Die) (group index word : Nat) : Nat := x.stats.live.word group index word

/-- The die a status command is about: the one its place names, else the one that executes it (R28). -/
def placeDie (w : Word) (d : DieId) : DieId :=
  if tKind w = 7 then (if bits w.toNat 25 24 = 1 then .t1 else .t0) else d

/-- `DISPATCH_STATUS` (R282, Table 9.5). -/
def bodyDispatchStatus (h : HostCmd) (d : DieId) (s : State) : Answer :=
  let x := s.die (placeDie h.target d)
  let c := x.cfg
  let ks := List.range 4
  let cores := packBits ((List.finRange 32).map fun k => s.clusterExists 0 (clusterOf k) && x.coreUp k)
  answer s
    (le 8 s.mw.b ++ le 4 cores ++ (ks.map fun k => le 2 (c.program.filter fun e => e.2.at_ k).length).flatten ++
      (ks.map fun k => le 4 (c.mOf x.admitDie k)).flatten ++ leInt 4 (c.leastWindow x.admitDie) ++
      ((List.range 6).map fun w => le 4 (x.stat 3 0 w)).flatten ++ le 1 (packBits [x.disp.trace.isSome, x.disp.rom]) ++ zeros 7)

/-! ### Handshake stalls (R421, R423, R425) -/

/-- A lasting fault of a place (R19..R22): on a Trapeze die a unit is fenced, a cluster (UNIT 31) is lost where others of its kind stand in for it and else faults
the die; on MW the Curtain starts. The items it releases are dispatched again. -/
def State.unitLasting (s : State) (u : UnitId) (o : Occur) : State :=
  match trapezeDie u.die with
  | some d => (if u.unit.val = 31 then s.arrayFault d u.region.val u.cluster.val o
      else s.fenceUnit d u.region.val u.cluster.val u.unit.val o).reschedule d
  | none => s.startCurtain 1

/-- A detection at a unit whose retry ends as `fails` says (R421, R422). -/
def State.unitDetected (s : State) (u : UnitId) (det : Nat) (fails injected : Bool) : State :=
  let r := match trapezeDie u.die with
    | some d => s.detect d (s.unitTarget u) (placeNumber u) det fails injected []
    | none => s.detectMw (s.unitTarget u) (placeNumber u) det fails injected []
  if r.2 then r.1.unitLasting u { injected := injected, detector := det } else r.1

/-- A unit that exists (Tables 1.2, 1.4), or a whole cluster of a Trapeze die (UNIT 31). -/
def State.unitExists (s : State) (u : UnitId) : Bool :=
  match trapezeDie u.die with
  | some d => (s.die d).present && s.clusterExists u.region.val u.cluster.val &&
      (decide (u.unit.val < unitsOf u.region.val u.cluster.val) || decide (u.unit.val = 31))
  | none => decide (u.unit.val < mwUnitsOf u.region.val u.cluster.val)

end Sys2Proof.Machine
end

