-- ==== Sys2Proof/Machine/Faults.lean ====
section
/-! DEFINITION. Detectors of the supplies, temperatures and the time reference, promotion, injection and place tests, with the fault and
event commands (chapter 14). -/

namespace Sys2Proof.Machine

/-! ### Host ports -/

/-- HANDSHAKE_STALL (R425): a servo core re-executes its item once (R257), any other unit of a Trapeze die is reset and retried;
`retryFails` says that the retry detects again. A place with UNIT 31 is the cluster's own stage: the dispatch slice of a servo cluster (R20). The SRAM arrays of Table 1.3
belong to clusters and keep their contents through a unit reset (R18). A stall in either copy of MW is a compare failure (R14),
which no retry follows. -/
def execHandshakeStall (place : UnitId) (retryFails : Bool) (s : State) : Result :=
  if !s.unitExists place then .next s
  else
    let hit := fun (n : Injection) => n.target == s.unitTarget place
    match trapezeDie place.die with
    | none =>
      let r := s.checkInjectedMw 1 hit
      let q := r.1.detectMw (s.unitTarget place) (placeNumber place) 1 true r.2.isSome []
      .next (q.1.compareFailed r.2.isSome)
    | some d =>
      if !(s.die d).works || (s.die d).fenced.contains (place.region.val, place.cluster.val, place.unit.val) then .next s
      else
        let r := s.checkInjected d 1 hit
        let k : CoreRef := ⟨d, ⟨(8 * place.cluster.val + place.unit.val) % 32, Nat.mod_lt _ (by decide)⟩⟩
        let core := decide (place.region.val = 0 ∧ place.cluster.val < 4 ∧ place.unit.val < 8)
        let reset := fun (t : State) => if core then t.onCore k Core.unitReset else t
        match (if core then r.1.runningOn k else none) with
        | some i =>
          if !retryFails then .next (r.1.coreDetection k i 1 r.2.isSome)
          else .next (r.1.unitDetected place 1 retryFails r.2.isSome)
        | none => .next ((reset r.1).unitDetected place 1 retryFails r.2.isSome)

/-- The replies that wait in the record queues of a lost port go through the other one (R85). -/
def State.moveWaiting (s : State) (d : DieId) : State :=
  let one := fun (s : State) (q : Fin 64) =>
    let l := (s.queue d q).waiting
    let s := s.onQueue d q fun b => { b with waiting := [] }
    l.foldl (fun s e => if (s.die e.1).live then s.sendReply d.other e.1 e.2 else s.onQueue d.other q fun b => { b with waiting := b.waiting ++ [e] }) s
  if (s.die d.other).port.lost then s else (List.finRange 64).foldl one s

/-- A host port is lost (R85): `HOST_PORT_LOST`, RELAY on the surviving port. -/
def State.hostPortLost (s : State) (d : DieId) : State :=
  if (s.die d).port.lost then s.onDie d fun x => { x with port := { x.port with linkUp := false } }
  else
    let s := s.onDie d fun x => { x with port := { x.port with lost := true, linkUp := false } }
    let s := if s.hasPartner then (s.onDie d.other fun x => { x with port := { x.port with relay := true } }).moveWaiting d else s
    s.raise d 9 (s.unitTarget (unitOf d 2 4 0)) []

/-- PCIE_LCRC_ERROR (R421): replay is the retry; a failing replay loses the host port. -/
def execPcieLcrcError (d : DieId) (replayFails : Bool) (s : State) : Result :=
  if !(s.die d).port.linkUp then .next s
  else
    let u := unitOf d 2 4 0
    let r := s.checkInjected d 6 fun i => i.target == s.unitTarget u
    let lasting := replayFails || (match r.2 with
      | some i => i.mode == 1
      | none => false)
    let q := r.1.detect d (s.unitTarget u) (placeNumber u) 6 lasting r.2.isSome [BitVec.ofNat 8 d.code]
    .next (if q.2 then q.1.hostPortLost d else q.1)

/-! ### Supplies and temperatures (R426) -/

/-- The die a lasting supply or temperature fault condemns: it relinquishes and halts at once (R398). -/
def State.dieDown (s : State) (d : DieId) : State :=
  match execTokenRelinquish d (s.dieFault d) with
  | .next t => t
  | _ => s

/-- A count of readings out of window after one more reading. -/
def runOn (run : Nat) (out : Bool) : Nat := if out then (if run < 4 then run + 1 else run) else 0

/-- An injection has a part in the readings out of limits that a check has seen in a row (R423): this one, or one before it. The run of a check that passes ends. -/
def State.falseRun (s : State) (det index : Nat) (out injected : Bool) : State × Bool :=
  let key := (det, index)
  let was := s.mw.falsified.contains key
  if !(injected || was) then (s, false)
  else (s.onMw fun m => { m with
    falsified := if !out then m.falsified.filter fun k => k != key else if was then m.falsified else m.falsified ++ [key] }, true)

/-- Window of a supply: the fuses of the die for its VCORE, MW's for the rest (R462). -/
def State.supplyWindow (s : State) (i : Fin 7) : Nat × Nat :=
  if i.val = 0 then s.t0.fuses.windows[i] else if i.val = 1 then s.t1.fuses.windows[i] else s.mw.fuses.windows[i]

/-- Where a supply detection is recorded: the VCORE rails at their die, the others at the package. -/
def State.supplyDetect (s : State) (i : Fin 7) (lasting injected : Bool) : State × Bool :=
  let v := le 1 i.val ++ zeros 1 ++ le 2 s.mw.supplyMv[i]
  if i.val = 0 then s.detect .t0 (s.dieTarget .t0) (wholeDie .t0) 9 lasting injected v
  else if i.val = 1 then s.detect .t1 (s.dieTarget .t1) (wholeDie .t1) 9 lasting injected v
  else s.detectMw (s.target 0 0) (3 * 2 ^ 24 + i.val) 9 lasting injected v

/-- What a lasting supply fault leads to (R426). -/
def State.supplyLasting (s : State) (i : Fin 7) : State :=
  if i.val = 0 then s.dieDown .t0 else if i.val = 1 then s.dieDown .t1 else (s.startCurtain 1).holdOutputs

/-- The monitor of this rail is active: VCORE1's is not on the QD864-S. -/
def State.supplyWatched (s : State) (i : Fin 7) : Bool := i.val != 1 || s.t1.present

/-- SUPPLY_SAMPLE (R426): a reading out of its window counts; one that comes back before the fourth was transient. A reading out of window
also keeps Seed from ending (R459). -/
def execSupplySample (index : Fin 7) (mv : Nat) (s : State) : Result :=
  if !s.supplyWatched index then .next s
  else
    let r := s.checkInjectedMw 9 fun i => decide (i.arg = index.val)
    let w := s.supplyWindow index
    let out := !within mv w.1 w.2 || r.2.isSome
    let run := s.mw.supplyRun[index]
    let was := s.mw.supplyMv[index]
    let since := if out || !within was w.1 w.2 then s.now else s.mw.supplyNs[index]
    let s := r.1.onMw fun m => { m with
      supplyMv := m.supplyMv.set index mv, supplyRun := m.supplyRun.set index (runOn run out), supplyNs := m.supplyNs.set index since }
    let (s, injected) := s.falseRun 9 index.val out r.2.isSome
    if !out && 1 ≤ run && decide (run ≤ 3) && s.phase != .seed then
      let q := s.supplyDetect index false injected
      .next (if q.2 then q.1.supplyLasting index else q.1)
    else .next s

/-- SUPPLY_FAULT (R426): four readings in a row out of window. -/
def execSupplyFault (index : Fin 7) (s : State) : Result :=
  if s.mw.supplyRun[index] = 4 ∧ s.phase ≠ .seed ∧ s.supplyWatched index = true then
    let s := s.onMw fun m => { m with supplyRun := m.supplyRun.set index 5 }
    .next ((s.supplyDetect index true (s.mw.falsified.contains (9, index.val))).1.supplyLasting index)
  else .next s

/-- Number of a junction sensor. -/
def sensorCode : TempSensor → Fin 3
  | .t0 => 0
  | .t1 => 1
  | .mw => 2

/-- Fuses that hold a sensor's thresholds. -/
def State.tempFuses (s : State) : TempSensor → Fuses
  | .t0 => s.t0.fuses
  | .t1 => s.t1.fuses
  | .mw => s.mw.fuses

/-- Target of a junction sensor's detections: the die. -/
def State.tempTarget (s : State) : TempSensor → Word
  | .t0 => s.dieTarget .t0
  | .t1 => s.dieTarget .t1
  | .mw => s.target 7 (placeIndex 2 3 7 31 + 2 ^ 13)

/-- Record a temperature detection on its die, for MW on every live die. -/
def State.tempDetect (s : State) (x : TempSensor) (lasting injected : Bool) : State × Bool :=
  let v := le 1 (sensorCode x).val ++ zeros 1 ++ leInt 2 s.mw.tempDeci[sensorCode x]
  match x with
  | .t0 => s.detect .t0 (s.tempTarget x) (wholeDie .t0) 10 lasting injected v
  | .t1 => s.detect .t1 (s.tempTarget x) (wholeDie .t1) 10 lasting injected v
  | .mw => s.detectMw (s.tempTarget x) (placeIndex 2 3 7 31) 10 lasting injected v

/-- `TEMP_HIGH` once in an interval on a die. -/
def State.tempHigh (s : State) (d : DieId) (x : TempSensor) (injected : Bool) : State :=
  let key := 900 + (sensorCode x).val
  if (s.die d).det.raised.contains key then s
  else
    let s := s.onDie d fun y => { y with det := { y.det with raised := key :: y.det.raised } }
    s.raise d 202 (s.tempTarget x) (detectorData (s.tempTarget x) 0 0 (le 1 (sensorCode x).val ++ zeros 1 ++ leInt 2 s.mw.tempDeci[sensorCode x])) { injected := injected, detector := 10 }

/-- What a lasting reading above 125 °C leads to (R426). -/
def State.tempLasting (s : State) : TempSensor → State
  | .t0 => s.dieDown .t0
  | .t1 => s.dieDown .t1
  | .mw => (s.startCurtain 1).holdOutputs

/-- TEMP_SAMPLE (R426). -/
def execTempSample (sensor : TempSensor) (deci : Int) (s : State) : Result :=
  let k := sensorCode sensor
  let f := s.tempFuses sensor
  let hit := fun (i : Injection) => i.target == s.tempTarget sensor
  let r := match sensor with
    | .t0 => s.checkInjected .t0 10 hit
    | .t1 => s.checkInjected .t1 10 hit
    | .mw => s.checkInjectedMw 10 hit
  let out := decide (f.tempFault < deci) || r.2.isSome
  let run := s.mw.tempRun[k]
  let s := r.1.onMw fun m => { m with tempDeci := m.tempDeci.set k deci, tempRun := m.tempRun.set k (runOn run out) }
  let (s, injected) := s.falseRun 10 k.val out r.2.isSome
  let s := if !(decide (f.tempWarn < deci) || out) then s
    else match sensor with
      | .t0 => s.tempHigh .t0 .t0 r.2.isSome
      | .t1 => s.tempHigh .t1 .t1 r.2.isSome
      | .mw => s.onLive fun d s => s.tempHigh d .mw r.2.isSome
  if !out && 1 ≤ run && decide (run ≤ 3) then
    let q := s.tempDetect sensor false injected
    .next (if q.2 then q.1.tempLasting sensor else q.1)
  else .next s

/-- TEMP_FAULT (R426): four readings in a row above 125 °C. -/
def execTempFault (sensor : TempSensor) (s : State) : Result :=
  let k := sensorCode sensor
  if s.mw.tempRun[k] = 4 then
    let s := s.onMw fun m => { m with tempRun := m.tempRun.set k 5 }
    .next ((s.tempDetect sensor true (s.mw.falsified.contains (10, k.val))).1.tempLasting sensor)
  else .next s

/-! ### The time reference (R427) -/

/-- A lasting failure of the time reference (R427): the Curtain starts, and its sequencer counts its steps by the backup oscillator, whose tick TIME_BASE_TICK is for it
from then on, and the boundaries with them. -/
def State.referenceLost (s : State) : State :=
  (((s.onMw fun m => { m with refBackup := true }).startCurtain 1).sequencerCounts).holdOutputs

/-- COARSE_CHECK_WINDOW (R427): a second failing window in a row is lasting; the sequencer then counts the backup oscillator. Two passes in a
row let Seed end (R459). -/
def execCoarseCheckWindow (ppm : Int) (tickSeen : Bool) (s : State) : Result :=
  let r := s.checkInjectedMw 8 fun i => i.arg == 0
  let bad := decide (ppm < -50000) || decide (50000 < ppm) || !tickSeen || r.2.isSome
  let was := s.mw.refRun
  let s := r.1.onMw fun m => { m with refRun := if bad then m.refRun + 1 else 0, coarseOk := if bad then 0 else m.coarseOk + 1 }
  let (s, injected) := s.falseRun 8 0 bad r.2.isSome
  let v := leInt 4 ppm ++ zeros 1
  if bad && decide (1 ≤ was) then
    let s := (s.detectMw (s.target 0 0) (3 * 2 ^ 24 + 16) 8 true injected v).1
    .next s.referenceLost
  else if !bad && was = 1 then
    let q := s.detectMw (s.target 0 0) (3 * 2 ^ 24 + 16) 8 false injected v
    .next (if q.2 then q.1.referenceLost else q.1)
  else .next s

/-- FINE_CHECK_WINDOW (R427): `TIME_REFERENCE` with cause FINE, and no other action. -/
def execFineCheckWindow (ppm : Int) (s : State) : Result :=
  let r := s.checkInjectedMw 8 fun i => i.arg == 1
  if decide (ppm < -1000) || decide (1000 < ppm) || r.2.isSome then
    .next (r.1.raiseMw 200 (s.target 0 0) (detectorData (s.target 0 0) 0 0 (leInt 4 ppm ++ [1])) { injected := r.2.isSome, detector := 8 })
  else .next r.1

/-! ### Promotion and injections (R422, R430) -/

/-- TRANSIENT_LIMIT (R422): a place whose transients of a detector have reached the limit in force is promoted, once in an interval; detectors
4 and 5 are exempt. -/
def execTransientLimit (d : DieId) (place : UnitId) (det : Fin 16) (s : State) : Result :=
  let key := 16 * placeNumber place + det.val
  let x := s.die d
  if (s.die d).works && det.val != 4 && det.val != 5 && decide (x.cfg.events.transientLimit ≤ x.det.interval.getD key 0) && decide (0 < x.det.interval.getD key 0) &&
      !x.det.promoted.contains key && s.unitExists place && (trapezeDie place.die == some d || trapezeDie place.die == none) then
    let o : Occur := { lasting := true, promoted := true, detector := det.val }
    let data := detectorData (s.unitTarget place) 2 (x.det.interval.getD key 0) []
    let s := s.onDie d fun y => { y with det := { y.det with promoted := key :: y.det.promoted, lasting := bump y.det.lasting det.val 65535 } }
    let s := s.raise d (detectorEvent det.val) (s.unitTarget place) data o
    .next ((s.raise d 204 (s.unitTarget place) data o).unitLasting place o)
  else .next s

/-- Not fired 1 s after its DELAY_NS. -/
def Injection.expires (i : Injection) (now : Nat) : Bool := !i.fired && decide (i.armedNs + i.delayNs + 1000000000 ≤ now)

/-- INJECTION_EXPIRY (R430): not fired 1 s after its DELAY_NS. Those on MW targets come after the Flier's own. -/
def execInjectionExpiry (d : DieId) (slot : Fin 4) (s : State) : Result :=
  match (s.die d).det.injections[slot.val]? with
  | some i =>
    if i.expires s.now then
      let s := s.onDie d fun x => { x with det := { x.det with injections := x.det.injections.eraseIdx slot.val } }
      .next (s.raise d 203 i.target (i.data 1) { injected := true, detector := i.detector })
    else .next s
  | none =>
    let k := slot.val - (s.die d).det.injections.length
    match if s.isFlier d then s.mw.trapeze.injections[k]? else none with
    | some i =>
      if i.expires s.now then
        let s := s.onTrapeze fun t => { t with injections := t.injections.eraseIdx k }
        .next (s.raise d 203 i.target (i.data 1) { injected := true, detector := i.detector })
      else .next s
    | none => .next s

/-- A place target with DIE = 3 named as the executing die's own. -/
def ownPlace (w : Word) (d : DieId) : Word :=
  if tKind w = 7 ∧ bits w.toNat 25 24 = 3 then BitVec.ofNat 32 (w.toNat - (3 - d.code) * 2 ^ 24) else w

/-- The target suits the detector (Table 14.1). -/
def injectTarget (w : Word) (det : Nat) : Bool :=
  let place := placeScope (tIndex w)
  match det with
  | 0 => tKind w == 7 && (match place with
    | some (_, .unit _ _ _) | some (_, .cluster _ _) => true
    | _ => false)
  | 1 => tKind w == 7 && (match place with
    | some (_, .unit _ _ _) => true
    | _ => false)
  | 2 => tKind w == 7 && (match place with
    | some (die, .unit 0 c _) => die != 2 && decide (c < 4)
    | _ => false)
  | 3 => tKind w == 7 && (match place with
    | some (die, .cluster 1 c) => die != 2 && decide (c < 4)
    | _ => false)
  | 4 => tKind w == 3
  | 5 => tKind w == 10
  | 6 => tKind w == 7 && (match place with
    | some (die, .unit 2 4 0) | some (die, .cluster 2 4) => die != 2
    | _ => false)
  | 7 => tKind w == 7 && (match place with
    | some (die, .unit 2 3 _) => die != 2
    | _ => false)
  | 8 | 9 => tKind w == 0
  | 10 => tKind w == 7 && (match place with
    | some (_, .die) => true
    | _ => false)
  | 11 => tKind w == 8 && decide (bits (tIndex w) 6 5 = 1)
  | 12 | 13 => tKind w == 7 && (match place with
    | some (die, .die) => die != 2
    | _ => false)
  | 14 => tKind w == 7 && (match place with
    | some (die, .region _) => die == 2
    | _ => false)
  | _ => false

/-- The S.HP cluster and its one unit are one injection target. -/
def hpTarget (w : Word) (det : Nat) : Word := if det = 6 then BitVec.ofNat 32 (w.toNat - bits w.toNat 18 14 * 2 ^ 14) else w

/-- Largest ARG of a detector (Table 14.1). -/
def injectArg (det : Nat) : Nat := if det = 4 ∨ det = 8 then 1 else if det = 9 then 6 else 0

/-- Injections a die holds: its own, and those on MW targets where it is the Flier (R430). -/
def State.heldInjections (s : State) (d : DieId) : Nat :=
  (s.die d).det.injections.length + if s.isFlier d then s.mw.trapeze.injections.length else 0

/-- Change the list an injection at a target stands in: that of die `d`, or MW's. -/
def State.onInjections (s : State) (d : DieId) (mw : Bool) (f : List Injection → List Injection) : State :=
  if mw then s.onTrapeze fun t => { t with injections := f t.injections }
  else s.onDie d fun x => { x with det := { x.det with injections := f x.det.injections } }

/-- Body of `FAULT_INJECT` (R436). A target outside the Trapeze dies is MW's and counts against the Flier (R430). -/
def bodyFaultInject (h : HostCmd) (d : DieId) (s : State) : Answer :=
  let p := h.params
  let u (o n : Nat) := rd p o n
  let det := u 0 1
  let w := hpTarget (ownPlace h.target d) det
  let mw := !(tKind w == 7 && decide (bits w.toNat 25 24 < 2))
  let mine := !mw || s.isFlier d
  let bad := decide (14 < det) || decide (2 < u 1 1) || (if det = 0 then !within (u 2 1) 1 2 else u 2 1 != 0) ||
    decide ((if det = 13 then 3 else 0) < u 3 1) || decide (1000000000 < u 4 4) || decide (injectArg det < u 8 4) || !zeroAt p 12 4 ||
    !injectTarget h.target det
  let held := s.heldInjections d
  let result := fun (n : Nat) => le 1 n ++ zeros 7
  if u 1 1 != 2 && mine && decide (4 ≤ held) then reject s St.busy
  else if bad then reject s St.range
  else if !mine then answer s (result held)
  else
    let i : Injection := { target := w, detector := det, mode := u 1 1, bits := u 2 1, path := u 3 1, delayNs := u 4 4, arg := u 8 4, armedNs := s.now }
    let s := s.onInjections d mw fun l => if i.mode = 2 then l.filter fun k => k.target != w else l ++ [i]
    answer s (result (s.heldInjections d))

/-! ### Event sources (R431, R437..R439) -/

/-- The defined event sources (Table 14.3). -/
def eventDefined (e : Nat) : Bool :=
  decide (e ≤ 16) || within e 32 43 || within e 64 72 || within e 96 104 || within e 128 137 || within e 160 169 || within e 192 204 || e == 224

/-- A control word `CONFIG_EVENTS` accepts (Table 14.4, R437). -/
def controlOk (w : Nat) : Bool := decide (w < 2 ^ 13) && !(bit w 1 && decide (bits w 6 2 = 0))

/-- Set the control word of a source. -/
def Cfg.setControl (c : Cfg) (e : Nat) (w : Word) : Cfg :=
  { c with events := { c.events with control := c.events.control.set (e % 256) w (Nat.mod_lt _ (by decide)) } }

/-- Units of the queue engine: event control stands there. -/
def eventUnit (d : DieId) : UnitId := unitOf d 2 1 0

/-- Body of `CONFIG_EVENTS` (R437). -/
def bodyConfigEvents (h : HostCmd) (d : DieId) (s : State) : Answer :=
  let p := h.params
  if tKind h.target = 12 then
    let e := tIndex h.target
    let w := rd p 0 4
    let r := s.config d (if !eventDefined e || !controlOk w || !zeroAt p 4 4 then some St.range else none) [eventUnit d] fun c => c.setControl e (BitVec.ofNat 32 w)
    if r.2.status = St.ok then
      (r.1.onDie d fun x => { x with staging := { x.staging with events := x.staging.events.set e (BitVec.ofNat 32 w) } }, r.2)
    else r
  else
    let all := bit (rd p 1 1) 0
    let w := rd p 4 4
    let kept := (s.die d).staging.events
    let f : Cfg → Cfg := fun c =>
      let c : Cfg := { c with events := { c.events with transientLimit := orDefault (rd p 0 1) 8 } }
      if all then
        let c := ((List.range 256).filter eventDefined).foldl (fun c e => c.setControl e (BitVec.ofNat 32 w)) c
        kept.foldl (fun c e => c.setControl e.1 e.2) c
      else c
    s.config d (if decide (1 < rd p 1 1) || !zeroAt p 2 2 || !controlOk w then some St.range else none) [eventUnit d] f

/-- The MASK bits of a die's control words. -/
def Die.masked (x : Die) : Nat := packBits ((List.range 256).map fun e => bit (x.control e) 0)

/-- Body of `EVENT_READ` (R438). -/
def bodyEventRead (h : HostCmd) (d : DieId) (s : State) : Answer :=
  let x := s.die d
  if tKind h.target = 12 then
    let e := tIndex h.target
    if !eventDefined e then reject s St.range
    else
      answer s (le 4 (x.control e) ++ le 1 (b2n (x.events.pending.getLsbD e)) ++ zeros 3 ++ le 4 (x.events.count.getD e 0) ++ zeros 4 ++
        le 8 (x.events.lastB.getD e 0) ++ le 1 (x.events.lastDet.getD e 0) ++ zeros 7) true
  else answer s (le 8 s.mw.b ++ le 32 x.events.pending.toNat ++ le 32 x.masked) true

/-- Body of `EVENT_CLEAR` (R439). -/
def bodyEventClear (h : HostCmd) (d : DieId) (s : State) : Answer :=
  let m : BitVec 256 := BitVec.ofNat 256 (rd h.params 0 32)
  let s := s.onDie d fun x => { x with events := { x.events with pending := x.events.pending &&& ~~~m } }
  answer s (le 32 (s.die s.lead).events.pending.toNat)

/-- Body of `FAULT_STATUS` (R441). -/
def bodyFaultStatus (_h : HostCmd) (d : DieId) (s : State) : Answer :=
  let x := s.die d
  answer s (le 8 s.mw.b ++ le 1 x.cfg.events.transientLimit ++ zeros 7 ++
    ((List.finRange 16).map fun k => if k.val = 15 then zeros 8 else le 4 x.det.transients[k] ++ le 2 x.det.lasting[k] ++ le 2 x.det.injected[k]).flatten) true

/-! ### Place tests (R440) -/

/-- The joints an entry serves: a control item's joint, a ring-pack item's ring. -/
def Die.entryJoints (x : Die) (e : ProgEntry) : List (Fin 64) :=
  match libOf (x.cfg.block e).code with
  | .control => (List.finRange 64).filter fun j => j.val == e.inst
  | .ringPack => (List.finRange 64).filter fun j => match x.cfg.nodeOf j.val with
    | some (r, _) => r == e.inst
    | none => false
  | _ => []

/-- The joints with a SERVO item homed on a cluster. -/
def Die.clusterJoints (x : Die) (k : Nat) : List (Fin 64) :=
  ((x.cfg.program.filter fun p => p.2.cls == 0 && p.2.at_ k).map fun p => x.entryJoints p.2).flatten.eraseDups

/-- A die as it would be without a unit. -/
def Die.without (x : Die) (t : Nat × Nat × Nat) : Die := { x with fenced := x.fenced ++ [t] }

/-- Body of `PLACE_TEST` (R440): accepted, it starts at the next boundary and replies when it ends. -/
def bodyPlaceTest (h : HostCmd) (d : DieId) (s : State) : Answer :=
  let x := s.die d
  let both := decide (bits h.target.toNat 25 24 = 3)
  let take (r c u : Nat) : Answer :=
    (s.onDie d fun x => { x with test := some { region := r, cluster := c, unit := u, both := both, cmd := h } }, { status := St.later, own := both })
  if x.test.isSome then reject s St.busy
  else match placeScope (tIndex h.target) with
  | some (_, .unit r c u) =>
    let core := r = 0 ∧ c < 4
    let lane := r = 1
    let rm := r = 2 ∧ c = 0
    if bits h.target.toNat 25 24 = 2 ∨ ¬(core ∨ lane ∨ rm) then reject s St.range
    else
      let fits := if rm then decide ((x.fenced.filter fun f => f.1 == 2 && f.2.1 == 0).length ≤ 1)
        else (s.setDie d (x.without (r, c, u))).readmitOk d
      if fits then take r c u else reject s St.wrongState
  | some (_, .cluster 0 c) =>
    if !both || decide (4 ≤ c) then reject s St.range
    else if (x.clusterJoints c).any fun j =>
        let g := s.joint d j
        !(g.state == .disabled || g.still ((x.sigmaOf j).2)) then reject s St.wrongState
    else take 0 c 31
  | _ => reject s St.range

/-- The reply of a place test, on the die that made it or on both (R28, R440). -/
def State.testReply (s : State) (d : DieId) (t : PlaceTest) (r : Reply) : State :=
  let r : Reply := { r with own := t.both }
  if t.both then s.lateReplyOn d 0x0904 t.cmd r else s.lateReply 0x0904 t.cmd r

/-- A test that has lost its place ends with `UNIT_ABSENT` and no effect (R31). -/
def State.testAbsent (s : State) (d : DieId) (t : PlaceTest) : State :=
  (s.onDie d fun x => { x with test := none }).testReply d t { status := St.unitAbsent }

/-- A test asked for starts at a boundary: the unit is withdrawn; after a pass it returns, unless a fault has taken it meanwhile (R31, R440). -/
def State.testBoundary (s : State) (d : DieId) : State :=
  match (s.die d).test with
  | none => s
  | some t =>
    if t.passed then
      let s := s.onDie d fun x => { x with
        test := none, fenced := if t.unit = 31 ∨ t.lost = true then x.fenced else x.fenced.filter fun f => f != (t.region, t.cluster, t.unit) }
      s.reschedule d
    else if t.startNs.isSome then s
    else if t.lost then s.testAbsent d t
    else
      let s := s.onDie d fun x => { x with
        test := some { t with startNs := some s.now },
        fenced := if t.unit = 31 then x.fenced else x.fenced ++ [(t.region, t.cluster, t.unit)] }
      if t.region = 0 ∧ t.cluster < 4 ∧ t.unit < 8 then s.releaseCore d ⟨(8 * t.cluster + t.unit) % 32, Nat.mod_lt _ (by decide)⟩ else s

/-- The entries whose items a running cluster test withholds. -/
def Die.testedCluster (x : Die) : Option Nat :=
  match x.test with
  | some t => if t.unit = 31 ∧ t.startNs.isSome = true ∧ t.passed = false then some t.cluster else none
  | none => none

/-- A tested servo cluster comes back reset: blocks loaded again, both state halves zero and COLD, its enabled joints in SOFT (R440). -/
def State.clusterReset (s : State) (d : DieId) (k : Nat) : State :=
  let joints := (s.die d).clusterJoints k
  let zero := fun (x : Die) (p : Nat × ProgEntry) =>
    if p.2.at_ k then
      let n := (x.cfg.block p.2).stateBytes
      let x : Die := { x with disp := { x.disp with cold := if x.disp.cold.contains p.1 then x.disp.cold else x.disp.cold ++ [p.1], half := x.disp.half.erase p.1 } }
      (x.setHalf p.1 p.2 false (zeros n)).setHalf p.1 p.2 true (zeros n)
    else x
  let s := s.onDie d fun x =>
    let x : Die := { x with clusters := x.clusters.set (k % 4) {} (Nat.mod_lt _ (by decide)) }
    x.cfg.program.foldl zero (x.loadBlocks fun _ => true)
  joints.foldl (fun s j => if (s.joint d j).state = .enabled then s.enterSoft d j else s) s

/-- PLACE_TEST_END (R440): after a pass the unit returns at the next boundary; a failed test is a lasting fault of the place. The reply is sent. -/
def execPlaceTestEnd (d : DieId) (pass : Bool) (s : State) : Result :=
  match (s.die d).test with
  | some t =>
    match t.startNs with
    | some ns =>
      if t.passed then .next s
      else if t.lost then .next (s.testAbsent d t)
      else
        let cluster := decide (t.unit = 31)
        let s := s.onDie d fun x => { x with
          test := if pass then some { t with passed := true } else none,
          fenced := if pass || cluster then x.fenced else x.fenced.filter fun f => f != (t.region, t.cluster, t.unit) }
        let s := if pass then (if cluster then s.clusterReset d t.cluster else s)
          else ((if cluster then s.loseCluster d t.region t.cluster else s.fenceUnit d t.region t.cluster t.unit).reschedule d)
        let s := s.raise d 16 (ownPlace t.cmd.target d) []
        .next (s.testReply d t { status := St.ok, result := le 1 (b2n pass) ++ zeros 3 ++ le 4 (s.now - ns) })
    | none => .next s
  | none => .next s

end Sys2Proof.Machine
end

