-- ==== Sys2Proof/Machine/Solver.lean ====
section
/-! DEFINITION. The arithmetic of a Juggler solve (R95..R100, R104..R106, R109): the rows of A, the Riccati factorisation, one ADMM iteration and the residuals. Every operation rounds to binary32; a value that is not finite is `none`. -/

namespace Sys2Proof.Machine

/-! ### binary32 -/

/-- The value of finite binary32 bits. -/
def f32Value (w : Word) : Rat :=
  let n := w.toNat
  let e := bits n 30 23
  let f := bits n 22 0
  let m : Rat := if e = 0 then (f : Rat) * pow2 (-149) else ((f + 8388608 : Nat) : Rat) * pow2 ((e : Int) - 150)
  if bit n 31 then -m else m

/-- The bits are a finite number. -/
def f32Finite (w : Word) : Bool := decide (bits w.toNat 30 23 ≠ 255)

/-- The bits are NaN. -/
def f32Nan (w : Word) : Bool := decide (bits w.toNat 30 23 = 255) && decide (bits w.toNat 22 0 ≠ 0)

/-- Bits of a rational in binary32, rounded to nearest; out of range gives infinity. -/
def f32Bits (x : Rat) : Nat :=
  let y := fl32 x
  let sgn : Nat := if y < 0 then 2147483648 else 0
  let a := absQ y
  if a = 0 then 0
  else
    let e := expOf a
    if 128 ≤ e then sgn + 255 * 8388608
    else if e < -126 then sgn + (a / pow2 (-149)).floor.toNat
    else sgn + (e + 127).toNat * 8388608 + ((a / pow2 (e - 23)).floor.toNat - 8388608)

/-- A binary32 result of the solver, `none` where it is not finite (R120). -/
abbrev F32 := Option Rat

/-- A rational rounded to binary32. -/
def round32 (x : Rat) : F32 :=
  let y := fl32 x
  if absQ y < pow2 128 then some y else none

/-- a·b + c with one rounding: what a lane does. -/
def fma (a b c : F32) : F32 := a.bind fun a => b.bind fun b => c.bind fun c => round32 (a * b + c)

/-- a / b; a division by zero is not finite. -/
def fdiv (a b : F32) : F32 := a.bind fun a => b.bind fun b => if b = 0 then none else round32 (a / b)

/-- The opposite of a number. -/
def fneg (a : F32) : F32 := a.map fun x => -x

/-- The greater of two magnitudes. -/
def fmaxAbs (a b : F32) : F32 := a.bind fun a => b.map fun b => max a (absQ b)

/-- ‖·‖∞. -/
def normInf (l : List F32) : F32 := l.foldl fmaxAbs (some 0)

/-- A sum of products (R111): every term is added in its lane by an FMA, in ascending order, and the lanes are then added in ascending
order. The lane of a term is the part's own choice. -/
def dot (key : List Int) (name : List Nat) (l : List (F32 × F32)) : F32 :=
  let n := l.length
  let lane := fun (i : Nat) => Config.lane key name i % max n 1
  let part := fun (m : Nat) => ((List.range n).zip l).foldl (fun acc e => if lane e.1 = m then fma e.2.1 e.2.2 acc else acc) (some 0)
  ((List.range n).filter fun m => (List.range n).any fun i => lane i == m).foldl (fun acc m => fma (part m) (some 1) acc) (some 0)

/-! ### Vectors and matrices -/

/-- Entry `i` of a vector of finite numbers. -/
def vecAt (v : List Rat) (i : Nat) : F32 := some (v.getD i 0)

/-- Entry `i` of a vector. -/
def fAt (v : List F32) (i : Nat) : F32 := v.getD i (some 0)

/-- Entry (i, j) of a matrix. -/
def matAt (m : List (List F32)) (i j : Nat) : F32 := fAt (m.getD i []) j

/-- Entry (i, j) of a matrix of finite numbers. -/
def ratAt (m : List (List Rat)) (i j : Nat) : F32 := vecAt (m.getD i []) j

/-- The vector of `n` entries. -/
def vec (n : Nat) (f : Nat → F32) : List F32 := (List.range n).map f

/-- The n × m matrix. -/
def mat (n m : Nat) (f : Nat → Nat → F32) : List (List F32) := (List.range n).map fun i => vec m (f i)

/-- A vector, if all of it is finite. -/
def finite (v : List F32) : Option (List Rat) := v.mapM id

/-- A matrix, if all of it is finite. -/
def finiteMat (m : List (List F32)) : Option (List (List Rat)) := m.mapM finite

/-! ### The problem (R95..R100) -/


/-- Member joints of a solve. -/
def Solve.count (s : Solve) : Nat := s.members.length

/-- h in seconds. -/
def Solve.h (s : Solve) : F32 := round32 (secs s.hNs)

/-- h²/2. -/
def Solve.h2 (s : Solve) : F32 := round32 (secs s.hNs * secs s.hNs / 2)

/-- LIMIT_FRACTION. -/
def Solve.fraction (s : Solve) : Rat := f32Value s.cfg.limitFraction

/-- The input bound f·a_max of a member; 0 where it is passive (R96, R98). -/
def Solve.inputBound (s : Solve) (m : Member) : Rat := if m.active then fl32 (s.fraction * m.aMax) else 0

/-- The velocity bound of a member at step k: f·v_max, widened for an initial velocity above it (R96): formed exactly and rounded once to
binary32. DESIGN CHOICE: the spec gives no precision for it. -/
def Solve.velocityBound (s : Solve) (m : Member) (k : Nat) : Rat :=
  fl32 (max (s.fraction * m.vMax) (absQ m.v0 - (k : Rat) * secs s.hNs * s.fraction * m.aMax))

/-- c_j of the terminal bounds (R97), formed exactly and rounded once to binary32 (DESIGN CHOICE: the spec gives no precision for it); 0 where a limit is 0. -/
def Solve.terminalCoef (s : Solve) (m : Member) : Rat := fl32 (s.fraction * m.vMax / (2 * m.aMax) + m.aMax / (2 * m.jMax))

/-- The box rows of a member and its terminal row (R96, R97). -/
def Solve.boxRows (s : Solve) (i : Nat) (m : Member) : List SolveRow :=
  let steps := (List.range s.cfg.n).map fun k => k + 1
  let v := fun (k : Nat) => s.velocityBound m k
  let u := s.inputBound m
  (steps.map fun k => { source := .boxQ, index := i, step := k, terms := [(0, i, 1)], lower := some m.qLo, upper := some m.qHi }) ++
  (steps.map fun k => { source := .boxV, index := i, step := k, terms := [(1, i, 1)], lower := some (-(v k)), upper := some (v k) }) ++
  ((List.range s.cfg.n).map fun k => { source := .boxU, index := i, step := k, terms := [(2, i, 1)], lower := some (-u), upper := some u }) ++
  (if s.cfg.terminalStop then
    [{ source := .terminal, index := i, step := s.cfg.n, terms := [(0, i, 1), (1, i, s.terminalCoef m)], lower := some m.qLo, upper := some m.qHi }]
  else [])

/-- A binary32 bound, none where infinite. -/
def f32Bound (w : Word) : Option Rat := if f32Finite w then some (f32Value w) else none

/-- A general row from its table entry: slot `i` of its step (R99, R100). -/
def RowEntry.row (ms : List Member) (i : Nat) (e : RowEntry) : SolveRow where
  source := .slot
  index := i
  step := e.step
  terms := (e.index.zip e.coef).filterMap fun x =>
    let j := x.1.toNat % 64
    let o := (ms.takeWhile fun m => m.joint != j).length
    if e.active && decide (o < ms.length) then some (x.1.toNat / 64, o, f32Value x.2) else none
  lower := if e.active then f32Bound e.lower else none
  upper := if e.active then f32Bound e.upper else none

/-- The weight of variable `v` of the members at step k: Δq, q̇ and u in turn; a passive member has none (R95, R98). -/
def Solve.weight (s : Solve) (k v : Nat) : Rat :=
  let n := s.count
  match s.members[v % max n 1]? with
  | none => 0
  | some m =>
    if !m.active then 0
    else if v / max n 1 = 2 then (if k < s.cfg.n then m.weights.getD 2 0 else 0)
    else if k = 0 then 0
    else if k < s.cfg.n then m.weights.getD (v / max n 1) 0
    else m.weights.getD (3 + v / max n 1) 0

/-- The reference of variable `v` at step k; an input has none. -/
def Solve.refAt (s : Solve) (k v : Nat) : Rat :=
  let n := s.count
  match s.members[v % max n 1]? with
  | none => 0
  | some m =>
    let r := m.ref.getD (k - 1) (0, 0)
    if v / max n 1 = 0 then r.1 else if v / max n 1 = 1 then r.2 else 0

/-- The step size of a row: 10³·ρ where l = u (R104). -/
def Solve.rowRho (s : Solve) (r : SolveRow) : F32 :=
  if r.lower.isSome && r.lower == r.upper then round32 (1000 * s.rho) else some s.rho

/-- The coefficient of variable `v` in a row. -/
def SolveRow.coef (n : Nat) (r : SolveRow) (v : Nat) : Option Rat := (r.terms.find? fun t => t.1 * n + t.2.1 == v).map fun t => t.2.2

/-- σ acts on the variables of z only: not on x_0. -/
def Solve.prox (s : Solve) (k v : Nat) : F32 :=
  if k = 0 && decide (v < 2 * s.count) then some 0 else some (f32Value s.cfg.sigma)

/-! ### The factorisation (R105, R106) -/

/-- Variables of stage k: x_k and u_k; the terminal block has x_N alone. -/
def Solve.width (s : Solve) (k : Nat) : Nat := if k < s.cfg.n then 3 * s.count else 2 * s.count

/-- The stage block at step k: weights, σ, and ρ·aᵀa of every row that touches the step. -/
def Solve.block (s : Solve) (k : Nat) : List (List F32) :=
  let rows := s.rows.filter fun r => r.step == k
  mat (s.width k) (s.width k) fun a b =>
    let own : List (F32 × F32) := if a = b then [(some (s.weight k a), some 1), (s.prox k a, some 1)] else []
    dot s.key [1, k, a, b] (own ++ rows.filterMap fun r =>
      (r.coef s.count a).bind fun x => (r.coef s.count b).map fun y => (fma (s.rowRho r) (some x) (some 0), some y))

/-- A factorisation in the making: the columns of L, the pivots, and the joints whose pivots have been replaced, as ordinals. -/
structure Ldl where
  l : List (List F32) := []
  d : List F32 := []
  replaced : List Nat := []

/-- R106: the pivot is not positive, small against the block, or its reciprocal overflows. -/
def Solve.badPivot (s : Solve) (sBlk d : Rat) : Bool :=
  decide (d ≤ 0) || (match fma (some (f32Value s.cfg.epsPiv)) (some sBlk) (some 0) with
    | some t => decide (absQ d < t)
    | none => true) || decide (absQ d < pow2 (-128))

/-- One column of H = L·D·Lᵀ, unpivoted, with the pivot rule of R106. -/
def Solve.ldlColumn (s : Solve) (k : Nat) (hk : List (List F32)) (sBlk : F32) (f : Ldl) (j : Nat) : Ldl :=
  let n := s.count
  let ld := fun (m : Nat) => fma (matAt f.l m j) (fAt f.d m) (some 0)
  let raw := dot s.key [2, k, j, j] ((matAt hk j j, some 1) :: (List.range j).map fun m => (fneg (ld m), matAt f.l m j))
  let fresh := fma (some (f32Value s.cfg.deltaReg)) sBlk (some 0)
  let bad := match raw, sBlk with
    | some d, some b => s.badPivot b d
    | _, _ => false
  let d := if bad then fresh else raw
  let col := vec n fun i =>
    if i < j then some 0 else if i = j then some 1
    else fdiv (dot s.key [2, k, i, j] ((matAt hk i j, some 1) :: (List.range j).map fun m => (fneg (ld m), matAt f.l m i))) d
  { l := f.l ++ [col], d := f.d ++ [d], replaced := if bad then f.replaced ++ [j] else f.replaced }

/-- H_k = L_k·D_k·L_kᵀ in ascending joint number. -/
def Solve.ldl (s : Solve) (k : Nat) (hk : List (List F32)) : Ldl :=
  let sBlk := normInf (vec s.count fun i => matAt hk i i)
  (List.range s.count).foldl (s.ldlColumn k hk sBlk) {}

/-- H⁻¹·b through the factor. -/
def Solve.solveH (s : Solve) (name : List Nat) (l : List (List F32)) (d b : List F32) : List F32 :=
  let n := s.count
  let fwd := (List.range n).foldl (fun (y : List F32) i =>
    y ++ [dot s.key (3 :: i :: name) ((fAt b i, some 1) :: (List.range i).map fun m => (fneg (matAt l m i), fAt y m))]) []
  let mid := vec n fun i => fdiv (fAt fwd i) (fAt d i)
  (List.range n).reverse.foldl (fun (x : List F32) i =>
    dot s.key (4 :: i :: name) ((fAt mid i, some 1) :: (List.range (n - 1 - i)).map fun m => (fneg (matAt l i (i + 1 + m)), fAt x m)) :: x) []

/-- Φᵀ·p. -/
def Solve.phiT (s : Solve) (p : Nat → F32) (v : Nat) : F32 := if v < s.count then p v else fma s.h (p (v - s.count)) (p v)

/-- Γᵀ·p. -/
def Solve.gammaT (s : Solve) (p : Nat → F32) (j : Nat) : F32 := fma s.h2 (p j) (fma s.h (p (s.count + j)) (some 0))

/-- One stage of the recursion (R105): the factor of stage k and the P that stage k − 1 sees. -/
def Solve.riccatiStep (s : Solve) (k : Nat) (p : List (List F32)) : Ldl × List (List F32) × List (List F32) :=
  let n := s.count
  let blk := s.block k
  let gp := mat n (2 * n) fun j b => s.gammaT (fun a => matAt p a b) j
  let hk := mat n n fun i j => fma (some 1) (matAt blk (2 * n + i) (2 * n + j)) (s.gammaT (fun b => matAt gp i b) j)
  let g := mat n (2 * n) fun i b => fma (some 1) (matAt blk b (2 * n + i)) (s.phiT (fun v => matAt gp i v) b)
  let f := s.ldl k hk
  let hg := (List.range (2 * n)).map fun b => s.solveH [5, k, b] f.l f.d (vec n fun i => matAt g i b)
  let pp := mat (2 * n) (2 * n) fun a b => s.phiT (fun v => matAt p a v) b
  let new := mat (2 * n) (2 * n) fun a b =>
    dot s.key [6, k, a, b] ([(matAt blk a b, some 1), (s.phiT (fun v => matAt pp v b) a, some 1)] ++
      (List.range n).map fun i => (fneg (matAt g i a), matAt hg b i))
  (f, g, new)

/-- The factorisation from step N − 1 down to 0 (R105): the stages, and the replaced pivots as step and joint in factorisation order. A
value that is not finite gives none (R120). -/
def Solve.factorise (s : Solve) : Option (List Stage × List (Nat × Nat)) :=
  let go := fun (acc : Option (List Stage × List (Nat × Nat)) × List (List F32)) (k : Nat) =>
    let r := s.riccatiStep k acc.2
    let out := acc.1.bind fun o => (finiteMat r.1.l).bind fun l => (finite r.1.d).bind fun d => (finiteMat r.2.1).map fun g =>
      ({ l := l, d := d, g := g } :: o.1, o.2 ++ r.1.replaced.map fun j => (k, (s.members.map fun m => m.joint).getD j 255))
    (out, r.2.2)
  ((List.range s.cfg.n).reverse.foldl go (some ([], []), s.block s.cfg.n)).1

/-! ### Dynamics and rows -/

/-- x_0: no offset, and the initial velocity (R93). -/
def Solve.x0 (s : Solve) : List F32 := (s.members.map fun _ => some 0) ++ s.members.map fun m => some m.v0

/-- x_{k+1} = Φ·x_k + Γ·u_k (R95). -/
def Solve.next (s : Solve) (x u : List F32) : List F32 :=
  let n := s.count
  vec (2 * n) fun v =>
    if v < n then fma s.h2 (fAt u v) (fma s.h (fAt x (n + v)) (fAt x v)) else fma s.h (fAt u (v - n)) (fAt x v)

/-- The states x_1..x_N that inputs lead to from x_0. -/
def Solve.roll (s : Solve) (u : Nat → List F32) : List F32 :=
  ((List.range s.cfg.n).foldl (fun (acc : List F32 × List F32) k => let x := s.next acc.1 (u k); (x, acc.2 ++ x)) (s.x0, [])).2

/-- Variable `v` of stage k in z. -/
def Solve.zAt (s : Solve) (x u : List F32) (k v : Nat) : F32 :=
  let n := s.count
  if 2 * n ≤ v then fAt u (k * n + (v - 2 * n)) else if k = 0 then fAt s.x0 v else fAt x ((k - 1) * 2 * n + v)

/-- A·z, row by row. -/
def Solve.rowValues (s : Solve) (x u : List F32) : List F32 :=
  ((List.range s.rows.length).zip s.rows).map fun r =>
    dot s.key [7, r.1] (r.2.terms.map fun t => (some t.2.2, s.zAt x u r.2.step (t.1 * s.count + t.2.1)))

/-- Clip to the bounds of a row. -/
def SolveRow.clip (r : SolveRow) (v : F32) : F32 := v.map fun v =>
  let v := match r.lower with
    | some l => max l v
    | none => v
  match r.upper with
  | some u => min u v
  | none => v

/-! ### One iteration (R104) -/

/-- The rows of a step with the number each has in A. -/
def Solve.rowsAt (s : Solve) (k : Nat) : List (Nat × SolveRow) := ((List.range s.rows.length).zip s.rows).filter fun r => r.2.step == k

/-- σ·z − c + Aᵀ(ρ·w − y) at variable `v` of step k. -/
def Solve.rhs (s : Solve) (it : Iterate) (k v : Nat) : F32 :=
  let z := s.zAt (it.x.map some) (it.u.map some) k v
  dot s.key [8, k, v] ([(s.prox k v, z), (some (s.weight k v), some (s.refAt k v))] ++ (s.rowsAt k).filterMap fun r =>
    (r.2.coef s.count v).map fun a => (some a, fma (s.rowRho r.2) (vecAt it.w r.1) (fneg (vecAt it.y r.1))))

/-- The x̃ of an iteration: the linear system under the dynamics, by substitution through the factor. -/
def Solve.substitute (s : Solve) (it : Iterate) : List F32 × List F32 :=
  let n := s.count
  let lin := fun (k v : Nat) => fneg (s.rhs it k v)
  let back := fun (acc : List F32 × List (List F32)) (k : Nat) =>
    let st := s.stages.getD k { l := [], d := [], g := [] }
    let hk := vec n fun j => fma (some 1) (lin k (2 * n + j)) (s.gammaT (fAt acc.1) j)
    let hh := s.solveH [9, k] (st.l.map fun c => c.map some) (st.d.map some) hk
    let p := vec (2 * n) fun v =>
      dot s.key [10, k, v] ([(lin k v, some 1), (s.phiT (fAt acc.1) v, some 1)] ++ (List.range n).map fun i => (fneg (ratAt st.g i v), fAt hh i))
    (p, hh :: acc.2)
  let offs := ((List.range s.cfg.n).reverse.foldl back (vec (2 * n) (lin s.cfg.n), [])).2
  let fwd := fun (acc : List F32 × List F32 × List F32) (k : Nat) =>
    let st := s.stages.getD k { l := [], d := [], g := [] }
    let gx := vec n fun i => dot s.key [11, k, i] ((List.range (2 * n)).map fun v => (ratAt st.g i v, fAt acc.1 v))
    let hx := s.solveH [12, k] (st.l.map fun c => c.map some) (st.d.map some) gx
    let u := vec n fun i => fneg (fma (some 1) (fAt hx i) (fAt (offs.getD k []) i))
    let x := s.next acc.1 u
    (x, acc.2.1 ++ x, acc.2.2 ++ u)
  ((List.range s.cfg.n).foldl fwd (s.x0, [], [])).2

/-- α·a + (1 − α)·b. -/
def Solve.relax (s : Solve) (a b : F32) : F32 :=
  let al := f32Value s.cfg.alpha
  fma (some al) a (fma (round32 (1 - al)) b (some 0))

/-- One iteration (R104); none where a value is not finite. -/
def Solve.iterate (s : Solve) (it : Iterate) : Option Iterate :=
  let t := s.substitute it
  let mix := fun (new : List F32) (old : List Rat) => vec new.length fun i => s.relax (fAt new i) (vecAt old i)
  let ax := s.rowValues t.1 t.2
  let rows := (List.range s.rows.length).zip s.rows
  let wy := rows.map fun r =>
    let rho := s.rowRho r.2
    let y := vecAt it.y r.1
    let wHat := s.relax (fAt ax r.1) (vecAt it.w r.1)
    let w := r.2.clip (fma (some 1) wHat (fdiv y rho))
    (w, fma rho (fma (some (-1)) w wHat) y)
  (finite (mix t.1 it.x)).bind fun x => (finite (mix t.2 it.u)).bind fun u =>
    (finite (wy.map fun e => e.1)).bind fun w => (finite (wy.map fun e => e.2)).map fun y => { x := x, u := u, w := w, y := y }

/-- A number of iterations. -/
def Solve.iterates (s : Solve) : Nat → Iterate → Option Iterate
  | 0, it => some it
  | n + 1, it => (s.iterate it).bind (s.iterates n)

/-! ### Residuals (R109) -/

/-- The gradient with respect to the inputs with the states eliminated, by the adjoint pass of R109, of a function with the partial
derivatives `d`: its ∞-norm over all steps. -/
def Solve.reduced (s : Solve) (d : Nat → Nat → F32) : F32 :=
  let n := s.count
  let step := fun (acc : List F32 × F32) (k : Nat) =>
    let g := vec n fun j => fma (some 1) (d k (2 * n + j)) (s.gammaT (fAt acc.1) j)
    (vec (2 * n) fun v => fma (some 1) (d k v) (s.phiT (fAt acc.1) v), fmaxAbs acc.2 (normInf g))
  ((List.range s.cfg.n).reverse.foldl step (vec (2 * n) (d s.cfg.n), some 0)).2

/-- The partial derivative of the objective: W·(z − r). -/
def Solve.costGrad (s : Solve) (it : Iterate) (k v : Nat) : F32 :=
  fma (some (s.weight k v)) (fma (some (-1)) (some (s.refAt k v)) (s.zAt (it.x.map some) (it.u.map some) k v)) (some 0)

/-- The partial derivative of yᵀAz. -/
def Solve.rowGrad (s : Solve) (it : Iterate) (k v : Nat) : F32 :=
  dot s.key [13, k, v] ((s.rowsAt k).filterMap fun r => (r.2.coef s.count v).map fun a => (some a, vecAt it.y r.1))

/-- The checkpoint at an iterate: r_prim, r_dual and their tolerances (R109). -/
def Solve.checkpoint (s : Solve) (iter : Nat) (it : Iterate) : Option Checkpoint :=
  let az := s.rowValues (it.x.map some) (it.u.map some)
  let prim := normInf (vec s.rows.length fun i => fma (some (-1)) (vecAt it.w i) (fAt az i))
  let dual := s.reduced fun k v => fma (some 1) (s.costGrad it k v) (s.rowGrad it k v)
  let tol := fun (a b : F32) => fma (some (f32Value s.cfg.epsRel)) (fmaxAbs a b) (some (f32Value s.cfg.epsAbs))
  let ep := tol (normInf az) (normInf (it.w.map some))
  let ed := tol (s.reduced (s.costGrad it)) (s.reduced (s.rowGrad it))
  prim.bind fun rp => dual.bind fun rd => ep.bind fun ep => ed.map fun ed =>
    { iter := iter, it := it, rPrim := rp, rDual := rd, epsPrim := ep, epsDual := ed }

end Sys2Proof.Machine
end

