-- ==== Sys2Proof/Machine/Juggler.lean ====
section
/-! DEFINITION. The Juggler (chapter 4): the start of a solve (R92..R103, R114..R116), its checkpoints (R105..R110), the choice of
an iterate on one die and on two (R117, R120, R121), publication and fallback (R118, R119, R123), the report (R125). -/

namespace Sys2Proof.Machine

/-! ### State access -/

/-- Change the Juggler of a die. -/
def State.onJug (s : State) (d : DieId) (f : Juggler → Juggler) : State := s.onDie d fun x => { x with jug := f x.jug }

/-- A die that follows the Flier's choice of iterate (R121): a Catcher that computes while the Flier is live. -/
def State.follows (s : State) (d : DieId) : Bool :=
  match s.mw.trapeze.token with
  | some f => f != d && (s.die f).live && s.hasPartner
  | none => false

/-- TB2 in nanoseconds. -/
def State.tb2 (s : State) : Nat := s.mw.tb[2].ns

/-! ### References (R94) -/

/-- Drop every point whose successor's key is at or before `b`. -/
def dropPoints (b : Nat) : List RefPoint → List RefPoint
  | p :: q :: r => if q.key ≤ b then dropPoints b (q :: r) else p :: q :: r
  | l => l

/-- Position and velocity of the `n`-th joint of a reference point. -/
def RefPoint.at_ (p : RefPoint) (n : Nat) : Rat × Rat := let v := p.qv.getD n (0, 0); (posOf v.1, velOf v.2)

/-- The reference at a boundary with REF_SHORT (R94); `q0` stands for an empty buffer. -/
def sampleRef (tS : Nat) (q0 : Rat) (n bk : Nat) : List RefPoint → (Rat × Rat) × Bool
  | [] => ((q0, 0), true)
  | [p] => if p.key ≤ bk then (((p.at_ n).1, 0), true) else (p.at_ n, false)
  | p :: q :: r =>
    if bk < p.key then (p.at_ n, false)
    else if bk < q.key then
      let dl := secs ((q.key - p.key) * tS)
      let s : Rat := ((bk - p.key : Nat) : Rat) / ((q.key - p.key : Nat) : Rat)
      let a := p.at_ n
      let b := q.at_ n
      (((2 * s^3 - 3 * s^2 + 1) * a.1 + (s^3 - 2 * s^2 + s) * dl * a.2 + (-2 * s^3 + 3 * s^2) * b.1 + (s^3 - s^2) * dl * b.2,
        ((6 * s^2 - 6 * s) * a.1 + (3 * s^2 - 4 * s + 1) * dl * a.2 + (-6 * s^2 + 6 * s) * b.1 + (3 * s^2 - 2 * s) * dl * b.2) / dl), false)
    else sampleRef tS q0 n bk (q :: r)

/-! ### Start of a solve -/

/-- The path state a generator would hold `n` advances on with nothing arriving (R93, R136): its own advance, the guard included, and what follows by itself in
a homing. -/
def predict (i : AdvIn) : Nat → Joint → Joint
  | 0, x => x
  | n + 1, x =>
    let r := (x.advance i x.q).1.homeNext i.cfg
    predict i n (match r.2 with
      | some shift => r.1.homedAt i.cfg shift
      | none => r.1)

/-- Configuration steps 1..N at which general rows stand. -/
def CfgJuggler.rowSteps (c : CfgJuggler) : List Nat := ((List.range c.n).map (· + 1)).filter fun k => c.rowStepMask.getLsbD (k - 1)

/-- A solve finds the joint active (R98). -/
def Joint.jugglerActive (x : Joint) : Bool := x.mode == .stream && x.source == .juggler && x.state != .disabled

/-- A member at the start of a solve (R93, R94, R96, R98). The reference samples are formed exactly and rounded once to binary32. DESIGN CHOICE: the spec gives no precision
for them. -/
def State.member (s : State) (d : DieId) (j : Fin 64) : Member × Bool :=
  let x := s.die d
  let c := x.cfg
  let g := x.jointCfg j
  let t := x.joints[j]
  let i : AdvIn := { x.advIn j with sigmaDot := 0 }
  let p := predict i c.rP t
  let q0 := posOf p.q
  let ord := ((x.armJoints ⟨g.joint.arm % 8, Nat.mod_lt _ (by decide)⟩).filter fun k => decide (k.val < j.val)).length
  let buf := x.jug.refs[g.joint.arm % 8]'(Nat.mod_lt _ (by decide))
  let steps := (List.range c.juggler.n).map fun k => sampleRef c.periods.tS q0 ord (s.mw.b + c.rP + (k + 1) * c.juggler.hMult * c.rP) buf
  let lim := match g.limits with
    | some l => (posOf l.qMin, posOf l.qMax)
    | none => (q0, q0)
  let w := c.weights[j]
  ({ joint := j.val, active := t.jugglerActive, q0 := p.q, v0 := fl32 (velOf p.v), a0 := fl32 (accOf p.a),
     ref := steps.map fun r => (fl32 (r.1.1 - q0), fl32 r.1.2), qLo := fl32 (lim.1 - q0), qHi := fl32 (lim.2 - q0),
     vMax := g.lim.v, aMax := g.lim.a, jMax := g.lim.j, weights := [w.wq, w.wv, w.wa, w.wqn, w.wvn].map f32Value }, steps.any fun r => r.2)

/-- Insert by an order. -/
def insertBy {α : Type} (le_ : α → α → Bool) (a : α) : List α → List α
  | [] => [a]
  | b :: r => if le_ a b then a :: b :: r else b :: insertBy le_ a r

/-- Insertion sort. -/
def sortBy {α : Type} (le_ : α → α → Bool) (l : List α) : List α := l.foldr (insertBy le_) []

/-- Rank order of items: margin, then the lower capsule or zone index (R101). -/
def SepItem.before (a b : SepItem) : Bool :=
  let k := fun (x : SepItem) => if x.zone then (x.occupant % 64, x.occupant) else (x.occupant % 128, x.occupant)
  let ma := a.d - a.dReq
  let mb := b.d - b.dReq
  decide (ma < mb) || (decide (ma = mb) && (decide ((k a).1 < (k b).1) || (decide ((k a).1 = (k b).1) && decide ((k a).2 ≤ (k b).2))))

/-- Give admitted items their slots (R101): those of the previous solve (slot, occupant) first, then the lowest free ones. -/
def assignSlots (old : List (Nat × Nat)) (n : Nat) (items : List SepItem) : List (Nat × SepItem) :=
  let kept := items.filterMap fun i => (old.find? fun o => o.2 == i.occupant && decide (o.1 < n)).map fun o => (o.1, i)
  let rest := items.filter fun i => !(kept.any fun k => k.2.occupant == i.occupant)
  let free := (List.range n).filter fun k => !(kept.any fun x => x.1 == k)
  kept ++ free.zip rest

/-! ### The row table (R100, R102) -/

/-- Binary32 bits of a rational. -/
def f32Word (x : Rat) : Word := BitVec.ofNat 32 (f32Bits x)

/-- A slot that holds no row (R100). -/
def emptyEntry (step source slot : Nat) : RowEntry :=
  { step := step, source := source, active := false, slot := slot, occupant := if source = 0 then slot else 0, lower := 0xFF800000, upper := 0x7F800000,
    index := [], coef := [], dual := 0 }

/-- The entry of a separation or zone item: its terms on Δq of the member joints, which are those that are not zero, and its lower bound (R101, Table 4.1). -/
def SepItem.entry (i : SepItem) (ms : List Member) (step slot : Nat) : RowEntry :=
  let g := i.g.filter fun e => decide (e.2.1 ≠ 0) && ms.any fun m => m.joint == e.1
  let q0 := fun (j : Nat) => match ms.find? fun m => m.joint == j with
    | some m => posOf m.q0
    | none => 0
  { emptyEntry step (if i.zone then 2 else 1) slot with
    active := true, occupant := i.occupant, lower := f32Word (i.dReq - i.d + g.foldl (fun n e => n + e.2.1 * (e.2.2 - q0 e.1)) 0),
    index := g.map fun e => BitVec.ofNat 8 e.1, coef := g.map fun e => f32Word e.2.1 }

/-- The entry of a host slot at a step (R99, R130). -/
def Cfg.hostEntry (c : Cfg) (step slot : Nat) : RowEntry :=
  match c.rows.find slot with
  | some r =>
    if r.stepMask.getLsbD (step - 1) then
      { emptyEntry step 0 slot with active := true, lower := r.lower, upper := r.upper, index := r.index.take r.nnz, coef := r.coef.take r.nnz }
    else emptyEntry step 0 slot
  | none => emptyEntry step 0 slot

/-- The row table (R100, R102): at every step of ROW_STEP_MASK the separation, zone and host slots in order. `live` gives the separation and zone
entries; DUAL is kept where the slot's occupant is unchanged, and 0 otherwise. -/
def Cfg.rowTable (c : Cfg) (live : Nat → Nat → Nat → RowEntry) (old : List RowEntry) : List RowEntry :=
  let j := c.juggler
  let keep := fun (e : RowEntry) =>
    match old.find? fun o => o.step == e.step && o.source == e.source && o.slot == e.slot && o.active && o.occupant == e.occupant with
    | some o => if e.active then { e with dual := o.dual } else e
    | none => e
  (j.rowSteps.map fun k =>
    (((List.range j.sepRows).map (live k 1)) ++ ((List.range j.zoneRows).map (live k 2)) ++ (List.range j.hostRows).map (c.hostEntry k)).map keep).flatten

/-- The separation or zone entry that stands in a table. -/
def heldEntry (old : List RowEntry) (step source slot : Nat) : RowEntry :=
  (old.find? fun o => o.step == step && o.source == source && o.slot == slot).getD (emptyEntry step source slot)

/-- The 128 bytes of an entry (Table 4.1). -/
def RowEntry.bytes (e : RowEntry) : List Byte :=
  le 1 e.step ++ le 1 (e.source + 128 * b2n e.active) ++ le 2 e.slot ++ le 4 e.occupant ++ le 4 e.lower.toNat ++ le 4 e.upper.toNat ++
    le 1 e.index.length ++ zeros 3 ++ padTo 20 e.index ++ padTo 80 ((e.coef.map fun w => le 4 w.toNat).flatten) ++ le 4 e.dual.toNat ++ zeros 4

/-- DUAL of every entry at the end of a solve (R102): the table's rows are the last ones of A. -/
def putDuals (rows : Nat) (y : List Rat) (t : List RowEntry) : List RowEntry :=
  let first := rows - t.length
  ((List.range t.length).zip t).map fun e => { e.2 with dual := f32Word (y.getD (first + e.1) 0) }

/-! ### The start -/

/-- What R111 makes the order of the reductions depend on: the lane groups present and the committed structure. -/
def State.orderKey (s : State) (d : DieId) : List Int :=
  let x := s.die d
  let j := x.cfg.juggler
  let groups := (List.range 16).filter fun g =>
    s.clusterExists 1 (g / 4) && !x.removed.contains (1, g / 4) && !x.fenced.contains (1, g / 4, g % 4)
  [(j.jointSet.toNat : Int), (j.n : Int), (x.cfg.hNs : Int), (j.rowStepMask.toNat : Int), (j.sepRows : Int), (j.zoneRows : Int), (j.hostRows : Int),
   (b2n j.terminalStop : Int), (x.cfg.signature.toNat : Int)] ++ groups.map fun g => (g : Int)

/-- A quantity of the warm iterate shifted by one planning period (R115): the row of the same source at the next step, else its own value. DESIGN
CHOICE for a step whose successor carries no general rows. -/
def shiftRows (hMult : Nat) (rows : List SolveRow) (v : List Rat) : List Rat :=
  let s : Rat := 1 / ((max hMult 1 : Nat) : Rat)
  let e := rows.zip v
  e.map fun a =>
    let next := match e.find? fun b => b.1.source == a.1.source && b.1.index == a.1.index && b.1.step == a.1.step + 1 with
      | some b => b.2
      | none => a.2
    fl32 ((1 - s) * a.2 + s * next)

/-- The inputs of the warm iterate shifted by one planning period (R115): `n` members for each of `steps` steps. -/
def shiftInputs (n steps hMult : Nat) (u : List Rat) : List Rat :=
  let s : Rat := 1 / ((max hMult 1 : Nat) : Rat)
  (List.range (n * steps)).map fun i =>
    let next := if i + n < n * steps then i + n else i
    fl32 ((1 - s) * u.getD i 0 + s * u.getD next 0)

/-- The iterate a solve starts from (R115, R116): the last one shifted, or the cold one. -/
def Solve.first (sol : Solve) (warm : Option Iterate) (table : List RowEntry) : Option Iterate :=
  let n := sol.count
  let roll := fun (u : List Rat) => sol.roll fun k => vec n fun i => vecAt u (k * n + i)
  match warm with
  | some w =>
    let u := shiftInputs n sol.cfg.n sol.cfg.hMult w.u
    let box := sol.rows.length - table.length
    let y := (List.range box).map (fun i => w.y.getD i 0) ++ table.map fun e => f32Value e.dual
    (finite (roll u)).map fun x => { x := x, u := u, w := shiftRows sol.cfg.hMult sol.rows w.w, y := shiftRows sol.cfg.hMult sol.rows y }
  | none =>
    let u := List.replicate (n * sol.cfg.n) (0 : Rat)
    (finite (roll u)).bind fun x =>
      let az := sol.rowValues (x.map some) (u.map some)
      (finite (((List.range sol.rows.length).zip sol.rows).map fun r => r.2.clip (fAt az r.1))).map fun w =>
        { x := x, u := u, w := w, y := List.replicate sol.rows.length 0 }

/-- Start a solve at the planning boundary that has fired, its at-epoch commands done (R92, R103, R114..R117). An item with no gradient on a member
joint takes no part in the ranking and is not counted as dropped. DESIGN CHOICE. -/
def State.solveStart (s : State) (d : DieId) : State :=
  let x := s.die d
  let c := x.cfg
  let j := c.juggler
  let s := s.onJug d fun y => { y with refs := y.refs.map (dropPoints (s.mw.b + c.rP)) }
  let ms := j.memberList.map fun k => s.member d k
  let mem := ms.map fun m => m.1
  let joined := x.sep.items.filter fun i => i.g.any fun e => decide (e.2.1 ≠ 0) && mem.any fun m => m.joint == e.1
  let pairs := sortBy SepItem.before (joined.filter fun i => !i.zone)
  let zones := sortBy SepItem.before (joined.filter fun i => i.zone)
  let held := fun (source : Nat) => (x.jug.table.filter fun e => e.active && e.source == source).map fun e => (e.slot, e.occupant)
  let sp := assignSlots (held 1) j.sepRows (pairs.take j.sepRows)
  let zp := assignSlots (held 2) j.zoneRows (zones.take j.zoneRows)
  let live := fun (k source slot : Nat) =>
    match (if source = 1 then sp else zp).find? fun g => g.1 == slot with
    | some g => g.2.entry mem k slot
    | none => emptyEntry k source slot
  let table := c.rowTable live x.jug.table
  let sig := c.signature
  let cold := x.jug.coldDue || x.jug.last.isNone
  let rej := !cold && (match x.jug.last with
    | some l => decide (l.1 ≠ sig)
    | none => false)
  let warm := if cold || rej then none else x.jug.last.map fun l => l.2
  let rho := if j.rhoAdapt then x.jug.rho.getD (f32Value j.rho) else f32Value j.rho
  let base : Solve :=
    { p := s.mw.b, startNs := s.now, pNs := s.mw.bNs, deadlineNs := s.mw.nominal + c.jugglerBudget, endNs := s.mw.nominal + c.periods.tP, signature := sig,
      cold := cold, warmRej := rej, refShort := ms.any fun m => m.2, cfg := j, hNs := c.hNs, hB := j.hMult * c.rP, t0B := s.mw.b + c.rP,
      members := mem, rows := [], dropped := (pairs.length - j.sepRows) + (zones.length - j.zoneRows), rho := rho, cur := {}, key := s.orderKey d }
  let perStep := j.sepRows + j.zoneRows + j.hostRows
  let sol : Solve :=
    { base with rows := (((List.range mem.length).zip mem).map fun m => base.boxRows m.1 m.2).flatten ++
        ((List.range table.length).zip table).map fun e => e.2.row mem (e.1 % max perStep 1) }
  let it := sol.first warm table
  let sol := { sol with cur := it.getD {}, nonfinite := it.isNone }
  s.onJug d fun y => { y with solve := some sol, table := table, behind := false, startDue := false, coldDue := false }

/-! ### The plan (R118, R123) -/

/-- Nearest code, ties away from zero, saturated (R123). -/
def codeAway (x step : Rat) (b : Nat) : Int :=
  let y := x / step
  let a := (absQ y + 1 / 2).floor
  satInt b (if y < 0 then -a else a)

/-- States of a member at steps 0..N from its inputs, as offsets and velocities in binary32 (R95, R118). -/
def propagate (h h2 : F32) : F32 × F32 → List Rat → List (F32 × F32)
  | x, [] => [x]
  | x, u :: r => x :: propagate h h2 (fma h2 (some u) (fma h x.2 x.1), fma h (some u) x.2) r

/-- Accelerations of the points (R123). -/
def pointAccels (a0 : Rat) (u : List Rat) : List Rat :=
  let n := u.length
  (List.range (n + 1)).map fun k =>
    if k = 0 then a0 else if k < n then fl32 (fl32 (u.getD (k - 1) 0 + u.getD k 0) / 2) else u.getD (n - 1) 0

/-- The published points of a member from its inputs, clipped to their box (R118, R123); none where a state is not finite. The offset of a position is
converted and added to q_0. -/
def Member.plan (m : Member) (sol : Solve) (u : List Rat) : Option JointPlan :=
  let bound := sol.inputBound m
  let us := u.map fun x => clampQ x (-bound) bound
  let st := (propagate sol.h sol.h2 (some 0, some m.v0) us).mapM fun e => e.1.bind fun q => e.2.map fun v => (q, v)
  st.map fun st =>
    { hNs := sol.hNs, b0 := sol.t0B,
      points := (st.zip (pointAccels m.a0 us)).map fun p =>
        { q := posOf (satInt 64 (m.q0 + codeAway p.1.1 posStep 64)), v := velOf (codeAway p.1.2 velStep 32), a := accOf (codeAway p.2 accStep 32) } }

/-- The plans of the active members. -/
def Solve.plans (sol : Solve) (it : Iterate) : Option (List (Nat × JointPlan)) :=
  let n := sol.count
  (((List.range n).zip sol.members).filter fun m => m.2.active).mapM fun m =>
    (m.2.plan sol ((List.range sol.cfg.n).map fun k => it.u.getD (k * n + m.1) 0)).map fun p => (m.2.joint, p)

/-! ### Checkpoints (R109, R110) -/

/-- Merit (R110), of exact rationals, which also decides between equal ones. DESIGN CHOICE: the spec gives no precision for the comparison. -/
def Checkpoint.merit (k : Checkpoint) (c : CfgJuggler) : Rat := k.rPrim / k.epsPrim + f32Value c.meritDual * (k.rDual / k.epsDual)

/-- Converged (R109). -/
def Checkpoint.converged (k : Checkpoint) (c : CfgJuggler) : Bool :=
  decide (k.rPrim ≤ k.epsPrim) && decide (k.rDual ≤ k.epsDual) && decide (k.rPrim ≤ f32Value c.feasTol)

/-- The best checkpoint up to an iteration: a converged one at it, else the lowest merit, ties to the later (R110, R117). -/
def Solve.best (sol : Solve) (upTo : Nat) : Option Checkpoint :=
  let c := sol.cfg
  let ks := sol.points.filter fun k => decide (k.iter ≤ upTo)
  match ks.find? fun k => k.iter == upTo && k.converged c with
  | some k => some k
  | none => ks.foldl (fun b k => match b with
    | none => some k
    | some m => if k.merit c ≤ m.merit c then some k else b) none

/-! ### The end of a solve (R118..R120, R125) -/

/-- STATUS of the report (R125). -/
def reportStatus (timeLimit reg rej : Bool) : Nat := if timeLimit then 5 else if reg then 4 else if rej then 3 else 0

/-- General rows at a bound (Table 4.6). -/
def Solve.rowsActive (sol : Solve) (w : List Rat) : Nat :=
  ((sol.rows.zip w).filter fun r => r.1.source == .slot && (decide (r.1.lower = some r.2) || decide (r.1.upper = some r.2))).length

/-- ρ for the next solve (R108). With no dual residual the ratio is without bound and ρ is the upper clamp; with neither residual it is a free value
within the clamp. -/
def nextRho (c : CfgJuggler) (rho : Rat) (k : Checkpoint) : Rat :=
  let base := f32Value c.rho
  let lo := base / 100
  let hi := base * 100
  if k.rDual = 0 then (if k.rPrim = 0 then clampQ (fl32 ((Config.unstated (108 :: [rho.num, (rho.den : Int)]) : Int) : Rat)) lo hi else fl32 hi)
  else fl32 (clampQ (rho * sqrt64 ((k.rPrim / k.epsPrim) / (k.rDual / k.epsDual))) lo hi)

/-- A solve of a die is over, published or not: statistics, PLAN_FALLBACK and the stream record of R125, R126 and R133. DECIMATION counts all
solves since Ripe. DESIGN CHOICE. -/
def State.solveRecord (s : State) (d : DieId) (p flags dropped : Nat) (report : List Byte) : State :=
  let pub := bit flags 3
  let s := s.count d 4 0 0
  let s := s.count d 4 0 (if bit flags 4 then 1 else 2)
  let s := if bit flags 1 then s.count d 4 0 4 else s
  let s := if bit flags 0 then s.count d 4 0 5 else s
  let s := s.count d 4 0 6 dropped
  let s := if bit flags 6 then s.count d 4 0 7 else s
  let s := if pub then s else (s.count d 4 0 3).raise d 64 (s.target 0 0) (le 8 p)
  s.stream d 0x0506 1 true (fun st => !pub || (s.die d).jug.solveNo % (max 1 (st.args.getD 0 1)) == 0) s.epoch fun _ => report

/-- Write published plans into the generators' next-plan buffers (R118). -/
def Die.putPlans (x : Die) (plans : List (Nat × JointPlan)) : Die :=
  { x with joints := plans.foldl (fun js p =>
      let i : Fin 64 := ⟨p.1 % 64, Nat.mod_lt _ (by decide)⟩
      js.set i { js[i] with plan2 := some p.2 }) x.joints }

/-- CRC-32 of published plans, for the digest (R391). -/
def plansCrc (plans : List (Nat × JointPlan)) : Word :=
  crc32 ((plans.map fun p => le 1 p.1 ++ (p.2.points.map fun q =>
    leInt 8 (q.q / posStep).floor ++ leInt 4 (q.v / velStep).floor ++ leInt 4 (q.a / accStep).floor).flatten).flatten)

/-- The period whose digest takes what happens now: the next one's, once the cut-off has closed the present one's (R391). -/
def State.digestB (s : State) : Nat := if s.mw.cutDone then s.mw.b + 1 else s.mw.b

/-- End a solve with the chosen checkpoint, none where it ends at once: publish or fall back, report, statistics, stream (R118..R120, R125). A report
without a chosen iterate has R_PRIM, R_DUAL, MERIT and ITERATIONS 0 and T_DONE at the end of the solve. DESIGN CHOICE. The warm start of the next solve is
the chosen iterate, else the best one; a solve without any checkpoint leaves the earlier one. DESIGN CHOICE. -/
def State.solveEnd (s : State) (d : DieId) (chosen : Option Checkpoint) (behind : Bool := false) : State :=
  match (s.die d).jug.solve with
  | none => s
  | some sol =>
    let c := sol.cfg
    let plans := chosen.bind fun k => sol.plans k.it
    let pub := match chosen with
      | some k => decide (k.rPrim ≤ f32Value c.feasTol) && !sol.nonfinite && plans.isSome
      | none => false
    let conv := match chosen with
      | some k => k.converged c
      | none => false
    let z : Checkpoint := { iter := 0, it := {}, rPrim := 0, rDual := 0, epsPrim := 0, epsDual := 0 }
    let k := chosen.getD z
    let plans := plans.getD []
    let run := if pub then 0 else (s.die d).jug.run + 1
    let reg := decide (0 < sol.regCount)
    let flags := packBits [sol.warmRej, reg, !conv, pub, conv, sol.refShort, behind, sol.nonfinite, sol.abftRetry, sol.cold]
    let report :=
      le 8 sol.p ++ le 2 (reportStatus (!conv) reg sol.warmRej) ++ le 2 flags ++ le 2 k.iter ++ le 2 sol.iters ++ le 4 (f32Bits k.rPrim) ++
      le 4 (f32Bits k.rDual) ++ le 4 (f32Bits k.epsPrim) ++ le 4 (f32Bits k.epsDual) ++ le 4 (f32Bits (if chosen.isSome then k.merit c else 0)) ++
      le 4 (f32Bits sol.rho) ++ le 2 sol.regCount ++ le 1 sol.regStep ++ le 1 sol.regJoint ++ le 4 sol.tFactNs ++ le 4 (s.now - sol.pNs) ++
      le 2 (sol.rowsActive k.it.w) ++ le 2 (min sol.dropped 65535) ++ le 4 sol.signature.toNat ++ le 2 (min run 65535) ++ zeros 2
    let kept := (chosen.orElse fun _ => sol.best sol.iters).map fun k => (sol.signature, k.it)
    let s := s.onJug d fun y => { y with
      solve := none, report := report, last := kept.orElse fun _ => y.last, lastPlan := plans,
      table := match kept with
        | some e => putDuals sol.rows.length e.2.y y.table
        | none => y.table,
      rho := if !c.rhoAdapt then none else if chosen.isSome then some (nextRho c sol.rho k) else y.rho, run := run, solves := sat32 (y.solves + 1),
      solveNo := y.solveNo + 1, fallbacks := if pub then y.fallbacks else sat32 (y.fallbacks + 1), behind := behind, lastP := sol.p, lastIter := k.iter,
      planPresent := pub, planCrc := if pub then plansCrc plans else 0, pubB := if pub then some s.digestB else none }
    let s := s.onDie d fun x => if pub then x.putPlans plans else x
    s.solveRecord d sol.p flags sol.dropped report

/-- A planning boundary at which the Juggler is enabled and cannot solve: a fallback (R119, R122). -/
def State.missedSolve (s : State) (d : DieId) : State :=
  let s := s.onJug d fun y => { y with run := y.run + 1, fallbacks := sat32 (y.fallbacks + 1) }
  (s.count d 4 0 3).raise d 64 (s.target 0 0) (le 8 s.mw.b)

/-- A solve that ends at once for a non-finite value (R120). -/
def State.solveNonfinite (s : State) (d : DieId) : State :=
  let s := s.onJug d fun y => { y with solve := y.solve.map fun t => { t with nonfinite := true } }
  (s.raise d 66 (s.target 0 0) []).solveEnd d none

/-! ### The rows -/

/-- A detection by the factorisation checksum of a cluster whose retry ends as `fails` says (R107). -/
def State.abftDetected (s : State) (d : DieId) (k : Nat) (fails injected : Bool) : State :=
  let idx := placeIndex d.code 1 k 31
  let r := s.detect d (s.target 7 idx) idx 3 fails injected []
  if r.2 then r.1.loseCluster d 1 k { injected := injected, detector := 3 } else r.1

/-- The Juggler reads the memory of each of its clusters (R13, R20). The second result says that it lost one of them. -/
def State.useJuggler (s : State) (d : DieId) : State × Bool :=
  let t := ((List.range 4).filter fun k => !(s.die d).removed.contains (1, k)).foldl (fun s k => s.useArray d 1 k) s
  (t, (t.die d).removed != (s.die d).removed)

/-- FACTORISATION_DONE (R105..R107): the checksum passes, or the Juggler factorises once more where that still fits; a second
mismatch is a lasting fault of the cluster. A retry that does not fit is none: TIME_LIMIT is set and ABFT_RETRY stays clear. DESIGN CHOICE: R120 says "the matching flag" of both.
`mismatch` names the cluster whose partial checksum failed. -/
def execFactorisationDone (d : DieId) (mismatch : Option (Fin 4)) (s : State) : Result :=
  match (s.die d).jug.solve with
  | none => .next s
  | some sol =>
    if !s.computes d || sol.phase != .factor then .next s
    else if (s.useJuggler d).2 then .next ((s.useJuggler d).1.solveEnd d none)
    else
      let s := (s.useJuggler d).1
      let c : Cfg := { (s.die d).cfg with juggler := sol.cfg }
      let hit := s.checkInjected d 3 fun n => (List.range 4).any fun k => n.target == s.target 7 (placeIndex d.code 1 k 31)
      let s := hit.1
      let inj := hit.2.isSome
      let k : Option Nat := match mismatch, hit.2 with
        | some m, _ => some m.val
        | none, some n => some (bits n.target.toNat 21 19 % 4)
        | none, none => none
      match k with
      | some m =>
        let t := c.jugglerTimes (s.jugglerLanes d)
        let fits := decide (s.tb2 + t.1 + 25 * t.2.1 ≤ sol.deadlineNs)
        if sol.abft.isNone && fits then
          .next (s.onJug d fun y => { y with solve := y.solve.map fun z => { z with abft := some (m, inj), abftRetry := true } })
        else .next ((s.abftDetected d m true inj).solveEnd d none)
      | none =>
        let s := match sol.abft with
          | some (m, i) => s.abftDetected d m false i
          | none => s
        match (if sol.nonfinite then none else sol.factorise) with
        | none => .next (s.solveNonfinite d)
        | some (stages, replaced) =>
          let first := replaced.head?.getD (255, 255)
          let s := s.onJug d fun y => { y with solve := y.solve.map fun z =>
            { z with phase := .iterate, abft := none, stages := stages, regCount := replaced.length, regStep := first.1, regJoint := first.2,
                     tFactNs := s.now - sol.startNs } }
          if 0 < replaced.length ∧ !(s.die d).jug.regRaised then
            .next ((s.onJug d fun y => { y with regRaised := true }).raise d 65 (s.target 0 0) (le 8 sol.p))
          else .next s

/-- CHECKPOINT (R109, R121, R126): MIN_ITER_MARGIN_NS is taken at the first checkpoint at or past iteration 25, a choice where CHECK_EVERY does not divide 25 (DESIGN CHOICE).
CHECKPOINT: CHECK_EVERY iterations later the residuals are known; convergence ends the solve of the deciding die,
a Catcher stays within one checkpoint of the Flier's last report and ends at the Flier's choice. -/
def execCheckpoint (d : DieId) (s : State) : Result :=
  match (s.die d).jug.solve with
  | none => .next s
  | some sol =>
    let c := sol.cfg
    let follows := s.follows d
    if !s.computes d || sol.phase != .iterate || (follows && decide (sol.peerIter < sol.iters)) then .next s
    else if (s.useJuggler d).2 then .next ((s.useJuggler d).1.solveEnd d none)
    else
      let s := (s.useJuggler d).1
      let iter := sol.iters + max 1 c.checkEvery
      match (sol.iterates (max 1 c.checkEvery) sol.cur).bind (sol.checkpoint iter) with
      | none => .next (s.solveNonfinite d)
      | some k =>
        let s := s.onJug d fun y => { y with solve := y.solve.map fun z => { z with iters := iter, cur := k.it, points := z.points ++ [k] } }
        let s := if sol.iters < 25 ∧ 25 ≤ iter then s.onDie d fun x =>
            { x with stats := { x.stats with live := x.stats.live.minS32 4 0 8 (satInt 32 ((sol.deadlineNs : Int) - s.tb2)) } } else s
        if follows then
          match sol.want with
          | some w => if w ≤ iter then .next (s.solveEnd d ((s.die d).jug.solve.bind fun z => z.best w)) else .next s
          | none => if k.converged c then .next (s.onJug d fun y => { y with solve := y.solve.map fun z => { z with phase := .waitChosen } }) else .next s
        else if k.converged c then .next (s.solveEnd d (some k))
        else if sol.timeLimit then .next (s.solveEnd d ((s.die d).jug.solve.bind fun z => z.best iter)) else .next s

/-- CHECKPOINT_REPORT (R121 step 1): the die hears of a checkpoint the other die has completed. -/
def execCheckpointReport (d : DieId) (k : Nat) (s : State) : Result :=
  let o := (s.die d.other).jug
  match (s.die d).jug.solve with
  | none => .next s
  | some sol =>
    let done := match o.solve with
      | some z => z.p == sol.p && z.points.any fun c => c.iter == k
      | none => o.lastP == sol.p && decide (k ≤ o.lastIter)
    if (s.die d).live && (s.die d.other).live && done then
      .next (s.onJug d fun y => { y with solve := y.solve.map fun z => { z with peerIter := max z.peerIter k } })
    else .next s

/-- The Catcher takes over what the Flier's solve has come to (R121 step 4; also where the Flier's solve has ended without an iterate): plan, chosen iterate
and report, but for the fields of its own work (R133). -/
def State.takeFlierPlan (s : State) (d : DieId) (sol : Solve) (f : Juggler) (behind : Bool) : State :=
  let r := f.report
  let flags := rd r 10 2
  let own := flags - 64 * b2n (bit flags 6) - 256 * b2n (bit flags 8) + 64 * b2n behind + 256 * b2n sol.abftRetry
  let report := r.take 10 ++ le 2 own ++ (r.drop 12).take 2 ++ le 2 sol.iters ++ (r.drop 16).take 28 ++ le 4 sol.tFactNs ++ le 4 (s.now - sol.pNs) ++ r.drop 52
  let s := s.onJug d fun y =>
    { y with solve := none, last := f.last, lastPlan := f.lastPlan, rho := f.rho, run := f.run, report := report, lastP := sol.p, lastIter := f.lastIter,
             table := match f.last with
               | some e => putDuals sol.rows.length e.2.y y.table
               | none => y.table,
             solves := sat32 (y.solves + 1), solveNo := y.solveNo + 1, fallbacks := if f.planPresent then y.fallbacks else sat32 (y.fallbacks + 1),
             planPresent := f.planPresent, planCrc := f.planCrc, behind := behind, pubB := if f.planPresent then some s.digestB else none }
  let s := s.onDie d fun x => if f.planPresent then x.putPlans f.lastPlan else x
  let s := if bit flags 7 then s.raise d 66 (s.target 0 0) [] else s
  s.solveRecord d sol.p own (rd r 54 2) report

/-- CHOSEN_CHECKPOINT (R121 steps 2 and 3): the Catcher learns k_F; where it has completed it, its solve ends. A Flier whose solve has ended at once sends
0, and the Catcher's ends as the Flier's has. -/
def execChosenCheckpoint (d : DieId) (k : Nat) (s : State) : Result :=
  let o := (s.die d.other).jug
  match (s.die d).jug.solve with
  | none => .next s
  | some sol =>
    if !(s.follows d && s.computes d && o.solve.isNone && o.lastP == sol.p && o.lastIter == k) then .next s
    else
      let s := s.onJug d fun y => { y with solve := y.solve.map fun z => { z with want := some k, peerIter := max z.peerIter k, phase := if z.phase = .waitChosen then .iterate else z.phase } }
      if k = 0 then .next (s.takeFlierPlan d sol o false)
      else if k ≤ sol.iters then .next (s.solveEnd d (sol.best k)) else .next s

/-- JUGGLER_DEADLINE (R117, R121): the deciding die takes its best iterate; a Catcher with fewer than 25 iterations loses
eligibility and goes on until it has k_F. A Catcher that has become the Flier after its deadline decides at once. -/
def execJugglerDeadline (d : DieId) (s : State) : Result :=
  match (s.die d).jug.solve with
  | none => .next s
  | some sol =>
    if !s.computes d || (sol.timeLimit && s.follows d) || decide (s.tb2 < sol.deadlineNs) then .next s
    else
      let s := s.onJug d fun y => { y with solve := y.solve.map fun z => { z with timeLimit := true } }
      if s.follows d then .next (if sol.iters < 25 then s.catcherLost d 5 else s)
      else .next (s.solveEnd d (sol.best sol.iters))

/-- CATCHER_BEHIND (R121 step 4): a Catcher that cannot reach k_F before t_pub is left takes the Flier's plan and iterate. -/
def execCatcherBehind (d : DieId) (s : State) : Result :=
  let f := (s.die d.other).jug
  match (s.die d).jug.solve with
  | none => .next s
  | some sol =>
    match sol.want with
    | some w =>
      if s.follows d && s.computes d && decide (sol.iters < w) && decide (sol.endNs ≤ s.tb2 + 10000) && f.lastP == sol.p then
        .next (s.takeFlierPlan d sol f true)
      else .next s
    | none => .next s

/-! ### The boundary -/

/-- The generator follows the Juggler's plans (R147, R149): a stop ramp ignores them. -/
def Joint.followsPlans (x : Joint) : Bool := x.jugglerActive && !x.real

/-- Switch one generator to its next plan at the boundary of the plan's t_0 (R118, R147). Pass-through goes on where the state is the plan's point 0
(R148). -/
def Joint.switchPlan (x : Joint) (b : Nat) : Joint :=
  match x.plan2 with
  | some p =>
    if p.b0 ≤ b then
      if x.followsPlans then
        let same := match p.points with
          | q :: _ => sameTarget x.pva ⟨q.q, q.v, q.a⟩
          | [] => false
        { x with plan1 := some p, plan2 := none, tau := 0, tauLaps := 0, tail := false, passing := same }
      else { x with plan2 := none }
    else x
  | none => x

/-- The Juggler's share of a boundary (R92, R118, R120, R122): on a LATENT holder that does not compute yet the planning period is a fallback; an unfinished solve ends, generators switch plans, and the next solve is due once the at-epoch
commands of the boundary have executed (R103). -/
def State.jugglerBoundary (s : State) (d : DieId) : State :=
  let c := (s.die d).cfg
  if s.phase ≠ .ripe ∨ s.jugglers = 0 ∨ s.mw.b % max 1 c.rP ≠ 0 then s
  else if !s.computes d then
    (if s.isFlier d && (s.die d).works && (s.die d).partner.latentGated && c.juggler.enable then s.missedSolve d else s)
  else
    let s := s.solveEnd d none
    let s := s.onDie d fun x => { x with joints := x.joints.map fun j => j.switchPlan s.mw.b }
    let s := s.onJug d fun y => { y with planPresent := false, planCrc := 0, pubB := none }
    if !c.juggler.enable then s
    else if (s.die d).noJugglerPower then s.missedSolve d
    else s.onJug d fun y => { y with startDue := true }

/-- Start the solve that waits, if one does (R103). -/
def State.jugglerDue (s : State) (d : DieId) : State := if (s.die d).jug.startDue then s.solveStart d else s

end Sys2Proof.Machine
end

