-- ==== Sys2Proof/Machine/JugglerCommands.lean ====
section
/-! DEFINITION. Commands of the Juggler (R127..R133). -/

namespace Sys2Proof.Machine

/-- Every opcode of the Juggler answers `UNIT_ABSENT` on the QD432-L. -/
def State.noJuggler (s : State) : Bool := s.jugglers == 0

/-- Units of the Juggler clusters (R52). -/
def State.jugglerUnits (s : State) (d : DieId) : List UnitId := s.clusterUnits d 1 0 ++ s.clusterUnits d 1 1 ++ s.clusterUnits d 1 2 ++ s.clusterUnits d 1 3

/-- A binary32 parameter: +0.0 takes the default; `none` for a negative, infinite or NaN value or one outside the range. -/
def f32Param (w : Word) (dflt : Word) (lo hi : Rat) : Option Word :=
  if w = 0 then some dflt
  else if w.msb || !f32Finite w then none
  else if lo ≤ f32Value w ∧ f32Value w ≤ hi then some w else none

/-- 2 to the minus n. -/
def half (n : Nat) : Rat := pow2 (-(n : Int))

/-- The parameters of Table 4.7, none where a binary32 field is out of range. The ends 10⁻⁶, 10⁻⁹ and 1.8 are no binary32 numbers; a value is compared
with the exact decimal. DESIGN CHOICE. -/
def readJuggler (p : List Byte) : Option CfgJuggler := do
  let w := fun (o : Nat) => BitVec.ofNat 32 (rd p o 4)
  let epsAbs ← f32Param (w 16) 0x38D1B717 (half 40) 1
  let epsRel ← f32Param (w 20) 0x38D1B717 (half 40) 1
  let feasTol ← f32Param (w 24) 0x3A03126F (half 40) 1
  let epsPiv ← f32Param (w 28) 0x30800000 (half 40) (half 10)
  let deltaReg ← f32Param (w 32) 0x35800000 (half 40) (half 4)
  let rho ← f32Param (w 36) 0x3DCCCCCD (1 / 1000000) 1000000
  let sigma ← f32Param (w 40) 0x358637BD (1 / 1000000000) 1
  let alpha ← f32Param (w 44) 0x3FCCCCCD 1 (18 / 10)
  let meritDual ← f32Param (w 48) 0x3E800000 (half 10) 1
  let limitFraction ← f32Param (w 52) 0x3F666666 (1 / 2) 1
  pure
    { jointSet := BitVec.ofNat 64 (rd p 0 8), enable := rd p 8 1 == 1, hMult := rd p 9 1, n := rd p 10 1, deadlinePct := orDefault (rd p 11 1) 85,
      checkEvery := orDefault (rd p 12 1) 5, rhoAdapt := bit (rd p 13 1) 0, terminalStop := bit (rd p 13 1) 1, rowStepMask := BitVec.ofNat 16 (rd p 14 2),
      epsAbs := epsAbs, epsRel := epsRel, feasTol := feasTol, epsPiv := epsPiv, deltaReg := deltaReg, rho := rho, sigma := sigma, alpha := alpha,
      meritDual := meritDual, limitFraction := limitFraction, sepRows := rd p 56 1, zoneRows := rd p 57 1, hostRows := rd p 58 1 }

/-- The 24 bytes of Table 4.8. -/
def State.jugglerResult (s : State) (d : DieId) (c : Cfg) : List Byte :=
  let t := c.jugglerTimes (s.jugglerLanes d)
  le 4 t.1 ++ le 4 t.2.1 ++ le 4 t.2.2 ++ le 4 c.jugglerBudget ++ le 4 c.signature.toNat ++ le 1 (b2n (!c.jugglerAdmitted (s.jugglerLanes d))) ++ zeros 3

/-- `CONFIG_JUGGLER` (R127). -/
def bodyConfigJuggler (h : HostCmd) (d : DieId) (s : State) : Answer :=
  let p := h.params
  if s.noJuggler then reject s St.unitAbsent
  else if (s.die d).committing then reject s St.busy
  else
    let js := (List.finRange 64).filter fun j => bit (rd p 0 8) j.val
    let sh := (s.die d).shadow
    match firstFail [
      (js.any fun j => !s.jointPresent j.val, St.unitAbsent),
      (js.any fun j => decide (7 < (sh.joints[j]).joint.arm), St.range),
      (decide (1 < rd p 8 1) || !(([1, 2, 4, 8, 16] : List Nat).contains (rd p 9 1)) || !within (rd p 10 1) 1 16, St.range),
      (!(rd p 11 1 == 0 || within (rd p 11 1) 50 95) || decide (25 < rd p 12 1) || decide (3 < rd p 13 1), St.range),
      (decide (2 ^ rd p 10 1 ≤ rd p 14 2) || decide (128 < rd p 56 1 + rd p 57 1 + rd p 58 1) || !zeroAt p 59 5, St.range)] with
    | some st => reject s st
    | none =>
      match readJuggler p with
      | none => reject s St.range
      | some v =>
        let new : Cfg := { sh with juggler := v }
        let ok := new.jugglerAdmitted (s.jugglerLanes d)
        if !ok && (s.isFlier d || !s.hasPartner || s.mw.trapeze.token.isNone) then (s, { status := St.range, result := s.jugglerResult d new })
        else
          let s' := s.stage d (s.jugglerUnits d) fun c => { c with juggler := v }
          answer (if ok then s' else s'.catcherLost d 7) (s.jugglerResult d new)

/-- `CONFIG_WEIGHTS` (R128). -/
def bodyConfigWeights (h : HostCmd) (d : DieId) (s : State) : Answer :=
  let p := h.params
  let w := fun (o : Nat) => BitVec.ofNat 32 (rd p o 4)
  let bad := fun (x : Word) => x.msb || !f32Finite x || decide (1000000000000 < f32Value x)
  let sh := (s.die d).shadow
  let js : List (Fin 64) :=
    if tKind h.target = 1 then (if tIndex h.target = tAll then s.presentJoints else [tJoint h.target])
    else (List.finRange 64).filter fun j =>
      if tIndex h.target = tAll then decide ((sh.joints[j]).joint.arm < 8) else (sh.joints[j]).joint.arm == (tArm h.target).val
  let v : CfgWeights := { wq := w 0, wv := w 4, wa := w 8, wqn := w 12, wvn := w 16 }
  if s.noJuggler then reject s St.unitAbsent
  else s.config d (firstFail [([w 0, w 4, w 8, w 12, w 16].any bad || !zeroAt p 20 4, St.range)]) (s.jugglerUnits d) fun c =>
    { c with weights := js.foldl (fun (ws : Vector CfgWeights 64) (j : Fin 64) => ws.set j v) c.weights }

/-- `REFERENCE_LOAD` (R129). -/
def bodyReferenceLoad (h : HostCmd) (d : DieId) (s : State) : Answer :=
  let p := h.params
  let a := tArm h.target
  let first := rd p 0 8
  let sp := rd p 8 4
  let count := rd p 12 1
  let nj := rd p 13 1
  let mode := rd p 14 1
  let have_ := (s.die d).jug.refs[a]
  let own := ((s.die d).armJoints a).length
  if s.noJuggler then reject s St.unitAbsent
  else if h.plen.toNat ≠ (16 + 12 * nj * count + 7) / 8 then reject s St.badLength
  else
    let pts := (List.range count).map fun i =>
      ({ key := first + i * sp, qv := (List.range nj).map fun n => (rdS p (16 + 12 * (i * nj + n)) 8, rdS p (24 + 12 * (i * nj + n)) 4) } : RefPoint)
    let kept := match mode with
      | 0 => have_
      | 1 => have_.filter fun x => decide (x.key < first)
      | _ => []
    match firstFail [
      (decide (2 < mode) || !zeroAt p 15 1 || !padded h (16 + 12 * nj * count) || decide (nj ≠ own), St.range),
      (if mode = 2 then count != 0 else !within count 1 (224 / (12 * max nj 1)), St.range),
      (!within sp 1 1048576, St.range),
      (mode == 0 && (match have_.getLast? with
        | some l => decide (first ≤ l.key)
        | none => false), St.range),
      (decide (64 < kept.length + count), St.busy)] with
    | some st => reject s st
    | none => answer (s.onJug d fun y => { y with refs := y.refs.set a (kept ++ pts) })

/-- A host row as Table 4.11 gives it. -/
def readRow (p : List Byte) : CfgRow where
  stepMask := BitVec.ofNat 16 (rd p 0 2)
  nnz := rd p 2 1
  lower := BitVec.ofNat 32 (rd p 8 4)
  upper := BitVec.ofNat 32 (rd p 12 4)
  index := padTo 20 ((p.drop 16).take (min 20 (rd p 2 1)))
  coef := (List.range (min 20 (rd p 2 1))).map fun i => BitVec.ofNat 32 (rd p (40 + 4 * i) 4)

/-- A list has no repeats. -/
def distinct : List Nat → Bool
  | [] => true
  | a :: r => !r.contains a && distinct r

/-- LOWER ≤ UPPER with infinities. -/
def boundsOk (l u : Word) : Bool :=
  if f32Nan l || f32Nan u then false
  else if f32Finite l && f32Finite u then decide (f32Value l ≤ f32Value u)
  else if f32Finite l then !u.msb else if f32Finite u then l.msb else l.msb || !u.msb

/-- `CONFIG_ROWS` (R130). -/
def bodyConfigRows (h : HostCmd) (d : DieId) (s : State) : Answer :=
  let p := h.params
  let sh := (s.die d).shadow
  let i := tInstance h.target
  let r := readRow p
  let idx := (r.index.take r.nnz).map fun b => b.toNat
  if s.noJuggler then reject s St.unitAbsent
  else if tTable h.target ≠ 0x50 ∨ sh.juggler.hostRows ≤ i then reject s St.badTarget
  else
    let put : Cfg → Cfg := fun c => if r.nnz = 0 then { c with rows := c.rows.erase i } else { c with rows := c.rows.set i r }
    let bad := firstFail [
      (decide (20 < r.nnz) || !zeroAt p 3 5 || !zeroAt p 36 4, St.range),
      (!boundsOk r.lower r.upper || !(List.range 20).all (fun k => f32Finite (BitVec.ofNat 32 (rd p (40 + 4 * k) 4))), St.range),
      (!distinct idx || idx.any (fun b => !sh.juggler.jointSet.getLsbD (b % 64) || decide (b / 64 = 3)), St.range),
      (idx.any (fun b => decide (b / 64 = 2)) && r.stepMask.getLsbD (sh.juggler.n - 1), St.range),
      (r.stepMask &&& ~~~sh.juggler.rowStepMask != 0, St.range)]
    s.configGated d bad (s.jugglerUnits d) (fun c => c.jugglerAdmitted (s.jugglerLanes d)) put

/-- `JUGGLER_STATUS` (R131, Table 4.12). LAST_REPORT reads zeros before the first solve has ended. DESIGN CHOICE. -/
def bodyJugglerStatus (_h : HostCmd) (d : DieId) (s : State) : Answer :=
  let x := s.die d
  let c := x.cfg
  let j := c.juggler
  let lanes := s.jugglerLanes d
  let t := c.jugglerTimes lanes
  if s.noJuggler then reject s St.unitAbsent
  else answer s
    (le 1 (b2n j.enable) ++ le 1 j.n ++ le 1 j.hMult ++ le 1 lanes ++ le 8 j.jointSet.toNat ++ le 4 t.1 ++ le 4 t.2.1 ++ le 4 c.jugglerBudget ++
      le 4 t.2.2 ++ le 4 c.signature.toNat ++ le 4 x.jug.solves ++ le 4 x.jug.fallbacks ++ le 2 (min x.jug.run 65535) ++ zeros 6 ++ padTo 64 x.jug.report)

/-- A point of Table 4.5. -/
def PlanPoint.bytes (p : PlanPoint) : List Byte :=
  leInt 8 (p.q / posStep).floor ++ leInt 4 (p.v / velStep).floor ++ leInt 4 (p.a / accStep).floor

/-- `PLAN_READ` (R132). A joint is reported passive as it stands when the command executes; FIRST above the plan's N gives no point; STEP_BOUNDARIES divides
the plan's h by the T_s in force, also after T_s has changed. DESIGN CHOICE. -/
def bodyPlanRead (h : HostCmd) (d : DieId) (s : State) : Answer :=
  let p := h.params
  let x := s.die d
  let j := tJoint h.target
  let t := x.joints[j]
  let which := rd p 0 1
  let first := rd p 1 1
  if s.noJuggler then reject s St.unitAbsent
  else if decide (2 < which) || decide (16 < first) || !zeroAt p 2 6 then reject s St.range
  else
    let plan : Option JointPlan := match which with
      | 0 => t.plan1
      | 1 => t.plan2
      | _ => ((x.jug.lastPlan : List (Nat × JointPlan)).find? fun e => e.1 == j.val).map fun e => e.2
    match plan with
    | none => reject s St.wrongState
    | some pl =>
      if !x.cfg.juggler.jointSet.getLsbD j.val then reject s St.wrongState
      else
        let pts := (pl.points.drop first).take 13
        answer s
          (le 8 pl.b0 ++ le 4 (pl.hNs / max 1 x.cfg.periods.tS) ++ le 1 pts.length ++ le 1 (pl.points.length - 1) ++
            le 1 (packBits [t.tail, !t.jugglerActive]) ++ zeros 1 ++ (pts.map PlanPoint.bytes).flatten)

/-- `PLAN_STREAM` (R133). -/
def bodyPlanStream (h : HostCmd) (d : DieId) (s : State) : Answer :=
  let p := h.params
  if s.noJuggler then reject s St.unitAbsent
  else if decide (1 < rd p 0 1) || !zeroAt p 2 6 then reject s St.range
  else if rd p 0 1 = 0 then answer (s.closeStream d 0x0506 h.target)
  else answer (s.openStream d 0x0506 h [orDefault (rd p 1 1) 1])

end Sys2Proof.Machine
end

