-- ==== Sys2Proof/Machine/Rings.lean ====
section
/-! DEFINITION. A ring engine as master (chapter 10): links and loopback (R284, R295), frames (R286..R289), the mailbox (R305..R307),
discovery, assignment and contention (R298, R308..R311), returns (R293). -/

namespace Sys2Proof.Machine

/-! ### Frames (R286..R290) -/

/-- MASTER_ID of a ring (Table 10.2). -/
def State.masterId (s : State) (r : Nat) : Nat := 64 * s.pkgid.toNat + 8 * r

/-- T_s code: the row order of Table 2.1 (Table 10.2). -/
def tsCode (tS : Nat) : Nat :=
  if tS = 31250 then 0 else if tS = 62500 then 1 else if tS = 125000 then 2 else if tS = 250000 then 3 else if tS = 500000 then 4 else 5

/-- T_s of a code, 0 for a reserved one. -/
def tsOfCode (k : Nat) : Nat := if k ≤ 5 then 31250 * 2 ^ k else 0

/-- Hardest of two stop codes, in the order 0x01, 0x02, 0x10 (R303); other codes count as 0x02. -/
def hardest (a b : Nat) : Nat :=
  if a = 1 ∨ b = 1 then 1
  else if (a ≠ 0 ∧ a ≠ 16) ∨ (b ≠ 0 ∧ b ≠ 16) then 2
  else if a = 16 ∨ b = 16 then 16 else 0

/-- The stop code a master sends at the present boundary (R304, R413). -/
def State.stopCodeOf (s : State) (r : Fin 8) : Nat :=
  let x := s.ring r
  let cur := match s.mw.trapeze.curtain with
    | some c => if (s.mw.cfg.ring r.val).role = 1 then (if c.torqueOff then 1 else 2) else 0
    | none => 0
  hardest (hardest cur x.hostCode) (if x.reassign then 16 else 0)

/-- A header without its CRC (Table 10.2). PERIOD is the T_s of the interval that the boundary begins (R58, R300). REASSIGN goes out before the change it announces
(R311), so under the RING_ID the nodes have joined with (R302). -/
def State.header (s : State) (r : Fin 8) (data : Bool) (dir : Nat) (launch : Nat) : List Byte :=
  let x := s.ring r
  let c := s.mw.cfg
  le 1 (if data then 2 else 1) ++ le 1 (dir + 4 * b2n data) ++ le 1 (s.masterId r.val) ++ le 1 (if x.reassign then x.lastId else (c.ring r.val).ringId) ++
    le 4 (s.mw.b % 2 ^ 32) ++ stamp s.mw.nominal ++ le 1 x.stopCode ++ le 1 0 ++ le 1 x.counted ++ le 1 (tsCode s.mw.grid.tS) ++ le 2 launch ++
    le 4 (if data then c.applyNs r.val else 0) ++ le 2 (if data then x.layout else 0)

/-- The OUT part of a window as MW sends it: from the frozen bank with its own age and CRC; READY = 0 where no item has written the
slot since the layout took effect, and in the frames of the Curtain (R293, R413). -/
def State.outPart (s : State) (r : Fin 8) (p : Fin 16) : List Byte :=
  let slot := 16 * r.val + p.val
  let n := (s.mw.cfg.node r.val p.val).outLen
  if s.curtained then crcClose (le 1 15 ++ zeros (n - 3))
  else
    let body := s.mw.bank.readN (64 * slot) (n - 2)
    match s.mw.bankAge.find slot with
    | some age => crcClose (le 1 (16 + 32 * b2n (bit (rd body 0 1) 5) + min age 15) ++ body.drop 1)
    | none => crcClose (le 1 15 ++ zeros (n - 3))

/-- A whole frame of the present boundary with a mailbox (Table 10.1). -/
def State.frame (s : State) (r : Fin 8) (data : Bool) (dir launch : Nat) (mail : List Byte) : List Byte :=
  let c := s.mw.cfg
  let head := crcClose (s.header r data dir launch)
  let body := if data then
      head ++ ((c.windows r.val).map fun p => s.outPart r p).flatten ++ mail ++ zeros (c.pad r.val + c.sumIn r.val)
    else head ++ mail
  body ++ le 4 (crc32 body).toNat

/-! ### The mailbox as master (R305, R306) -/

/-- A mailbox of Table 10.9. -/
def mailbox (src dst type_ seq ack : Nat) (payload : List Byte) : List Byte :=
  crcClose (le 1 src ++ le 1 dst ++ le 1 type_ ++ le 1 payload.length ++ le 1 seq ++ le 1 ack ++ padTo 56 payload)

/-- Queue a message to a node. -/
def State.post (s : State) (r : Fin 8) (p : Fin 16) (type_ retry : Nat) (payload : List Byte) (report : Option Nat := none) : State :=
  s.onNode r p fun n =>
    let seq := (n.txSeq + 1) % 256
    let m : MailOut := { type_ := type_, payload := payload, retry := retry, seq := seq, report := report }
    { n with txSeq := seq, mail := n.mail ++ [m] }

/-- Turns after which a message is given up: RETRY, 16 where it states none (R324). -/
def MailOut.limit (m : MailOut) : Nat := if m.retry = 0 then 16 else m.retry

/-- The position whose first message has the master's turn: the one in its turns already, else the next with a message. -/
def Ring.mailTo (x : Ring) : Option (Fin 16) :=
  let at_ := fun (i : Nat) => (⟨(x.turn + i) % 16, Nat.mod_lt _ (by decide)⟩ : Fin 16)
  ((List.range 16).map at_).find? fun p => match (x.nodes[p]).mail with
    | m :: _ => decide (m.turns < m.limit)
    | [] => false

/-- A node to poll for its counters: the next that has answered and has no message waiting (R314). -/
def Ring.toPoll (x : Ring) : Option (Fin 16) :=
  let at_ := fun (i : Nat) => (⟨(x.pollNext + i) % 16, Nat.mod_lt _ (by decide)⟩ : Fin 16)
  ((List.range 16).map at_).find? fun p => !(x.nodes[p]).ident.isEmpty && (x.nodes[p]).mail.isEmpty && decide (p.val < x.counted)

/-- An idle turn of the master: TYPE 0x00 with the ACK of the next counted position in turn (R306). -/
def State.idleTurn (s : State) (r : Fin 8) : State × List Byte :=
  let x := s.ring r
  if x.counted = 0 then (s, mailbox 255 254 0 0 0 [])
  else
    let p : Fin 16 := ⟨x.pollNext % x.counted % 16, Nat.mod_lt _ (by decide)⟩
    let n := x.nodes[p]
    (s.onRing r fun y => { y with pollNext := (p.val + 1) % 16 }, mailbox 255 p.val 0 n.txSeq (n.rxSeq.getD 0) [])

/-- The mailbox the master sends at the present boundary, with its bookkeeping (R305, R306, R314). -/
def State.masterTurn (s : State) (r : Fin 8) : State × List Byte :=
  if s.mw.b % 2 = 1 then (s, zeros 64)
  else
    let s := match (s.ring r).mailTo, (s.ring r).toPoll with
      | none, some p => (s.post r p 2 0 []).onRing r fun x => { x with pollNext := (p.val + 1) % 16 }
      | _, _ => s
    match (s.ring r).mailTo with
    | none => s.idleTurn r
    | some p =>
      let n := (s.ring r).nodes[p]
      match n.mail with
      | [] => s.idleTurn r
      | m :: rest =>
        let box := mailbox 255 p.val m.type_ m.seq (n.rxSeq.getD 0) m.payload
        let sent : MailOut := { m with sent := true, turns := m.turns + 1 }
        let s := s.onRing r fun x => { x with turn := p.val }
        let s := s.onNode r p fun n => { n with mail := sent :: rest }
        (if m.sent then s.countMw 7 r.val 5 else s, box)

/-! ### Discovery and assignment (R298, R310) -/

/-- The image's configuration is in force (R471). -/
def State.imageApplied (s : State) : Bool := s.mw.image.applied

/-- The node's IDENT passes its comparison (Table 10.15). -/
def Cfg.identOk (c : Cfg) (r p : Nat) (ident : List Byte) : Bool :=
  let n := c.node r p
  !n.checkIdent || (rd ident 0 2 == n.vendor && rd ident 2 2 == n.product)

/-- DELAY_A and DELAY_B of a position (R298): from its first four reports, or the values kept while the ring is broken. -/
def State.delaysOf (s : State) (r : Fin 8) (p : Fin 16) : Option (Int × Int) :=
  let x := s.ring r
  let n := x.nodes[p]
  if n.deltas.length = 4 ∧ x.dMeas ≠ 0 then
    let k : Int := (s.mw.cfg.node r.val p.val).hop
    let mean := n.deltas.foldl (· + ·) 0 / 4
    let a := ((x.dMeas : Int) - k - mean) / 2
    some (a, (x.dMeas : Int) - k - a)
  else if x.broken then n.delays else none

/-- The ASSIGN payload of a position (Table 10.10). -/
def State.assignPayload (s : State) (r : Fin 8) (p : Fin 16) (dl : Int × Int) : List Byte :=
  let c := s.mw.cfg
  let n := c.node r.val p.val
  let g := c.ring r.val
  le 2 (s.ring r).layout ++ le 1 g.ringId ++ le 1 p.val ++ le 1 n.format ++ le 1 g.lossLimit ++ le 1 n.velShift ++ zeros 1 ++
    le 2 (c.outAt r.val p.val) ++ le 1 n.outLen ++ le 1 n.inLen ++ le 2 (c.inAt r.val p.val) ++ zeros 2 ++
    leInt 4 dl.1 ++ leInt 4 dl.2 ++ le 4 g.tStopNs

/-- The node count stands: it equals the configured one (R310). -/
def State.countOk (s : State) (r : Fin 8) : Bool := (s.ring r).counted == (s.mw.cfg.ring r.val).nodes

/-- A configured node whose IDENT fails its comparison (R310). -/
def State.identFail (s : State) (r : Fin 8) : Option (Fin 16) :=
  (s.mw.cfg.windows r.val).find? fun p =>
    let n := (s.ring r).nodes[p]
    !n.ident.isEmpty && !s.mw.cfg.identOk r.val p.val n.ident

/-- D_meas lies within D_cfg (R310). -/
def State.delayOk (s : State) (r : Fin 8) : Bool := decide ((s.ring r).dMeas ≤ s.mw.cfg.dCfg r.val)

/-- Steps 2 to 4 of R310, taken at every boundary in which the image's configuration is in force, from the first count on: NODE_MISMATCH and
RING_DELAY_EXCEEDED once for as long as they stand; ASSIGN to each configured node in ascending position as its delays are known. -/
def State.ringAssign (s : State) (r : Fin 8) : State :=
  let x := s.ring r
  if !(s.imageApplied && x.sends && x.countMade) || x.reassign then s
  else
    let bad := s.identFail r
    let wrong := x.state == .discover && (!s.countOk r || bad.isSome)
    let slow := x.state == .discover && !s.delayOk r
    let s := if wrong && !x.mismatched then
        s.raiseMw 101 (if s.countOk r then (match bad with
          | some p => s.nodeTarget r.val p.val
          | none => s.ringTarget r.val) else s.ringTarget r.val) [] else s
    let s := if slow && !x.delayed then s.raiseMw 99 (s.ringTarget r.val) [] else s
    let s := s.onRing r fun y => { y with mismatched := wrong, delayed := slow }
    if wrong || slow then s
    else
      let go := fun (a : State × Bool) (p : Fin 16) =>
        let n := (a.1.ring r).nodes[p]
        if a.2 || n.assigned || n.acked then a
        else if n.ident.isEmpty || !a.1.mw.cfg.identOk r.val p.val n.ident then (a.1, x.state == .discover)
        else match a.1.delaysOf r p with
          | none => (a.1, x.state == .discover)
          | some dl =>
            let s := (a.1.post r p 1 0 (a.1.assignPayload r p dl)).onNode r p fun n => { n with assigned := true, delays := some dl }
            (if x.state == .data then s.raiseMw 100 (s.nodeTarget r.val p.val) [] else s, false)
      ((s.mw.cfg.windows r.val).foldl go (s, false)).1

/-- RING_DATA_START (R310): D_meas has been measured, unless the ring is broken, and every configured node has acknowledged its ASSIGN. -/
def execRingDataStart (ring : Fin 8) (s : State) : Result :=
  let x := s.ring ring
  if x.state == .discover && s.imageApplied && x.countMade && !x.mismatched && !x.delayed && s.countOk ring && (s.identFail ring).isNone && s.delayOk ring &&
      (decide (x.dMeas ≠ 0) || x.broken) && (s.mw.cfg.windows ring.val).all (fun p => (x.nodes[p]).acked) then
    .next (s.onRing ring fun y => { y with state := .data })
  else .next s

/-! ### Boundaries -/

/-- What outlasts a new start of the ring at a position: its delays (R298), the merged part, which ages on (R293), the counters collected (R323), the host's
messages not yet acknowledged (R306). -/
def RNode.restart (n : RNode) : RNode :=
  { delays := n.delays, part := n.part, age := n.age, stale := n.stale, drift := n.drift, counters := n.counters, countersB := n.countersB, txSeq := n.txSeq,
    mail := n.mail.filter fun m => m.report.isSome }

/-- Start listening for `left` boundaries (R309). -/
def Ring.listen (x : Ring) (left : Nat) : Ring :=
  { x with state := .listen, left := left, heard := false, counted := 0, countMade := false, topo0 := false, topo1 := false, hop0 := none, hop1 := none, looped := false,
           settled := true, broken := false, intact := 0, dSum := 0, dCount := 0, dMeas := 0, mismatched := false, delayed := false,
           sentFrom := none, mergedNs := none, nodes := x.nodes.map RNode.restart }

/-- Boundaries that must come before `n` whole cycles have passed: one more where a cycle is under way (R309). -/
def State.cycles (s : State) (n : Nat) : Nat := if s.now = s.mw.bNs then n else n + 1

/-- Begin as a node, in LISTEN where a link is up (R301). -/
def Ring.becomeNode (x : Ring) : Ring :=
  let n : AsNode := { state := if x.portA.linkUp || x.portB.linkUp then .listen else .init, outB := x.asNode.outB, changed := true }
  { x with state := .node, asNode := n, sentFrom := none }

/-- Take the role the configuration gives a ring (R308). A ring stopped by RING_CONTENTION stays so; one that has REASSIGN to send sends it first (R304, R311). -/
def State.ringRole (s : State) (r : Fin 8) : State :=
  let role := if decide (r.val < s.rings) then (s.mw.cfg.ring r.val).role else 0
  let x := s.ring r
  if x.reassign && x.sends then s
  else match role with
  | 0 => if x.state = .off then s else s.onRing r fun y => { y with state := .off, sentFrom := none }
  | 2 => if x.state = .node then s else s.onRing r Ring.becomeNode
  | 1 => if x.state = .off ∨ x.state = .node then s.onRing r (·.listen 3) else s
  | _ => if x.state = .off then s.onRing r (·.listen 3) else s

/-- Close the books of the cycle that ends at a boundary. -/
def Ring.endCycle (x : Ring) (b : Nat) : Ring :=
  { x with
    lastTopo := x.topology, lastLoopA := x.loopA, lastLoopB := x.loopB, lastB := b,
    topo0 := false, topo1 := false, hop0 := none, hop1 := none, looped := false, settled := false, mergedNs := none, mailTaken := false,
    nodes := x.nodes.map fun n => { n with fresh := false } }

/-- Launch the two frames of a boundary (R286). LAUNCH_NS lies in 64..71 ns; where in it is not stated. -/
def State.ringLaunch (s : State) (r : Fin 8) : State :=
  let (n, s) := s.draw
  let launch := 64 + Config.freeNat n % 8
  let s := s.onRing r fun x => { x with stopCode := s.stopCodeOf r, launchNs := s.now + launch, sentCycle := s.mw.b, sentFrom := some (x.sentFrom.getD s.mw.b) }
  let x := s.ring r
  let stop := s.curtained && decide ((s.mw.cfg.ring r.val).role = 1)
  let data := stop || (x.state == .data && !x.reassign)
  let (s, mail) := if stop then (s, mailbox 255 254 0 0 0 []) else s.masterTurn r
  let a := s.frame r data 0 launch mail
  let b := s.frame r data 1 launch mail
  let s := (s.emit (.ringFrame r.val false a)).emit (.ringFrame r.val true b)
  (s.countMw 7 r.val 0 2).onRing r fun y => { y with reassign := false }

/-- What a fired boundary does on a ring in master role (R286, R309, R310, R413): the cycle before is closed, timers of listening and
back-off count, frames leave. -/
def State.ringBoundary (s : State) (r : Fin 8) : State :=
  let was := (s.ring r).state
  let s := s.ringRole r
  let s := match (s.ring r).state with
    | .listen | .backoff => (if (s.ring r).state = was then s.onRing r fun x => { x with left := x.left - 1 } else s).ringRepeat r
    | .stopped => s.ringRepeat r
    | .discover | .data =>
      let s := if (s.ring r).settled then s
        else
          let x := s.ring r
          let both := (x.topo0 || x.hop0.isSome) && (x.topo1 || x.hop1.isSome)
          (if both || x.sentFrom.isNone then s else s.ringVerdict r).ringRepeat r
      let s := (s.onRing r fun x => x.endCycle (s.mw.b - 1)).ringAssign r
      s.ringLaunch r
    | _ => s
  if s.curtained && decide ((s.mw.cfg.ring r.val).role = 1) && !(s.ring r).sends && decide (r.val < s.rings) then (s.onRing r fun x => { x with curtain := true }).ringLaunch r
  else s

/-- RING_LISTEN_END (R309): three cycles without a valid foreign header. -/
def execRingListenEnd (ring : Fin 8) (s : State) : Result :=
  let x := s.ring ring
  if x.state == .listen && decide (x.left = 0) then .next (s.onRing ring fun y => { y with state := .discover, settled := true }) else .next s

/-- RING_BACKOFF_END (R309): the ring listens again. -/
def execRingBackoffEnd (ring : Fin 8) (s : State) : Result :=
  let x := s.ring ring
  if x.state == .backoff && decide (x.left = 0) then .next (s.onRing ring (·.listen (s.cycles 3))) else .next s

/-! ### Links and loopback (R284, R295) -/

/-- RING_LINK_UP (R284): the receiver has code-group synchronisation and 64 /I/ have come since; the row is that instant. -/
def execRingLinkUp (ring : Fin 8) (port : RingPort) (s : State) : Result :=
  if s.rings ≤ ring.val ∨ ((s.ring ring).port port).linkUp then .next s
  else
    let s := s.onRing ring fun x => x.onPort port fun p => { p with linkUp := true, upNs := s.now }
    if (s.ring ring).state = .node ∧ (s.ring ring).asNode.state = .init then
      .next (s.onRing ring fun x => { x with asNode := { x.asNode with state := .listen, changed := true } })
    else .next s

/-- RING_LINK_DOWN (R284): counted; as a node the ring loops back from its other port (R295). No transition of R301 leads back to INIT. -/
def execRingLinkDown (ring : Fin 8) (port : RingPort) (s : State) : Result :=
  if !((s.ring ring).port port).linkUp then .next s
  else
    .next (s.onRing ring fun x => x.onPort port fun p => { p with linkUp := false, linkDown := min 65535 (p.linkDown + 1), loopback := true })

/-- LOOPBACK_END (R295): the link has been up without a break for 1 ms. -/
def execLoopbackEnd (ring : Fin 8) (port : RingPort) (s : State) : Result :=
  let p := (s.ring ring).port port
  if p.loopback && p.linkUp && !p.isolated && decide (p.upNs + 1000000 ≤ s.now) then
    .next (s.onRing ring fun x => x.onPort port fun q => { q with loopback := false })
  else .next s

/-! ### Received frames -/

/-- How the frame CRC of a frame reads (R289): good, poisoned, locally corrupted. -/
inductive FrameCheck where | good | poisoned | corrupt
  deriving DecidableEq, Repr

/-- Classify a frame (R289). -/
def frameCheck (f : List Byte) : FrameCheck :=
  let n := f.length - 4
  let c := crc32 (f.take n)
  if f.length < 36 then .corrupt
  else if rd f n 4 = c.toNat then .good
  else if rd f n 4 = (~~~c).toNat then .poisoned
  else .corrupt

/-- The header of a frame is valid (R289). -/
def headerOk (f : List Byte) : Bool := decide (36 ≤ f.length) && crcEnds (f.take 32)

/-- What the receiver of a port has met in a frame (R285, Table 10.12): invalid code groups, and an overflow or underflow of its elastic buffer. -/
def State.ringReceive (s : State) (r : Fin 8) (port : RingPort) (codes : BitVec 8) (elastic : Bool) : State :=
  s.onRing r fun x => x.onPort port fun p =>
    { p with codeErr := sat32 (p.codeErr + codes.toNat), elastic := if elastic then sat32 (p.elastic + 1) else p.elastic }

/-- Count a received frame on a port (Table 10.12); a check that fails is a detection (Table 14.1). The second result is the
classification, the third whether the header is valid. -/
def State.ringCount (s : State) (r : Fin 8) (port : RingPort) (f : List Byte) : State × FrameCheck × Bool :=
  let arg := match port with
    | .a => 0
    | .b => 1
  let inj := s.checkInjectedMw 4 fun i => i.target == s.ringTarget r.val && i.arg == arg
  let s := inj.1
  let k := if inj.2.isSome then FrameCheck.corrupt else frameCheck f
  let h := headerOk f
  let s := s.onRing r fun x => x.onPort port fun p =>
    { p with frames := sat32 (p.frames + 1), crcLocal := if k = .corrupt then sat32 (p.crcLocal + 1) else p.crcLocal,
             poisoned := if k = .poisoned then sat32 (p.poisoned + 1) else p.poisoned, hdrErr := if h then p.hdrErr else sat32 (p.hdrErr + 1) }
  if k = .corrupt ∨ !h then
    ((s.detectMw (s.ringTarget r.val) (2 ^ 26 + 2 * r.val + arg) 4 false inj.2.isSome [BitVec.ofNat 8 arg]).1, k, h)
  else (s, k, h)

/-- A valid header with a foreign MASTER_ID at a ring in MASTER or AUTO role (R309). -/
def State.ringForeign (s : State) (r : Fin 8) (port : RingPort) (id : Nat) : State :=
  let x := s.ring r
  let s := s.onRing r fun y => ({ y with foreign := some id } : Ring).onPort port fun p => { p with foreign := min 65535 (p.foreign + 1) }
  match x.state with
  | .listen =>
    if (s.mw.cfg.ring r.val).role = 3 then
      s.onRing r Ring.becomeNode
    else
      let s := s.onRing r fun y => { y with left := s.cycles 3, heard := true }
      if x.heard then s else s.raiseMw 98 (s.ringTarget r.val) []
  | .discover | .data =>
    if id < s.masterId r.val then s.onRing r fun y => { y with state := .backoff, left := s.cycles (4 + s.pkgid.toNat % 8), sentFrom := none } else s
  | _ => s

/-- Merge the IN parts of a returned DATA frame (R293, R299). -/
def State.ringMerge (s : State) (r : Fin 8) (f : List Byte) : State :=
  let c := s.mw.cfg
  let go := fun (s : State) (p : Fin 16) =>
    let n := (s.ring r).nodes[p]
    let part := (f.drop (c.inAt r.val p.val)).take (c.node r.val p.val).inLen
    if !n.acked || !crcEnds part then s
    else
      let st := rd part 0 1
      let s := if bit st 6 && !n.drift then s.raiseMw 103 (s.nodeTarget r.val p.val) [] else s
      let s := s.onNode r p fun m => { m with drift := bit st 6 }
      if n.fresh || !bit st 4 then s
      else (s.setMerged r p part (st % 16)).onNode r p fun m => { m with fresh := true }
  ((c.windows r.val).foldl go s).ringComplete r

/-- What a frame of the present cycle shows of the ring: loops and counts (R295, R310), D_meas (R298). The latency of the ports,
which R298 takes off the interval, is not stated. -/
def State.ringTopology (s : State) (r : Fin 8) (port : RingPort) (f : List Byte) : State :=
  let flags := rd f 1 1
  let dir1 := bit flags 0
  let hop := rd f 19 1
  let x := s.ring r
  let seen := (x.topo0 || x.hop0.isSome, x.topo1 || x.hop1.isSome)
  if (if dir1 then seen.2 else seen.1) then s
  else
    let intact := !bit flags 1 && (port == if dir1 then .a else .b)
    let s := s.onRing r fun y =>
      if intact then (if dir1 then { y with topo1 := true } else { y with topo0 := true })
      else
        let z : Ring := if dir1 then { y with hop1 := some hop } else { y with hop0 := some hop }
        { z with looped := true, breakB := some (y.breakB.getD s.mw.b) }
    let s := if !intact && !x.looped then s.countMw 7 r.val 3 else s
    let counting := x.state == .discover && (!x.countMade || !s.imageApplied || !s.countOk r)
    let y := s.ring r
    let n := if intact && !dir1 then some hop else match y.hop0, y.hop1 with
      | some a, some b => some (a + b)
      | _, _ => none
    let s := match n with
      | some k => if counting && decide (k ≤ 16) then s.onRing r fun y => { y with counted := k, countMade := true } else s
      | none => s
    let s := if intact && !dir1 && x.state == .discover then
        let d := s.now - x.launchNs - (Config.unstated [298, r.val]).toNat
        s.onRing r fun y =>
          if y.dCount = 15 then { y with dMeas := (y.dSum + d) / 16, dSum := 0, dCount := 0 } else { y with dSum := y.dSum + d, dCount := y.dCount + 1 }
      else s
    let z := s.ring r
    if (z.topo0 || z.hop0.isSome) && (z.topo1 || z.hop1.isSome) then s.ringVerdict r else s

/-- RING_FRAME_RETURN (R293): a frame comes in at a port of a ring that is not a node. It is classified, its header compared
(R309), its HOP and LOOPED read (R295), and its IN parts merged where the cycle is the present one and T_ret has not passed. A frame whose buffer
cannot be read counts as not returned (R424). -/
def execRingFrameReturn (ring : Fin 8) (port : RingPort) (frame : RxFrame) (s : State) : Result :=
  let x := s.ring ring
  if x.state = .off ∨ x.state = .node ∨ !(x.port port).linkUp then .next s
  else
    let s := (s.ringReceive ring port frame.codes frame.elastic).ringSettle ring
    let (s, _, ok) := s.ringCount ring port frame.bytes
    let buffer := s.readMwArray 0 ring.val true
    let s := buffer.1
    if !ok || buffer.2.1 then .next s
    else
      let id := rd frame.bytes 2 1
      let cyc := rd frame.bytes 4 4
      if id ≠ s.masterId ring.val then .next (s.ringForeign ring port id)
      else if !x.sends then .next s
      else
        let sent := match x.sentFrom with
          | some b0 => decide ((x.sentCycle % 2 ^ 32 + 2 ^ 32 - cyc) % 2 ^ 32 ≤ x.sentCycle - b0)
          | none => false
        if !sent then .next ((s.onRing ring fun y => { y with state := .stopped, sentFrom := none }).raiseMw 98 (s.ringTarget ring.val) [])
        else if cyc ≠ x.sentCycle % 2 ^ 32 then .next s
        else
          let s := s.countMw 7 ring.val (match port with
            | .a => 1
            | .b => 2)
          let s := s.ringTopology ring port frame.bytes
          let data := rd frame.bytes 0 1 = 2 ∧ rd frame.bytes 28 2 = x.layout ∧ frame.bytes.length = s.mw.cfg.frameLen ring.val ∧ (s.ring ring).state = .data
          if data ∧ !(s.ring ring).settled then .next (s.ringMerge ring frame.bytes) else .next s

/-! ### Mailbox reception (R305..R307) -/

/-- A record of the mailbox stream on every live die (R325): POSITION, EVENT, TYPE, LEN, TAG, payload. -/
def State.mailRecord (s : State) (r : Fin 8) (pos event type_ : Nat) (tag : Nat) (payload : List Byte) : State :=
  let bs := le 1 pos ++ le 1 event ++ le 1 type_ ++ le 1 payload.length ++ le 2 tag ++ zeros 2 ++ padTo 56 payload
  s.onLive fun d s => s.stream d 0x0206 1 false (fun st => decide (st.target = (s.ringTarget r.val).toNat)) s.epoch fun _ => bs

/-- The node has acknowledged its first message where ACK names it (R306). -/
def State.mailAck (s : State) (r : Fin 8) (p : Fin 16) (ack : Nat) : State :=
  match ((s.ring r).nodes[p]).mail with
  | m :: rest =>
    if m.sent && m.seq == ack then
      let s := s.onNode r p fun n => { n with mail := rest, acked := n.acked || (m.type_ == 1 && n.assigned) }
      let s := s.onRing r fun x => { x with turn := (p.val + 1) % 16 }
      match m.report with
      | some tag => s.mailRecord r p.val 1 m.type_ tag m.payload
      | none => s
    else s
  | [] => s

/-- A new message of a node (Table 10.10). -/
def State.mailMessage (s : State) (r : Fin 8) (p : Fin 16) (type_ : Nat) (payload : List Byte) : State :=
  match type_ with
  | 0x81 => s.onNode r p fun n =>
      { n with ident := padTo 16 payload, deltas := [], assigned := false, acked := false, mail := n.mail.filter fun m => m.type_ != 1 }
  | 0x82 => s.onNode r p fun n => if n.deltas.length < 4 then { n with deltas := n.deltas ++ [rdS payload 0 4] } else n
  | 0x83 => s.onNode r p fun n => { n with state := some (rd payload 0 1) }
  | 0x84 => s.onNode r p fun n => { n with counters := padTo 56 payload, countersB := some s.mw.b }
  | 0x90 => s.mailRecord r p.val 0 type_ 0 payload
  | _ => s

/-- MAILBOX_RECEIVE (R305, R306): the first copy with a good CRC of the owner's mailbox in a node's turn; a repeated SEQ is
acknowledged again and not acted on. -/
def execMailboxReceive (ring : Fin 8) (bytes : List Byte) (s : State) : Result :=
  let x := s.ring ring
  let cyc := s.mw.b % 2 ^ 32
  let owner := ((cyc - 1) / 2) % x.counted
  let src := rd bytes 0 1
  if !(x.sends && !x.mailTaken && decide (cyc % 2 = 1) && decide (x.counted ≠ 0) && decide (bytes.length = 64) && crcEnds bytes &&
      decide (src = owner) && decide (rd bytes 1 1 = 255) && decide (rd bytes 3 1 ≤ 56)) then .next s
  else
    let p : Fin 16 := ⟨src % 16, Nat.mod_lt _ (by decide)⟩
    let s := s.onRing ring fun y => { y with mailTaken := true }
    let s := s.mailAck ring p (rd bytes 5 1)
    let type_ := rd bytes 2 1
    let seq := rd bytes 4 1
    if type_ = 0 ∨ ((s.ring ring).nodes[p]).rxSeq = some seq then .next s
    else
      let s := s.onNode ring p fun n => { n with rxSeq := some seq }
      .next (s.mailMessage ring p type_ ((bytes.drop 6).take (rd bytes 3 1)))

/-- MAILBOX_RETRY_EXHAUSTED (R306): the master gives a message up after its turns and reports a `MAILBOX_SEND`; an ASSIGN is queued
again at a later boundary. -/
def execMailboxRetryExhausted (ring : Fin 8) (pos : Fin 16) (s : State) : Result :=
  match ((s.ring ring).nodes[pos]).mail with
  | m :: rest =>
    if m.limit ≤ m.turns then
      let s := s.onNode ring pos fun n => { n with mail := rest, assigned := n.assigned && m.type_ != 1 }
      let s := s.onRing ring fun x => { x with turn := (pos.val + 1) % 16 }
      match m.report with
      | some tag => .next (s.mailRecord ring pos.val 2 m.type_ tag m.payload)
      | none => .next s
    else .next s
  | [] => .next s

/-! ### A new layout (R311) -/

/-- A position under a new layout. -/
def RNode.relayout (n : RNode) : RNode :=
  { n with part := [], age := 15, stale := false, drift := false, fresh := false, deltas := [], assigned := false, acked := false,
           mail := n.mail.filter fun m => m.type_ != 1 }

/-- A ring that RING_CONTENTION stopped starts again once its configuration is committed again (R309). -/
def State.ringRestart (s : State) (r : Fin 8) : State :=
  if (s.ring r).state = .stopped then s.onRing r fun x => { x with state := .off } else s

/-- MW takes a changed layout of a ring at B_c + 1 (R311): REASSIGN for one cycle, a new LAYOUT, the start of R310 from step 3; no slot of
the bank counts as written, and the mirror shows AGE 15. -/
def State.relayout (s : State) (r : Fin 8) (oldId : Nat) : State :=
  let s := s.onRing r fun x =>
    { x with
      layout := if x.layout ≥ 65535 then 1 else x.layout + 1, reassign := x.sends, lastId := oldId,
      state := if x.state = .data then .discover else x.state,
      dSum := 0, dCount := 0, dMeas := 0,
      nodes := x.nodes.map RNode.relayout }
  let slots := (List.range 16).map fun p => 16 * r.val + p
  let s := s.onMw fun m => { m with bankAge := m.bankAge.filter fun e => !slots.contains e.1 }
  slots.foldl (fun s k => s.mirror k [15]) s

end Sys2Proof.Machine
end

