-- ==== Sys2Proof/Machine/RingNode.lean ====
section
/-! DEFINITION. A ring engine in node role (chapter 10): frames forwarded, looped and processed (R294, R295), node states (R301), the apply
instant and drift (R297, R299), the node's side of the mailbox (R307), stop codes (R303, R317). -/

namespace Sys2Proof.Machine

/-- Change the node. -/
def State.onAsNode (s : State) (r : Fin 8) (f : AsNode → AsNode) : State := s.onRing r fun x => { x with asNode := f x.asNode }

/-- Move to another state; the next turn reports it (R307). -/
def AsNode.to (n : AsNode) (st : NState) : AsNode :=
  if n.state = st then n else { n with state := st, changed := true, told := n.told && st != .joined, clean := 0 }

/-- Leave the master: LISTEN (R301). -/
def AsNode.leave (n : AsNode) : AsNode :=
  { n.to .listen with master := none, lastSeen := none, position := none, layout := none, mail := [], rxSeq := none, delta := none }

/-- The port is down for the node: its link is, or it stands isolated or in loopback (R295, R307). -/
def RPort.closed (p : RPort) : Bool := !p.linkUp || p.isolated || p.loopback

/-- An isolated port counts as up again from an instant (R295, R307). -/
def RPort.rejoin (p : RPort) (now : Nat) : RPort := if p.isolated then { p with isolated := false, upNs := now } else p

/-! ### The IN part (R293, R316) -/

/-- The IN part as sampled now: slot (ring, node 0) of the OUT bank as the last cut-off left it, AGE the boundaries since. -/
def State.nodeIn (s : State) (r : Fin 8) : List Byte :=
  let n := (s.ring r).asNode
  let slot := 16 * r.val
  let written := (s.mw.bankAge.find slot).isSome
  let runs := n.state == .operational || n.state == .stopping
  let ready := written && runs && !n.drift && !s.curtained
  let age := if written then min 15 (s.mw.b - n.outB) else 15
  crcClose (le 1 (age + 16 * b2n ready + 32 * b2n (n.cause != 0) + 64 * b2n n.drift) ++ padTo (n.inLen - 3) (s.mw.bank.readN (64 * slot + 1) (n.inLen - 3)))

/-! ### Timing (R297, R299, R300) -/

/-- The node takes the boundary estimate of a frame, the `first` of its cycle or the other copy: departure from its timer, rate over 16 cycles against the boundary
sequence, DRIFT (R299). A cycle whose apply instant has passed sets the timer for the next. -/
def AsNode.estimate (n : AsNode) (first : Bool) (cyc : Nat) (tb : Int) (apply : Nat) : AsNode :=
  let gap := fun (c : Nat) => (cyc + 2 ^ 32 - c) % 2 ^ 32
  let err := match n.tb with
    | some (c, t) => if n.window.isEmpty then 0 else tb - (t + (gap c : Int) * n.tsNs)
    | none => 0
  let w := if first then (n.window.filter fun e => decide (gap e.1 ≤ 16)) ++ [(cyc, tb)] else n.window
  let rate : Int := match w with
    | (c, t) :: _ => if first ∧ gap c = 16 ∧ n.tsNs ≠ 0 then (tb - t - 16 * n.tsNs) * 100000000 / (16 * n.tsNs) else n.rate
    | [] => n.rate
  let far := decide (1000 < err.natAbs) || decide (20000 < rate.natAbs)
  let near := decide (err.natAbs ≤ 500) && decide (rate.natAbs ≤ 20000)
  let calm := if near then n.calm + b2n first else 0
  let past := n.inCycle == some cyc
  let drift := far || (n.drift && decide (calm < 16))
  { n with tb := some (cyc, tb), window := w, timer := some ((tb + apply).toNat + if past then n.tsNs else 0),
           timerCyc := if past then (cyc + 1) % 2 ^ 32 else cyc, error := err, rate := rate, calm := calm,
           drift := drift, changed := n.changed || drift != n.drift }

/-- Both copies of one cycle have arrived: Δ (R298). -/
def AsNode.arrive (n : AsNode) (onA : Bool) (cyc now : Nat) : AsNode :=
  let n := if onA then { n with arriveA := some (cyc, now) } else { n with arriveB := some (cyc, now) }
  match n.arriveA, n.arriveB with
  | some (ca, ta), some (cb, tb) => if ca = cb then { n with delta := some (ca, (tb : Int) - ta) } else n
  | _, _ => n

/-! ### The node's mailbox (R305..R307) -/

/-- Queue a message to the master. -/
def AsNode.post (n : AsNode) (type_ : Nat) (payload : List Byte) : AsNode :=
  let seq := (n.txSeq + 1) % 256
  let m : MailOut := { type_ := type_, payload := payload, retry := 0, seq := seq }
  { n with txSeq := seq, mail := n.mail ++ [m] }

/-- Device ID of the variant (R64). -/
def State.deviceId (s : State) : Nat :=
  match s.mw.fuses.variant with
  | 0 => 0x0864
  | 1 => 0x0865
  | 2 => 0x0432
  | _ => 0x0433

/-- IDENT (R315). REVISION and SERIAL are not stated. -/
def State.identPayload (s : State) (r : Fin 8) : List Byte :=
  let c := s.mw.cfg.ring r.val
  le 2 0xC01D ++ le 2 s.deviceId ++ leInt 2 (Config.unstated [315, 0]) ++ leInt 4 (Config.unstated [315, 1]) ++ le 1 8 ++ zeros 1 ++ le 2 240 ++
    le 1 c.nodeOutLen ++ le 1 c.nodeInLen

/-- Counters of a port (Table 10.12). -/
def RPort.bytes (p : RPort) : List Byte :=
  le 4 p.frames ++ le 4 p.crcLocal ++ le 4 p.poisoned ++ le 4 p.hdrErr ++ le 4 p.codeErr ++ le 4 p.elastic ++ le 2 p.linkDown ++ le 2 p.foreign

/-- What the node has to say in a turn, where nothing waits for its acknowledgement (R307). -/
def State.nodeSay (s : State) (r : Fin 8) : State :=
  let x := s.ring r
  let n := x.asNode
  if !n.mail.isEmpty then s
  else if !n.told then s.onAsNode r fun n => { n.post 0x81 (s.identPayload r) with told := true }
  else if n.asked then s.onAsNode r fun n => { n.post 0x84 (x.portA.bytes ++ x.portB.bytes) with asked := false }
  else if n.changed || n.turns % 64 = 0 then
    s.onAsNode r fun n => { n.post 0x83 (le 1 n.state.code ++ le 1 n.cause ++ leInt 2 (satInt 16 n.rate) ++ leInt 4 (satInt 32 n.error)) with changed := false }
  else match n.layout, n.delta with
    | none, some (c, v) => s.onAsNode r fun n => { n.post 0x82 (leInt 4 (satInt 32 v) ++ le 4 c) with delta := none }
    | _, _ => s

/-- The mailbox the node writes in its turn. -/
def State.nodeTurn (s : State) (r : Fin 8) (pos : Nat) : State :=
  let s := s.onAsNode r fun n => { n with turns := n.turns + 1 }
  let s := s.nodeSay r
  s.onAsNode r fun n =>
    let ack := n.rxSeq.getD 0
    match n.mail with
    | m :: rest => { n with box := some (mailbox pos 255 m.type_ m.seq ack m.payload), mail := { m with sent := true, turns := m.turns + 1 } :: rest }
    | [] => { n with box := some (mailbox pos 255 0 n.txSeq ack []) }

/-- A master's message to the node (Table 10.10). -/
def State.nodeHears (s : State) (r : Fin 8) (type_ : Nat) (p : List Byte) : State :=
  match type_ with
  | 1 => s.onAsNode r fun n =>
      { n with layout := some (rd p 0 2), position := some (rd p 3 1), lossLimit := rd p 5 1, outOff := rd p 8 2, outLen := rd p 10 1,
               inLen := rd p 11 1, inOff := rd p 12 2, delayA := rd p 16 4, delayB := rd p 20 4, missing := 0, window := [], mailOff := none }
  | 2 => s.onAsNode r fun n => { n with asked := true }
  | 3 =>
    let ports := rd p 0 1
    let cycles := rd p 4 4
    let s := s.onRing r fun x =>
      { x with portA := { x.portA with isolated := bit ports 0, loopback := x.portA.loopback || bit ports 0 },
               portB := { x.portB with isolated := bit ports 1, loopback := x.portB.loopback || bit ports 1 } }
    s.onAsNode r fun n => { n with isolateNs := if cycles = 0 then none else some (s.now + cycles * n.tsNs) }
  | _ => s

/-- The node reads the mailbox of a master's turn (R306). -/
def State.nodeMail (s : State) (r : Fin 8) (box : List Byte) (pos : Option Nat) : State :=
  let n := (s.ring r).asNode
  let dst := rd box 1 1
  if !(crcEnds box && decide (rd box 0 1 = 255) && (dst == 254 || some dst == pos)) then s
  else
    let s := if dst = 254 then s else s.onAsNode r fun n =>
      { n with mail := match n.mail with
          | m :: rest => if m.sent && m.seq == rd box 5 1 then rest else m :: rest
          | [] => [] }
    let seq := rd box 4 1
    if rd box 2 1 = 0 ∨ n.rxSeq = some seq then s
    else (s.onAsNode r fun n => { n with rxSeq := some seq }).nodeHears r (rd box 2 1) ((box.drop 6).take (min 56 (rd box 3 1)))

/-! ### Stop codes (R303, R317) -/

/-- What the part does to its own arms on a stop code of the foreign master (R317), with RING_NODE_STOP. -/
def State.nodeStopArms (s : State) (r : Fin 8) (code : Nat) : State :=
  let s := s.raiseMw 104 (s.ringTarget r.val) (le 1 code)
  if (s.mw.cfg.ring r.val).stopAction = 1 ∧ code ≠ 16 then
    let cat := if code = 1 then 0 else 1
    s.onLive fun d s => (List.finRange 8).foldl (fun s a => s.hostArmStop d a cat) s
  else s

/-- A valid own header carries a stop code (R301, R303): the hardest of the cycle counts. The node drives nothing itself, so its own stop
is complete at once. -/
def State.nodeStop (s : State) (r : Fin 8) (first : Bool) (code : Nat) : State :=
  let n := (s.ring r).asNode
  let norm := if code = 0 ∨ code = 1 ∨ code = 16 then code else 2
  let worst := if first then norm else hardest n.stopCode norm
  let acts := worst ≠ 0 ∧ worst ≠ n.stopCode
  let s := if acts then s.nodeStopArms r worst else s
  let s := s.onAsNode r fun n => { n with stopCode := worst, clean := if worst = 0 then n.clean + 1 else 0 }
  if worst = 0 then s
  else if worst = 16 then
    let s := if n.isolateNs.isSome then s else s.onRing r fun x => { x with portA := x.portA.rejoin s.now, portB := x.portB.rejoin s.now }
    s.onAsNode r fun n =>
      let m : AsNode := { n with layout := none, delta := none }
      if m.state = .operational ∨ m.state = .stopping then m.to .joined else m
  else s.onAsNode r fun n => if n.state = .operational then { n.to .stopping with cause := 2 } else n

/-! ### Frames (R294, R295, R301) -/

/-- The frame carries the node's windows: a DATA frame of its layout (R294). -/
def AsNode.fits (n : AsNode) (f : List Byte) : Bool := n.layout == some (rd f 28 2) && rd f 0 1 == 2

/-- Node states that follow from a valid header of the joined master (R301). -/
def State.nodeState (s : State) (r : Fin 8) (f : List Byte) : State :=
  let n := (s.ring r).asNode
  let fits := n.fits f
  match n.state with
  | .joined =>
    if fits && bit (rd f 1 1) 2 && n.stopCode == 0 && !n.drift then s.onAsNode r fun n => { n.to .operational with cause := 0, missing := 0 } else s
  | .operational => if fits then s else s.onAsNode r fun n => n.to .joined
  | .stopping => if n.stopCode == 0 && decide (2 ≤ n.clean) then s.onAsNode r fun n => { n.to .operational with cause := 0, missing := 0 } else s
  | _ => s

/-- LISTEN takes in a frame (R301): two good frames of one master with consecutive CYCLE values join it. -/
def State.nodeJoin (s : State) (r : Fin 8) (good : Bool) (f : List Byte) : State :=
  if !good then s
  else
    let m := rd f 2 1
    let g := rd f 3 1
    let cyc := rd f 4 4
    let n := (s.ring r).asNode
    match n.lastSeen with
    | some (m', g', c') =>
      if m' = m ∧ g' = g ∧ (c' + 1) % 2 ^ 32 = cyc then
        s.onAsNode r fun n => { n.to .joined with master := some (m, g), told := false, lastNs := s.now, seenCycle := none, turns := 0,
                                                   window := [], tb := none, drift := false, missing := 0 }
      else if m' = m ∧ g' = g ∧ c' = cyc then s
      else s.onAsNode r fun n => { n with lastSeen := some (m, g, cyc) }
    | none => s.onAsNode r fun n => { n with lastSeen := some (m, g, cyc) }

/-- Offset of the mailbox: 32 in DISCOVER. ASSIGN does not give a node the place of the mailbox in DATA, which the layout fixes (R287): the
node finds it by the master's SRC and the mailbox CRC in an even cycle and keeps it for the layout. DESIGN CHOICE. -/
def AsNode.mailAt (n : AsNode) (f : List Byte) : Option Nat :=
  if rd f 0 1 = 1 then some 32
  else match n.mailOff with
    | some o => some o
    | none =>
      if rd f 4 4 % 2 = 1 then none
      else ((List.range (f.length - 99)).map (· + 32)).find? fun o => decide (rd f o 1 = 255) && crcEnds ((f.drop o).take 64) && decide (rd f (o + 3) 1 ≤ 56)

/-- What a node does to a frame it processes on the outward pass: reads its OUT part, takes part in the mailbox, writes its IN part where the cycle's apply instant
has passed (R294); the result is the frame with those changes. -/
def State.nodeProcess (s : State) (r : Fin 8) (dir1 : Bool) (f : List Byte) : State × List Byte :=
  let n := (s.ring r).asNode
  let cyc := rd f 4 4
  let hop := rd f 19 1
  let nodes := rd f 20 1
  let pos : Option Nat := if !dir1 then some hop else if hop < nodes then some (nodes - 1 - hop) else none
  let fits := n.fits f
  let s := if n.layout.isNone then s.onAsNode r fun n => { n with position := pos } else s
  let part := (f.drop n.outOff).take n.outLen
  let s := if fits && n.state == .operational && n.outPart.isNone && crcEnds part && decide (part.length = n.outLen) then
      s.onAsNode r fun n => { n with outPart := some part } else s
  let m := (s.ring r).asNode
  let f := if fits && m.inCycle == some cyc then splice f m.inOff m.inPart else f
  let speaks := m.state == .joined || m.state == .operational || m.state == .stopping
  if !speaks then (s, f)
  else match m.mailAt f with
    | none => (s, f)
    | some o =>
      let s := if rd f 0 1 = 2 then s.onAsNode r fun n => { n with mailOff := some o } else s
      if cyc % 2 = 0 then (s.nodeMail r ((f.drop o).take 64) m.position, f)
      else if nodes ≠ 0 ∧ m.position = some (((cyc - 1) / 2) % nodes) then
        let s := if m.box.isNone then s.nodeTurn r (m.position.getD 0) else s
        (s, match ((s.ring r).asNode).box with
          | some b => splice f o b
          | none => f)
      else (s, f)

/-- Close a forwarded frame (R289): header CRC where the header was changed, frame CRC, complemented where the received one was bad. -/
def closeFrame (f : List Byte) (header good : Bool) : List Byte :=
  let f := if header then splice f 30 (le 2 (crc16 (f.take 30)).toNat) else f
  let n := f.length - 4
  let c := crc32 (f.take n)
  f.take n ++ le 4 (if good then c else ~~~c).toNat

/-- The node samples its IN part, for cycle `timerCyc`, and the frames whose IN section has yet to pass leave with it (R293, R297, R316). -/
def State.nodeSample (s : State) (r : Fin 8) : State :=
  let n := (s.ring r).asNode
  let part := s.nodeIn r
  let s := n.flying.foldl (fun (s : State) f => s.emit (.nodeFrame r.val f.1 (closeFrame (splice f.2.2.2 n.inOff part) f.2.1 f.2.2.1))) s
  s.onAsNode r fun n => { n with inPart := part, inCycle := some n.timerCyc, flying := [] }

/-- RING_NODE_FRAME (R294): a frame comes in at a port of a ring in node role. One whose elastic buffer fails inside it goes on poisoned (R285). A frame that
takes the node's IN part leaves at the cycle's apply instant, which comes before its IN section passes (R287); one that still waits when the next cycle's first frame comes
leaves then. -/
def execRingNodeFrame (ring : Fin 8) (port : RingPort) (frame : RxFrame) (s : State) : Result :=
  let x := s.ring ring
  let here := x.port port
  if x.state ≠ .node ∨ !here.linkUp ∨ here.isolated ∨ frame.bytes.length < 36 ∨ x.asNode.state = .init then .next s
  else
    let (s, chk, ok) := (s.ringReceive ring port frame.codes frame.elastic).ringCount ring port frame.bytes
    let good := chk == .good && !frame.elastic
    let dir1 := bit (rd frame.bytes 1 1) 0
    let looped := bit (rd frame.bytes 1 1) 1
    let n := x.asNode
    let own := match n.master with
      | some m => m == (rd frame.bytes 2 1, rd frame.bytes 3 1)
      | none => true
    let s := if ok && !own then s.onRing ring fun y => y.onPort port fun p => { p with foreign := min 65535 (p.foreign + 1) } else s
    let s := if ok && !own then s.onRing ring fun y => { y with foreign := some (rd frame.bytes 2 1) } else s
    let outward := ok && own && !looped
    let s := if n.state = .listen ∧ ok then s.nodeJoin ring good frame.bytes else s
    let cyc := rd frame.bytes 4 4
    let follows := ok && own && n.master.isSome
    let first := n.seenCycle != some cyc
    let s := if follows && first && !n.flying.isEmpty then s.nodeSample ring else s
    let s := if follows then
        let ts := tsOfCode (bits (rd frame.bytes 21 1) 2 0)
        let s := s.onAsNode ring fun n =>
          let n := if n.tsNs = ts then n else { n with tsNs := ts, window := [], tb := none }
          let n := if first then { n with outPart := none, box := none } else n
          { n with lastNs := s.now, seenCycle := some cyc }
        let s := s.nodeStop ring first (rd frame.bytes 18 1)
        let s := if looped then s else
          let d : Nat := if dir1 then n.delayB else n.delayA
          let tb : Int := (s.now : Int) - d - rd frame.bytes 22 2
          let s := s.onAsNode ring fun n => n.arrive (port == .a) cyc s.now
          s.onAsNode ring fun n => n.estimate first cyc tb (rd frame.bytes 24 4)
        s.nodeState ring frame.bytes
      else s
    let lay := rd frame.bytes 28 2
    -- DEDUCED: a frame without a layout, or one that reaches a node without an assignment, counts as processed, or no node could be counted.
    let counts := outward && (decide (lay = 0) || n.layout.isNone || n.layout == some lay)
    let (s, f) := if follows && counts then s.nodeProcess ring dir1 frame.bytes else (s, frame.bytes)
    let f := if counts then splice f 19 (le 1 (rd f 19 1 + 1)) else f
    let y := s.ring ring
    let away := match port with
      | .a => y.portB
      | .b => y.portA
    let turns := away.closed
    let f := if turns then splice f 1 (le 1 (rd f 1 1 ||| 2)) else f
    let outB := match port with
      | .a => !turns
      | .b => turns
    let header := ok && (counts || turns)
    if turns && looped then .next s
    else if follows && counts && y.asNode.fits f && y.asNode.inCycle != some cyc then
      .next (s.onAsNode ring fun n => { n with flying := n.flying ++ [(outB, header, good, f)] })
    else .next (s.emit (.nodeFrame ring.val outB (closeFrame f header good)))

/-- NODE_APPLY_INSTANT (R292, R297, R316): at BOUNDARY + APPLY_NS the received OUT part is latched, or counted missing, and the IN part is sampled and sent. The
local timer runs on by T_s where frames cease. -/
def execNodeApplyInstant (ring : Fin 8) (s : State) : Result :=
  let n := (s.ring ring).asNode
  match n.timer with
  | none => .next s
  | some t =>
    if (s.ring ring).state ≠ .node ∨ s.now < t then .next s
    else
      let usable := match n.outPart with
        | some p => bit (rd p 0 1) 4 && decide (rd p 0 1 % 16 ≠ 15)
        | none => false
      let next := if n.tsNs = 0 then none else some (t + n.tsNs)
      .next ((s.nodeSample ring).onAsNode ring fun n =>
        if n.state ≠ .operational then { n with timer := next, timerCyc := (n.timerCyc + 1) % 2 ^ 32, outPart := none, latchedAge := min 15 (n.latchedAge + 1) }
        else if usable then
          let p := n.outPart.getD []
          { n with timer := next, timerCyc := (n.timerCyc + 1) % 2 ^ 32, outPart := none, latched := p, latchedAge := rd p 0 1 % 16, missing := 0 }
        else { n with timer := next, timerCyc := (n.timerCyc + 1) % 2 ^ 32, outPart := none, latchedAge := min 15 (n.latchedAge + 1), missing := n.missing + 1 })

/-- NODE_LOSS_STOP (R292): LOSS_LIMIT consecutive cycles without a usable OUT part. -/
def execNodeLossStop (ring : Fin 8) (s : State) : Result :=
  let n := (s.ring ring).asNode
  if (s.ring ring).state = .node ∧ n.state = .operational ∧ n.lossLimit ≤ n.missing then
    .next (s.onAsNode ring fun n => { n.to .stopping with cause := 1 })
  else .next s

/-- ISOLATE_END (R307): the cycles of an ISOLATE have passed. -/
def execIsolateEnd (ring : Fin 8) (s : State) : Result :=
  match ((s.ring ring).asNode).isolateNs with
  | some t =>
    if t ≤ s.now then
      let s := s.onRing ring fun x => { x with portA := x.portA.rejoin s.now, portB := x.portB.rejoin s.now }
      .next (s.onAsNode ring fun n => { n with isolateNs := none })
    else .next s
  | none => .next s

/-- A package boundary at a ring in node role (R301, R316): the latched OUT part goes into the IN mirror with its age; a master unheard for
LOSS_LIMIT cycles, 3 without an assignment, is left. -/
def State.nodeBoundary (s : State) (r : Fin 8) : State :=
  let x := s.ring r
  if x.state ≠ .node then s
  else
    let n := x.asNode
    let part := if n.latched.isEmpty then [15] else withAge n.latched n.latchedAge
    let s := s.mirror (16 * r.val) part
    let limit := if n.state = .joined ∧ n.layout.isNone then 3 else n.lossLimit
    let lost := decide (n.lastNs + limit * n.tsNs < s.now)
    if (n.state = .joined ∨ n.state = .stopping) ∧ lost then s.onAsNode r AsNode.leave else s

end Sys2Proof.Machine
end

