-- ==== Sys2Proof/Machine/RingCommands.lean ====
section
/-! DEFINITION. The Carousel opcodes (R319..R326). -/

namespace Sys2Proof.Machine

/-- Units of a ring on MW: its engine and its two ports (Table 1.4). -/
def ringUnits (r : Nat) : List UnitId :=
  [0, 1, 2].map fun u => mwUnit 0 ⟨r % 8, Nat.mod_lt _ (by decide)⟩ ⟨u % 32, Nat.mod_lt _ (by decide)⟩

/-- Results of ring admission (R319): T_RET_NS, D_CFG_NS, FRAME_LEN, PAD, APPLY_NS. -/
def Cfg.ringResult (c : Cfg) (r : Nat) : List Byte := le 4 (c.tRet r) ++ le 4 (c.dCfg r) ++ le 2 (c.frameLen r) ++ le 2 (c.pad r) ++ le 4 (c.applyNs r)

/-- The ring passes its admission, asked of rings in MASTER role (R312). -/
def Cfg.ringOk (c : Cfg) (r : Nat) : Bool := (c.ring r).role != 1 || c.ringAdmitted r

/-- `CONFIG_RING` (R319, Table 10.14). -/
def bodyConfigRing (h : HostCmd) (d : DieId) (s : State) : Answer :=
  let p := h.params
  let r := tRing h.target
  let role := rd p 0 1
  let nodes := rd p 2 1
  let cable := rd p 4 2
  let asNode := decide (role = 2 ∨ role = 3)
  let bad := decide (3 < role) || decide (16 < nodes) || decide (1 < rd p 3 1) || decide (14 < rd p 6 1) || !zeroAt p 7 1 ||
    decide (10000000000 < rd p 8 4) || (asNode && !(within (rd p 12 1) 4 64 && within (rd p 13 1) 4 64)) || !zeroAt p 14 2 ||
    decide (30 * (nodes + 1) < cable)
  let new : CfgRing := { role := role, ringId := rd p 1 1, nodes := nodes, stopAction := rd p 3 1, cableM := cable, lossLimit := orDefault (rd p 6 1) 3,
                         tStopNs := orDefault (rd p 8 4) 500000000, nodeOutLen := rd p 12 1, nodeInLen := rd p 13 1 }
  let f : Cfg → Cfg := fun c => { c with rings := c.rings.set r new }
  if decide (s.rings ≤ r.val) then reject s St.unitAbsent
  else
    let c := f (s.die d).shadow
    let a := s.configGated d (if bad then some St.range else none) (ringUnits r.val) (fun c => c.ringOk r.val) f
    (a.1, if a.2.status = St.ok then { a.2 with result := c.ringResult r.val } else a.2)

/-- `CONFIG_NODE` (R320, Table 10.15). -/
def bodyConfigNode (h : HostCmd) (d : DieId) (s : State) : Answer :=
  let p := h.params
  let i := tIndex h.target % 128
  let fmt := rd p 0 1
  let joint := rd p 1 1
  let drive := decide (fmt = 1 ∨ fmt = 2)
  let lens := if fmt = 4 then within (rd p 2 1) 4 64 && within (rd p 3 1) 4 64 else decide (rd p 2 1 = 0) && decide (rd p 3 1 = 0)
  let new : CfgNode :=
    { format := fmt, joint := joint, outLen := if fmt = 1 then 24 else if fmt = 2 then 12 else if fmt = 3 then 8 else rd p 2 1,
      inLen := if drive then 24 else if fmt = 3 then 8 else rd p 3 1, hopNs := orDefault (rd p 4 2) 320, velShift := rd p 6 1,
      checkIdent := bit (rd p 7 1) 0, vendor := rd p 8 2, product := rd p 10 2 }
  let k : Fin 128 := ⟨tIndex h.target % 128, Nat.mod_lt _ (by decide)⟩
  let f : Cfg → Cfg := fun c => { c with nodes := c.nodes.set k new }
  let c := f (s.die d).shadow
  let twice := drive && decide (1 < (c.nodes.toList.filter fun n => (n.format == 1 || n.format == 2) && n.joint == joint).length)
  let many := decide (32 < (c.nodes.toList.filter fun n => n.format == 3 || n.format == 4).length)
  let bad := decide (4 < fmt) || (if drive then decide (63 < joint) else decide (joint ≠ 255)) || !lens || decide (320 < rd p 4 2) || decide (16 < rd p 6 1) ||
    decide (1 < rd p 7 1) || !zeroAt p 12 4
  if decide (s.rings ≤ i / 16) then reject s St.unitAbsent
  else
    let check := firstFail [(drive && decide (joint < 64) && !s.jointPresent joint, St.unitAbsent), (bad || twice || many, St.range)]
    s.configGated d check [mwUnit 0 ⟨i / 16 % 8, Nat.mod_lt _ (by decide)⟩ 0] (fun c => c.ringOk (i / 16)) f

/-- The positions a status reports: those counted, in DATA at least those configured. -/
def RNode.flags (n : RNode) (ok : Bool) : Nat :=
  let st := rd n.part 0 1
  packBits [bit st 4, bit st 5, n.drift, ok, n.assigned]

/-- TOPOLOGY, LOOP_A, LOOP_B and B of a status (Table 10.16): those of the last whole cycle where the ring sends, else of the present boundary, with no frame to return. -/
def State.ringSeen (s : State) (r : Fin 8) : Nat × Nat × Nat × Nat :=
  let x := s.ring r
  if x.sends then (x.lastTopo, x.lastLoopA, x.lastLoopB, x.lastB) else (0, 255, 255, s.mw.b)

/-- `RING_STATUS` (R321, Table 10.16). -/
def bodyRingStatus (h : HostCmd) (_d : DieId) (s : State) : Answer :=
  let r := tRing h.target
  if s.rings ≤ r.val then reject s St.unitAbsent
  else
    let x := s.ring r
    let c := s.mw.cfg
    let asNode := x.state == .node
    let seen := s.ringSeen r
    let one := fun (p : Fin 16) =>
      let n := x.nodes[p]
      le 1 (n.state.getD 255) ++ le 1 n.age ++ le 1 (n.flags (!n.ident.isEmpty && c.identOk r.val p.val n.ident)) ++ zeros 1
    answer s
      (le 1 (c.ring r.val).role ++ le 1 x.state.code ++ le 1 x.counted ++ le 1 seen.1 ++ le 1 seen.2.1 ++ le 1 seen.2.2.1 ++
        le 1 (if asNode then x.asNode.stopCode else if x.sends || x.curtain then x.stopCode else 0) ++ le 1 (x.foreign.getD 255) ++ le 8 seen.2.2.2 ++ le 4 (c.tRet r.val) ++ le 4 (c.dCfg r.val) ++
        le 4 x.dMeas ++ le 4 (c.applyNs r.val) ++ le 2 (c.frameLen r.val) ++ le 2 (if asNode then x.asNode.layout.getD 0 else x.layout) ++ zeros 4 ++
        ((List.finRange 16).map one).flatten)

/-- `RING_SCAN` (R322): the IDENTs the nodes have sent. -/
def bodyRingScan (h : HostCmd) (_d : DieId) (s : State) : Answer :=
  let r := tRing h.target
  if s.rings ≤ r.val then reject s St.unitAbsent
  else
    let x := s.ring r
    if x.state = .off ∨ x.state = .node then reject s St.wrongState
    else
      let ps := (List.finRange 16).filter fun p => decide (p.val < x.counted)
      let one := fun (p : Fin 16) => padTo 11 ((x.nodes[p]).ident.take 11) ++ le 1 (((x.nodes[p]).state).getD 255)
      answer s (le 1 ps.length ++ le 1 (s.ringSeen r).1 ++ zeros 6 ++ le 8 (s.ringSeen r).2.2.2 ++ (ps.map one).flatten)

/-- `RING_COUNTERS` (R323). -/
def bodyRingCounters (h : HostCmd) (_d : DieId) (s : State) : Answer :=
  if tKind h.target = 3 then
    let r := tRing h.target
    if s.rings ≤ r.val then reject s St.unitAbsent
    else answer s (le 1 0 ++ zeros 7 ++ (s.ring r).portA.bytes ++ (s.ring r).portB.bytes)
  else
    let i := tIndex h.target % 128
    let r : Fin 8 := ⟨i / 16 % 8, Nat.mod_lt _ (by decide)⟩
    let p : Fin 16 := ⟨i % 16, Nat.mod_lt _ (by decide)⟩
    if s.rings ≤ r.val then reject s St.unitAbsent
    else match ((s.ring r).nodes[p]).countersB with
      | none => reject s St.wrongState
      | some b => answer s (le 1 1 ++ le 1 p.val ++ zeros 2 ++ le 4 (s.mw.b - b) ++ ((s.ring r).nodes[p]).counters)

/-- The joints a ring's PF and TQ nodes serve. -/
def Cfg.ringJoints (c : Cfg) (r : Nat) : List (Fin 64) := (List.finRange 64).filter fun j => match c.nodeOf j.val with
  | some (q, _) => q == r
  | none => false

/-- `MAILBOX_SEND` (R324). The message is queued once, from the Flier's copy. -/
def bodyMailboxSend (h : HostCmd) (d : DieId) (s : State) : Answer :=
  let p := h.params
  let i := tIndex h.target % 128
  let r : Fin 8 := ⟨i / 16 % 8, Nat.mod_lt _ (by decide)⟩
  let pos : Fin 16 := ⟨i % 16, Nat.mod_lt _ (by decide)⟩
  let type_ := rd p 0 1
  let len := rd p 1 1
  if p.length ≠ 8 * (1 + (len + 7) / 8) ∧ len ≤ 56 then reject s St.badLength
  else if s.rings ≤ r.val then reject s St.unitAbsent
  else if !(type_ == 16 || type_ == 3) || decide (56 < len) || !zeroAt p 3 5 || !padded h (8 + len) then reject s St.range
  else
    let x := s.ring r
    let n := x.nodes[pos]
    let up := match n.state with
      | some k => within k 2 4
      | none => false
    let enabled := ((s.die d).cfg.ringJoints r.val).any fun j => (s.joint d j).state != .disabled
    if 4 ≤ (n.mail.filter fun m => m.report.isSome).length then reject s St.busy
    else if x.state ≠ .data ∨ !up ∨ (type_ = 3 ∧ enabled) then reject s St.wrongState
    else answer (if !s.isFlier d then s else s.post r pos type_ (orDefault (rd p 2 1) 16) ((p.drop 8).take len) (some h.tag.toNat))

/-- `MAILBOX_STREAM` (R325). -/
def bodyMailboxStream (h : HostCmd) (d : DieId) (s : State) : Answer :=
  let p := h.params
  let r := tRing h.target
  if s.rings ≤ r.val then reject s St.unitAbsent
  else if decide (1 < rd p 0 1) || !zeroAt p 1 7 then reject s St.range
  else if rd p 0 1 = 0 then answer (s.closeStream d 0x0206 h.target)
  else if (s.ring r).state = .node ∨ (s.ring r).state = .off then reject s St.wrongState
  else answer (s.openStream d 0x0206 h [])

/-- The effect of a `RING_STOP` on one ring for one die: MW's engine takes the code, the ring's joints enter DISABLED (R326). -/
def State.stopRing (s : State) (d : DieId) (r : Fin 8) (code tag : Nat) : State :=
  let s := if s.isFlier d then s.onRing r fun x => { x with hostCode := code } else s
  let s := s.onDie d fun x => { x with ringCode := x.ringCode.set r code }
  if code = 0 then s
  else ((s.die d).cfg.ringJoints r.val).foldl (fun s j => ((s.cancelDeferred d j tag 3).abortHoming d j).endDisabled d j) s

/-- `RING_STOP` (R326). -/
def bodyRingStop (h : HostCmd) (d : DieId) (s : State) : Answer :=
  let p := h.params
  let code := rd p 0 1
  let all := decide (tIndex h.target = tAll)
  let rs : List (Fin 8) := if all then (List.finRange 8).filter fun r => decide (r.val < s.rings) && (s.mw.cfg.ring r.val).role == 1 else [tRing h.target]
  if !all && decide (s.rings ≤ (tRing h.target).val) then reject s St.unitAbsent
  else if decide (2 < code) || !zeroAt p 1 7 then reject s St.range
  else if rs.any fun r => (s.mw.cfg.ring r.val).role != 1 then reject s St.wrongState
  else if decide (code = 0) && (s.curtained || rs.any fun r => ((s.die d).cfg.ringJoints r.val).any fun j => (s.joint d j).state != .disabled) then
    reject s St.wrongState
  else answer (rs.foldl (fun s r => s.stopRing d r code h.tag.toNat) s)

end Sys2Proof.Machine
end

