-- ==== Sys2Proof/Machine/Commit.lean ====
section
/-! DEFINITION. The commit barrier (chapter 2, R49..R61; R24, R30): acceptance, readiness, the decision at B_c − 1, rollback, and the
switch of a Trapeze die at B_c. -/

namespace Sys2Proof.Machine

/-! ### Power of clusters (R24) -/

/-- Region and cluster code of a cluster (Table 1.2). -/
def clusterPlace : ClusterId → Fin 3 × Fin 8
  | .sc i => (0, ⟨i.val, by omega⟩)
  | .jc i => (1, ⟨i.val, by omega⟩)
  | .se i => (1, ⟨4 + i.val, by omega⟩)

/-- Units of a cluster that can be gated. -/
def State.gateUnits (s : State) (d : DieId) (k : ClusterId) : List UnitId := s.clusterUnits d (clusterPlace k).1 (clusterPlace k).2

/-- A cluster has no power under R24 beside what LATENT gates: region P of a LATENT Catcher that stays one is no concern of a commit (R403). -/
def Die.dark (x : Die) (new : Cfg) (k : ClusterId) : Bool :=
  x.gated.contains k && !(x.partner.latentGated && new.trapeze.latent && clusterInP k)

/-- Start to ungate the clusters a configuration needs. A Catcher that leaves LATENT needs all it uses (R405). -/
def State.startUngating (s : State) (d : DieId) (new : Cfg) : State :=
  s.onDie d fun x =>
    let wakes := x.partner.latentGated && !new.trapeze.latent
    let need := gateable.filter fun k => new.usesCluster x.fuses.variant k && (x.dark new k || wakes)
    { x with ungating := (x.ungating ++ need).eraseDups }

/-- CLUSTER_UNGATED (R18, R24): the cluster has power and its memories again. -/
def execClusterUngated (d : DieId) (cluster : ClusterId) (s : State) : Result :=
  if (s.die d).works && (s.die d).ungating.contains cluster then
    .next (s.onDie d fun x => { x with ungating := x.ungating.filter fun k => k != cluster, gated := x.gated.filter fun k => k != cluster })
  else .next s

/-! ### What keeps a commit from switching (R30, R52, R57 and the rules that name an unready unit) -/

/-- What R311 looks at in a ring: role, RING_ID, node count, cable bound and every node's format, lengths, joint, HOP_NS and VEL_SHIFT. -/
def Cfg.ringLayout (c : Cfg) (r : Nat) : List Nat :=
  let g := c.ring r
  [g.role, g.ringId, g.nodes, g.cableM] ++
    ((List.range 16).map fun p => let n := c.node r p; [n.format, n.outLen, n.inLen, n.joint, n.hopNs, n.velShift]).flatten

/-- A commit changes the layout of a ring (R311). -/
def ringChanged (old new : Cfg) (r : Nat) : Bool := decide (old.ringLayout r ≠ new.ringLayout r)

/-- A commit changes the feedback source or scaling of a joint (R204). -/
def feedbackChanged (old new : CfgFeedback) : Bool :=
  decide (old.encoderPort ≠ new.encoderPort) || decide (old.port ≠ new.port) || decide (old.invert ≠ new.invert) ||
    decide (old.countsPerUnit ≠ new.countsPerUnit) || decide (old.offset ≠ new.offset)

/-- A commit needs joint `j` DISABLED at B_c − 1 (R164, R175, R204, R233, R311). -/
def needsDisabled (old new : Cfg) (j : Fin 64) : Bool :=
  let a := old.joints[j]
  let b := new.joints[j]
  let chain := fun (c : CfgJointAll) => match c.arm? with
    | some k => decide (old.kinematics[k] ≠ new.kinematics[k])
    | none => false
  decide (a.joint.arm ≠ b.joint.arm) || decide (a.joint.linear ≠ b.joint.linear) || decide (a.joint.brake ≠ b.joint.brake) ||
    decide (a.control.tq ≠ b.control.tq) || feedbackChanged a.feedback b.feedback ||
    chain a || chain b ||
    (List.range 8).any fun r => ringChanged old new r && ((old.ringJoints r).contains j || (new.ringJoints r).contains j)

/-- REASON 5 (R57 and the rules of `needsDisabled`): the joints that stand in the way, as their generators. -/
def State.motionBlocks (s : State) (d : DieId) (new : Cfg) : List Word :=
  let x := s.die d
  let steps := decide (x.cfg.periods.tS ≠ new.periods.tS) || decide (x.cfg.periods.phase ≠ new.periods.phase)
  let bad := fun (j : Fin 64) =>
    (steps && (x.joints[j]).moving (x.sigmaOf j).2) || ((x.joints[j]).state != .disabled && needsDisabled x.cfg new j)
  ((List.finRange 64).filter bad).map fun j => s.unitTarget (generatorUnit d j)

/-- The first of them. -/
def State.motionBlock (s : State) (d : DieId) (new : Cfg) : Option Word := (s.motionBlocks d new).head?

/-- A block is incomplete, or an entry's parameter block is not of its size (R278). -/
def Cfg.blocksBad (c : Cfg) : Bool :=
  c.code.any (fun b => !b.2.complete) || c.paramBlocks.any (fun b => !b.2.complete) ||
    c.program.any fun p => decide ((c.paramBlocks.getD p.1 {}).length ≠ (c.block p.2).paramBytes)

/-- A node of a ring that its configuration does not allow (R320): a PF or TQ node whose joint has the other MODE, or a position at or above
NODES. -/
def Cfg.nodeBad (c : Cfg) : Option Nat :=
  (List.range 128).find? fun k =>
    let n := c.node (k / 16) (k % 16)
    let tq := if h : n.joint < 64 then (c.joints[n.joint]).control.tq else false
    decide (n.format ≠ 0) && (decide ((c.ring (k / 16)).nodes ≤ k % 16) || (n.format == 1 && tq) || (n.format == 2 && !tq))

/-- An encoder port whose MIRROR slot a node has taken (R377). -/
def Cfg.mirrorBad (c : Cfg) : Option (Fin 4) :=
  (List.finRange 4).find? fun n =>
    let e := c.encoders[n]
    decide (e.mode ≠ 0) && decide (e.mirrorNode < (c.ring e.mirrorRing).nodes)

/-- A CLASS or GROUP that changes on an output that is on (R380). -/
def State.outputBad (s : State) (old new : Cfg) : Option (Fin 16) :=
  (List.finRange 16).find? fun i =>
    s.driven i && (decide ((old.outputs[i]).cls ≠ (new.outputs[i]).cls) || decide ((old.outputs[i]).group ≠ (new.outputs[i]).group))

/-- A zone is HELD as a die knows it (R226): by its own record, or where a partner arbitrates, by what the partner's newest message names (R230). -/
def State.zoneHeld (s : State) (d : DieId) (z : Fin 64) : Bool :=
  let x := s.die d
  ((x.sep.zones[z]).holder.isSome) || (match x.cfg.zoneDef z.val with
    | some (_, shared, _, peers, _) =>
      let arb := s.arbiter (s.zonePeers shared peers)
      arb != s.pkgid.toNat && (((s.mw.zoneMsgs[arb % 4]'(Nat.mod_lt _ (by decide))).bind fun l => l.find? fun e => e.zone == z.val).bind fun e => e.holder).isSome
    | none => false)

/-- A shared zone that is not FREE while the package's addresses change (R354). -/
def State.addressBad (s : State) (d : DieId) (new : Cfg) : Bool :=
  let x := s.die d
  let changed := decide (x.cfg.switch.mac ≠ new.switch.mac) || decide (x.cfg.switch.ipv4 ≠ new.switch.ipv4) ||
    decide (x.cfg.switch.peerPort ≠ new.switch.peerPort)
  changed && (List.finRange 64).any fun z => (match x.cfg.zoneDef z.val with
    | some (_, true, _, _, _) => true
    | _ => false) && s.zoneHeld d z

/-- REASON 1 by content: the units, tables, zones or ports that a staged configuration leaves unready, at most one of each kind. -/
def State.contentBlocks (s : State) (d : DieId) (new : Cfg) : List Word :=
  let x := s.die d
  let unit := fun (b : Bool) (u : UnitId) => if b then some (s.unitTarget u) else none
  let zone := ((List.finRange 64).find? fun z =>
    zoneChanged x.cfg new z.val && !((x.sep.zones[z]).holder.isNone && (x.sep.zones[z]).requests.isEmpty)).map fun z => s.target 5 z.val
  [(s.geometryFail new).map fun i => s.target 6 (0x60 * 65536 + i),
   new.coverageFail.map fun n => s.target 6 (0x63 * 65536 + n),
   zone,
   unit new.blocksBad (dispatcherUnit d),
   new.nodeBad.map fun k => s.target 4 k,
   new.mirrorBad.map fun n => s.target 8 (64 + n.val),
   (s.outputBad x.cfg new).map fun i => s.target 8 (32 + i.val),
   unit (new.gptpBad true) (timeUnit 2),
   unit (s.addressBad d new) (switchUnit 6)].filterMap id

/-- The first of them. -/
def State.contentBlock (s : State) (d : DieId) (new : Cfg) : Option Word := (s.contentBlocks d new).head?

/-- Units that have not reported ready. -/
def Pending.unready (c : Pending) : Option UnitId := c.affected.find? fun u => !c.ready.contains u

/-- FIRST_UNREADY of a commit that a place has spoiled (Table 2.7): the affected unit it took, else the first that has not reported, else 0. -/
def State.spoiledUnit (s : State) (c : Pending) : Word := ((c.culprit.orElse fun _ => c.unready).map s.unitTarget).getD 0

/-- The verdict of a die at B_c − 1: REASON and FIRST_UNREADY of Table 2.7, none to go. Fences and re-admissions come first, then units that have
not reported, motion, and what the staged state leaves unready. DESIGN CHOICE. -/
def State.commitVerdict (s : State) (d : DieId) (c : Pending) : Option (Nat × Word) :=
  let x := s.die d
  if c.spoiled ≠ 0 then some (c.spoiled, s.spoiledUnit c)
  else match c.unready with
    | some u => some (1, s.unitTarget u)
    | none => match s.motionBlock d x.shadow with
      | some w => some (5, w)
      | none => (s.contentBlock d x.shadow).map fun w => (1, w)

/-! ### Acceptance (R50, R51, R54) -/

/-- The affected units of a die's staged state: those the staging names, and those of clusters whose power changes (R52). -/
def State.affectedUnits (s : State) (d : DieId) : List UnitId :=
  let x := s.die d
  let power := (gateable.filter fun k => x.dark x.shadow k == x.shadow.usesCluster x.fuses.variant k && !(clusterInP k && x.partner.latentGated && x.shadow.trapeze.latent)).map (s.gateUnits d)
  (x.staging.units ++ power.flatten).eraseDups

/-- A commit becomes pending on a die. -/
def State.openCommit (s : State) (d : DieId) (bc : Nat) (h : HostCmd) : State :=
  let units := s.affectedUnits d
  let n := (s.die d).staging.count
  let s := s.startUngating d (s.die d).shadow
  s.onDie d fun x => { x with commit := some { bc := bc, count := n, cmd := h, affected := units, ready := [] } }

/-- The staged state changes a period (R50). -/
def Die.changesPeriods (x : Die) : Bool :=
  decide (x.cfg.periods.tS ≠ x.shadow.periods.tS) || decide (x.cfg.periods.tP ≠ x.shadow.periods.tP) || decide (x.cfg.periods.tSep ≠ x.shadow.periods.tSep)

/-- Body of `COMMIT` (R50, R60). A Catcher adopts the Flier's acceptance (R54). -/
def bodyCommit (h : HostCmd) (d : DieId) (s : State) : Answer :=
  let x := s.die d
  let bc := rd h.params 0 8
  let n := rd h.params 8 4
  let off := x.changesPeriods && (decide (bc % max 1 x.shadow.rP ≠ 0) || decide (bc % max 1 x.shadow.rSep ≠ 0))
  let flier := s.isFlier d || s.mw.trapeze.token.isNone
  let bad := if !flier then none else firstFail [
    (decide (bc < s.mw.b + 2), St.epochPassed),
    (decide (s.mw.b + 2 ^ 20 < bc) || !zeroAt h.params 12 4 || off || bit h.flags.toNat 1, St.range),
    (decide (x.staging.count = 0) || (decide (n ≠ 0) && decide (n ≠ x.staging.count)), St.wrongState),
    (x.committing, St.busy)]
  match bad with
  | some st => reject s st
  | none => (s.openCommit d bc h, { status := St.later })

/-- UNIT_READY (R52): an affected unit has loaded the staged state; its cluster is ungated and it is not fenced. -/
def execUnitReady (u : UnitId) (s : State) : Result :=
  let go := fun (s : State) (d : DieId) =>
    let x := s.die d
    let here := (u.region, u.cluster)
    let mine := u.die == .mw || trapezeDie u.die == some d
    let waits := u.die != .mw && (x.ungating.any (fun k => clusterPlace k == here) || x.removed.contains (u.region.val, u.cluster.val) ||
      x.fenced.contains (u.region.val, u.cluster.val, u.unit.val))
    if mine && x.works && !waits then
      let note : Pending → Pending := fun c =>
        if c.affected.contains u ∧ !c.ready.contains u ∧ !c.closed then { c with ready := c.ready ++ [u] } else c
      s.onDie d fun x => { x with commit := x.commit.map note }
    else s
  .next (go (go s .t0) .t1)

/-! ### The decision (R53, R54, R30) -/

/-- The targets that a staged configuration leaves unready on a die, beside units that have not reported (R52). -/
def State.blocked (s : State) (d : DieId) : List Word :=
  let x := s.die d
  s.motionBlocks d x.shadow ++ s.contentBlocks d x.shadow

/-- Result of `COMMIT` (Table 2.7): UNITS_READY leaves out on a rollback every unit that was not ready (R52). -/
def State.commitBytes (s : State) (c : Pending) (reason : Nat) (first : Word) (out : List Word := []) : List Byte :=
  let ready := (c.affected.filter fun u => c.ready.contains u && (reason == 0 || !(first :: out).contains (s.unitTarget u))).length
  le 8 c.bc ++ le 4 c.count ++ le 4 first.toNat ++ le 1 reason ++ le 1 c.catcher ++ zeros 2 ++ le 4 ready

/-- A die drops its staged state; clusters ungated for it that the committed configuration does not use are gated again (R18, R24). What LATENT
has gated stays so, and what a wake-up of R406 or R411 ungates goes on. -/
def Die.discard (x : Die) : Die :=
  let uses := fun (k : ClusterId) => x.cfg.usesCluster x.fuses.variant k
  let y : Die := { x with
    shadow := x.cfg, staging := {}, commit := none, ungating := if x.partner.waking then x.ungating.filter uses else [],
    gated := x.cfg.unused x.fuses.variant ++ x.gated.filter uses }
  if x.partner.latentGated && !x.partner.waking then y.latentGate else y

/-- A staged configuration without the homes a die gave its entries. -/
def Cfg.staged (c : Cfg) : Cfg :=
  { c with program := c.program.map fun p => (p.1, { p.2 with home := none }) }

/-- The Catcher follows the commit: it has accepted the same one, holds the same staged state and is ready itself (R54). -/
def State.catcherFollows (s : State) (f c : DieId) (p : Pending) : Bool :=
  match (s.die c).commit with
  | some q =>
    decide (q.bc = p.bc) && decide (q.count = p.count) && decide ((s.die c).shadow.staged = (s.die f).shadow.staged) && (s.commitVerdict c q).isNone
  | none => false

/-- A commit is rolled back (R30, R53): the staged state is discarded on both dies, `COMMIT_ROLLED_BACK`, the reply. -/
def State.rollBack (s : State) (f : DieId) (p : Pending) (reason : Nat) (first : Word) : State :=
  let bytes := s.commitBytes p reason first (s.blocked f)
  let s := (s.onDie f Die.discard).onDie f.other Die.discard
  let s := s.onLive fun d s => s.raise d 11 (s.target 0 0) []
  s.lateReply 0x0020 p.cmd { status := St.rolledBack, result := bytes }

/-- The decision of the Flier for a commit (R53): go on every die that follows, or rollback on both. CATCHER of a rolled-back commit, whose meaning R60 leaves open, is 0 where an
eligible Catcher works, whatever it had staged, and 2 elsewhere. DESIGN CHOICE. -/
def State.decideCommit (s : State) (f : DieId) (p : Pending) : State :=
  let c := f.other
  let watched := s.hasPartner && (s.die c).works && ((s.die c).partner.eligible || (s.die c).partner.synced)
  let was := watched && (s.die c).partner.eligible
  match s.commitVerdict f p with
  | some (reason, first) =>
    let q : Pending := { p with catcher := if was then 0 else 2 }
    s.rollBack f q reason first
  | none =>
    let follows := watched && s.catcherFollows f c p
    let s := if watched && !follows then (s.catcherLost c 3).onDie c Die.discard else s
    let s := if !watched then s.onDie c fun x => { x with commit := none } else s
    let code := if !was then 2 else if follows then 0 else 1
    let mark := fun (s : State) (d : DieId) => s.onDie d fun x =>
      { x with commit := x.commit.map fun q => if q.bc = p.bc then { q with decision := some .go, catcher := code } else q }
    mark (mark s .t0) .t1

/-- The die that decides: the token holder, else the lead die. -/
def State.decider (s : State) : DieId := s.lead

/-- The decision that is due at the boundary that has fired, if any (R53). -/
def State.dueCommit (s : State) : State :=
  match (s.die s.decider).commit with
  | some p => if p.bc = s.mw.b + 1 ∧ p.decision.isNone = true ∧ s.mw.fired = true then s.decideCommit s.decider p else s
  | none => s

/-- COMMIT_DECISION (R53). -/
def execCommitDecision (s : State) : Result := .next s.dueCommit

/-- A re-admission that falls on B_c abandons a commit whose decision was go (R30): on the deciding die for the package, on the Catcher for itself (R54). -/
def State.abandonNext (s : State) : State :=
  let spoiledAt := fun (s : State) (d : DieId) => match (s.die d).commit with
    | some p => if p.bc = s.mw.b + 1 ∧ p.decision.isSome = true ∧ p.spoiled ≠ 0 then some p else none
    | none => none
  let f := s.decider
  match spoiledAt s f with
  | some p => s.rollBack f p p.spoiled (s.spoiledUnit p)
  | none =>
    if (spoiledAt s f.other).isSome then
      let was := (s.die f.other).partner.eligible
      let s := (s.catcherLost f.other 3).onDie f.other Die.discard
      s.onDie f fun x => { x with commit := x.commit.map fun q => { q with catcher := if was then 1 else q.catcher } }
    else s

/-! ### The switch of a die (R53, R57, R145, R147, R191, R204) -/

/-- The plan of a POINT motion is in its deceleration, or in the stop profile of a reversal (R145): the running segment opposes the motion. -/
def Joint.slowing (x : Joint) : Bool :=
  let rec at_ : List Seg → Rat → Option Seg
    | [], _ => none
    | g :: r, t => if t < g.ns then some g else at_ r (t - g.ns)
  match at_ x.plan (ns32 x.pt) with
  | none => true
  | some g =>
    let sign : Rat := motionSign x.pva
    let flat := decide (absQ g.start.a < accStep)
    decide ((x.a : Rat) * sign < 0) || (flat && decide (g.jerk * sign < 0))

/-- A committed change of limits at a joint in POINT motion (R145). -/
def Joint.newLimits (x : Joint) (old new : CfgJointAll) : Joint :=
  match old.limits, new.limits with
  | some o, some n =>
    let running := x.state == .enabled && x.mode == .point && !x.real && decide (ns32 x.pt < (planNs x.plan : Rat))
    if o = n ∨ running = false then x
    else
      let raised := decide (o.vMax < n.vMax) || decide (o.aMax < n.aMax) || decide (o.jMax < n.jMax)
      let lowV := decide (n.vMax < o.vMax)
      let lowA := decide (n.aMax < o.aMax) || decide (n.jMax < o.jMax)
      if !(raised || lowV || lowA) then x
      else if !x.slowing then x.planPoint new.lim
      else if lowA then
        let a := pickLim x.reqA accStep new.lim.a
        let jk := pickLim x.reqJ jerkStep new.lim.j
        let qs := (dispOf x.pva (stopProfile x.pva.v x.pva.a a jk).1).q
        let fits := if 0 ≤ motionSign x.pva then decide (qs ≤ posOf x.qT) else decide (posOf x.qT ≤ qs)
        if fits then x.planPoint new.lim else { x with deferArrival := true }
      else if raised then x.planPoint new.lim
      else { x with limitDeferred := decide (n.vMax < (x.v.natAbs : Int)) }
  | _, _ => x

/-- New limits reach a velocity motion: its request is followed within them (R140), by a new change of velocity. DEDUCED: R145 speaks of POINT motions. -/
def Joint.newVelocity (x : Joint) (old new : CfgJointAll) : Joint :=
  match new.limits with
  | some n =>
    if old.limits ≠ new.limits ∧ x.state = .enabled ∧ x.mode = .velocity ∧ !x.real then
      ({ x with vT := (if x.vT < 0 then -1 else 1) * min x.reqV n.vMax } : Joint).planVelocity new.lim
    else x
  | none => x

/-- What a commit does to one generator (R145, R147, R159, R204); its switches are looked at afresh where their sources change. -/
def Joint.commit (x : Joint) (old new : CfgJointAll) (newTs : Bool) : Joint :=
  let x := (x.newLimits old new).newVelocity old new
  let x : Joint := if feedbackChanged old.feedback new.feedback then { x with homed := false, homeShift := 0, ctl := x.ctl.shift (-x.homeShift) } else x
  let x : Joint := if old.homing = new.homing then x else { x with switches := Vector.replicate 3 {} }
  if newTs then
    let y : Joint := if x.mode = .stream ∧ x.source = .host then x.holdPoint else x
    { y with points := [] }
  else x

/-- What a commit does to the Juggler (R102, R116, R127): the host rows of the table are rewritten; a new T_s clears the reference buffers, and after it or
after the Juggler is enabled the next solve starts cold. -/
def Juggler.commit (y : Juggler) (old new : Cfg) : Juggler :=
  let newTs := decide (old.periods.tS ≠ new.periods.tS)
  { y with
    refs := if newTs then Vector.replicate 8 [] else y.refs,
    coldDue := y.coldDue || newTs || (new.juggler.enable && !old.juggler.enable),
    table := new.rowTable (heldEntry y.table) y.table }

/-- A change of T_p or T_s drops the solve in progress, which ends unpublished (R57, R119), and the plans published for a boundary of the old grid. -/
def State.dropSolve (s : State) (d : DieId) (old new : Cfg) : State :=
  if old.periods.tP = new.periods.tP ∧ old.periods.tS = new.periods.tS then s
  else
    let s := match (s.die d).jug.solve with
      | some z => if z.p + old.rP = s.mw.b then s else s.solveEnd d none
      | none => s
    s.onDie d fun x => { x with joints := x.joints.map fun j => { j with plan2 := match j.plan2 with
      | some p => if p.b0 = s.mw.b then some p else none
      | none => none } }

/-- A commit changes an arm's chain or capsules (R213). -/
def armChanged (old new : Cfg) (a : Fin 8) : Bool :=
  let caps := fun (c : Cfg) => c.capsules.filter fun k => match k.2 with
    | .capsule arm .. => arm == a.val
    | _ => false
  decide (old.kinematics[a] ≠ new.kinematics[a]) || decide (caps old ≠ caps new)

/-- What a commit does to the separation engine: the speed check skips a cycle of an arm whose chain or capsules change (R213); cycles restart with new periods, the
last results stand (R57). -/
def Sep.commit (y : Sep) (old new : Cfg) (b : Nat) : Sep :=
  let y : Sep := { y with arms := Vector.ofFn fun a : Fin 8 => { y.arms[a] with skip := if armChanged old new a then some b else (y.arms[a]).skip } }
  if old.periods.tSep = new.periods.tSep ∧ old.periods.tS = new.periods.tS then y
  else { y with cycle := match y.cycle with
      | some c => if c.b + old.rSep = b then some c else none
      | none => none }

/-- Tables whose contents a commit changes (R191). -/
def changedTables (old new : Cfg) : List Nat :=
  ((List.finRange 128).filter fun t => decide ((old.tables[t]).entries ≠ (new.tables[t]).entries)).map fun t => t.val

/-- Host rows at or above a reduced HOST_ROWS go with the commit (R127): slot k has step k / HOST_ROWS only below it. -/
def Cfg.trimRows (c : Cfg) : Cfg := { c with rows := c.rows.filter fun r => decide (r.1 < c.juggler.hostRows) }

/-- LATENT on a Catcher whose WATCH_MODE changes at B_c (R405). -/
def Partner.watch (q : Partner) (old new : Bool) (b : Nat) : Partner :=
  if old = new then q
  else if new then { q with latentGated := q.eligible || q.synced, journalB := if b = 0 then none else some (b - 1), journalBad := false }
  else { q with latentGated := false, journalB := none, compared := true, waking := false }

/-- With no item named for its external slot, a joint's τ_item is 0 (R186): the word goes with the entry that wrote it, once that names the item (its code block and instance) no
more. DEDUCED: Table 9.1 has no field that names
the slot, so the item is known by its store. -/
def Die.clearExternal (x : Die) (new : Cfg) : Die :=
  let item := fun (c : Cfg) (n : Nat) => (c.program.find n).map fun e => (e.codeId, e.inst)
  let gone := x.disp.extWriter.filter fun e => decide (item x.cfg e.2 ≠ item new e.2)
  { x with
    disp := { x.disp with extWriter := x.disp.extWriter.filter fun e => !gone.contains e }
    stores := { x.stores with exchange := gone.foldl (fun (m : Memory) e => m.writeN (256 * e.1 + 0xC0) (zeros 4)) x.stores.exchange } }

/-- A Trapeze die switches to a configuration at boundary B_c (R53); `rest` is what stays staged. -/
def State.switchDie (s : State) (d : DieId) (new rest : Cfg) (count : Nat) : State :=
  let old := (s.die d).cfg
  let b := s.mw.b
  let new := new.trimRows
  let newTs := decide (old.periods.tS ≠ new.periods.tS)
  let catcher := s.hasPartner && !s.isFlier d && s.mw.trapeze.token.isSome
  let s := s.dropSolve d old new
  let s := s.onDie d fun x => (x.clearExternal new).placeProgram new fun _ => none
  let s := s.onDie d fun x =>
    { x with
      shadow := rest.trimRows, staging := {}, commit := none, opening := false,
      joints := Vector.ofFn fun j : Fin 64 => (x.joints[j]).commit old.joints[j] new.joints[j] newTs,
      jug := x.jug.commit old new,
      sep := x.sep.commit old new b,
      redirect := (x.redirect ++ changedTables old new).eraseDups,
      gated := new.unused x.fuses.variant,
      partner := if catcher then x.partner.watch old.trapeze.latent new.trapeze.latent b else x.partner }
  let s := s.onDie d fun x => if x.partner.latentGated then x.latentGate else x
  let s := s.record d 0x131 (s.target 0 0) (le 8 b ++ le 4 count)
  if d ≠ s.lead then s
  else
    let s := if old.statistics = new.statistics ∨ s.mw.interval.bStart = b then s else s.onMw fun m => { m with interval := { m.interval with due := true, second := m.bTb0 / (1000000000 * max new.statistics.seconds 1) } }
    if old.trapeze.homeFlier = new.trapeze.homeFlier then s else s.onTrapeze fun t => { t with lastMoveNs := s.now }

/-! ### Commands -/

/-- Body of `CONFIG_DISCARD` (R61). -/
def bodyConfigDiscard (_h : HostCmd) (d : DieId) (s : State) : Answer :=
  let x := s.die d
  if x.committing then reject s St.busy else answer (s.onDie d Die.discard) (le 4 x.staging.count)

/-- Body of `CONFIG_DEADLINE` (R59). -/
def bodyConfigDeadline (h : HostCmd) (d : DieId) (s : State) : Answer :=
  let p := h.params
  let new : CfgDeadline := { slackLowNs := rd p 0 4, overrunLimit := orDefault (rd p 4 1) 3 }
  let bad := decide ((s.die d).shadow.periods.tS < rd p 0 4) || decide (14 < rd p 4 1) || !zeroAt p 5 3
  s.config d (if bad then some St.range else none) [dispatcherUnit d] fun c => { c with deadline := new }

/-- The servo periods of Table 2.1. -/
def servoPeriods : List Nat := [31250, 62500, 125000, 250000, 500000, 1000000]

/-- The ranges of R55, R58 and R59 and the checks that count among them (R385, R404). -/
def periodsBad (old : Cfg) (c : Cfg) : Bool :=
  let p := c.periods
  !servoPeriods.contains p.tS || !within p.tP 500000 8000000 || decide (p.tP % max 1 p.tS ≠ 0) || !within p.tSep 125000 2000000 ||
    decide (p.tSep % max 1 p.tS ≠ 0) || decide (p.tS ≤ p.phase) || decide (p.tS < c.deadline.slackLowNs) || !c.encodersFit ||
    (old.trapeze.latent && !c.latentFits)

/-- The lowest servo cluster in use whose share does not fit, for FAIL_TARGET. -/
def Cfg.servoCulprit (c : Cfg) (a : AdmitDie) : Nat :=
  ((List.range 4).find? fun k => decide (4 * c.budget < 5 * (c.mOf a k : Int))).getD (c.inUse.headD 0)

/-- ADMIT_FAIL and FAIL_TARGET of Table 2.5 for staged periods. Placement and structure failures count as servo, the PLAN-SUPPORT condition as
Juggler. DESIGN CHOICE. -/
def State.periodsFail (s : State) (d : DieId) (c : Cfg) : Nat × Word :=
  let a := (s.die d).admitDie
  let r := c.admission a
  let place := fun (region cluster : Nat) => s.target 7 (placeIndex d.code region cluster 31)
  if periodsBad (s.die d).cfg c then (5, 0)
  else match c.ringFail with
    | some r => (2, s.target 3 r)
    | none =>
      if r.fail = 3 then (3, place 0 (c.inUse.headD 0))
      else if r.fail = 6 then (4, place 0 (c.inUse.headD 0))
      else if r.fail ≠ 0 then (1, place 0 (c.servoCulprit a))
      else if !c.sepAdmitted (s.sepLanes d) then (3, place 1 4)
      else if s.jugglers ≠ 0 ∧ c.juggler.jointSet ≠ 0 ∧ c.jugglerAdmitted (s.jugglerLanes d) = false then (4, place 1 0)
      else (0, 0)

/-- Body of `CONFIG_PERIODS` (R55, R58, R275). -/
def bodyConfigPeriods (h : HostCmd) (d : DieId) (s : State) : Answer :=
  let p := h.params
  let x := s.die d
  let new : CfgPeriods := { tS := rd p 0 4, tP := rd p 4 4, tSep := rd p 8 4, phase := rd p 12 4 }
  let c : Cfg := { x.shadow with periods := new }
  if x.committing then reject s St.busy
  else if new.tS = 0 then (s, { status := St.range, result := zeros 12 ++ le 1 5 ++ zeros 7 })
  else
    let a := c.admission x.admitDie
    let f := s.periodsFail d c
    let bytes := le 4 a.makespan ++ le 4 a.budget.toNat ++ le 4 (c.slowest c.masters) ++ le 1 f.1 ++ zeros 3 ++ le 4 f.2.toNat
    let alone := s.hasPartner && s.mw.trapeze.token.isSome && !s.isFlier d
    if f.1 ≠ 0 ∧ (f.1 = 5 ∨ alone = false) then (s, { status := St.range, result := bytes })
    else
      let steps := decide (x.cfg.periods.tS ≠ new.tS) || decide (x.cfg.periods.phase ≠ new.phase)
      let stepped := if steps then
          ((List.finRange 64).filter fun j => s.jointPresent j.val).map (fun j => generatorUnit d j) ++
            ((List.finRange 8).filter fun r => decide (r.val < s.rings)).map fun r => mwUnit 0 r 0
        else []
      let units := [dispatcherUnit d, timeUnit 2] ++ s.sepUnits d ++ s.jugglerUnits d ++ stepped
      let s := s.stage d units fun _ => { a.cfg with periods := new }
      let s := if f.1 ≠ 0 then s.catcherLost d 7 else s
      (s, { status := St.ok, result := bytes })

/-- Body of `GET_BOUNDARY` (R62, Table 2.8). -/
def bodyGetBoundary (h : HostCmd) (d : DieId) (s : State) : Answer :=
  let die := if tKind h.target = 7 then placeDie h.target d else s.lead
  let x := s.die die
  let c := (s.die s.lead).cfg
  answer s (le 8 s.mw.b ++ stamp s.mw.nominal ++ zeros 2 ++ le 4 c.periods.tS ++ le 2 c.rP ++ le 2 c.rSep ++ leInt 4 x.lastSlack ++
    le 4 (x.stats.live.word 1 0 0) ++ le 4 (x.stats.live.word 1 0 2) ++ le 8 (match (s.die s.lead).commit with
      | some p => p.bc
      | none => 0))

end Sys2Proof.Machine
end

