-- ==== Sys2Proof/Machine/HostTable.lean ====
section
/-! DEFINITION. The host opcodes (Table 3.14): what each permits, its meaning on the die that executes it, and the bodies of `NOP`, `IDENTIFY` and
`GET_STATUS` (R87..R90). -/

namespace Sys2Proof.Machine

/-! ### NOP, IDENTIFY and GET_STATUS -/

/-- Body of `NOP` (R87). -/
def bodyNop (_h : HostCmd) (_d : DieId) (s : State) : Answer := answer s

/-- INJECT_OK of PORT_STATE (Table 3.3): the injection fuse of the die and the TEST state of the image. -/
def State.injectOk (s : State) (d : DieId) : Bool := (s.die d).fuses.inject && s.mw.image.test

/-- The 32 bytes of Table 3.13 about one die, zeros where it is absent. -/
def State.dieBytes (s : State) (d : DieId) : List Byte :=
  if (s.die d).present then le 4 0xFFFFFFFF ++ le 1 (2 ^ s.jugglers - 1) ++ le 1 3 ++ le 1 15 ++ le 1 3 ++ zeros 24 else zeros 32

/-- Body of `IDENTIFY` (R88, Table 3.13). -/
def bodyIdentify (_h : HostCmd) (d : DieId) (s : State) : Answer :=
  let x := s.die d
  let serial := fun (e : DieId) => if (s.die e).present then le 8 (s.die e).fuses.serial.toNat else zeros 8
  answer s
    (le 4 0x0864C01D ++ le 1 s.mw.fuses.variant ++ le 1 s.pkgid.toNat ++ le 1 d.code ++ le 1 (s.role d) ++ serial .t0 ++ serial .t1 ++
      le 4 x.rm.fwVersion.toNat ++ le 1 1 ++ le 1 (s.phaseCode d) ++ le 1 (s.die s.lead).cfg.trapeze.homeFlier.code ++
      le 1 (packBits [x.fuses.inject, decide (x.fuses.debugState ≠ 0) && s.mw.dbgPort.unlocked == 0]) ++ le 8 s.mw.image.imageId ++
      le 8 (packBits ((List.range 64).map s.jointPresent)) ++ le 1 (2 ^ s.rings - 1) ++ le 1 0xFF ++ le 1 0x3F ++ le 1 0x0F ++ zeros 12 ++
      s.dieBytes .t0 ++ s.dieBytes .t1) true

/-- The 16 bytes of Table 3.14a about one die. -/
def Die.statusBytes (x : Die) : List Byte :=
  let core := fun (k : Nat) => x.fenced.contains (0, k / 8, k % 8)
  let gone := fun (k : Nat) => x.removed.contains (if k < 4 then (0, k) else (1, k - 4))
  le 4 (packBits ((List.range 32).map core)) ++ le 2 (packBits ((List.range 10).map gone)) ++
    le 1 (packBits ((List.range 4).map fun k => x.fenced.contains (2, 0, k))) ++ le 1 x.rm.held.length ++ zeros 8

/-- Body of `GET_STATUS` (R89, Table 3.14a). A HALTED Catcher is reported as not eligible. DEDUCED. -/
def bodyGetStatus (_h : HostCmd) (_d : DieId) (s : State) : Answer :=
  let f := s.lead
  let x := s.die f
  answer s
    (le 8 s.mw.b ++ le 1 (s.phaseCode f) ++ le 1 f.code ++ le 1 (min 3 s.catcherState) ++ le 1 (b2n x.cfg.trapeze.latent) ++ le 4 x.staging.count ++
      le 8 (match x.commit with
        | some c => c.bc
        | none => 0) ++ s.t0.statusBytes ++ s.t1.statusBytes ++ le 32 x.events.pending.toNat ++ zeros 8)

/-! ### Table 3.14 -/

/-- A row of Table 3.14: AT_EPOCH permitted, single submission permitted, executes in Blossom (0 no, 1 yes, 2 under the jog conditions), a command each die
executes on its own state, and the target kinds it takes: the kind, ALL accepted, least and greatest PLEN. -/
structure OpInfo where
  atEpoch : Bool
  single  : Bool
  blossom : Nat
  perDie  : Bool
  kinds   : List (Nat × Bool × Nat × Nat)
  deriving DecidableEq, Repr

/-- Rows 0x00xx of Table 3.14. -/
def opTable00 : List (Nat × OpInfo) := [
  (0x0000, ⟨true, true, 1, false, [(0, false, 0, 0)]⟩),
  (0x0001, ⟨false, true, 1, true, [(0, false, 0, 0)]⟩),
  (0x0002, ⟨true, true, 1, false, [(0, false, 0, 0)]⟩),
  (0x0010, ⟨false, false, 0, false, [(0, false, 2, 2)]⟩),
  (0x0011, ⟨false, false, 0, false, [(0, false, 1, 1)]⟩),
  (0x0018, ⟨false, false, 0, false, [(0, false, 0, 0)]⟩),
  (0x0020, ⟨false, false, 0, false, [(0, false, 2, 2)]⟩),
  (0x0021, ⟨true, true, 1, false, [(0, false, 0, 0), (7, false, 0, 0)]⟩)]

/-- Rows 0x01xx of Table 3.14. -/
def opTable01 : List (Nat × OpInfo) := [
  (0x0100, ⟨true, true, 1, false, [(0, false, 0, 0)]⟩),
  (0x0101, ⟨true, false, 0, false, [(9, false, 1, 1)]⟩),
  (0x0102, ⟨true, false, 0, false, [(9, false, 1, 1)]⟩),
  (0x0103, ⟨true, false, 0, false, [(9, false, 3, 3)]⟩),
  (0x0110, ⟨false, false, 0, false, [(9, false, 2, 2)]⟩),
  (0x0111, ⟨false, true, 1, false, [(9, false, 0, 0)]⟩),
  (0x0120, ⟨false, false, 0, false, [(0, false, 2, 2)]⟩),
  (0x0121, ⟨false, false, 0, false, [(0, false, 1, 1)]⟩),
  (0x0130, ⟨false, false, 0, false, [(0, false, 3, 3), (10, false, 1, 1), (6, false, 1, 1)]⟩),
  (0x0131, ⟨false, true, 1, false, [(10, false, 0, 0)]⟩),
  (0x0140, ⟨false, false, 0, false, [(0, false, 8, 8)]⟩)]

/-- Rows 0x02xx of Table 3.14. -/
def opTable02 : List (Nat × OpInfo) := [
  (0x0200, ⟨false, false, 0, false, [(3, false, 2, 2)]⟩),
  (0x0201, ⟨false, false, 0, false, [(4, false, 2, 2)]⟩),
  (0x0202, ⟨true, true, 1, false, [(3, false, 0, 0)]⟩),
  (0x0203, ⟨false, true, 1, false, [(3, false, 0, 0)]⟩),
  (0x0204, ⟨true, true, 1, false, [(3, false, 0, 0), (4, false, 0, 0)]⟩),
  (0x0205, ⟨true, false, 1, false, [(4, false, 1, 8)]⟩),
  (0x0206, ⟨false, false, 1, false, [(3, false, 1, 1)]⟩),
  (0x0207, ⟨true, false, 1, false, [(3, true, 1, 1)]⟩)]

/-- Rows 0x03xx of Table 3.14. -/
def opTable03 : List (Nat × OpInfo) := [
  (0x0300, ⟨false, false, 0, false, [(1, false, 4, 4), (2, false, 2, 2)]⟩),
  (0x0301, ⟨false, false, 0, false, [(1, false, 5, 5)]⟩),
  (0x0302, ⟨true, false, 2, false, [(1, true, 1, 1), (2, true, 1, 1)]⟩),
  (0x0303, ⟨true, false, 2, false, [(1, true, 0, 0), (2, true, 0, 0)]⟩),
  (0x0304, ⟨true, false, 0, false, [(1, false, 3, 3)]⟩),
  (0x0305, ⟨true, false, 2, false, [(1, false, 2, 2)]⟩),
  (0x0306, ⟨true, false, 0, false, [(1, false, 1, 28)]⟩),
  (0x0307, ⟨true, false, 0, false, [(1, false, 0, 0)]⟩),
  (0x0308, ⟨false, false, 0, false, [(1, false, 9, 9)]⟩),
  (0x0309, ⟨false, false, 0, false, [(1, false, 1, 1)]⟩),
  (0x030A, ⟨true, true, 1, false, [(1, false, 0, 0)]⟩),
  (0x030B, ⟨true, false, 1, false, [(1, true, 1, 1), (2, true, 1, 1)]⟩),
  (0x030C, ⟨false, false, 0, false, [(1, false, 3, 3)]⟩)]

/-- Rows 0x04xx of Table 3.14. -/
def opTable04 : List (Nat × OpInfo) := [
  (0x0400, ⟨false, false, 0, false, [(1, true, 4, 4)]⟩),
  (0x0401, ⟨false, false, 0, false, [(1, false, 5, 5)]⟩),
  (0x0402, ⟨false, false, 0, false, [(1, false, 7, 7)]⟩),
  (0x0403, ⟨false, false, 0, false, [(6, false, 1, 30)]⟩),
  (0x0404, ⟨false, true, 1, false, [(6, false, 1, 1)]⟩),
  (0x0405, ⟨true, false, 0, false, [(1, false, 1, 30), (2, false, 1, 30)]⟩),
  (0x0406, ⟨false, false, 0, false, [(1, false, 4, 4)]⟩),
  (0x0407, ⟨true, true, 1, false, [(1, false, 0, 0)]⟩)]

/-- Rows 0x05xx of Table 3.14. -/
def opTable05 : List (Nat × OpInfo) := [
  (0x0500, ⟨false, false, 0, false, [(0, false, 8, 8)]⟩),
  (0x0501, ⟨false, false, 0, false, [(1, true, 3, 3), (2, true, 3, 3)]⟩),
  (0x0502, ⟨true, false, 0, false, [(2, false, 2, 30)]⟩),
  (0x0503, ⟨false, false, 0, false, [(6, false, 15, 15)]⟩),
  (0x0504, ⟨true, true, 0, false, [(0, false, 0, 0)]⟩),
  (0x0505, ⟨true, true, 0, false, [(1, false, 1, 1)]⟩),
  (0x0506, ⟨false, false, 0, false, [(0, false, 1, 1)]⟩)]

/-- Rows 0x06xx of Table 3.14. -/
def opTable06 : List (Nat × OpInfo) := [
  (0x0600, ⟨false, false, 0, false, [(6, false, 1, 30)]⟩),
  (0x0601, ⟨false, false, 0, false, [(6, false, 27, 27)]⟩),
  (0x0602, ⟨false, false, 0, false, [(2, false, 5, 5), (6, false, 2, 2), (0, false, 1, 1)]⟩),
  (0x0603, ⟨false, false, 0, false, [(6, false, 4, 4)]⟩),
  (0x0604, ⟨false, false, 0, false, [(5, false, 4, 4)]⟩),
  (0x0605, ⟨true, false, 0, false, [(5, false, 2, 2)]⟩),
  (0x0606, ⟨true, false, 0, false, [(5, false, 1, 1)]⟩),
  (0x0607, ⟨true, true, 1, false, [(0, false, 0, 0)]⟩),
  (0x0608, ⟨false, false, 0, false, [(0, false, 1, 1)]⟩)]

/-- Rows 0x07xx of Table 3.14. -/
def opTable07 : List (Nat × OpInfo) := [
  (0x0700, ⟨false, false, 0, false, [(0, false, 1, 1), (8, false, 1, 1)]⟩),
  (0x0701, ⟨false, false, 0, false, [(0, false, 1, 1), (8, false, 2, 2)]⟩),
  (0x0702, ⟨true, false, 0, false, [(0, false, 1, 1)]⟩),
  (0x0703, ⟨true, true, 1, false, [(0, false, 0, 0)]⟩),
  (0x0704, ⟨true, false, 1, false, [(0, false, 1, 1)]⟩),
  (0x0705, ⟨false, false, 0, false, [(0, false, 1, 1)]⟩),
  (0x0706, ⟨false, false, 0, false, [(8, false, 4, 4)]⟩),
  (0x0707, ⟨false, false, 0, false, [(0, false, 2, 2)]⟩)]

/-- Rows 0x08xx of Table 3.14. -/
def opTable08 : List (Nat × OpInfo) := [
  (0x0800, ⟨true, true, 1, false, [(0, false, 0, 0)]⟩),
  (0x0801, ⟨false, false, 0, false, [(0, false, 4, 4)]⟩),
  (0x0802, ⟨false, false, 0, false, [(0, false, 0, 0)]⟩),
  (0x0803, ⟨true, false, 0, false, [(0, false, 1, 1)]⟩),
  (0x0804, ⟨false, false, 1, false, [(0, false, 1, 1)]⟩)]

/-- Rows 0x09xx of Table 3.14. -/
def opTable09 : List (Nat × OpInfo) := [
  (0x0900, ⟨true, false, 0, false, [(0, false, 2, 2), (1, false, 2, 2), (2, false, 2, 2), (3, false, 2, 2), (4, false, 2, 2), (5, false, 2, 2), (6, false, 2, 2), (7, false, 2, 2), (8, false, 2, 2), (9, false, 2, 2), (10, false, 2, 2), (11, false, 2, 2), (12, false, 2, 2)]⟩),
  (0x0901, ⟨false, false, 0, false, [(12, false, 1, 1), (0, false, 1, 1)]⟩),
  (0x0902, ⟨true, true, 1, true, [(0, false, 0, 0), (12, false, 0, 0)]⟩),
  (0x0903, ⟨false, false, 1, true, [(0, false, 4, 4)]⟩),
  (0x0904, ⟨true, false, 0, false, [(7, false, 0, 0)]⟩),
  (0x0905, ⟨true, true, 1, true, [(0, false, 0, 0)]⟩)]

/-- Rows 0x0Axx of Table 3.14. -/
def opTable0A : List (Nat × OpInfo) := [
  (0x0A00, ⟨true, false, 1, true, [(0, false, 1, 1), (7, false, 1, 1)]⟩),
  (0x0A01, ⟨true, false, 1, true, [(0, false, 0, 0), (7, false, 0, 0)]⟩),
  (0x0A02, ⟨false, true, 1, true, [(0, false, 1, 1), (7, false, 1, 1)]⟩),
  (0x0A03, ⟨false, false, 0, true, [(0, false, 1, 1), (7, false, 1, 1)]⟩),
  (0x0A04, ⟨true, true, 1, true, [(0, false, 1, 1), (7, false, 1, 1)]⟩)]

/-- Rows 0x0Bxx of Table 3.14. -/
def opTable0B : List (Nat × OpInfo) := [
  (0x0B00, ⟨false, false, 0, false, [(6, false, 1, 30)]⟩),
  (0x0B01, ⟨false, false, 0, false, [(6, false, 1, 30)]⟩),
  (0x0B02, ⟨false, true, 1, false, [(6, false, 1, 1)]⟩),
  (0x0B03, ⟨false, true, 1, true, [(0, false, 1, 1)]⟩),
  (0x0B04, ⟨false, true, 1, true, [(0, false, 0, 0)]⟩),
  (0x0B05, ⟨true, true, 1, false, [(0, false, 0, 0), (7, false, 0, 0)]⟩)]

/-- Table 3.14. -/
def opTable : List (Nat × OpInfo) :=
  opTable00 ++ opTable01 ++ opTable02 ++ opTable03 ++ opTable04 ++ opTable05 ++ opTable06 ++ opTable07 ++ opTable08 ++ opTable09 ++ opTable0A ++ opTable0B

/-- The row of an opcode. -/
def opInfo (opcode : Nat) : Option OpInfo := (opTable.find? fun e => e.1 == opcode).map fun e => e.2

/-- The meaning of an opcode on the die that executes it. -/
def bodyOf (opcode : Nat) : Option (HostCmd → DieId → State → Answer) :=
  match opcode with
  | 0x0000 => some bodyNop
  | 0x0001 => some bodyIdentify
  | 0x0002 => some bodyGetStatus
  | 0x0010 => some bodyConfigPeriods
  | 0x0011 => some bodyConfigDeadline
  | 0x0018 => some bodyConfigDiscard
  | 0x0020 => some bodyCommit
  | 0x0021 => some bodyGetBoundary
  | 0x0100 => some bodyTimeGet
  | 0x0101 => some bodyTimeSetIncrement
  | 0x0102 => some bodyTimeOffset
  | 0x0103 => some bodyTimeForceStep
  | 0x0110 => some bodyConfigPtp
  | 0x0111 => some bodyPtpStatus
  | 0x0120 => some bodyConfigTpo
  | 0x0121 => some bodyTpiStream
  | 0x0130 => some bodyConfigSwitch
  | 0x0131 => some bodyCellPortStatus
  | 0x0140 => some bodyConfigCellPeers
  | 0x0200 => some bodyConfigRing
  | 0x0201 => some bodyConfigNode
  | 0x0202 => some bodyRingStatus
  | 0x0203 => some bodyRingScan
  | 0x0204 => some bodyRingCounters
  | 0x0205 => some bodyMailboxSend
  | 0x0206 => some bodyMailboxStream
  | 0x0207 => some bodyRingStop
  | 0x0300 => some bodyConfigJoint
  | 0x0301 => some bodyConfigLimits
  | 0x0302 => some bodyJointEnable
  | 0x0303 => some bodyJointDisable
  | 0x0304 => some bodyMovePoint
  | 0x0305 => some bodyMoveVelocity
  | 0x0306 => some bodyStreamPoints
  | 0x0307 => some bodyHome
  | 0x0308 => some bodyConfigHoming
  | 0x0309 => some bodyConfigStandstill
  | 0x030A => some bodyJointStatus
  | 0x030B => some bodyJointStop
  | 0x030C => some bodyConfigFollowing
  | 0x0400 => some bodyConfigControl
  | 0x0401 => some bodyConfigFilter
  | 0x0402 => some bodyConfigFeedforward
  | 0x0403 => some bodyTableWrite
  | 0x0404 => some bodyTableRead
  | 0x0405 => some bodyExtTorque
  | 0x0406 => some bodyConfigFeedback
  | 0x0407 => some bodyControlStatus
  | 0x0500 => some bodyConfigJuggler
  | 0x0501 => some bodyConfigWeights
  | 0x0502 => some bodyReferenceLoad
  | 0x0503 => some bodyConfigRows
  | 0x0504 => some bodyJugglerStatus
  | 0x0505 => some bodyPlanRead
  | 0x0506 => some bodyPlanStream
  | 0x0600 => some bodyConfigGeometry
  | 0x0601 => some bodyConfigKinematics
  | 0x0602 => some bodyConfigSsmParams
  | 0x0603 => some bodyConfigSensor
  | 0x0604 => some bodyConfigZone
  | 0x0605 => some bodyZoneRequest
  | 0x0606 => some bodyZoneRelease
  | 0x0607 => some bodySepStatus
  | 0x0608 => some bodySepStream
  | 0x0700 => some bodyConfigInputs
  | 0x0701 => some bodyConfigOutputs
  | 0x0702 => some bodyFioWrite
  | 0x0703 => some bodyFioRead
  | 0x0704 => some bodyFioRearm
  | 0x0705 => some bodyConfigWatchdog
  | 0x0706 => some bodyConfigEncoder
  | 0x0707 => some bodyConfigSafetyInputs
  | 0x0800 => some bodyTrapezeStatus
  | 0x0801 => some bodyConfigTrapeze
  | 0x0802 => some bodySyncStart
  | 0x0803 => some bodySwitchOver
  | 0x0804 => some bodyHealthStream
  | 0x0900 => some bodyFaultInject
  | 0x0901 => some bodyConfigEvents
  | 0x0902 => some bodyEventRead
  | 0x0903 => some bodyEventClear
  | 0x0904 => some bodyPlaceTest
  | 0x0905 => some bodyFaultStatus
  | 0x0A00 => some bodyPreserveFreeze
  | 0x0A01 => some bodyPreserveThaw
  | 0x0A02 => some bodyPreserveRead
  | 0x0A03 => some bodyConfigStatistics
  | 0x0A04 => some bodyStatsRead
  | 0x0B00 => some bodyCodeLoad
  | 0x0B01 => some bodyConfigProgram
  | 0x0B02 => some bodyProgramRead
  | 0x0B03 => some bodyTraceOpen
  | 0x0B04 => some bodyTraceClose
  | 0x0B05 => some bodyDispatchStatus
  | _ => none

end Sys2Proof.Machine
end

