-- ==== Sys2Proof/Machine/Ringmaster.lean ====
section
/-! DEFINITION. The Ringmaster (chapter 3): dequeuing (R68, R73), the checks of R76, at-epoch holding (R80), dual submission and pairing (R82, R83, R86),
place commands (R28), relaying (R85), and what a new Flier does with its copies (R84). -/

namespace Sys2Proof.Machine

/-! ### The command packet (R75) -/

/-- FLAGS of a command (Table 3.9). -/
def dueReply (h : HostCmd) : Bool := bit h.flags.toNat 0
def atEpoch (h : HostCmd) : Bool := bit h.flags.toNat 1
def dual (h : HostCmd) : Bool := bit h.flags.toNat 2

/-- Slots a command occupies (R75). -/
def cmdSlots (h : HostCmd) : Nat := if 30 < h.plen.toNat then 4 else (16 + 8 * h.plen.toNat + 63) / 64

/-- Header and parameters, over which a notice carries the CRC-32 (R82). -/
def cmdBytes (opcode : Nat) (h : HostCmd) : List Byte :=
  le 2 opcode ++ [h.flags, h.plen] ++ le 2 h.tag.toNat ++ le 2 h.seq.toNat ++ le 4 h.target.toNat ++ le 4 h.epoch.toNat ++ h.params

/-- The queue block of a command's queue. -/
def cmdQueue (h : HostCmd) : Fin 64 := ⟨h.queue.val, by omega⟩

/-- DIE of a place target. -/
def placeCode (h : HostCmd) : Nat := bits h.target.toNat 25 24

/-! ### Dequeuing (R68, R73, R86) -/

/-- The remembered command is still executing: any but a `COMMIT`, which completes with its acceptance, and an at-epoch command, whose boundary has been (R73). -/
def Awaiting.executes (w : Awaiting) : Bool := w.opcode != 0x0020 && !atEpoch w.cmd

/-- The queue's previous command has not completed: an at-epoch command is held, a copy waits for its notice, or a command still executes (R73, R87). -/
def Die.blocked (x : Die) (q : Fin 32) : Bool :=
  x.rm.held.any (fun h => h.cmd.queue == q) || x.rm.copies.any (fun c => c.cmd.queue == q) ||
    x.rm.awaiting.any fun w => w.executes && w.cmd.queue == q

/-- Ringmaster cores of the die that can run: not fenced, not halted by a debug session. -/
def Die.ringmasters (x : Die) : Nat := ((List.range 4).filter fun k => !x.fenced.contains (2, 0, k) && !x.rm.halted.getLsbD k).length

/-- A core is free: each command that still executes keeps one (R73). -/
def Die.coreFree (x : Die) : Bool := decide ((x.rm.awaiting.filter Awaiting.executes).length < x.ringmasters)

/-- The command queue has a ready command: it runs, all slots of the command at its head lie before its tail (R68), and nothing of it is unfinished. How many slots that command has
stands in host memory: a free value. -/
def State.hasReady (s : State) (d : DieId) (q : Fin 32) : Bool :=
  let b := s.queue d ⟨q.val, by omega⟩
  let need := 1 + Config.headSlots (64 * d.code + q.val) b.head b.tail % 4
  b.state == .running && !b.draining && decide (0 < b.span b.head b.tail) && decide (need ≤ b.span b.head b.tail) && !(s.die d).blocked q

/-- Distance of a queue from the one its class was served last, in the round of queue numbers: 0 for the next one (R73). -/
def Die.turn (x : Die) (cls : Nat) (q : Fin 32) : Nat := (q.val + 31 - x.rm.served[cls % 4]'(Nat.mod_lt _ (by decide))) % 32

/-- The queue whose turn it is: of the highest class with a ready command, the first after the one served last (R73). -/
def State.hasTurn (s : State) (d : DieId) (q : Fin 32) : Bool :=
  let cls := fun (k : Fin 32) => (s.queue d ⟨k.val, by omega⟩).priority
  (List.finRange 32).all fun k => k == q || !s.hasReady d k || decide (cls q < cls k) ||
    (cls q == cls k && decide ((s.die d).turn (cls q) q < (s.die d).turn (cls q) k))

/-- The next command of this queue can be dequeued: the function's link is up and masters the bus (R63), the queue runs and all of the command's
slots lie before the tail (R68), nothing of the queue is unfinished, it is the queue's turn and a Ringmaster core is free (R73), and the die is in no state that reads
nothing. -/
def State.canDequeue (s : State) (h : HostCmd) : Bool :=
  let x := s.die h.die
  let q := s.queue h.die (cmdQueue h)
  x.present && (x.status == .running || x.status == .sync) && x.coreFree && x.port.linkUp && x.port.busMaster && !x.port.lost &&
    q.state == .running && !q.draining && decide (cmdSlots h ≤ q.span q.head q.tail) && !x.blocked h.queue && s.hasTurn h.die h.queue

/-- The head shadow of a command queue (R68). There is none where SHADOW_LO and SHADOW_HI are both 0; an address whose bits [2:0] are not zero is used as it stands. DESIGN CHOICE:
Table 3.4 says "0 = none" of SHADOW_LO alone, where an address with a high half may have a low half of 0, and gives no effect of low bits that are not zero. -/
def State.headShadow (s : State) (d : DieId) (q : Fin 64) : State :=
  let b := s.queue d q
  let a := b.shadowLo.toNat + 2 ^ 32 * b.shadowHi.toNat
  if a = 0 then s else s.emit (.headShadow d q.val a b.head s.epoch)

/-- A command leaves its queue: HEAD moves past its slots, EXPECTED_SEQ is set to SEQ + 1, the head shadow is written (R68, R75, R76). R76 sets EXPECTED_SEQ
at its step 4; a command that fails steps 1 to 3 sets it here too. DESIGN CHOICE of the last. -/
def State.dequeue (s : State) (h : HostCmd) : State :=
  let cls := (s.queue h.die (cmdQueue h)).priority
  let s := s.onDie h.die fun x => { x with rm := { x.rm with served := x.rm.served.set (cls % 4) h.queue.val (Nat.mod_lt _ (by decide)) } }
  let s := s.onQueue h.die (cmdQueue h) fun q => { q with head := (q.head + cmdSlots h) % q.depth, expectedSeq := h.seq + 1 }
  s.headShadow h.die (cmdQueue h)

/-! ### The checks of R76 -/

/-- PLEN is permitted for the opcode: for the target's kind where the opcode takes it, else for some kind it takes. -/
def OpInfo.plenOk (o : OpInfo) (h : HostCmd) : Bool :=
  let fits := fun (k : Nat × Bool × Nat × Nat) => within h.plen.toNat k.2.2.1 k.2.2.2
  match o.kinds.find? fun k => k.1 == tKind h.target with
  | some k => fits k
  | none => o.kinds.any fits

/-- Steps 1 to 4, which every die makes on its own copy. -/
def entryCheck (opcode : Nat) (h : HostCmd) (expected : BitVec 16) : Option Nat :=
  match opInfo opcode with
  | none => some St.badOpcode
  | some o => firstFail [
    (!o.plenOk h, St.badLength),
    (decide (8 ≤ h.flags.toNat) || (atEpoch h && !o.atEpoch), St.range),
    (h.seq != expected, St.wrongState)]

/-- Step 6: the phase permits the opcode (Table 3.14, R470, R472). -/
def State.phaseOk (s : State) (o : OpInfo) : Bool :=
  s.phase == .ripe || o.blossom == 1 || (o.blossom == 2 && s.phase == .blossom && s.mw.image.applied)

/-- Step 7: the kind is one the opcode takes, the INDEX is well formed, PACKAGE is this package's (R77). The status commands name a Trapeze die
(R62, R282). -/
def State.targetOk (s : State) (opcode : Nat) (o : OpInfo) (h : HostCmd) : Bool :=
  let w := h.target
  let named := match opcode with
    | 0x0021 | 0x0B05 => tKind w != 7 || decide (placeCode h < 2)
    | 0x0700 => tKind w != 8 || tClass w == 0
    | 0x0701 => tKind w != 8 || tClass w == 1
    | 0x0706 => tClass w == 2
    | _ => true
  (match o.kinds.find? fun k => k.1 == tKind w with
    | some k => indexOk (tKind w) (tIndex w) k.2.1
    | none => false) && tPackage w == s.pkgid.toNat && named

/-- A place of MW is present in the variant. -/
def State.mwPresent (s : State) : PlaceScope → Bool
  | .unit 0 c _ => decide (c < s.rings)
  | .cluster 0 c => decide (c < s.rings)
  | _ => true

/-- Step 8: the target is absent from the variant, fenced or removed (R27). -/
def State.targetAbsent (s : State) (d : DieId) (h : HostCmd) : Bool :=
  let i := tIndex h.target
  match tKind h.target with
  | 1 => i != tAll && !s.jointPresent i
  | 3 => i != tAll && decide (s.rings ≤ i)
  | 4 => decide (s.rings ≤ i / 16)
  | 7 => match placeScope i with
    | some (0, p) => !s.placePresent .t0 p
    | some (1, p) => !s.placePresent .t1 p
    | some (2, p) => !s.mwPresent p
    | some (_, p) => !s.placePresent d p
    | none => true
  | _ => false

/-- Step 10: distance of the named boundary from the last one, none where it has passed (R35). -/
def State.epochAhead (s : State) (h : HostCmd) : Option Nat :=
  let d := (h.epoch - BitVec.ofNat 32 s.epoch).toNat
  if d = 0 ∨ 2 ^ 31 ≤ d then none else some d

/-- Steps 6 to 10 on a die. -/
def State.check (s : State) (d : DieId) (opcode : Nat) (o : OpInfo) (h : HostCmd) : Option Nat :=
  firstFail [
    (!s.phaseOk o, St.wrongState),
    (!s.targetOk opcode o h, St.badTarget),
    (s.targetAbsent d h, St.unitAbsent),
    (opcode == 0x0900 && !s.injectOk d, St.auth),
    (atEpoch h && (s.epochAhead h).isNone, St.epochPassed)]

/-! ### Execution -/

/-- The die a command's meaning runs on: the one its place names, else the one that executes it (R28). -/
def actingDie (h : HostCmd) (d : DieId) : DieId :=
  if tKind h.target = 7 then (match placeCode h with
    | 0 => .t0
    | 1 => .t1
    | _ => d) else d

/-- OWN of a reply (R28, R83; chapter 15 sets it in all of its replies). -/
def ownReply (opcode : Nat) (h : HostCmd) (own : Bool) : Bool :=
  decide (opcode / 256 = 10) || (tKind h.target == 7 && placeCode h == 3) || (own && !(tKind h.target == 7 && decide (placeCode h < 2)))

/-- Step 11 and the command's effect, on the die that acts for `d`. A place on a die that executes nothing answers `UNIT_ABSENT` (R28), as does
one that is absent, fenced or removed as the command starts, whatever it was when the command was checked (R27, R31). -/
def State.act (s : State) (d : DieId) (opcode : Nat) (h : HostCmd) : Answer :=
  let n := actingDie h d
  let gone := tKind h.target == 7 && s.targetAbsent d h
  match bodyOf opcode with
  | none => reject s St.badOpcode
  | some f =>
    let r := if (s.die n).works && !gone then f h n s else reject s St.unitAbsent
    (r.1, { r.2 with own := ownReply opcode h r.2.own })

/-- Hold an at-epoch command (R80). -/
def State.hold (s : State) (d : DieId) (opcode : Nat) (h : HostCmd) : State :=
  let k : Held := { opcode := opcode, cmd := h, b := s.mw.b + (s.epochAhead h).getD 0 }
  s.onDie d fun x => { x with rm := { x.rm with held := x.rm.held ++ [k] } }

/-- The command's answer is known: it is sent, or remembered where it comes later. -/
def State.settle (s : State) (d : DieId) (opcode : Nat) (h : HostCmd) (r : Reply) : State :=
  if r.status = St.later then s.awaitReply d opcode h else s.finish d opcode h r

/-- Steps 6 to 11 on a die that decides for itself, with the answer it gives. An at-epoch command is held (R80). -/
def State.execute (s : State) (d : DieId) (opcode : Nat) (o : OpInfo) (h : HostCmd) (alone : Bool) : State × Reply :=
  let r : State × Reply := match s.check d opcode o h with
    | some st => reject s st
    | none =>
      if atEpoch h then (if 64 ≤ (s.die d).rm.held.length then reject s St.busy else (s.hold d opcode h, { status := St.later }))
      else s.act d opcode h
  let q : Reply := { r.2 with own := alone || ownReply opcode h r.2.own }
  if atEpoch h ∧ q.status = St.later then (r.1, q) else (r.1.settle d opcode h q, q)

/-- The die carries out what the Flier's commands change: an eligible or synced Catcher that is not LATENT (R82, R393, R405), or a new holder that replays
(R84), once it has woken where it was LATENT (R406). -/
def State.followsFlier (s : State) (d : DieId) : Bool :=
  let p := (s.die d).partner
  (s.die d).works && ((s.isFlier d && (!p.latentGated || p.ready)) || ((p.eligible || p.synced) && !p.latentGated))

/-- The Catcher runs this command on its own state and answers for itself: a place naming the executing die, or a per-die command (R28, R83), which an
ineligible or LATENT Catcher runs only where it is a single-submission opcode (R393). -/
def State.actsAlone (s : State) (d : DieId) (o : OpInfo) (h : HostCmd) : Bool :=
  (tKind h.target == 7 && placeCode h == 3) || (o.perDie && tKind h.target != 7 && (s.followsFlier d || o.single))

/-- The effect of a command the Flier accepted on a Catcher that pairs, with what it answers there; a place command has had its effect on the die it names (R28). -/
def State.effectOn (s : State) (d : DieId) (opcode : Nat) (h : HostCmd) : Answer :=
  if tKind h.target = 7 then reject s St.unitAbsent
  else match bodyOf opcode with
  | none => reject s St.badOpcode
  | some f => f h d s

/-- That effect alone. -/
def State.takeEffect (s : State) (d : DieId) (opcode : Nat) (h : HostCmd) : State := (s.effectOn d opcode h).1

/-- The Catcher's copy meets the Flier's notice (R82, R83, R393). -/
def State.adopt (s : State) (d : DieId) (c : Copy) (n : Notice) : State :=
  match opInfo c.opcode with
  | none => s
  | some o =>
    let r : Reply := { n.reply with own := false }
    if s.actsAlone d o c.cmd then
      if atEpoch c.cmd then
        match s.check d c.opcode o c.cmd with
        | some st => s.finish d c.opcode c.cmd { status := st, own := true }
        | none => s.hold d c.opcode c.cmd
      else
        let a := s.act d c.opcode c.cmd
        a.1.settle d c.opcode c.cmd (if a.2.own then a.2 else r)
    else if r.rejects ∧ r.status ≠ St.later then s.finish d c.opcode c.cmd r
    else if atEpoch c.cmd ∧ r.status = St.later then s.hold d c.opcode c.cmd
    else if n.contained && (!atEpoch c.cmd || (s.die d).partner.journalB.any fun e => decide (n.b ≤ e)) then s.settle d c.opcode c.cmd r
    else
      let during := fun (s : State) (b : Option Nat) => s.onDie d fun x => { x with rm := { x.rm with flierB := b } }
      let s := if s.followsFlier d then during ((during s (some n.b)).takeEffect d c.opcode c.cmd) none
        else if (s.die d).partner.latentGated then s.onDie d fun x => { x with rm := { x.rm with latent := x.rm.latent ++ [{ copy := c, no := some n.no, b := n.b }] } }
        else s
      s.settle d c.opcode c.cmd r

/-- `DUAL_MISMATCH` with OWN = 1 (R82). -/
def State.dualMismatch (s : State) (d : DieId) (c : Copy) : State := s.finish d c.opcode c.cmd { status := St.dualMismatch, own := true }

/-- A copy belongs to a notice. -/
def Notice.names (n : Notice) (c : Copy) : Bool := n.queue == c.cmd.queue.val && n.seq == c.cmd.seq.toNat

/-- Pair notices with copies in the order of the notices, up to the first that has not come or has no copy (R82). -/
def State.pairUp : Nat → DieId → State → State
  | 0, _, s => s
  | fuel + 1, d, s =>
    match (s.die d).rm.notices with
    | [] => s
    | n :: rest =>
      match (s.die d).rm.copies.find? n.names with
      | none => s
      | some c =>
        if !n.arrived then s
        else
          let s := s.onDie d fun x => { x with rm := { x.rm with notices := rest, copies := x.rm.copies.filter fun v => v != c } }
          let s := if n.crc = crc32 (cmdBytes c.opcode c.cmd) then s.adopt d c n else (s.dualMismatch d c).catcherLost d 2
          State.pairUp fuel d s

/-- Pair what can be paired on a die. -/
def State.pairAll (s : State) (d : DieId) : State := s.pairUp (s.die d).rm.notices.length d

/-- The Flier's notice to the other die (R82), where that die pairs commands (R86) and can be reached (R17). -/
def State.notify (s : State) (c : DieId) (opcode : Nat) (h : HostCmd) (r : Reply) : State :=
  if (s.die c).works && s.linked then
    let n : Notice := { queue := h.queue.val, seq := h.seq.toNat, crc := crc32 (cmdBytes opcode h), atNs := s.now, reply := r, b := s.mw.b, no := (s.die c).rm.noticed }
    s.onDie c fun x => { x with rm := { x.rm with notices := x.rm.notices ++ [n], noticed := x.rm.noticed + 1 } }
  else s

/-- What a die does with a command it has dequeued, or that was relayed to it (R76, R82, R86). A dual-submitted command that fails steps 1 to 3 fails them on both
dies, whose replies are the two copies of one (R83). DEDUCED. Step 4 looks at the die's own queue: what fails there on the Catcher is a copy that the Flier's notice will not find, and
its answer is the Catcher's own, with OWN = 1 as in R82. DEDUCED. -/
def State.receive (s : State) (d : DieId) (opcode : Nat) (h : HostCmd) (expected : BitVec 16) : State :=
  let flier := s.isFlier d
  if !(s.die d).works then s
  else match entryCheck opcode h expected, opInfo opcode with
  | some st, _ => s.finish d opcode h { status := st, own := s.hasPartner && (!dual h || (!flier && s.mw.trapeze.token.isSome && (entryCheck opcode h h.seq).isNone)) }
  | none, none => s
  | none, some o =>
    if !s.hasPartner then (s.execute d opcode o h false).1
    else if !dual h then
      if o.single then (s.execute d opcode o h true).1 else s.finish d opcode h { status := St.notEligible, own := true }
    else if flier then
      let r := s.execute d opcode o h false
      r.1.notify d.other opcode h r.2
    else
      let c : Copy := { opcode := opcode, cmd := h, atNs := s.now }
      (s.onDie d fun x => { x with rm := { x.rm with copies := x.rm.copies ++ [c] } }).pairAll d

/-- The dies a command dequeued at a port goes to: its own die, and the die behind a lost port (R85), the Flier first. -/
def State.receivers (s : State) (d : DieId) : List DieId :=
  if s.hasPartner && (s.die d.other).port.lost && s.linked then (if s.isFlier d then [d, d.other] else [d.other, d]) else [d]

/-- A command is dequeued from its queue and dealt with. Where it cannot be dequeued, nothing happens. -/
def hostCommand (opcode : Nat) (h : HostCmd) (s : State) : Result :=
  if s.canDequeue h then
    let expected := (s.queue h.die (cmdQueue h)).expectedSeq
    .next ((s.receivers h.die).foldl (fun s d => s.receive d opcode h expected) (s.dequeue h))
  else .next s

/-! ### At-epoch execution (R74, R80) -/

/-- Place of a held command at its boundary: class, then queue number (R74). -/
def State.rank (s : State) (d : DieId) (k : Held) : Nat := (s.queue d (cmdQueue k.cmd)).priority * 32 + k.cmd.queue.val

/-- Put a held command among others in the order of R74, after its equals. -/
def State.insertHeld (s : State) (d : DieId) (k : Held) : List Held → List Held
  | [] => [k]
  | v :: r => if s.rank d k < s.rank d v then k :: v :: r else v :: s.insertHeld d k r

/-- The Flier's reply to an at-epoch command reaches the other die, wherever that die keeps the command. -/
def State.tellCatcher (s : State) (c : DieId) (k : Held) (r : Reply) : State :=
  let r : Reply := { r with own := false }
  let mark : Held → Held := fun v => if v.opcode = k.opcode ∧ v.cmd.queue = k.cmd.queue ∧ v.cmd.seq = k.cmd.seq then { v with reply := some r } else v
  if (s.die c).rm.held.any fun v => v.opcode == k.opcode && v.cmd.queue == k.cmd.queue && v.cmd.seq == k.cmd.seq then
    s.onDie c fun x => { x with rm := { x.rm with held := x.rm.held.map mark } }
  else if r.status = St.later then s
  else s.lateReplyOn c k.opcode k.cmd r

/-- One held command executes on a die. On the Catcher the reply is the Flier's, now or once it is known (R83). -/
def State.runHeld (s : State) (d : DieId) (k : Held) : State :=
  let alone := match opInfo k.opcode with
    | some o => s.actsAlone d o k.cmd
    | none => false
  if s.isFlier d || !s.hasPartner || !dual k.cmd || alone then
    let r := s.act d k.opcode k.cmd
    let q : Reply := { r.2 with own := r.2.own || (s.hasPartner && !dual k.cmd) }
    let t := r.1.settle d k.opcode k.cmd q
    if s.isFlier d && s.hasPartner && dual k.cmd then t.tellCatcher d.other k q else t
  else
    let a : State × Option Reply := if s.followsFlier d then
        (let e := s.effectOn d k.opcode k.cmd
         (e.1, some e.2))
      else if (s.die d).partner.latentGated then
        (s.onDie d fun x => { x with rm := { x.rm with
          latent := x.rm.latent ++ [{ copy := { opcode := k.opcode, cmd := k.cmd, atNs := s.now }, no := none, b := s.mw.b }] } }, none)
      else (s, none)
    match k.reply with
    | some r => a.1.settle d k.opcode k.cmd r
    | none => a.1.awaitReply d k.opcode k.cmd a.2

/-- What of a boundary waits for its at-epoch commands, once none is left: the separation cycle and the arbitration of zones (R206), the zone messages that carry what it gave (R230), then
the solve (R103). While the die
still has to switch at this boundary, it waits for that too. -/
def State.afterHeld (s : State) (d : DieId) : State :=
  if (s.die d).opening || (s.die d).holds s.mw.b then s
  else
    let arbitrates := (s.die d).sep.cycle.any fun c => c.due
    let s := s.sepDue d
    (if arbitrates && decide (d = s.lead) then s.sendZones else s).jugglerDue d

/-- The commands held for the boundary that has fired execute, in the order of R74, also those of a queue that has entered the error state since (R71 stops the queue, not
what the die holds: DESIGN CHOICE). -/
def State.executeHeld (s : State) (d : DieId) : State :=
  let due := ((s.die d).rm.held.filter fun k => decide (k.b ≤ s.mw.b)).foldl (fun l k => s.insertHeld d k l) []
  let s := s.onDie d fun x => { x with rm := { x.rm with held := x.rm.held.filter fun k => decide (s.mw.b < k.b) } }
  (due.foldl (fun s k => s.runHeld d k) s).afterHeld d

/-- AT_EPOCH_EXECUTE (R80). -/
def execAtEpochExecute (d : DieId) (s : State) : Result :=
  if !(s.die d).works then .next s else .next (s.executeHeld d)

/-! ### Notices and the pairing window (R82) -/

/-- DEQUEUE_NOTICE (R82): the oldest notice on its way arrives. One for a copy already answered with `DUAL_MISMATCH` costs the Catcher its eligibility. -/
def execDequeueNotice (d : DieId) (s : State) : Result :=
  match (s.die d).rm.notices.find? fun n => !n.arrived with
  | none => .next s
  | some n =>
    let key := (n.queue, n.seq)
    let late := (s.die d).rm.expired.contains key
    let now := s.now
    let mark : List Notice → List Notice := fun l =>
      (l.takeWhile fun v => v.arrived) ++ (if late then [] else [{ n with arrived := true, atNs := now }]) ++ (l.dropWhile fun v => v.arrived).drop 1
    let s := s.onDie d fun x => { x with rm := { x.rm with
      notices := mark x.rm.notices, expired := if late then x.rm.expired.filter fun k => k != key else x.rm.expired } }
    .next (if late then s.catcherLost d 2 else s.pairAll d)

/-- PAIRING_WINDOW_EXPIRY (R82): a notice without a copy, and copies without a notice, after the pairing window. -/
def execPairingWindowExpiry (d : DieId) (s : State) : Result :=
  if s.isFlier d || s.mw.trapeze.token.isNone || !s.hasPartner || !(s.die d).works then .next s
  else
    let x := s.die d
    let over_ := fun (t : Nat) => decide (t + x.cfg.trapeze.pairingNs ≤ s.now)
    let stale := x.rm.notices.filter fun n => n.arrived && over_ n.atNs && !x.rm.copies.any n.names
    let alone := x.rm.copies.filter fun c => over_ c.atNs && !x.rm.notices.any fun n => n.arrived && n.names c
    let s := s.onDie d fun x => { x with rm := { x.rm with
      notices := x.rm.notices.filter fun n => !stale.contains n,
      copies := x.rm.copies.filter fun c => !alone.contains c,
      expired := x.rm.expired ++ alone.map fun c => (c.cmd.queue.val, c.cmd.seq.toNat) } }
    let s := alone.foldl (fun s c => s.dualMismatch d c) s
    let s := if stale.isEmpty then s else s.catcherLost d 2
    .next (s.pairAll d)

/-! ### A new Flier's copies (R84, R398) -/

/-- A new holder answers the commands it carried out before the old one told it their replies: no reply will come from there (R84). -/
def State.ownAnswers (s : State) (d : DieId) : State :=
  (s.die d).rm.awaiting.foldl (fun s w => match w.mine with
    | some r => if r.status = St.later then s else s.lateReplyOn d w.opcode w.cmd { r with own := false }
    | none => s) s

/-- The new holder executes every copy for which it holds a notice, in the order of the notices, then continues as Flier with its own copies. -/
def State.replay (s : State) (d : DieId) : State :=
  let s := s.ownAnswers d
  let x := s.die d
  let paired := x.rm.notices.filterMap fun n => (x.rm.copies.find? n.names).map fun c => (n, c)
  let own := x.rm.copies.filter fun c => !paired.any fun p => p.2 == c
  let s := s.onDie d fun x => { x with rm := { x.rm with notices := [], copies := [] } }
  let s := paired.foldl (fun s p =>
    if p.1.crc = crc32 (cmdBytes p.2.opcode p.2.cmd) then s.adopt d p.2 p.1 else s.dualMismatch d p.2) s
  own.foldl (fun s c => match opInfo c.opcode with
    | some o =>
      let r := s.execute d c.opcode o c.cmd false
      r.1.notify d.other c.opcode c.cmd r.2
    | none => s) s

/-- Where the token has moved, its new holder replays. -/
def State.replayMoved (s : State) (was : Option DieId) : State :=
  match s.mw.trapeze.token with
  | some d => if was = some d then s else s.replay d
  | none => s

/-- A LATENT holder that has woken executes the commands whose notices follow the last journal epoch (R406), each in the period in which the Flier executed it (R187), and answers one
whose reply is still owed (R84). -/
def State.replayLatent (s : State) (d : DieId) : State :=
  let l := (s.die d).rm.latent
  let s := s.onDie d fun x => { x with rm := { x.rm with latent := [] } }
  let during := fun (s : State) (b : Option Nat) => s.onDie d fun x => { x with rm := { x.rm with flierB := b } }
  l.foldl (fun s c =>
    let a := (during s (some c.b)).effectOn d c.copy.opcode c.copy.cmd
    let s := during a.1 none
    let owed := (s.die d).rm.awaiting.any fun w => w.isFor c.copy.opcode c.copy.cmd
    if owed && a.2.status != St.later then s.lateReplyOn d c.copy.opcode c.copy.cmd { a.2 with own := false } else s) s

end Sys2Proof.Machine
end

