-- ==== Sys2Proof/Machine/Boundary.lean ====
section
/-! DEFINITION. Servo boundaries and cut-offs (chapter 2, R32..R48), and the switches of the image's two commits at B_a and B_r
(R471, R475, R476). -/

namespace Sys2Proof.Machine

/-! ### The cut-off (R37, R41..R47, R388) -/

/-- The ROM program of Blossom (R470): in every period the library's feedback, control and ring-pack items run once, in that order. DEDUCED: the spec
names the program and the loops it closes (R472), not its entries. -/
def State.romPeriod (s : State) (d : DieId) : State :=
  let item := fun (lib : LibItem) (inst : Nat) (b : Nat) =>
    ({ entry := 0, inst := inst, b := b, cls := 0, code := [], params := [], bound := 0, stateBytes := 0, stateRead := 0, stateWrite := 0,
       cold := false, lib := lib } : Item)
  let one := fun (s : State) (lib : LibItem) (inst : Nat) =>
    let i := item lib inst s.mw.b
    let k : Core := { blocks := (s.die d).stores.exchange }
    let o := libraryOutputs (s.die d) k i
    s.applyOutputs d i k.blocks o.1 o.2
  if !(s.die d).disp.rom then s
  else
    let rings := List.range s.rings
    let s := rings.foldl (fun (s : State) r => one s .feedback r) s
    let s := (s.die d).windowJoints.foldl (fun (s : State) w => one s .control w.1.val) s
    let s := rings.foldl (fun (s : State) r => one s .ringPack r) s
    s.onDie d fun x => { x with lastOutNs := s.now }

/-- The die whose bank MW freezes at this cut-off: the token holder, with a path 2 heartbeat of the last 10 µs and MW's output switch made
(R388, R399). -/
def State.bankHolder (s : State) : Option DieId :=
  match s.mw.trapeze.token with
  | some d =>
    let p := (s.die d).partner
    if s.computes d && p.mwLinkUp && decide (s.now ≤ p.hbMwNs + 10000) && decide (s.mw.trapeze.switchNs ≤ s.now) then some d else none
  | none => none

/-- MW reads what a die has written to its set-point banks, slot by slot, and the held-output buffers (number 128; R13, R424): a word that cannot be read is late for the
period (R43, R47), and where the same word could not be read after the die's write before this one either, the fault starts the Curtain. -/
def State.readBanks (s : State) : State :=
  let slots := (s.die s.lead).outSlots.filter fun k => decide (k / 16 < s.rings)
  let words := (slots.map fun k => (k, 0, k / 16)) ++ [(128, 2, 1)]
  let one := fun (a : State × List Nat) (w : Nat × Nat × Nat) =>
    let r := a.1.readMwArray w.2.1 w.2.2 (s.mw.bankBad.contains w.1)
    (if r.2.2 then (r.1.startCurtain 1).holdOutputs else r.1, if r.2.1 then a.2 ++ [w.1] else a.2)
  let a := words.foldl one (s, [])
  let unread := s.mw.bankBad.filter fun k => !slots.contains k && decide (k ≠ 128)
  a.1.onMw fun m => { m with bankBad := a.2 ++ unread }

/-- MW freezes a bank (R37, R43): the slots its holder has written are on time with age 0; every other slot that has been written keeps its contents
and ages. Without a valid holder every slot is late. -/
def State.freezeBank (s : State) (f : Option DieId) : State :=
  let fresh := match f with
    | some d => (s.die d).outSlots.filter fun k => !s.mw.bankBad.contains k
    | none => []
  let out := match f with
    | some d => (s.die d).stores.outBank
    | none => []
  s.onMw fun m =>
    let older := (m.bankAge.filter fun e => !fresh.contains e.1).map fun e => (e.1, min 15 (e.2 + 1))
    { m with
      bank := fresh.foldl (fun (k : Memory) slot => k.writeN (64 * slot) (out.readN (64 * slot) 64)) m.bank,
      bankAge := fresh.foldl (fun (a : Sparse Nat) slot => a.set slot 0) older,
      rings := Vector.ofFn fun r : Fin 8 =>
        if fresh.contains (16 * r.val) then { m.rings[r] with asNode := { (m.rings[r]).asNode with outB := m.b } } else m.rings[r] }

/-- MW freezes the field words of the holder (R47, R364). -/
def State.freezeField (s : State) (f : Option DieId) : State :=
  match f with
  | none => s
  | some d =>
    let o := (s.die d).fieldOut
    if s.mw.bankBad.contains 128 then s
    else s.onField fun x => { x with
      itemValue := underMask x.itemValue o.value o.mask, itemMask := x.itemMask ||| o.mask,
      tpoLevel := match o.tpo with
        | some v => some v
        | none => x.tpoLevel }

/-- Joints whose window part has not come to MW, or cannot be read there (R43, R424). -/
def State.lateSlots (s : State) (d : DieId) : List (Fin 64) :=
  let x := s.die d
  (x.windowJoints.filter fun w => !x.outSlots.contains w.2 || s.mw.bankBad.contains w.2).map fun w => w.1

/-- Late joints of a die that count: not those of a cluster under test (R440). -/
def State.countedLate (s : State) (d : DieId) : List (Fin 64) :=
  let x := s.die d
  let out := match x.testedCluster with
    | some k => x.clusterJoints k
    | none => []
  (s.lateSlots d).filter fun j => !out.contains j

/-- Lateness on one die (R43, R45, R47): OVERRUN is counted for the die and for each late joint; an on-time period sets a joint's count back. -/
def State.countOverruns (s : State) (d : DieId) : State :=
  let late := s.countedLate d
  let x := s.die d
  let joints := x.windowJoints.map fun w => w.1
  let step := fun (s : State) (j : Fin 64) =>
    if late.contains j then ((s.count d 1 0 2).count d 2 j.val 0).onJoint d j fun y => { y with overruns := y.overruns + 1 }
    else if (s.lateSlots d).contains j then s
    else s.onJoint d j fun y => { y with overruns := 0 }
  let s := joints.foldl step s
  if x.fieldLate s.mw.b || s.mw.bankBad.contains 128 then s.count d 1 0 2 else s

/-- Late joints at or over the overrun limit in force at this cut-off (R45). -/
def State.overrunJoints (s : State) (d : DieId) : List (Fin 64) :=
  let x := s.die d
  (s.countedLate d).filter fun j => decide (x.cfg.deadline.overrunLimit ≤ (x.joints[j]).overruns)

/-- What a joint's consecutive overruns lead to (R45): on the Flier JOINT_OVERRUN and the fault stop; on the Catcher alone the loss of its
eligibility. -/
def State.actOverruns (s : State) : State :=
  let f := s.lead
  let c := f.other
  let onFlier := if s.computes f then s.overrunJoints f else []
  let onCatcher := if s.hasPartner && s.computes c then s.overrunJoints c else []
  let stop := fun (s : State) (j : Fin 64) =>
    let s := allDies.foldl (fun s d => if s.computes d then s.faultStop d j 2 else s) s
    s.raise f 32 (s.jointTarget j) []
  let s := onFlier.foldl stop s
  if onCatcher.any fun j => !(s.countedLate f).contains j then s.catcherLost c 4 else s

/-- SLACK_LOW threshold in ns (R59). -/
def Cfg.slackLow (c : Cfg) : Nat := if c.deadline.slackLowNs = 0 then c.periods.tS / 10 else c.deadline.slackLowNs

/-- Slack of the period on one die (R41, R42). A period without a SERVO output has none; one with a late output is below any threshold. -/
def State.takeSlack (s : State) (d : DieId) : State :=
  let x := s.die d
  let missing := !(x.servoLate s.mw.b).isEmpty
  let slack : Int := (x.cutNs : Int) - x.lastOutNs
  let s := if missing ∨ x.lastOutNs = 0 then s
    else s.onDie d fun x => { x with cutSlack := slack, stats := { x.stats with live := x.stats.live.minS32 1 0 0 slack } }
  if missing || (decide (x.lastOutNs ≠ 0) && decide (slack < x.cfg.slackLow)) then
    let s := s.count d 1 0 1
    if x.disp.slackRaised then s
    else (s.onDie d fun x => { x with disp := { x.disp with slackRaised := true } }).raise d 12 (s.dieTarget d) []
  else s

/-- A die's share of a cut-off. -/
def State.cutDie (s : State) (d : DieId) : State :=
  if !s.computes d then s
  else
    let s := s.onDie d fun x => { x with
      cutNs := s.now, disp := { x.disp with insts := x.disp.insts.map fun i => if i.b = s.mw.b then { i with cutNs := s.now } else i } }
    let s := (s.countOverruns d).takeSlack d
    if decide ((s.die d).sep.cycle.map (fun c => c.b) = some s.mw.b) then s.sepLatch d else s

/-- The digests of the period (R391, R392): one of the period before that the Catcher has closed too, and that has not been compared by now, has not come. -/
def State.cutDigests (s : State) : State :=
  match s.catcher with
  | none => s
  | some c =>
    let f := c.other
    let s := if !(s.die f).partner.compared && !(s.die c).partner.compared && s.inCompare c && s.computes f then s.digestMismatch c false else s
    allDies.foldl (fun s d => if s.computes d then s.closeDigest d else s) s

/-- The cut-off (R37). -/
def State.cutOff (s : State) : State :=
  let s := s.ringsSettle
  let s := allDies.foldl (fun s d => if (s.die d).works && (s.die d).holds s.mw.b then s.executeHeld d else s) s
  let s := allDies.foldl (fun s d => if s.computes d then s.romPeriod d else s) s
  let s := allDies.foldl (fun s d => s.cutDie d) s.readBanks
  let s := s.actOverruns
  let s := s.handoverCut.replayMoved s.mw.trapeze.token
  let f := s.bankHolder
  let s := ((s.freezeBank f).freezeField f).cutDigests.syncPoint.closeJournal
  let s := allDies.foldl (fun s d => s.onDie d fun x => { x with outSlots := [], fieldOut := {}, lastOutNs := 0 }) s
  s.onMw fun m => { m with cutDone := true }

/-! ### A die at a boundary -/

/-- The item runs released at a boundary (R266); those of a cluster under test are withheld (R440). -/
def Die.newInsts (x : Die) (b bNs : Nat) : List Inst :=
  (x.cfg.program.filter fun p => b % max 1 (x.cfg.ratio p.2.cls) == 0).map fun p =>
    let held := match x.testedCluster with
      | some k => p.2.at_ k
      | none => false
    { entry := p.1, b := b, state := if held then .withheld else .waiting, bNs := bNs }

/-- An item run still to end waits for this one (R264). -/
def Die.awaited (x : Die) (i : Inst) : Bool := x.disp.insts.any fun j => j.b == i.b && !j.state.ended && (match x.entryOf j with
  | some e => e.preds.contains i.entry
  | none => false)

/-- Instances whose deadline has passed undispatched are dropped, ended ones of past release periods that no other waits for are forgotten, and new ones appear (R266, R270);
cluster scratch loses its valid marks (R248). -/
def State.releaseBoundary (s : State) (d : DieId) : State :=
  let drop := fun (s : State) (i : Inst) =>
    match (s.die d).entryOf i with
    | some e => match i.state with
      | .waiting | .ready | .prefetched _ => if s.inTime d i e then s else s.dropInst d i e
      | _ => s
    | none => s
  let s := (s.die d).disp.insts.foldl drop s
  s.onDie d fun x =>
    let kept := x.disp.insts.filter fun i => i.state.onCore || x.awaited i || (match x.entryOf i with
      | some e => decide (s.mw.b < i.b + x.cfg.ratio e.cls)
      | none => false)
    { x with disp := { x.disp with insts := kept ++ x.newInsts s.mw.b s.mw.bNs }, clusters := x.clusters.map fun m => { m with valid := [] } }

/-- A LATENT holder that is ready computes from this boundary; its ENABLED and SOFT joints enter SOFT from their measured values, the
others finish their stops from theirs (R406). -/
def State.latentStart (s : State) (d : DieId) : State :=
  let q := (s.die d).partner
  if s.isFlier d && q.latentGated && q.ready then
    let s := s.onPartner d fun q => { q with latentGated := false, ready := false, latentWake := none }
    (List.finRange 64).foldl (fun s j =>
      let g := s.joint d j
      if g.state = .enabled ∨ g.state = .soft then s.enterSoft d j
      else if g.state = .stopping ∨ g.state = .braking then s.measuredStop d j else s) s
  else s

/-- A working die's share of a fired boundary, under the configuration in force from it. The arrays of region S are read (R13). -/
def State.dieBoundary (s : State) (d : DieId) : State :=
  let s := s.latentStart d
  let s := if (s.die d).opening then s else s.rehome d
  if !s.computes d then s.jugglerBoundary d
  else
    let s := [0, 1, 2, 3].foldl (fun (s : State) k => s.useArray d 2 k) s
    let s := s.sepBoundary d
    let s := s.onDie d fun x =>
      { x with arms := Vector.ofFn fun a : Fin 8 => (x.arms[a]).step x.cfg.arms[a] x.cfg.periods.tS }
    let s := (s.sepTrack d).jugglerBoundary d
    (((s.testBoundary d).releaseBoundary d).reschedule d).afterHeld d

/-! ### MW at a boundary -/

/-- MW's share of a fired boundary: TB2, pulses, outputs and inputs, the rings. -/
def State.mwBoundary (s : State) : State :=
  let s := s.tb2Follow.tpoBoundary.fieldBoundary
  (List.finRange 8).foldl (fun s r => (s.ringBoundary r).nodeBoundary r) s

/-- MW switches to the configuration of the lead die at B_c + 1 (R53, R311). -/
def State.switchMw (s : State) (new : Cfg) : State :=
  let old := s.mw.cfg
  let s := s.onMw fun m => { m with cfg := new, applyAt := none, opening := false }
  let s := (List.finRange 8).foldl (fun s r => if ringChanged old new r.val then s.relayout r (old.ring r.val).ringId else s) s
  let s := (List.finRange 8).foldl (fun s r => if s.mw.ringsDue.contains r.val then s.ringRestart r else s) s
  let s := s.onMw fun m => { m with ringsDue := [] }
  (((s.fieldApply old new).tpoApply old.tpo new.tpo).cellApply old new).tb2Apply old new

/-- MW's switch where one is due (R53, R471): with the first of them peer heartbeats start (R343). -/
def State.mwApply (s : State) : State :=
  if !s.mw.opening then s
  else
    let s := s.switchMw (s.die s.lead).cfg
    let s := if s.mw.image.applied then s.onNet fun n => { n with peersOn := true } else s
    s.mwBoundary

/-- MW_COMMIT_APPLY (R53). -/
def execMwCommitApply (s : State) : Result := .next s.mwApply

/-! ### The image's commits (R471, R475..R477) -/

/-- What the Blossom apply commits of a staged configuration: all but periods and period program. -/
def Cfg.blossomPart (staged old : Cfg) : Cfg :=
  { staged with periods := old.periods, program := old.program, emptyEntries := old.emptyEntries, code := old.code, paramBlocks := old.paramBlocks }

/-- The package goes back to the state of R470 in PHASE 3 (R468, R474). -/
def State.configFailed (s : State) : State :=
  let old := s
  let clear := fun (s : State) (d : DieId) =>
    let s := (List.finRange 64).foldl (fun s j => if (s.joint d j).state = .disabled then s else s.endDisabled d j) s
    s.onDie d fun x => { x with cfg := {}, shadow := {}, staging := {}, commit := none, ungating := [], gated := Cfg.unused {} x.fuses.variant, opening := false }
  let s := allDies.foldl (fun s d => if (s.die d).live then clear s d else s) s
  let s := s.switchMw Cfg.boot
  let s := { s with phase := .failed }
  let s := s.onMw fun m => { m with image := { m.image with failed := true, applied := false, bA := none, bR := none, imageId := 0 } }
  s.phaseRecords old

/-- A rollback of one of the image's commits (R477): staged again and repeated once; the second is cause 10. -/
def State.imageRollback (s : State) : State :=
  let s := s.onLive fun d s => s.raise d 11 (s.target 0 0) []
  if s.mw.image.retries = 0 then s.onMw fun m => { m with image := { m.image with retries := 1 } }
  else
    let s := s.onMw fun m => { m with image := if m.image.device = 0 then { m.image with cause0 := 10 } else { m.image with cause1 := 10 } }
    s.configFailed

/-- What stands against one of the image's commits on the die that counts: a cluster not yet ungated, a spoiling fence, the staged content (R52). -/
def State.imageBlocked (s : State) (new : Cfg) : Bool :=
  let d := s.lead
  !(s.die d).ungating.isEmpty || (s.motionBlock d new).isSome || (s.contentBlock d new).isSome

/-- The boundary that has just fired is B_r − 1 (R475). -/
def State.ripeNext (s : State) : Bool :=
  let x := s.die s.lead
  match s.mw.image.bA with
  | some a => s.phase == .blossom && s.mw.image.applied && s.mw.image.bR.isNone && decide (a + 1 ≤ s.mw.b) &&
      decide ((s.mw.b + 1) % max 1 x.shadow.rP = 0) && decide ((s.mw.b + 1) % max 1 x.shadow.rSep = 0) &&
      x.joints.toList.all (fun j => j.state == .disabled) && !s.mw.field.enabled
  | none => false

/-- The image's decisions at B_a − 1 and B_r − 1 (R471, R475, R477). -/
def State.imageDecision (s : State) : State :=
  let x := s.die s.lead
  if s.phase ≠ .blossom then s
  else if s.mw.image.bA = some (s.mw.b + 1) ∧ s.mw.image.applied = false ∧ s.imageBlocked (x.shadow.blossomPart x.cfg) = true then
    let s := s.imageRollback
    if s.phase = .blossom then s.onMw fun m => { m with image := { m.image with bA := some (m.b + 2) } } else s
  else if s.ripeNext then
    if s.imageBlocked x.shadow then s.imageRollback
    else s.onMw fun m => { m with image := { m.image with bR := some (m.b + 1) } }
  else s

/-- Rings that a list of affected units names (R309). -/
def ringsNamed (units : List UnitId) : List Nat := (List.range 8).filter fun r => units.contains (mwUnit 0 ⟨r % 8, Nat.mod_lt _ (by decide)⟩ 0)

/-- The switch at B_a on every live die (R471). -/
def State.blossomApply (s : State) : State :=
  let go := fun (s : State) (d : DieId) =>
    let x := s.die d
    if x.live && x.opening then s.switchDie d (x.shadow.blossomPart x.cfg) x.shadow x.staging.count else s
  let s := go (go s .t0) .t1
  let s := s.onMw fun m => { m with image := { m.image with applied := true, retries := 0 }, applyAt := some (m.b + 1), ringsDue := List.range 8 }
  allDies.foldl (fun s d => s.dieBoundary d) s

/-- The counts of raised events and of detections start with Ripe (R438, R441). -/
def Die.countsFromRipe (x : Die) : Die :=
  { x with events := { x.events with count := [] },
           det := { x.det with transients := Vector.replicate 16 0, lasting := Vector.replicate 16 0, injected := Vector.replicate 16 0 } }

/-- The switch at B_r (R476, R390): PHASE 2, the image's program, firmware and periods, safe values as commanded values; the home Flier takes the
token if it holds the image, which one that has come out of Seed since does not (R460, R477), and the other die enters SYNC. -/
def State.ripeApply (s : State) : State :=
  let old := s
  let go := fun (s : State) (d : DieId) =>
    let x := s.die d
    if x.live && x.imaged && x.opening then
      let s := s.switchDie d x.shadow x.shadow x.staging.count
      s.onDie d fun x => { x with
        disp := { x.disp with rom := false }, jug := { x.jug with coldDue := true },
        rm := { x.rm with fwVersion := s.mw.image.firmware.getD x.rm.fwVersion } }
    else s
  let s := go (go s .t0) .t1
  let s := ({ s with phase := .ripe } : State).phaseRecords old
  let home := (s.die s.lead).cfg.trapeze.homeFlier
  let holder := if (s.die home).live && (s.die home).imaged then home else s.lead
  let was := s.mw.trapeze.token
  let s := s.onTrapeze fun t => { t with token := if t.token.isSome then some holder else none, lastMoveNs := s.now }
  let s := (s.replayMoved was).fieldRipe.onMw fun m => { m with ptp := m.ptp.map fun p => { p with jumpsRefused := 0 } }
  let s := s.onMw fun m => { m with applyAt := some (m.b + 1), ringsDue := List.range 8 }
  let s := allDies.foldl (fun s d => s.onDie d Die.countsFromRipe) s
  let s := if s.mw.trapeze.token.isSome && (s.die holder.other).live then s.startSync holder.other else s
  allDies.foldl (fun s d => s.dieBoundary d) s

/-- BLOSSOM_APPLY (R471): boundary B_a has fired. -/
def execBlossomApply (s : State) : Result :=
  if s.mw.image.bA = some s.mw.b ∧ s.mw.image.applied = false ∧ (s.t0.opening || s.t1.opening) then .next s.blossomApply else .next s

/-- RIPE_BEGIN (R476): boundary B_r has fired. -/
def execRipeBegin (s : State) : Result :=
  if s.phase = .blossom ∧ s.mw.image.bR = some s.mw.b ∧ (s.t0.opening || s.t1.opening) then .next s.ripeApply else .next s

/-! ### COMMIT_APPLY and the boundary itself -/

/-- A die switches at B_c and takes its share of the boundary, MW switches at B_c + 1; both replies carry the Flier's result (R53, R54). -/
def State.commitApply (s : State) (d : DieId) : State :=
  let x := s.die d
  match x.commit with
  | some c =>
    if !x.opening then s
    else
      let told := match (s.die s.lead).commit with
        | some p => if p.bc = c.bc then p else c
        | none => c
      let bytes := s.commitBytes told 0 0
      let s := s.switchDie d x.shadow x.shadow c.count
      let s := s.onMw fun m => { m with applyAt := some (m.b + 1), ringsDue := ringsNamed c.affected ++ m.ringsDue }
      let s := s.dieBoundary d
      s.lateReply 0x0020 c.cmd { status := St.ok, result := bytes }
  | none => s

/-- COMMIT_APPLY (R53). -/
def execCommitApply (d : DieId) (s : State) : Result := .next (s.commitApply d)

/-- Everything that a fired boundary still has to switch. -/
def State.settleOpen (s : State) : State :=
  let s := if s.t0.opening || s.t1.opening then
      (if s.mw.image.bA = some s.mw.b ∧ s.mw.image.applied = false then s.blossomApply
       else if s.phase = .blossom ∧ s.mw.image.bR = some s.mw.b then s.ripeApply
       else (s.commitApply .t0).commitApply .t1)
    else s
  s.mwApply

/-- The next boundary lies at most `lead` ns ahead on TB2, or in reference ticks where the Curtain's sequencer counts them (R413). -/
def State.boundaryDue (s : State) (lead : Nat) : Bool :=
  match s.mw.trapeze.curtain.bind fun c => c.refNext with
  | some t => decide (t ≤ s.now + lead)
  | none => decide (s.mw.nextNominal ≤ (s.mw.tb[2]).ns + lead)

/-- CUT_OFF (R37): TB2 has come to 1 µs before the next boundary. -/
def execCutOff (s : State) : Result :=
  if s.phase ≠ .seed ∧ s.mw.fired = true ∧ s.mw.cutDone = false ∧ s.boundaryDue 1000 = true then .next s.settleOpen.dueCommit.cutOff
  else .next s

/-- The first nominal instant of a grid at or after an instant (R32). -/
def CfgPeriods.firstFrom (g : CfgPeriods) (t : Nat) : Nat := g.phase + (t - g.phase + g.tS - 1) / max 1 g.tS * g.tS

/-- The periods that place the boundary after `b`: those of a commit that switches at `b` (R58), else the grid in force. -/
def State.gridFrom (s : State) (b : Nat) : CfgPeriods :=
  let x := s.die s.lead
  let go := match x.commit with
    | some c => c.bc == b && c.decision == some .go
    | none => false
  if go || (s.phase == .blossom && s.mw.image.bR == some b) then x.shadow.periods else s.mw.grid

/-- A die's commit switches at boundary `b`. -/
def State.opensAt (s : State) (d : DieId) (b : Nat) : Bool :=
  let x := s.die d
  let image := x.live && x.imaged && s.phase == .blossom && ((s.mw.image.bA == some b && !s.mw.image.applied) || s.mw.image.bR == some b)
  image || (x.works && (match x.commit with
    | some c => c.bc == b && c.decision == some .go
    | none => false))

/-- A boundary fires (R32, R33, R58). What the period before still owed is done first. LAST_SLACK_NS shows the slack the cut-off before it has left (R62): where an output of that
period is still missing, that of the newest period that has one, until the output comes. DESIGN CHOICE. -/
def State.fire (s : State) : State :=
  let s := s.settleOpen.dueCommit
  let shown := fun (s : State) (d : DieId) => if s.mw.fired && s.computes d then s.showPeriod d else s
  let s := allDies.foldl shown (if s.mw.fired && !s.mw.cutDone then s.cutOff else s)
  let s := s.abandonNext
  let s := s.dueInterval
  let s := allDies.foldl (fun s d => if (s.die d).works then s.flushTrace d else s) s
  let b := if s.mw.fired then s.mw.b + 1 else 0
  let grid := s.gridFrom b
  let s := s.onMw fun m => { m with
    b := b, fired := true, bNs := s.now, bTb0 := s.tb0, bSight := m.sight, bZones := m.zoneMsgs, nominal := m.nextNominal, nextNominal := grid.firstFrom (m.nextNominal + grid.tS), grid := grid,
    cutDone := false, opening := m.applyAt == some b,
    trapeze := { m.trapeze with curtain := m.trapeze.curtain.map fun c => { c with refNext := c.refNext.map fun t => t + grid.tS } } }
  let s := s.intervalBoundary
  let s := allDies.foldl (fun s d => s.onDie d fun x => { x with lastSlack := x.cutSlack }) s
  let note := fun (s : State) (d : DieId) =>
    let close : Pending → Pending := fun c => if c.bc = b + 1 then { c with closed := true } else c
    let opens := s.opensAt d b
    s.onDie d fun x => { x with commit := x.commit.map close, opening := opens }
  let s := note (note s .t0) .t1
  let s := s.warmBoundary
  let s := if s.mw.opening then s else s.mwBoundary
  let s := allDies.foldl (fun s d => s.dieBoundary d) s
  s.imageDecision

/-- BOUNDARY (R32): TB2 has reached the nominal instant, or the Curtain's sequencer has counted T_s (R413). -/
def execBoundary (s : State) : Result :=
  if s.phase ≠ .seed ∧ s.boundaryDue 0 = true then .next s.fire else .next s

end Sys2Proof.Machine
end

