-- ==== Sys2Proof/Machine/Crypto.lean ====
section
/-! DEFINITION. The two algorithms the spec names for images and debug unlock: SHA-256, and ECDSA over P-256 with SHA-256 (R464, R479). PRESUMED: the published
standards of those names; the spec does not repeat them. -/

namespace Sys2Proof.Machine

/-! ### SHA-256 -/

/-- The first 32 bits after the point of the `k`-th root of `p`, found bit by bit from the top. -/
def rootFraction (k p : Nat) : Word :=
  BitVec.ofNat 32 ((List.range 36).foldr (fun i r => if (r + 2 ^ i) ^ k ≤ p * 2 ^ (32 * k) then r + 2 ^ i else r) 0)

/-- The primes below 312: the first sixty-four. -/
def smallPrimes : List Nat := (List.range 312).filter fun n => decide (2 ≤ n) && (List.range 18).all fun i => decide (i < 2) || i == n || n % i != 0

/-- The additive word of each step: cube roots of the primes. -/
def shaAdd : List Word := smallPrimes.map (rootFraction 3)

/-- The chaining value of an empty message: square roots of the first eight primes. -/
def shaStart : List Word := (smallPrimes.take 8).map (rootFraction 2)

/-- Exclusive or of three turned copies of a word; the last copy is shifted where `drop` says so. -/
def turned (i j k : Nat) (drop : Bool) (x : Word) : Word :=
  BitVec.rotateRight x i ^^^ BitVec.rotateRight x j ^^^ (if drop then x >>> k else BitVec.rotateRight x k)

/-- A step on the two histories, newest word first, whose last four words each are the eight working words. -/
def shaStep (h : List Word × List Word) (add : Word) : List Word × List Word :=
  let p := fun (i : Nat) => h.1.getD i 0
  let q := fun (i : Nat) => h.2.getD i 0
  let choice := q 2 ^^^ (q 0 &&& (q 1 ^^^ q 2))
  let most := (p 0 &&& (p 1 ||| p 2)) ||| (p 1 &&& p 2)
  let t := add + choice + turned 6 11 25 false (q 0) + q 3
  ((turned 2 13 22 false (p 0) + most + t) :: h.1.take 3, (p 3 + t) :: h.2.take 3)

/-- The next word of the expanded block, from the last sixteen, newest first. -/
def shaNext (w : List Word) : Word := turned 17 19 10 true (w.getD 1 0) + w.getD 6 0 + turned 7 18 3 true (w.getD 14 0) + w.getD 15 0

/-- A big-endian number. -/
def shaNat (bs : List Byte) : Nat := leNat bs.reverse

/-- The steps of a block: each takes the oldest of the sixteen words held and makes one more. -/
def shaSteps : List Word → List Word → List Word × List Word → List Word × List Word
  | [], _, h => h
  | k :: ks, w, h => shaSteps ks (shaNext w :: w.take 15) (shaStep h (k + w.getD 15 0))

/-- The chaining value after one block of 64 bytes. -/
def shaBlock (v : List Word) (bs : List Byte) : List Word :=
  let w := (List.range 16).foldl (fun l i => BitVec.ofNat 32 (shaNat ((bs.drop (4 * i)).take 4)) :: l) []
  let h := shaSteps shaAdd w (v.take 4, v.drop 4)
  List.zipWith (· + ·) v (h.1 ++ h.2)

/-- SHA-256 of a byte string, in output order: a one bit, zeros and the length in bits close the last block. -/
def sha256 (bs : List Byte) : List Byte :=
  let closed := bs ++ [0x80] ++ zeros ((119 - bs.length % 64) % 64) ++ (le 8 (8 * bs.length)).reverse
  let last := (List.range (closed.length / 64)).foldl (fun v i => shaBlock v ((closed.drop (64 * i)).take 64)) shaStart
  (last.map fun v => (le 4 v.toNat).reverse).flatten

/-! ### ECDSA over P-256 -/

/-- Field prime, group order, curve coefficient and base point. -/
def p256P : Nat := 2 ^ 256 - 2 ^ 224 + 2 ^ 192 + 2 ^ 96 - 1
def p256N : Nat := 0xFFFFFFFF00000000FFFFFFFFFFFFFFFFBCE6FAADA7179E84F3B9CAC2FC632551
def p256B : Nat := 0x5AC635D8AA3A93E7B3EBBD55769886BC651D06B0CC53B0F63BCE3C3E27D2604B
def p256G : Nat × Nat :=
  (0x6B17D1F2E12C4247F8BCE6E563A440F277037D812DEB33A0F4A13945D898C296, 0x4FE342E2FE1A7F9B8EE7EB4A7C0F9E162BCE33576B315ECECBB6406837BF51F5)

/-- `x` to the power `e` modulo `m`, over `fuel` bits. -/
def powMod (m : Nat) : Nat → Nat → Nat → Nat → Nat
  | 0, _, _, acc => acc
  | fuel + 1, x, e, acc => powMod m fuel (x * x % m) (e / 2) (if e % 2 = 1 then acc * x % m else acc)

/-- Inverse modulo a prime below 2²⁵⁶. -/
def invMod (m x : Nat) : Nat := powMod m 256 (x % m) (m - 2) 1

/-- A point of the curve, none for the point at infinity. -/
abbrev EcPoint := Option (Nat × Nat)

/-- The third point on a line of slope `l` through a point of abscissa `x1`, `x2`, reflected. -/
def ecThird (l x1 y1 x2 : Nat) : EcPoint :=
  let x := (l * l + 2 * p256P - x1 - x2) % p256P
  some (x, (l * (x1 + p256P - x) + p256P - y1) % p256P)

/-- Addition on the curve. -/
def ecAdd (a b : EcPoint) : EcPoint :=
  match a, b with
  | none, q => q
  | p, none => p
  | some (x1, y1), some (x2, y2) =>
    if x1 = x2 then
      (if (y1 + y2) % p256P = 0 then none
       else ecThird ((3 * x1 * x1 + p256P - 3) * invMod p256P (2 * y1) % p256P) x1 y1 x2)
    else ecThird ((y2 + p256P - y1) * invMod p256P (x2 + p256P - x1) % p256P) x1 y1 x2

/-- A multiple `k` of a point added to `acc`, over at most `fuel` bits. -/
def ecMul : Nat → Nat → EcPoint → EcPoint → EcPoint
  | 0, _, _, acc => acc
  | fuel + 1, k, p, acc => if k = 0 then acc else ecMul fuel (k / 2) (ecAdd p p) (if k % 2 = 1 then ecAdd acc p else acc)

/-- The key is a point of the curve. -/
def ecOnCurve (x y : Nat) : Bool :=
  decide (x < p256P) && decide (y < p256P) && decide (y * y % p256P = (x * x * x + (p256P - 3) * x + p256B) % p256P)

/-- The signature (r, s) of a message verifies under the key. -/
def ecdsaOk (x y r s : Nat) (message : List Byte) : Bool :=
  let z := shaNat (sha256 message)
  let w := invMod p256N s
  let p := ecAdd (ecMul 256 (z * w % p256N) (some p256G) none) (ecMul 256 (r * w % p256N) (some (x, y)) none)
  ecOnCurve x y && within1 r && within1 s && (match p with
    | some (v, _) => decide (v % p256N = r)
    | none => false)
where
  /-- A scalar from 1 to the order less one. -/
  within1 (v : Nat) : Bool := decide (0 < v) && decide (v < p256N)

end Sys2Proof.Machine
end

