-- ==== Sys2Proof/Machine/Image.lean ====
section
/-! DEFINITION. The configuration image (R463..R469): reading, verifying and staging it. -/

namespace Sys2Proof.Machine

/-- Change the load state. -/
def State.onImage (s : State) (f : ImageLoad → ImageLoad) : State := s.onMw fun m => { m with image := f m.image }

/-- Bytes of a flash device. -/
def flashBytes (m : Memory) (a n : Nat) : List Byte := (m.readN a n).map fun b => ~~~b

/-- Bytes of the device the image is read from. -/
def State.imageBytes (s : State) (a n : Nat) : List Byte := flashBytes (if s.mw.image.device = 0 then s.mw.image.flash0 else s.mw.image.flash1) a n

/-- A fresh attempt on a device: everything of the load state but the flash and what the other device's attempt reported. -/
def ImageLoad.attempt (m : ImageLoad) (device : Nat) : ImageLoad :=
  { flash0 := m.flash0, flash1 := m.flash1, device := device,
    cause0 := m.cause0, failSection0 := m.failSection0, failStatus0 := m.failStatus0, failIndex0 := m.failIndex0,
    cause1 := m.cause1, failSection1 := m.failSection1, failStatus1 := m.failStatus1, failIndex1 := m.failIndex1 }

/-- The attempt fails (R467, R468): its staged state goes and CS1 is read next; a second failure ends in PHASE 3. -/
def State.imageFail (s : State) (cause sect status index : Nat) : State :=
  let s := s.onImage fun m =>
    if m.device = 0 then { m with cause0 := cause, failSection0 := sect, failStatus0 := status, failIndex0 := index }
    else { m with cause1 := cause, failSection1 := sect, failStatus1 := status, failIndex1 := index }
  let s := s.onLive fun d s => s.onDie d fun x => { x.discard with imaged := false }
  if s.mw.image.device = 0 then s.onImage fun m => m.attempt 1 else s.configFailed

/-! ### Header and section table (Tables 16.3, 16.4) -/

/-- An entry of the section table. -/
structure SectionEntry where
  type_  : Nat
  offset : Nat
  length : Nat
  hash   : List Byte
  ok     : Bool
  deriving DecidableEq, Repr

/-- The entry at a byte string. -/
def sectionEntry (bs : List Byte) : SectionEntry where
  type_ := rd bs 0 1
  offset := rd bs 4 4
  length := rd bs 8 4
  hash := (bs.drop 16).take 32
  ok := within (rd bs 0 1) 1 2 && zeroAt bs 1 3 && zeroAt bs 12 4 && decide (rd bs 4 4 % 256 = 0) && decide (rd bs 8 4 % 8 = 0) && decide (0 < rd bs 8 4)

/-- Entry `i` of the section table. -/
def State.sectionAt (s : State) (i : Nat) : SectionEntry := sectionEntry (s.imageBytes (256 + 48 * i) 48)

/-- Sections in ascending order without overlap from `at_` on, ending within the image. -/
def sectionsOrdered (bytes : Nat) : Nat → List SectionEntry → Bool
  | at_, [] => decide (at_ ≤ bytes)
  | at_, e :: r => e.ok && decide (at_ ≤ e.offset) && sectionsOrdered bytes (e.offset + e.length) r

/-- Cause 2 of Table 16.5. -/
def headerBad (h : List Byte) (table : List SectionEntry) : Bool :=
  let n := rd h 6 2
  decide (rd h 4 2 ≠ 1) || !within n 1 32 || decide (16777216 < rd h 8 4) || decide (1 < rd h 13 1) ||
    !(rd h 14 2 == 0 || within (rd h 14 2) 20 2000) || !(rd h 20 4 == 0 || within (rd h 20 4) 10000000 10000000000) || !zeroAt h 24 8 || !zeroAt h 160 96 ||
    !sectionsOrdered (rd h 8 4) (256 + 48 * n) table || decide (1 < (table.filter fun e => e.type_ == 1).length)

/-- The header and table as MW streams them, checked up to cause 4. -/
def State.headerRead (s : State) : State :=
  let h := s.imageBytes 0 256
  let n := rd h 6 2
  let table := (List.range (min n 32)).map s.sectionAt
  let key := (s.die s.lead).fuses.keyHash
  if rd h 0 4 ≠ 0x514D4947 then s.imageFail 1 255 0 0
  else if headerBad h table then s.imageFail 2 255 0 0
  else if key.all (fun b => b == 0) then s.imageFail 3 255 0 0
  else if sha256 ((h.drop 32).take 64) ≠ key then s.imageFail 4 255 0 0
  else
    let s := s.onLive fun d s => s.onDie d fun x => { x with imaged := true }
    s.onImage fun m => { m with headerOk := true, signed := false, sections := n, nextSection := 0 }

/-- The image is being read: Blossom, a token holder that decides its fate (R469), neither loaded nor failed. -/
def State.loading (s : State) : Bool :=
  s.phase == .blossom && s.mw.trapeze.token.isSome && (s.die s.lead).live && !s.mw.image.complete && !s.mw.image.failed

/-- The message the image's signature is taken over (R464). -/
def State.signedBytes (s : State) : List Byte :=
  let m := s.imageBytes 0 (256 + 48 * s.mw.image.sections)
  m.take 96 ++ zeros 64 ++ m.drop 160

/-- SIGNATURE_VERIFIED (R467): verification of the header's signature completes. A verified header gives the TEST state, the jog timeout and T_stop. -/
def execSignatureVerified (s : State) : Result :=
  if !(s.loading && s.mw.image.headerOk && !s.mw.image.signed) then .next s
  else
    let h := s.imageBytes 0 256
    if ecdsaOk (rd h 32 32) (rd h 64 32) (rd h 96 32) (rd h 128 32) s.signedBytes then
      .next (s.onImage fun m => { m with
        signed := true, test := bit (rd h 13 1) 0, jogTimeoutMs := orDefault (rd h 14 2) 200, tStopNs := orDefault (rd h 20 4) 500000000 })
    else .next (s.imageFail 5 255 0 0)

/-! ### COMMANDS sections (R465) -/

/-- Opcodes that count toward STAGED_COUNT (Table 3.14). -/
def stagingOps : List Nat := [
  0x0010, 0x0011, 0x0110, 0x0120, 0x0130, 0x0140, 0x0200, 0x0201, 0x0300, 0x0301, 0x0308, 0x0309, 0x030C, 0x0400, 0x0401, 0x0402, 0x0403, 0x0406,
  0x0500, 0x0501, 0x0503, 0x0600, 0x0601, 0x0602, 0x0603, 0x0604, 0x0700, 0x0701, 0x0705, 0x0706, 0x0707, 0x0801, 0x0901, 0x0A03, 0x0B00, 0x0B01]

/-- A record as the command it stands for, on a die. -/
def recordCmd (d : DieId) (bs : List Byte) : HostCmd where
  die := d
  queue := 0
  flags := 4
  plen := BitVec.ofNat 8 (rd bs 2 1)
  tag := 0
  seq := 0
  target := BitVec.ofNat 32 (rd bs 4 4)
  epoch := 0
  params := (bs.drop 8).take (8 * rd bs 2 1)

/-- Stage a record on a die under R76 steps 1 to 3 and 7 to 11. -/
def State.stageRecord (s : State) (d : DieId) (bs : List Byte) : Answer :=
  let opcode := rd bs 0 2
  let h := recordCmd d bs
  match opInfo opcode, bodyOf opcode with
  | some o, some f =>
    match firstFail [
      (!o.plenOk h, St.badLength),
      (decide (rd bs 3 1 ≠ 0), St.range),
      (!s.targetOk opcode o h, St.badTarget),
      (s.targetAbsent d h, St.unitAbsent)] with
    | some st => reject s st
    | none => f h d s
  | _, _ => reject s St.badOpcode

/-- Stage a record on every die that takes the stream; the token holder's verdict counts, and a die with another verdict has a fault (R469). -/
def State.stageAll (s : State) (bs : List Byte) : State × Nat :=
  let f := s.lead
  let c := f.other
  let r := s.stageRecord f bs
  if !((s.die c).live && (s.die c).imaged) then (r.1, r.2.status)
  else
    let q := r.1.stageRecord c bs
    (if q.2.rejects = r.2.rejects then q.1 else q.1.haltDie c, r.2.status)

/-- Stage the records of a section from byte `at_` of the image on; the answer is cause, status and place of the first failure. -/
def State.stageRecords : Nat → List Byte → Nat → State → State × Option (Nat × Nat × Nat)
  | 0, bs, at_, s => (s, if bs.isEmpty then none else some (8, 0, at_))
  | fuel + 1, bs, at_, s =>
    if bs.isEmpty then (s, none)
    else
      let n := 8 + 8 * rd bs 2 1
      if bs.length < n then (s, some (8, 0, at_))
      else if (opInfo (rd bs 0 2)).isNone then (s, some (8, St.badOpcode, at_))
      else if !stagingOps.contains (rd bs 0 2) then (s, some (8, 0, at_))
      else if bits (rd bs 4 4) 27 26 ≠ s.pkgid.toNat then State.stageRecords fuel (bs.drop n) (at_ + n) s
      else
        let r := s.stageAll (bs.take n)
        if 0x8000 ≤ r.2 then (r.1, some (if r.2 = St.unitAbsent then 7 else 8, r.2, at_))
        else State.stageRecords fuel (bs.drop n) (at_ + n) r.1

/-! ### Sections -/

/-- The check of a FIRMWARE section and its version: the spec leaves both to the section's own format (R466). -/
def firmwareVersion (bs : List Byte) : Option Word :=
  let v := fun (k : Int) => Config.unstated (466 :: k :: bs.map fun b => (b.toNat : Int))
  if v 0 = 0 then none else some (BitVec.ofInt 32 (v 1))

/-- The whole image is staged (R467, R471): IMAGE_ID, the clusters it needs start to ungate, and B_a is the first boundary at least two later. -/
def State.imageComplete (s : State) : State :=
  let id := rd (sha256 (s.imageBytes 0 (rd (s.imageBytes 0 256) 8 4))) 0 8
  let s := s.onLive fun d s => if (s.die d).imaged then s.startUngating d (s.die d).shadow else s
  s.onImage fun m => { m with complete := true, imageId := id, bA := some (s.mw.b + 2) }

/-- A section has been read: its hash, the variant, then its contents. -/
def State.sectionRead (s : State) (i : Nat) : State :=
  let e := s.sectionAt i
  let bs := s.imageBytes e.offset e.length
  if sha256 bs ≠ e.hash then s.imageFail 6 i 0 0
  else if !bit (rd (s.imageBytes 0 256) 12 1) s.mw.fuses.variant then s.imageFail 7 255 0 0
  else
    let r : State × Option (Nat × Nat × Nat) :=
      if e.type_ = 1 then
        match firmwareVersion bs with
        | none => (s, some (9, 0, 0))
        | some v => (s.onImage fun m => { m with firmware := some v }, none)
      else s.stageRecords bs.length bs e.offset
    match r.2 with
    | some f => r.1.imageFail f.1 i f.2.1 f.2.2
    | none =>
      let s := r.1.onImage fun m => { m with nextSection := i + 1 }
      if i + 1 = s.mw.image.sections then s.imageComplete else s

/-- IMAGE_SECTION_READ (R467): MW has streamed the header with its table, or the next section. -/
def execImageSectionRead (part : ImagePart) (s : State) : Result :=
  if !s.loading then .next s
  else match part with
    | .header => .next (if s.mw.image.headerOk then s else s.headerRead)
    | .section_ i =>
      let m := s.mw.image
      .next (if m.headerOk && m.signed && decide (i = m.nextSection) && decide (i < m.sections) then s.sectionRead i else s)

end Sys2Proof.Machine
end

