-- ==== Sys2Proof/Machine/Ports.lean ====
section
/-! DEFINITION. The registers of a host port and its queues (R63..R72, R85, R496), and the event rows about them. -/

namespace Sys2Proof.Machine

/-- PORT_INFO (Table 3.2). -/
def State.portInfo (s : State) (d : DieId) : Nat :=
  d.code + 4 * b2n (s.isFlier d) + 8 * b2n ((s.die d).partner.eligible && !s.isFlier d) + 16 * s.pkgid.toNat + 64 * s.mw.fuses.variant + 256

/-- PORT_STATE (Table 3.3). -/
def State.portState (s : State) (d : DieId) : Nat :=
  s.phaseCode d + 8 * b2n s.curtained + 16 * b2n (s.injectOk d) + 32 * b2n (s.die d).port.relay

/-- STATE of QSTATUS (Table 3.6). -/
def qStateCode : QState → Nat
  | .disabled => 0
  | .running => 1
  | .stalled => 2
  | .error => 3

/-- QSTATUS (Table 3.6). -/
def State.queueStatus (s : State) (d : DieId) (q : Fin 64) : Nat :=
  let b := s.queue d q
  let held := (s.die d).rm.held.any fun k => k.cmd.queue.val == q.val
  qStateCode b.state + 4 * b2n held + 16 * b.cause + 65536 * b.expectedSeq.toNat

/-- A BAR0 register as a read returns it, without the read's own effects (Tables 3.1, 3.4); offsets not listed read zero. -/
def State.register (s : State) (d : DieId) (offset : Nat) : Nat :=
  let p := (s.die d).port
  if offset = 0 then 0x0864C01D
  else if offset = 4 then s.portInfo d
  else if offset = 8 then s.portState d
  else if offset = 0x10 then p.qerr.toNat % 2 ^ 32
  else if offset = 0x14 then p.qerr.toNat / 2 ^ 32
  else if offset = 0x18 then s.epoch
  else if offset = 0x1C then p.bHi.toNat
  else if 0x100 ≤ offset ∧ offset < 0x900 then
    let q : Fin 64 := ⟨(offset - 0x100) / 32 % 64, Nat.mod_lt _ (by decide)⟩
    let b := s.queue d q
    match (offset - 0x100) % 32 with
    | 0x00 => b.baseLo.toNat
    | 0x04 => b.baseHi.toNat
    | 0x08 => b.qcfg.toNat
    | 0x0C => s.queueStatus d q
    | 0x10 => b.shadowLo.toNat
    | 0x14 => b.shadowHi.toNat
    | 0x18 => b.head
    | 0x1C => b.lost
    | _ => 0
  else 0

/-- Change a host port. -/
def State.onPort (s : State) (d : DieId) (f : HostPort → HostPort) : State := s.onDie d fun x => { x with port := f x.port }

/-- The function answers: its link is up and its die is out of Seed with its supply on (R496). -/
def State.visible (s : State) (d : DieId) : Bool :=
  let x := s.die d
  x.present && x.status != .off && x.status != .seed && x.port.linkUp

/-- A memory access to a BAR of the function is taken (R63): the function answers and decodes memory. -/
def State.reachable (s : State) (d : DieId) : Bool := s.visible d && (s.die d).port.memSpace

/-- Vendor-independent identity of a PCIe function, as a configuration read returns it: Device ID and class code (R64). -/
def State.functionId (s : State) : Nat × Nat := (s.deviceId, 0x118000)

/-- A 32-bit word of BAR2 (R63): the 32 MSI-X vectors of four words each (address low, address high, data, control with the mask bit), and from offset 0x1000 the
pending bits. PRESUMED: the layout is PCI Express's. -/
def HostPort.bar2 (p : HostPort) (offset : Nat) : Nat :=
  if offset < 512 then
    let v : Fin 32 := ⟨offset / 16 % 32, Nat.mod_lt _ (by decide)⟩
    let e := p.msixTable[v]
    match offset % 16 with
    | 0 => e.1.toNat
    | 4 => e.2.1.toNat
    | 8 => e.2.2.toNat
    | 12 => b2n (p.msixMask.getLsbD v)
    | _ => 0
  else if offset = 0x1000 then p.msixPending.toNat
  else 0

/-- A write to BAR2 (R63): a vector's address, data or mask; a pending vector sends its message when it is unmasked. -/
def State.writeBar2 (s : State) (d : DieId) (offset : Nat) (w : Word) : State :=
  if 512 ≤ offset then s
  else
    let v : Fin 32 := ⟨offset / 16 % 32, Nat.mod_lt _ (by decide)⟩
    let put := fun (f : Word × Word × Word → Word × Word × Word) =>
      s.onDie d fun x => { x with port := { x.port with msixTable := x.port.msixTable.set v (f x.port.msixTable[v]) } }
    match offset % 16 with
    | 0 => put fun e => (w, e.2)
    | 4 => put fun e => (e.1, w, e.2.2)
    | 8 => put fun e => (e.1, e.2.1, w)
    | 12 =>
      let one : Word := 1#32 <<< v.val
      let s := s.onDie d fun x => { x with port := { x.port with msixMask := if bit w.toNat 0 then x.port.msixMask ||| one else x.port.msixMask &&& ~~~one } }
      if !bit w.toNat 0 && ((s.die d).port.msixPending).getLsbD v then
        (s.onDie d fun x => { x with port := { x.port with msixPending := x.port.msixPending &&& ~~~one } }).msix d v.val
      else s
    | _ => s

/-- A queue enters the error state: STATE 3 with its cause, its QERR bit, and a message on vector 0 (R67, R68, R71, R72). -/
def State.queueError (s : State) (d : DieId) (q : Fin 64) (cause : Nat) : State :=
  let s := s.onQueue d q fun b => { b with state := .error, cause := cause }
  let s := s.onPort d fun p => { p with qerr := p.qerr ||| (1#64 <<< q.val) }
  s.msix d 0

/-- A doorbell write (R68): ignored on a disabled or erroneous queue; an index at or beyond the depth is error cause 4; else it is the new tail of a command
queue, or the new head of a record queue. -/
def State.ringDoorbell (s : State) (d : DieId) (q : Fin 64) (index : Nat) : State :=
  let b := s.queue d q
  if b.state = .disabled ∨ b.state = .error then s
  else if b.depth ≤ index then s.queueError d q 4
  else s.onQueue d q fun b => { b with tail := index }

/-- DOORBELL (R68, R69). -/
def execDoorbell (d : DieId) (q : Fin 64) (index : BitVec 16) (s : State) : Result :=
  .next (if s.reachable d then s.ringDoorbell d q index.toNat else s)

/-- QCFG as it is stored: reserved bits read zero. -/
def qcfgStored (v : Word) : Word := v &&& 0x800FFFFF

/-- The queues of a port whose link had failed are set up again: it serves its die, and RELAY on the other port ends (R85, Table 17.11). The first command queue to run
counts as that: DESIGN CHOICE. -/
def State.portFound (s : State) (d : DieId) : State :=
  if !(s.die d).port.lost then s
  else
    let s := s.onPort d fun p => { p with lost := false }
    if s.hasPartner then s.onPort d.other fun p => { p with relay := false } else s

/-- Set ENABLE (R67): head, tail, EXPECTED_SEQ and phase start again and the queue runs, or errs with cause 1. A queue that has not reached STATE 0 since it was
disabled takes no write. DESIGN CHOICE. -/
def State.enableQueue (s : State) (d : DieId) (q : Fin 64) (qcfg : Word) : State :=
  let b := s.queue d q
  if b.enable || b.draining then s
  else
    let s := s.onQueue d q fun b =>
      { b with qcfg := qcfgStored qcfg, head := 0, tail := 0, expectedSeq := 0, phase := decide (32 ≤ q.val), unsignalled := 0, cause := 0, state := .running }
    let b := s.queue d q
    if within b.log2 4 12 && decide (b.baseLo.toNat % 4096 = 0) then (if q.val < 32 then s.portFound d else s) else s.queueError d q 1

/-- Clear ENABLE (R67): the queue stops after its running command. -/
def State.disableQueue (s : State) (d : DieId) (q : Fin 64) : State :=
  s.onQueue d q fun b => if b.enable then { b with qcfg := b.qcfg &&& 0x7FFFFFFF, draining := true } else b

/-- A write to QCFG (R67). -/
def State.writeQcfg (s : State) (d : DieId) (q : Fin 64) (v : Word) : State :=
  let b := s.queue d q
  if bit v.toNat 31 then s.enableQueue d q v
  else if b.enable then s.disableQueue d q
  else if b.draining then s
  else s.onQueue d q fun b => { b with qcfg := qcfgStored v }

/-- QUEUE_ENABLE (R67): QCFG written with ENABLE set. -/
def execQueueEnable (d : DieId) (q : Fin 64) (qcfg : Word) (s : State) : Result :=
  .next (if s.reachable d then s.writeQcfg d q (qcfg ||| 0x80000000) else s)

/-- QUEUE_DISABLE (R67). -/
def execQueueDisable (d : DieId) (q : Fin 64) (s : State) : Result :=
  .next (if s.reachable d then s.disableQueue d q else s)

/-- A held at-epoch command is cancelled without reply and recorded in Preserve (R67, R79, R444). -/
def State.cancelHeld (s : State) (d : DieId) (k : Held) : State :=
  s.record d 0x120 (s.target 11 k.cmd.queue.val)
    (le 2 k.opcode ++ le 2 k.cmd.seq.toNat ++ le 2 k.cmd.tag.toNat ++ le 4 k.cmd.epoch.toNat)

/-- QUEUE_DRAINED (R67): a queue that was disabled and whose running command has completed reaches STATE 0; its held commands are cancelled. -/
def execQueueDrained (d : DieId) (q : Fin 64) (s : State) : Result :=
  let b := s.queue d q
  let mine := fun (c : HostCmd) => c.queue.val == q.val
  if !b.draining || (s.die d).rm.copies.any (fun c => mine c.cmd) || (s.die d).rm.awaiting.any (fun w => w.executes && mine w.cmd) then .next s
  else
    let gone := (s.die d).rm.held.filter fun k => mine k.cmd
    let s := s.onDie d fun x => { x with rm := { x.rm with held := x.rm.held.filter fun k => !mine k.cmd } }
    let s := s.onQueue d q fun b => { b with state := .disabled, cause := 0, draining := false }
    .next (gone.foldl (fun s k => s.cancelHeld d k) s)

/-- Clear the QERR bits a mask names (R65). -/
def State.clearQerr (s : State) (d : DieId) (high : Bool) (mask : Word) : State :=
  s.onPort d fun p => { p with qerr := p.qerr &&& ~~~(mask.setWidth 64 <<< (if high then 32 else 0)) }

/-- QERR_CLEAR (R65). -/
def execQerrClear (d : DieId) (high : Bool) (mask : Word) (s : State) : Result :=
  .next (if s.reachable d then s.clearQerr d high mask else s)

/-- EPOCH_NOW_READ (R65): the read latches the high half of B. -/
def execEpochNowRead (d : DieId) (s : State) : Result :=
  .next (if s.reachable d then s.onPort d fun p => { p with bHi := BitVec.ofNat 32 (s.mw.b / 2 ^ 32) } else s)

/-- LOST_READ (R66, R70): LOST of a record queue is cleared, and the next drop raises `STREAM_LOST` again. -/
def execLostRead (d : DieId) (q : Fin 64) (s : State) : Result :=
  .next (if s.reachable d && decide (32 ≤ q.val) then s.onQueue d q fun b => { b with lost := 0, lossSeen := false } else s)

/-- A write to a register of a queue block (Table 3.4); read-only registers take none, and but for QCFG none while ENABLE is 1 (R67). -/
def State.writeBlock (s : State) (d : DieId) (q : Fin 64) (register : Nat) (v : Word) : State :=
  let b := s.queue d q
  match register with
  | 0x08 => s.writeQcfg d q v
  | 0x00 => if b.enable then s else s.onQueue d q fun b => { b with baseLo := v }
  | 0x04 => if b.enable then s else s.onQueue d q fun b => { b with baseHi := v }
  | 0x10 => if b.enable then s else s.onQueue d q fun b => { b with shadowLo := v }
  | 0x14 => if b.enable then s else s.onQueue d q fun b => { b with shadowHi := v }
  | _ => s

/-- REGISTER_WRITE (R63, R65, R67): a 32-bit write to BAR0, or to the MSI-X table of BAR2; offsets not listed and read-only registers ignore it. The table has
no row of its own for BAR2. DESIGN CHOICE. -/
def execRegisterWrite (d : DieId) (at_ : BarOffset) (value : Word) (s : State) : Result :=
  let o := at_.offset.toNat
  if !s.reachable d then .next s
  else if at_.bar2 then .next (s.writeBar2 d o value)
  else if o = 0x10 then .next (s.clearQerr d false value)
  else if o = 0x14 then .next (s.clearQerr d true value)
  else if 0x100 ≤ o ∧ o < 0x900 then .next (s.writeBlock d ⟨(o - 0x100) / 32 % 64, Nat.mod_lt _ (by decide)⟩ ((o - 0x100) % 32) value)
  else if 0x1000 ≤ o ∧ o < 0x1200 ∧ o % 8 = 0 then .next (s.ringDoorbell d ⟨(o - 0x1000) / 8 % 64, Nat.mod_lt _ (by decide)⟩ (value.toNat % 65536))
  else .next s

/-- QUEUE_DMA_ERROR (R71): cause 2 for a read, 3 for a write. -/
def execQueueDmaError (d : DieId) (q : Fin 64) (write : Bool) (s : State) : Result :=
  let b := s.queue d q
  if s.visible d && (b.state == .running || b.state == .stalled) then .next (s.queueError d q (if write then 3 else 2)) else .next s

/-- Write the waiting replies that fit, in order; those of a die in SYNC or HALTED stay (R86). -/
def State.resume : Nat → DieId → Fin 64 → State → State
  | 0, _, _, s => s
  | fuel + 1, d, q, s =>
    match (s.queue d q).waiting.find? fun e => (s.die e.1).live with
    | none => s
    | some e =>
      if s.fits d q e.2 then
        State.resume fuel d q ((s.onQueue d q fun b => { b with waiting := List.erase b.waiting e }).writeRecord d e.2 e.1)
      else s

/-- REPLY_RESUME (R70): waiting replies of a record queue that now fit are written; with none left, the paired command queue runs again. `q` is either queue of
the pair. -/
def execReplyResume (d : DieId) (q : Fin 64) (s : State) : Result :=
  let rq := recordQueue q.val
  let cq : Fin 64 := ⟨q.val % 32, by omega⟩
  if !(s.visible d && (s.die d).port.busMaster) then .next s
  else
    let s := s.resume (s.queue d rq).waiting.length d rq
    if (s.queue d rq).waiting.isEmpty then .next (s.onQueue d cq fun b => if b.state = .stalled then { b with state := .running } else b)
    else .next s

/-- MSIX_BOUNDARY_SIGNAL (R72): at a boundary a record queue with unsignalled records sends its message. -/
def execMsixBoundarySignal (d : DieId) (q : Fin 64) (s : State) : Result :=
  let b := s.queue d q
  if decide (32 ≤ q.val) && b.state == .running && b.vectorEn && decide (0 < b.unsignalled) then
    .next ((s.onQueue d q fun b => { b with unsignalled := 0 }).msix d b.vector)
  else .next s

/-- HOST_LINK_DOWN (R85, R496): the port is lost. -/
def execHostLinkDown (d : DieId) (s : State) : Result := .next (if s.visible d then s.hostPortLost d else s)

/-- BUS_MASTERING_CHANGE (R63): a configuration write sets both enables of the function, bus mastering and memory space. -/
def execBusMasteringChange (d : DieId) (on : PcieEnables) (s : State) : Result :=
  .next (if s.visible d then s.onPort d fun p => { p with busMaster := on.busMaster, memSpace := on.memSpace } else s)

/-- PCIE_LINK_UP (R496): the link of a die out of Seed trains and the function becomes visible with its registers at reset, so that its queues are set up
anew (R67). A port that had been lost goes on relaying through the other until then (R85, Table 17.11). -/
def execPcieLinkUp (d : DieId) (s : State) : Result :=
  let x := s.die d
  if x.present && x.status != .off && x.status != .seed && !x.port.linkUp then
    let s := s.onPort d fun p => { linkUp := true, relay := p.relay, lost := p.lost }
    .next (if s.hasPartner && !x.port.lost then s.onPort d.other fun p => { p with relay := false } else s)
  else .next s

end Sys2Proof.Machine
end

