-- ==== Sys2Proof/Machine/PowerUp.lean ====
section
/-! DEFINITION. Resets and Seed (R390, R447, R458..R461): power-up, package reset, loss and return of VCORE, and the end of Seed. -/

namespace Sys2Proof.Machine

/-- A die at the start of a package reset: fuses stay; Preserve stays where `keep` says so and VCORE is in range (R447). -/
def Die.restarted (x : Die) (cause : Nat) (keep : Bool) : Die :=
  { x.cleared with
    status := if keep && x.status == .off then .off else .seed, preserve := if keep && x.status != .off then x.preserve else {},
    partner := {}, resetCause := cause }

/-- Every die enters Seed and B restarts (R458); the fuses and the flash devices keep their contents. T1 is there but on the QD864-S (R1). -/
def State.restart (s : State) (strap : BitVec 2) (cause : Nat) (keep : Bool) : State :=
  { s with
    phase := .seed, pkgid := strap, t0 := s.t0.restarted cause keep,
    t1 := { s.t1.restarted cause keep with present := s.mw.fuses.variant != 1 },
    mw := { fuses := s.mw.fuses, fuseOk := s.mw.fuseOk, image := { flash0 := s.mw.image.flash0, flash1 := s.mw.image.flash1 } } }

/-- POWER_UP (R458): Preserve is lost. -/
def execPowerUp (strap : BitVec 2) (s : State) : Result := .next (s.restart strap 0 false)

/-- PACKAGE_RESET (R458, R447, R415): Preserve survives, the Curtain ends. -/
def execPackageReset (strap : BitVec 2) (s : State) : Result := .next (s.restart strap 2 true)

/-! ### The end of Seed -/

/-- A supply has read in range for 1 ms (R459). -/
def State.supplyGood (s : State) (i : Fin 7) : Bool :=
  let w := s.supplyWindow i
  within (s.mw.supplyMv[i]) w.1 w.2 && s.mw.supplyRun[i] == 0 && decide (s.mw.supplyNs[i] + 1000000 ≤ s.now)

/-- Supply index of a die's VCORE. -/
def vcoreIndex : DieId → Fin 7
  | .t0 => 0
  | .t1 => 1

/-- MW's fuse copies agree with each other and with those of every Trapeze die (R461). -/
def State.fusesAgree (s : State) : Bool :=
  s.mw.fuseOk && allDies.all fun d =>
    let x := s.die d
    !x.present || x.status == .off ||
      (x.fuses.variant == s.mw.fuses.variant && x.fuses.keyHash == s.mw.fuses.keyHash && x.fuses.debugState == s.mw.fuses.debugState)

/-- A die's Seed can end (R459..R461): its own VCORE and the shared supplies read in range for 1 ms, the coarse check has passed twice, the fuses agree,
and EXTEST does not hold the package in reset (R478). -/
def State.seedReady (s : State) (d : DieId) : Bool :=
  let x := s.die d
  x.present && x.status == .seed && !s.mw.dbgPort.extest && decide (2 ≤ s.mw.coarseOk) && s.fusesAgree && s.supplyGood (vcoreIndex d) &&
    s.supplyGood 2 && s.supplyGood 3 && s.supplyGood 4 && s.supplyGood 5 && s.supplyGood 6

/-- Preserve's ring position is rebuilt from its valid slots, and the reset is recorded (R447). -/
def State.rebuildPreserve (s : State) (d : DieId) : State :=
  let cause := (s.die d).resetCause
  let s := s.onPreserve d fun p => { slots := p.slots, total := p.total, rebuilt := decide (cause ≠ 0) }
  s.record d 0x132 (s.dieTarget d) (le 1 cause ++ zeros 3 ++ le 8 s.mw.b)

/-- T0 will not take the token of Seed and Blossom: it is absent, HALTED, or its VCORE is out of range (R390, R460). -/
def State.t0Out (s : State) : Bool :=
  !s.t0.present || s.t0.status == .halted || s.t0.status == .off || (s.t0.status == .seed && !s.supplyGood 0)

/-- The first grant (R390). -/
def State.firstGrant (s : State) : State :=
  let grant := fun (d : DieId) => (s.onTrapeze fun t => { t with token := some d, lastMoveNs := s.now }).onField fun f => { f with lastRefresh := s.now }
  if s.mw.trapeze.token.isSome || s.mw.trapeze.relinquished then s
  else if s.t0.live then grant .t0
  else if s.t1.live && s.t0Out then grant .t1
  else s

/-- Blossom begins for the package: the first boundary, B = 0, is the next whole millisecond of TB2 (R33, R470). -/
def State.beginBlossom (s : State) : State :=
  let next := ((s.mw.tb[2]).ns / 1000000 + 1) * 1000000
  { s with phase := .blossom, mw := { s.mw with nextNominal := next } }

/-- A die that completes a reset while no die holds the token takes it, and the package proceeds from Blossom as after power-up (R390): the image is read again. -/
def State.blossomAgain (s : State) (d : DieId) : State :=
  let s := s.onTrapeze fun t => { t with token := some d, relinquished := false, oldHolder := none, lastMoveNs := s.now, handover := none, sync := none }
  let s := (s.switchMw {}).onField fun f => { f with lastRefresh := s.now }
  let s := s.onMw fun m => { m with image := { flash0 := m.image.flash0, flash1 := m.image.flash1 }, grid := {} }
  { s with phase := .blossom }

/-- A die leaves Seed: into Blossom, to wait there, or into SYNC (R390, R460, R396). -/
def State.join (s : State) (d : DieId) : State :=
  let old := s
  let s := s.onDie d fun x => { x with
    status := .running, stats := { live := { number := old.mw.interval.number, bStart := old.mw.interval.bStart, partial_ := true } } }
  let s := match s.phase with
    | .seed => s.beginBlossom.firstGrant
    | .blossom | .failed => if s.mw.trapeze.token.isNone && s.mw.trapeze.relinquished then s.blossomAgain d else s.firstGrant
    | .ripe =>
      if s.mw.trapeze.token.isNone then s.blossomAgain d
      else if (s.die d).resetCause = 1 then s.onTrapeze fun t => { t with syncWaitNs := some s.now }
      else
        let s := s.startSync d
        if s.mw.trapeze.directUp then s else s.failSync
  s.phaseRecords old

/-- A die whose fuse copies differ enters HALTED and raises `DIE_HALTED` (R461). -/
def State.haltInSeed (s : State) (d : DieId) : State :=
  let old := s
  let s := s.onDie d fun x => { x with status := .halted, partner := { x.partner with haltedNs := old.now } }
  let s := s.raise d 6 (s.dieTarget d) []
  let s := if (s.die d.other).live then s.raise d.other 6 (s.dieTarget d) [] else s
  ((if s.phase = .blossom then s.firstGrant else s)).phaseRecords old

/-- MW exercises the Curtain sequencer's trigger inputs and output gates once in Seed (R14); the outcome is the hardware's, a free value. -/
def State.testSequencer (s : State) : State :=
  if s.mw.trapeze.seqTest.isSome then s
  else
    let (n, s) := s.draw
    s.onTrapeze fun t => { t with seqTest := some (Config.freeBool n) }

/-- SEED_DONE (R14, R459, R461): a failed test of the Curtain sequencer holds the package in Seed. -/
def execSeedDone (d : DieId) (s : State) : Result :=
  if !s.seedReady d then .next s
  else
    let s := s.testSequencer
    if s.mw.trapeze.seqTest ≠ some true then .next s
    else
      let x := s.die d
      let s := s.rebuildPreserve d
      if x.fuses = x.fuses2 then .next (s.join d) else .next (s.haltInSeed d)

/-! ### Loss of VCORE -/

/-- VCORE_REMOVED (R447): the die stops, its link goes down, its Preserve is lost. Its partner and MW find out by its silence. -/
def execVcoreRemoved (d : DieId) (s : State) : Result :=
  if !(s.die d).present || (s.die d).status == .off then .next s
  else
    let s := match s.mw.trapeze.sync with
      | some _ => s.failSync
      | none => s
    let s := s.onDie d fun x => { x.cleared with
      status := .off, preserve := {}, resetCause := 0,
      partner := { x.partner with hbOn1 := false, hbOn2 := false, synced := false, requested := false, ready := false } }
    .next (if s.phase = .blossom then s.firstGrant else s)

/-- VCORE_RETURN (R460): the die alone enters Seed. -/
def execVcoreReturn (d : DieId) (s : State) : Result :=
  if (s.die d).present && (s.die d).status == .off then
    let s := s.onMw fun m => { m with supplyNs := m.supplyNs.set (vcoreIndex d) s.now }
    .next (s.onDie d fun x => { x with status := .seed, resetCause := 0, partner := { resets := x.partner.resets } })
  else .next s

end Sys2Proof.Machine
end

