-- ==== Sys2Proof/Machine/DebugPort.lean ====
section
/-! DEFINITION. The debug port (R462, R478..R481): the TAP instructions, unlocking, and what a session reads and writes. -/

namespace Sys2Proof.Machine

/-- Change the debug port. -/
def State.onDebug (s : State) (f : Debug → Debug) : State := s.onMw fun m => { m with dbgPort := f m.dbgPort }

/-- What is shifted out next. -/
def State.shiftOut (s : State) (bs : List Byte) : State := s.onDebug fun g => { g with tdo := bs }

/-- DEBUG_STATE (Table 16.2): 0 OPEN, 1 LOCKED, 2 DISABLED. -/
def State.debugState (s : State) : Nat := s.mw.fuses.debugState

/-- A READ session's rights: part OPEN, or unlocked at either level (R478, R480). -/
def State.debugReads (s : State) : Bool := s.debugState == 0 || (s.debugState == 1 && decide (1 ≤ s.mw.dbgPort.unlocked))

/-- A FULL session's rights. -/
def State.debugFull (s : State) : Bool := s.debugState == 0 || (s.debugState == 1 && s.mw.dbgPort.unlocked == 2)

/-! ### TAP instructions (R478) -/

/-- An instruction other than EXTEST is selected. -/
def State.leaveExtest (s : State) : State := s.onDebug fun g => { g with extest := false }

/-- IDCODE: the device identification register, whose value the spec does not state. -/
def execIdcode (s : State) : Result := .next (s.leaveExtest.shiftOut (le 4 (Config.unstated [478, 0]).toNat))

/-- BYPASS: the bypass register captures 0. -/
def execBypass (s : State) : Result := .next (s.leaveExtest.shiftOut [0])

/-- SAMPLE/PRELOAD: the boundary cells as sampled; the spec states neither their number nor their order. -/
def execSamplePreload (s : State) : Result :=
  let r := s.draw
  .next (r.2.leaveExtest.shiftOut (le (Config.freeNat r.1 % 256) (Config.freeNat (r.1 + 1))))

/-- EXTEST: the package is held in package reset while the instruction is selected. -/
def execExtest (s : State) : Result := .next ((s.restart s.pkgid 2 true).onDebug fun g => { g with extest := true })

/-! ### Unlocking (R479, R481) -/

/-- The 48 challenge bytes of a nonce. -/
def State.challenge (s : State) (nonce : List Byte) : List Byte :=
  nonce ++ le 8 s.t0.fuses.serial.toNat ++ (if s.t1.present then le 8 s.t1.fuses.serial.toNat else zeros 8)

/-- DEBUG_CHALLENGE (R479): a fresh nonce, or zeros after three failed attempts. -/
def execDebugChallenge (s : State) : Result :=
  if 2 ≤ s.debugState then .next s
  else if 3 ≤ s.mw.dbgPort.failed then .next ((s.onDebug fun g => { g with nonce := none }).shiftOut (zeros 48))
  else
    let r := s.draw
    let nonce := le 32 (Config.freeNat r.1)
    .next ((r.2.onDebug fun g => { g with nonce := some nonce, nonceNs := s.now }).shiftOut (s.challenge nonce))

/-- The response answers the challenge (R479, R481): in time, with the provisioned key, a valid signature, and for FULL every joint DISABLED. -/
def State.responseOk (s : State) (nonce r : List Byte) : Bool :=
  let key := s.mw.fuses.debugKeyHash
  let level := rd r 0 1
  let still := allDies.all fun d => !(s.die d).works || (s.die d).joints.toList.all fun j => j.state == .disabled
  decide (s.now < s.mw.dbgPort.nonceNs + 60000000000) && decide (r.length = 136) && within level 1 2 && zeroAt r 1 7 &&
    !(key.all fun b => b == 0) && decide (sha256 ((r.drop 8).take 64) = key) && (level == 1 || still) &&
    ecdsaOk (rd r 8 32) (rd r 40 32) (rd r 72 32) (rd r 104 32) (s.challenge nonce ++ le 1 level)

/-- DEBUG_RESPONSE (R479): each nonce serves one attempt. -/
def execDebugResponse (bytes : List Byte) (s : State) : Result :=
  match s.mw.dbgPort.nonce with
  | none => .next s
  | some n =>
    if s.responseOk n bytes then .next (s.onDebug fun g => { g with nonce := none, unlocked := rd bytes 0 1 })
    else .next (s.onDebug fun g => { g with nonce := none, failed := g.failed + 1 })

/-- DEBUG_LOCK (R480): the session ends, and halted cores run again. -/
def execDebugLock (s : State) : Result :=
  let s := s.onDebug fun g => { g with unlocked := 0 }
  .next (allDies.foldl (fun s d => s.onDie d fun x => { x with rm := { x.rm with halted := 0 } }) s)

/-! ### Reading and writing (R480) -/

/-- The fuse block of a die (Table 16.2). -/
def fuseBytes (f : Fuses) : List Byte :=
  le 8 f.serial.toNat ++ le 1 f.variant ++ le 1 (b2n f.inject) ++ le 1 f.debugState ++ zeros 1 ++ le 2 f.tTickPs ++ le 2 f.stageTrim ++
    (f.windows.toList.map fun w => le 2 w.1 ++ le 2 w.2).flatten ++ le 2 f.tempWarn.toNat ++ le 2 f.tempFault.toNat ++ padTo 32 f.keyHash ++
    padTo 32 f.debugKeyHash ++ zeros 16

/-- Bytes of a place, from Table 1.3. -/
def placeSize : DebugPlace → Nat
  | .localMemory _ _ => 16384
  | .clusterMemory _ _ => 262144
  | .dataStore _ => 1179648
  | .exchangeBlocks _ => 16384
  | .preserve _ => 524288
  | .registers _ => 65536
  | .fuses _ => 128
  | .inMirror _ => 8192
  | .outBank _ => 8192
  | .compensation _ => 65536
  | .placements _ => 4096
  | .frames _ => 2048
  | .setPointBanks => 262144
  | .mwFuses => 128

/-- A place kept as a byte memory. -/
def State.placeMemory (s : State) : DebugPlace → Option Memory
  | .localMemory d core => some ((s.die d).cores[core]).local_
  | .clusterMemory d cluster => some ((s.die d).clusters[cluster]).mem
  | .dataStore d => some (s.die d).stores.dataStore
  | .exchangeBlocks d => some (s.die d).stores.exchange
  | .inMirror d => some (s.die d).stores.inMirror
  | .outBank d => some (s.die d).stores.outBank
  | .compensation d => some (s.die d).stores.compStore
  | .placements d => some (s.die d).stores.placements
  | .frames d => some (s.die d).stores.frames
  | .setPointBanks => some s.mw.bank
  | .preserve _ | .registers _ | .fuses _ | .mwFuses => none

/-- Change a place kept as a byte memory. -/
def State.onPlaceMemory (s : State) (p : DebugPlace) (f : Memory → Memory) : State :=
  match p with
  | .localMemory d core => s.onDie d fun x => { x with cores := x.cores.set core { x.cores[core] with local_ := f (x.cores[core]).local_ } }
  | .clusterMemory d cluster => s.onDie d fun x => { x with clusters := x.clusters.set cluster { x.clusters[cluster] with mem := f (x.clusters[cluster]).mem } }
  | .dataStore d => s.onDie d fun x => { x with stores := { x.stores with dataStore := f x.stores.dataStore } }
  | .exchangeBlocks d => s.onDie d fun x => { x with stores := { x.stores with exchange := f x.stores.exchange } }
  | .inMirror d => s.onDie d fun x => { x with stores := { x.stores with inMirror := f x.stores.inMirror } }
  | .outBank d => s.onDie d fun x => { x with stores := { x.stores with outBank := f x.stores.outBank } }
  | .compensation d => s.onDie d fun x => { x with stores := { x.stores with compStore := f x.stores.compStore } }
  | .placements d => s.onDie d fun x => { x with stores := { x.stores with placements := f x.stores.placements } }
  | .frames d => s.onDie d fun x => { x with stores := { x.stores with frames := f x.stores.frames } }
  | .setPointBanks => s.onMw fun m => { m with bank := f m.bank }
  | .preserve _ | .registers _ | .fuses _ | .mwFuses => s

/-- A byte of a place. -/
def State.placeByte (s : State) (p : DebugPlace) (a : Nat) : Byte :=
  match p, s.placeMemory p with
  | _, some m => m.read a
  | .preserve d, none => match (s.die d).preserve.settled.slots.find (a / 64) with
    | some r => r.bytes.getD (a % 64) 0
    | none => 0
  | .registers d, none => BitVec.ofNat 8 (s.register d (a / 4 * 4) / 256 ^ (a % 4))
  | .fuses d, none => (fuseBytes (s.die d).fuses).getD a 0
  | _, none => (fuseBytes s.mw.fuses).getD a 0

/-- DEBUG_READ (R480): reads change nothing but what is shifted out. -/
def execDebugRead (where_ : DebugPlace) (address count : Nat) (s : State) : Result :=
  if !s.debugReads then .next s
  else if placeSize where_ < address + count then .fault .noSuchAddress
  else .next (s.shiftOut ((List.range count).map fun i => s.placeByte where_ (address + i)))

/-- The record a 64-byte Preserve slot holds (Table 15.1), none where MARK has no VALID. -/
def slotRecord (bs : List Byte) : Option PresRec :=
  if bit (rd bs 28 1) 0 then
    some { time := rd bs 0 6 * 1000000000 + rd bs 6 4, last := rd bs 10 6 * 1000000000 + rd bs 16 4, source := BitVec.ofNat 32 (rd bs 20 4), code := rd bs 24 2,
           repeat_ := rd bs 26 2, mark := rd bs 28 1 % 16, seq := rd bs 30 2, data := (bs.drop 32).take 32 }
  else none

/-- Write one byte of a die's Preserve. -/
def Preserve.poke (p : Preserve) (a : Nat) (b : Byte) : Preserve :=
  let old := match p.slots.find (a / 64) with
    | some r => r.bytes
    | none => zeros 64
  match slotRecord (old.set (a % 64) b) with
  | some r => { p with slots := p.slots.set (a / 64) r }
  | none => { p with slots := p.slots.erase (a / 64) }

/-- Write bytes to Preserve. -/
def Preserve.pokes (p : Preserve) (a : Nat) : List Byte → Preserve
  | [] => p
  | b :: r => Preserve.pokes (p.poke a b) (a + 1) r

/-- A 32-bit register write as the bus makes it (R65, R67). -/
def State.debugRegister (s : State) (d : DieId) (a : Nat) (bs : List Byte) : State :=
  if a % 4 = 0 ∧ bs.length = 4 then
    (match execRegisterWrite d { offset := BitVec.ofNat 16 a } (BitVec.ofNat 32 (rd bs 0 4)) s with
      | .next t => t
      | _ => s)
  else s

/-- DEBUG_WRITE (R480): a FULL session writes memories and registers; fuses are read-only (R462). -/
def execDebugWrite (where_ : DebugPlace) (address : Nat) (bytes : List Byte) (s : State) : Result :=
  if !s.debugFull then .next s
  else if placeSize where_ < address + bytes.length then .fault .noSuchAddress
  else match where_ with
    | .preserve d => .next (s.onPreserve d fun p => p.settled.pokes address bytes)
    | .registers d => .next (s.debugRegister d address bytes)
    | p => .next (s.onPlaceMemory p fun m => m.writeN address bytes)

/-- DEBUG_HALT (R480, R481): a Ringmaster core stops, and with it the die's heartbeats. -/
def execDebugHalt (d : DieId) (core : Fin 4) (s : State) : Result :=
  if s.debugFull then .next (s.onDie d fun x => { x with rm := { x.rm with halted := x.rm.halted ||| (1#4 <<< core.val) } }) else .next s

/-- DEBUG_STEP (R480): a halted core executes one instruction of its firmware, whose effect on this state the spec does not give, and stays halted. -/
def execDebugStep (d : DieId) (core : Fin 4) (s : State) : Result :=
  if s.debugFull && (s.die d).rm.halted.getLsbD core.val then .next (s.shiftOut []) else .next s

/-! ### Flash and fuses -/

/-- A flash device. -/
def ImageLoad.flash (m : ImageLoad) (cs : Fin 2) : Memory := if cs = 0 then m.flash0 else m.flash1

/-- Change a flash device. -/
def ImageLoad.onFlash (m : ImageLoad) (cs : Fin 2) (f : Memory → Memory) : ImageLoad :=
  if cs = 0 then { m with flash0 := f m.flash0 } else { m with flash1 := f m.flash1 }

/-- Bytes of a flash device (R463). -/
def flashSize : Nat := 16777216

/-- Program bytes into a NOR device: bits are only cleared. Bytes are kept inverted, so that a cleared bit is a set one. -/
def programFlash (m : Memory) (a : Nat) : List Byte → Memory
  | [] => m
  | b :: r => programFlash (m.write a (m.read a ||| ~~~b)) (a + 1) r

/-- DEBUG_FLASH_READ (R480). -/
def execDebugFlashRead (cs : Fin 2) (address count : Nat) (s : State) : Result :=
  if !s.debugFull then .next s
  else if flashSize < address + count then .fault .noSuchAddress
  else .next (s.shiftOut (flashBytes (s.mw.image.flash cs) address count))

/-- DEBUG_FLASH_ERASE (R480): erased bytes read 0xFF. -/
def execDebugFlashErase (cs : Fin 2) (address count : Nat) (s : State) : Result :=
  if !s.debugFull then .next s
  else if flashSize < address + count then .fault .noSuchAddress
  else .next (s.onImage fun m => m.onFlash cs fun f => f.filter fun c => !(decide (address ≤ c.1) && decide (c.1 < address + count)))

/-- DEBUG_FLASH_WRITE (R480, R481): effective at the next package reset. -/
def execDebugFlashWrite (cs : Fin 2) (address : Nat) (bytes : List Byte) (s : State) : Result :=
  if !s.debugFull then .next s
  else if flashSize < address + bytes.length then .fault .noSuchAddress
  else .next (s.onImage fun m => m.onFlash cs fun f => programFlash f address bytes)

/-- Program a hash where it is blank. -/
def Fuses.program (f : Fuses) (which : FuseHash) (bytes : List Byte) : Fuses :=
  match which with
  | .keyHash => if f.keyHash.all (fun b => b == 0) then { f with keyHash := bytes } else f
  | .debugKeyHash => if f.debugKeyHash.all (fun b => b == 0) then { f with debugKeyHash := bytes } else f

/-- DEBUG_FUSE_PROGRAM (R462, R480): a blank KEY_HASH or DEBUG_KEY_HASH of a die is programmed once, in both copies, and MW's copy of it where that is blank. -/
def execDebugFuseProgram (d : DieId) (which : FuseHash) (bytes : List Byte) (s : State) : Result :=
  if s.debugFull && (s.die d).present && decide (bytes.length = 32) then
    let s := s.onDie d fun x => { x with fuses := x.fuses.program which bytes, fuses2 := x.fuses2.program which bytes }
    .next (s.onMw fun m => { m with fuses := m.fuses.program which bytes })
  else .next s

end Sys2Proof.Machine
end

