-- ==== Sys2Proof/Machine/HostCommands.lean ====
section
/-! DEFINITION. One meaning for each host command of Table 3.14, and `BAD_OPCODE` (R90). What a command does once it executes is its body, named in
`bodyOf`. -/

namespace Sys2Proof.Machine

/-- BAD_OPCODE (R90): a command whose OPCODE is not in Table 3.14. -/
def execBadOpcode (opcode : BitVec 16) (h : HostCmd) (s : State) : Result :=
  if (opInfo opcode.toNat).isSome then .next s else hostCommand opcode.toNat h s

/-- `NOP`. -/
def execNop (h : HostCmd) (s : State) : Result := hostCommand 0x0000 h s

/-- `IDENTIFY`. -/
def execIdentify (h : HostCmd) (s : State) : Result := hostCommand 0x0001 h s

/-- `GET_STATUS`. -/
def execGetStatus (h : HostCmd) (s : State) : Result := hostCommand 0x0002 h s

/-- `CONFIG_PERIODS`. -/
def execConfigPeriods (h : HostCmd) (s : State) : Result := hostCommand 0x0010 h s

/-- `CONFIG_DEADLINE`. -/
def execConfigDeadline (h : HostCmd) (s : State) : Result := hostCommand 0x0011 h s

/-- `CONFIG_DISCARD`. -/
def execConfigDiscard (h : HostCmd) (s : State) : Result := hostCommand 0x0018 h s

/-- `COMMIT`. -/
def execCommit (h : HostCmd) (s : State) : Result := hostCommand 0x0020 h s

/-- `GET_BOUNDARY`. -/
def execGetBoundary (h : HostCmd) (s : State) : Result := hostCommand 0x0021 h s

/-- `TIME_GET`. -/
def execTimeGet (h : HostCmd) (s : State) : Result := hostCommand 0x0100 h s

/-- `TIME_SET_INCREMENT`. -/
def execTimeSetIncrement (h : HostCmd) (s : State) : Result := hostCommand 0x0101 h s

/-- `TIME_OFFSET`. -/
def execTimeOffset (h : HostCmd) (s : State) : Result := hostCommand 0x0102 h s

/-- `TIME_FORCE_STEP`. -/
def execTimeForceStep (h : HostCmd) (s : State) : Result := hostCommand 0x0103 h s

/-- `CONFIG_PTP`. -/
def execConfigPtp (h : HostCmd) (s : State) : Result := hostCommand 0x0110 h s

/-- `PTP_STATUS`. -/
def execPtpStatus (h : HostCmd) (s : State) : Result := hostCommand 0x0111 h s

/-- `CONFIG_TPO`. -/
def execConfigTpo (h : HostCmd) (s : State) : Result := hostCommand 0x0120 h s

/-- `TPI_STREAM`. -/
def execTpiStream (h : HostCmd) (s : State) : Result := hostCommand 0x0121 h s

/-- `CONFIG_SWITCH`. -/
def execConfigSwitch (h : HostCmd) (s : State) : Result := hostCommand 0x0130 h s

/-- `CELL_PORT_STATUS`. -/
def execCellPortStatus (h : HostCmd) (s : State) : Result := hostCommand 0x0131 h s

/-- `CONFIG_CELL_PEERS`. -/
def execConfigCellPeers (h : HostCmd) (s : State) : Result := hostCommand 0x0140 h s

/-- `CONFIG_RING`. -/
def execConfigRing (h : HostCmd) (s : State) : Result := hostCommand 0x0200 h s

/-- `CONFIG_NODE`. -/
def execConfigNode (h : HostCmd) (s : State) : Result := hostCommand 0x0201 h s

/-- `RING_STATUS`. -/
def execRingStatus (h : HostCmd) (s : State) : Result := hostCommand 0x0202 h s

/-- `RING_SCAN`. -/
def execRingScan (h : HostCmd) (s : State) : Result := hostCommand 0x0203 h s

/-- `RING_COUNTERS`. -/
def execRingCounters (h : HostCmd) (s : State) : Result := hostCommand 0x0204 h s

/-- `MAILBOX_SEND`. -/
def execMailboxSend (h : HostCmd) (s : State) : Result := hostCommand 0x0205 h s

/-- `MAILBOX_STREAM`. -/
def execMailboxStream (h : HostCmd) (s : State) : Result := hostCommand 0x0206 h s

/-- `RING_STOP`. -/
def execRingStop (h : HostCmd) (s : State) : Result := hostCommand 0x0207 h s

/-- `CONFIG_JOINT`. -/
def execConfigJoint (h : HostCmd) (s : State) : Result := hostCommand 0x0300 h s

/-- `CONFIG_LIMITS`. -/
def execConfigLimits (h : HostCmd) (s : State) : Result := hostCommand 0x0301 h s

/-- `JOINT_ENABLE`. -/
def execJointEnable (h : HostCmd) (s : State) : Result := hostCommand 0x0302 h s

/-- `JOINT_DISABLE`. -/
def execJointDisable (h : HostCmd) (s : State) : Result := hostCommand 0x0303 h s

/-- `MOVE_POINT`. -/
def execMovePoint (h : HostCmd) (s : State) : Result := hostCommand 0x0304 h s

/-- `MOVE_VELOCITY`. -/
def execMoveVelocity (h : HostCmd) (s : State) : Result := hostCommand 0x0305 h s

/-- `STREAM_POINTS`. -/
def execStreamPoints (h : HostCmd) (s : State) : Result := hostCommand 0x0306 h s

/-- `HOME`. -/
def execHome (h : HostCmd) (s : State) : Result := hostCommand 0x0307 h s

/-- `CONFIG_HOMING`. -/
def execConfigHoming (h : HostCmd) (s : State) : Result := hostCommand 0x0308 h s

/-- `CONFIG_STANDSTILL`. -/
def execConfigStandstill (h : HostCmd) (s : State) : Result := hostCommand 0x0309 h s

/-- `JOINT_STATUS`. -/
def execJointStatus (h : HostCmd) (s : State) : Result := hostCommand 0x030A h s

/-- `JOINT_STOP`. -/
def execJointStop (h : HostCmd) (s : State) : Result := hostCommand 0x030B h s

/-- `CONFIG_FOLLOWING`. -/
def execConfigFollowing (h : HostCmd) (s : State) : Result := hostCommand 0x030C h s

/-- `CONFIG_CONTROL`. -/
def execConfigControl (h : HostCmd) (s : State) : Result := hostCommand 0x0400 h s

/-- `CONFIG_FILTER`. -/
def execConfigFilter (h : HostCmd) (s : State) : Result := hostCommand 0x0401 h s

/-- `CONFIG_FEEDFORWARD`. -/
def execConfigFeedforward (h : HostCmd) (s : State) : Result := hostCommand 0x0402 h s

/-- `TABLE_WRITE`. -/
def execTableWrite (h : HostCmd) (s : State) : Result := hostCommand 0x0403 h s

/-- `TABLE_READ`. -/
def execTableRead (h : HostCmd) (s : State) : Result := hostCommand 0x0404 h s

/-- `EXT_TORQUE`. -/
def execExtTorque (h : HostCmd) (s : State) : Result := hostCommand 0x0405 h s

/-- `CONFIG_FEEDBACK`. -/
def execConfigFeedback (h : HostCmd) (s : State) : Result := hostCommand 0x0406 h s

/-- `CONTROL_STATUS`. -/
def execControlStatus (h : HostCmd) (s : State) : Result := hostCommand 0x0407 h s

/-- `CONFIG_JUGGLER`. -/
def execConfigJuggler (h : HostCmd) (s : State) : Result := hostCommand 0x0500 h s

/-- `CONFIG_WEIGHTS`. -/
def execConfigWeights (h : HostCmd) (s : State) : Result := hostCommand 0x0501 h s

/-- `REFERENCE_LOAD`. -/
def execReferenceLoad (h : HostCmd) (s : State) : Result := hostCommand 0x0502 h s

/-- `CONFIG_ROWS`. -/
def execConfigRows (h : HostCmd) (s : State) : Result := hostCommand 0x0503 h s

/-- `JUGGLER_STATUS`. -/
def execJugglerStatus (h : HostCmd) (s : State) : Result := hostCommand 0x0504 h s

/-- `PLAN_READ`. -/
def execPlanRead (h : HostCmd) (s : State) : Result := hostCommand 0x0505 h s

/-- `PLAN_STREAM`. -/
def execPlanStream (h : HostCmd) (s : State) : Result := hostCommand 0x0506 h s

/-- `CONFIG_GEOMETRY`. -/
def execConfigGeometry (h : HostCmd) (s : State) : Result := hostCommand 0x0600 h s

/-- `CONFIG_KINEMATICS`. -/
def execConfigKinematics (h : HostCmd) (s : State) : Result := hostCommand 0x0601 h s

/-- `CONFIG_SSM_PARAMS`. -/
def execConfigSsmParams (h : HostCmd) (s : State) : Result := hostCommand 0x0602 h s

/-- `CONFIG_SENSOR`. -/
def execConfigSensor (h : HostCmd) (s : State) : Result := hostCommand 0x0603 h s

/-- `CONFIG_ZONE`. -/
def execConfigZone (h : HostCmd) (s : State) : Result := hostCommand 0x0604 h s

/-- `ZONE_REQUEST`. -/
def execZoneRequest (h : HostCmd) (s : State) : Result := hostCommand 0x0605 h s

/-- `ZONE_RELEASE`. -/
def execZoneRelease (h : HostCmd) (s : State) : Result := hostCommand 0x0606 h s

/-- `SEP_STATUS`. -/
def execSepStatus (h : HostCmd) (s : State) : Result := hostCommand 0x0607 h s

/-- `SEP_STREAM`. -/
def execSepStream (h : HostCmd) (s : State) : Result := hostCommand 0x0608 h s

/-- `CONFIG_INPUTS`. -/
def execConfigInputs (h : HostCmd) (s : State) : Result := hostCommand 0x0700 h s

/-- `CONFIG_OUTPUTS`. -/
def execConfigOutputs (h : HostCmd) (s : State) : Result := hostCommand 0x0701 h s

/-- `FIO_WRITE`. -/
def execFioWrite (h : HostCmd) (s : State) : Result := hostCommand 0x0702 h s

/-- `FIO_READ`. -/
def execFioRead (h : HostCmd) (s : State) : Result := hostCommand 0x0703 h s

/-- `FIO_REARM`. -/
def execFioRearm (h : HostCmd) (s : State) : Result := hostCommand 0x0704 h s

/-- `CONFIG_WATCHDOG`. -/
def execConfigWatchdog (h : HostCmd) (s : State) : Result := hostCommand 0x0705 h s

/-- `CONFIG_ENCODER`. -/
def execConfigEncoder (h : HostCmd) (s : State) : Result := hostCommand 0x0706 h s

/-- `CONFIG_SAFETY_INPUTS`. -/
def execConfigSafetyInputs (h : HostCmd) (s : State) : Result := hostCommand 0x0707 h s

/-- `TRAPEZE_STATUS`. -/
def execTrapezeStatus (h : HostCmd) (s : State) : Result := hostCommand 0x0800 h s

/-- `CONFIG_TRAPEZE`. -/
def execConfigTrapeze (h : HostCmd) (s : State) : Result := hostCommand 0x0801 h s

/-- `SYNC_START`. -/
def execSyncStart (h : HostCmd) (s : State) : Result := hostCommand 0x0802 h s

/-- `SWITCH_OVER`. -/
def execSwitchOver (h : HostCmd) (s : State) : Result := hostCommand 0x0803 h s

/-- `HEALTH_STREAM`. -/
def execHealthStream (h : HostCmd) (s : State) : Result := hostCommand 0x0804 h s

/-- `FAULT_INJECT`. -/
def execFaultInject (h : HostCmd) (s : State) : Result := hostCommand 0x0900 h s

/-- `CONFIG_EVENTS`. -/
def execConfigEvents (h : HostCmd) (s : State) : Result := hostCommand 0x0901 h s

/-- `EVENT_READ`. -/
def execEventRead (h : HostCmd) (s : State) : Result := hostCommand 0x0902 h s

/-- `EVENT_CLEAR`. -/
def execEventClear (h : HostCmd) (s : State) : Result := hostCommand 0x0903 h s

/-- `PLACE_TEST`. -/
def execPlaceTest (h : HostCmd) (s : State) : Result := hostCommand 0x0904 h s

/-- `FAULT_STATUS`. -/
def execFaultStatus (h : HostCmd) (s : State) : Result := hostCommand 0x0905 h s

/-- `PRESERVE_FREEZE`. -/
def execPreserveFreeze (h : HostCmd) (s : State) : Result := hostCommand 0x0A00 h s

/-- `PRESERVE_THAW`. -/
def execPreserveThaw (h : HostCmd) (s : State) : Result := hostCommand 0x0A01 h s

/-- `PRESERVE_READ`. -/
def execPreserveRead (h : HostCmd) (s : State) : Result := hostCommand 0x0A02 h s

/-- `CONFIG_STATISTICS`. -/
def execConfigStatistics (h : HostCmd) (s : State) : Result := hostCommand 0x0A03 h s

/-- `STATS_READ`. -/
def execStatsRead (h : HostCmd) (s : State) : Result := hostCommand 0x0A04 h s

/-- `CODE_LOAD`. -/
def execCodeLoad (h : HostCmd) (s : State) : Result := hostCommand 0x0B00 h s

/-- `CONFIG_PROGRAM`. -/
def execConfigProgram (h : HostCmd) (s : State) : Result := hostCommand 0x0B01 h s

/-- `PROGRAM_READ`. -/
def execProgramRead (h : HostCmd) (s : State) : Result := hostCommand 0x0B02 h s

/-- `TRACE_OPEN`. -/
def execTraceOpen (h : HostCmd) (s : State) : Result := hostCommand 0x0B03 h s

/-- `TRACE_CLOSE`. -/
def execTraceClose (h : HostCmd) (s : State) : Result := hostCommand 0x0B04 h s

/-- `DISPATCH_STATUS`. -/
def execDispatchStatus (h : HostCmd) (s : State) : Result := hostCommand 0x0B05 h s

end Sys2Proof.Machine
end

