-- ==== Sys2Proof/Machine/Takeover.lean ====
section
/-! DEFINITION. Takeover (R84, R389, R398, R399, R406): MW's decision on a token request, and the wake-up of a LATENT holder. -/

namespace Sys2Proof.Machine

/-- A fenced unit or a lost cluster of this die that still waits for its re-admission leaves the die able to serve (R19, R20, R29): the share fits on what is left, or
does once the clusters that fail are lost. -/
def State.survives (s : State) (d : DieId) : Bool :=
  let x := s.die d
  !x.condemned && (!x.readmit || s.readmitOk d ||
    (!(s.escalated d).isEmpty && (s.onDie d fun x => { x with removed := x.removed ++ s.escalated d }).readmitOk d))

/-- MW grants the token to this die: it is eligible, also after its own unit fault has been dealt with (R29), and the holder has relinquished or MW has had no path 2 heartbeat from it for 20 µs (R389). -/
def State.grantable (s : State) (d : DieId) : Bool :=
  let p := (s.die d).partner
  p.eligible && p.mwLinkUp && s.survives d && (s.mw.trapeze.relinquished || match s.mw.trapeze.token with
    | some o => decide ((s.die o).partner.hbMwNs + 20000 ≤ s.now)
    | none => false)

/-- Event data of `TAKEOVER` (Table 14.7). -/
def takeoverData (old new : DieId) (relinquished latent : Bool) (ns b : Nat) : List Byte :=
  le 1 old.code ++ le 1 new.code ++ le 1 (if relinquished then 1 else 2) ++ le 1 (b2n latent) ++ le 4 ns ++ le 8 b

/-- The token passes to a die (R399): its next heartbeat is due at once, a handover in progress ends (R402), MW's output switch takes 2 µs, the new holder executes the copies it has notices for
(R84), a LATENT one once it has woken (R406), and raises `TAKEOVER`. -/
def State.takeToken (s : State) (d : DieId) : State :=
  let t := s.mw.trapeze
  let s := s.endHandover
  let switch := s.now + 2000
  let since := if t.relinquished then t.leftNs else (s.die d.other).partner.hbMwNs
  let took := sat32 (switch - since)
  let s := s.onTrapeze fun t => { t with
    token := some d, relinquished := false, oldHolder := none, takeovers := min 65535 (t.takeovers + 1), lastTakeoverB := s.mw.b, lastTakeoverNs := took,
    lastMoveNs := s.now, switchNs := switch, warmUp := false }
  let s := s.onPartner d fun q => { q with
    eligible := false, requested := false, hbSentNs := min q.hbSentNs (s.now - 5000), latentWake := if q.latentGated then some s.now else none, ready := false }
  let s := if (s.die d).partner.latentGated then s.onDie d Die.latentUngate else s
  let s := if (s.die d).partner.latentGated then s else s.replay d
  s.raise d 0 (s.dieTarget d) (takeoverData d.other d t.relinquished (s.die d).cfg.trapeze.latent took s.mw.b)

/-- TOKEN_REQUEST (R389): granted or refused. A die requests the token after the holder's silence (R398) or once the holder has relinquished it. -/
def execTokenRequest (d : DieId) (s : State) : Result :=
  if !(s.hasPartner && (s.die d).works && !s.isFlier d && ((s.die d).partner.requested || s.mw.trapeze.relinquished)) then .next s
  else if s.grantable d then .next (s.takeToken d)
  else .next ((s.onTrapeze fun t => { t with refused := min 65535 (t.refused + 1) }).onPartner d fun q => { q with requested := false })

/-- LATENT_READY (R406): the new holder has woken its clusters; it replays the commands whose notices follow the last epoch and then those it still holds. It
computes from the next boundary. -/
def execLatentReady (d : DieId) (s : State) : Result :=
  let p := (s.die d).partner
  if s.isFlier d && (s.die d).works && p.latentGated && p.latentWake.isSome && !p.ready then
    let s := s.onPartner d fun q => { q with ready := true }
    .next ((s.replayLatent d).replay d)
  else .next s

end Sys2Proof.Machine
end

