-- ==== Sys2Proof/Machine/Dispatch.lean ====
section
/-! DEFINITION. The meaning of every command: one arm for each constructor of `Instr`. -/

namespace Sys2Proof.Machine

def exec (i : Instr) (s : State) : Host.Outcome State Fault Refusal :=
  match i with
  | .powerUp strap => Sys2Proof.Machine.execPowerUp strap s
  | .packageReset strap => Sys2Proof.Machine.execPackageReset strap s
  | .dieReset d => Sys2Proof.Machine.execDieReset d s
  | .seedDone d => Sys2Proof.Machine.execSeedDone d s
  | .pcieLinkUp d => Sys2Proof.Machine.execPcieLinkUp d s
  | .imageSectionRead part => Sys2Proof.Machine.execImageSectionRead part s
  | .signatureVerified => Sys2Proof.Machine.execSignatureVerified s
  | .blossomApply => Sys2Proof.Machine.execBlossomApply s
  | .ripeBegin => Sys2Proof.Machine.execRipeBegin s
  | .jogTimeout d j => Sys2Proof.Machine.execJogTimeout d j s
  | .idcode => Sys2Proof.Machine.execIdcode s
  | .bypass => Sys2Proof.Machine.execBypass s
  | .samplePreload => Sys2Proof.Machine.execSamplePreload s
  | .extest => Sys2Proof.Machine.execExtest s
  | .debugChallenge => Sys2Proof.Machine.execDebugChallenge s
  | .debugResponse bytes => Sys2Proof.Machine.execDebugResponse bytes s
  | .debugLock => Sys2Proof.Machine.execDebugLock s
  | .debugRead where_ address count => Sys2Proof.Machine.execDebugRead where_ address count s
  | .debugWrite where_ address bytes => Sys2Proof.Machine.execDebugWrite where_ address bytes s
  | .debugHalt d core => Sys2Proof.Machine.execDebugHalt d core s
  | .debugStep d core => Sys2Proof.Machine.execDebugStep d core s
  | .debugFlashRead cs address count => Sys2Proof.Machine.execDebugFlashRead cs address count s
  | .debugFlashErase cs address count => Sys2Proof.Machine.execDebugFlashErase cs address count s
  | .debugFlashWrite cs address bytes => Sys2Proof.Machine.execDebugFlashWrite cs address bytes s
  | .debugFuseProgram d which bytes => Sys2Proof.Machine.execDebugFuseProgram d which bytes s
  | .timeBaseTick => Sys2Proof.Machine.execTimeBaseTick s
  | .boundary => Sys2Proof.Machine.execBoundary s
  | .cutOff => Sys2Proof.Machine.execCutOff s
  | .atEpochExecute d => Sys2Proof.Machine.execAtEpochExecute d s
  | .commitDecision => Sys2Proof.Machine.execCommitDecision s
  | .commitApply d => Sys2Proof.Machine.execCommitApply d s
  | .mwCommitApply => Sys2Proof.Machine.execMwCommitApply s
  | .unitReady unit => Sys2Proof.Machine.execUnitReady unit s
  | .clusterUngated d cluster => Sys2Proof.Machine.execClusterUngated d cluster s
  | .readmission d => Sys2Proof.Machine.execReadmission d s
  | .doorbell d q index => Sys2Proof.Machine.execDoorbell d q index s
  | .queueEnable d q qcfg => Sys2Proof.Machine.execQueueEnable d q qcfg s
  | .queueDisable d q => Sys2Proof.Machine.execQueueDisable d q s
  | .queueDrained d q => Sys2Proof.Machine.execQueueDrained d q s
  | .qerrClear d high mask => Sys2Proof.Machine.execQerrClear d high mask s
  | .epochNowRead d => Sys2Proof.Machine.execEpochNowRead d s
  | .lostRead d q => Sys2Proof.Machine.execLostRead d q s
  | .registerWrite d at_ value => Sys2Proof.Machine.execRegisterWrite d at_ value s
  | .queueDmaError d q write => Sys2Proof.Machine.execQueueDmaError d q write s
  | .replyResume d q => Sys2Proof.Machine.execReplyResume d q s
  | .msixBoundarySignal d q => Sys2Proof.Machine.execMsixBoundarySignal d q s
  | .hostLinkDown d => Sys2Proof.Machine.execHostLinkDown d s
  | .pcieLcrcError d replayFails => Sys2Proof.Machine.execPcieLcrcError d replayFails s
  | .dequeueNotice d => Sys2Proof.Machine.execDequeueNotice d s
  | .pairingWindowExpiry d => Sys2Proof.Machine.execPairingWindowExpiry d s
  | .nop h => Sys2Proof.Machine.execNop h s
  | .identify h => Sys2Proof.Machine.execIdentify h s
  | .getStatus h => Sys2Proof.Machine.execGetStatus h s
  | .configPeriods h => Sys2Proof.Machine.execConfigPeriods h s
  | .configDeadline h => Sys2Proof.Machine.execConfigDeadline h s
  | .configDiscard h => Sys2Proof.Machine.execConfigDiscard h s
  | .commit h => Sys2Proof.Machine.execCommit h s
  | .getBoundary h => Sys2Proof.Machine.execGetBoundary h s
  | .timeGet h => Sys2Proof.Machine.execTimeGet h s
  | .timeSetIncrement h => Sys2Proof.Machine.execTimeSetIncrement h s
  | .timeOffset h => Sys2Proof.Machine.execTimeOffset h s
  | .timeForceStep h => Sys2Proof.Machine.execTimeForceStep h s
  | .configPtp h => Sys2Proof.Machine.execConfigPtp h s
  | .ptpStatus h => Sys2Proof.Machine.execPtpStatus h s
  | .configTpo h => Sys2Proof.Machine.execConfigTpo h s
  | .tpiStream h => Sys2Proof.Machine.execTpiStream h s
  | .configSwitch h => Sys2Proof.Machine.execConfigSwitch h s
  | .cellPortStatus h => Sys2Proof.Machine.execCellPortStatus h s
  | .configCellPeers h => Sys2Proof.Machine.execConfigCellPeers h s
  | .configRing h => Sys2Proof.Machine.execConfigRing h s
  | .configNode h => Sys2Proof.Machine.execConfigNode h s
  | .ringStatus h => Sys2Proof.Machine.execRingStatus h s
  | .ringScan h => Sys2Proof.Machine.execRingScan h s
  | .ringCounters h => Sys2Proof.Machine.execRingCounters h s
  | .mailboxSend h => Sys2Proof.Machine.execMailboxSend h s
  | .mailboxStream h => Sys2Proof.Machine.execMailboxStream h s
  | .ringStop h => Sys2Proof.Machine.execRingStop h s
  | .configJoint h => Sys2Proof.Machine.execConfigJoint h s
  | .configLimits h => Sys2Proof.Machine.execConfigLimits h s
  | .jointEnable h => Sys2Proof.Machine.execJointEnable h s
  | .jointDisable h => Sys2Proof.Machine.execJointDisable h s
  | .movePoint h => Sys2Proof.Machine.execMovePoint h s
  | .moveVelocity h => Sys2Proof.Machine.execMoveVelocity h s
  | .streamPoints h => Sys2Proof.Machine.execStreamPoints h s
  | .home h => Sys2Proof.Machine.execHome h s
  | .configHoming h => Sys2Proof.Machine.execConfigHoming h s
  | .configStandstill h => Sys2Proof.Machine.execConfigStandstill h s
  | .jointStatus h => Sys2Proof.Machine.execJointStatus h s
  | .jointStop h => Sys2Proof.Machine.execJointStop h s
  | .configFollowing h => Sys2Proof.Machine.execConfigFollowing h s
  | .configControl h => Sys2Proof.Machine.execConfigControl h s
  | .configFilter h => Sys2Proof.Machine.execConfigFilter h s
  | .configFeedforward h => Sys2Proof.Machine.execConfigFeedforward h s
  | .tableWrite h => Sys2Proof.Machine.execTableWrite h s
  | .tableRead h => Sys2Proof.Machine.execTableRead h s
  | .extTorque h => Sys2Proof.Machine.execExtTorque h s
  | .configFeedback h => Sys2Proof.Machine.execConfigFeedback h s
  | .controlStatus h => Sys2Proof.Machine.execControlStatus h s
  | .configJuggler h => Sys2Proof.Machine.execConfigJuggler h s
  | .configWeights h => Sys2Proof.Machine.execConfigWeights h s
  | .referenceLoad h => Sys2Proof.Machine.execReferenceLoad h s
  | .configRows h => Sys2Proof.Machine.execConfigRows h s
  | .jugglerStatus h => Sys2Proof.Machine.execJugglerStatus h s
  | .planRead h => Sys2Proof.Machine.execPlanRead h s
  | .planStream h => Sys2Proof.Machine.execPlanStream h s
  | .configGeometry h => Sys2Proof.Machine.execConfigGeometry h s
  | .configKinematics h => Sys2Proof.Machine.execConfigKinematics h s
  | .configSsmParams h => Sys2Proof.Machine.execConfigSsmParams h s
  | .configSensor h => Sys2Proof.Machine.execConfigSensor h s
  | .configZone h => Sys2Proof.Machine.execConfigZone h s
  | .zoneRequest h => Sys2Proof.Machine.execZoneRequest h s
  | .zoneRelease h => Sys2Proof.Machine.execZoneRelease h s
  | .sepStatus h => Sys2Proof.Machine.execSepStatus h s
  | .sepStream h => Sys2Proof.Machine.execSepStream h s
  | .configInputs h => Sys2Proof.Machine.execConfigInputs h s
  | .configOutputs h => Sys2Proof.Machine.execConfigOutputs h s
  | .fioWrite h => Sys2Proof.Machine.execFioWrite h s
  | .fioRead h => Sys2Proof.Machine.execFioRead h s
  | .fioRearm h => Sys2Proof.Machine.execFioRearm h s
  | .configWatchdog h => Sys2Proof.Machine.execConfigWatchdog h s
  | .configEncoder h => Sys2Proof.Machine.execConfigEncoder h s
  | .configSafetyInputs h => Sys2Proof.Machine.execConfigSafetyInputs h s
  | .trapezeStatus h => Sys2Proof.Machine.execTrapezeStatus h s
  | .configTrapeze h => Sys2Proof.Machine.execConfigTrapeze h s
  | .syncStart h => Sys2Proof.Machine.execSyncStart h s
  | .switchOver h => Sys2Proof.Machine.execSwitchOver h s
  | .healthStream h => Sys2Proof.Machine.execHealthStream h s
  | .faultInject h => Sys2Proof.Machine.execFaultInject h s
  | .configEvents h => Sys2Proof.Machine.execConfigEvents h s
  | .eventRead h => Sys2Proof.Machine.execEventRead h s
  | .eventClear h => Sys2Proof.Machine.execEventClear h s
  | .placeTest h => Sys2Proof.Machine.execPlaceTest h s
  | .placeTestEnd d pass => Sys2Proof.Machine.execPlaceTestEnd d pass s
  | .faultStatus h => Sys2Proof.Machine.execFaultStatus h s
  | .preserveFreeze h => Sys2Proof.Machine.execPreserveFreeze h s
  | .preserveThaw h => Sys2Proof.Machine.execPreserveThaw h s
  | .preserveAutoThaw d => Sys2Proof.Machine.execPreserveAutoThaw d s
  | .preserveRead h => Sys2Proof.Machine.execPreserveRead h s
  | .configStatistics h => Sys2Proof.Machine.execConfigStatistics h s
  | .statsRead h => Sys2Proof.Machine.execStatsRead h s
  | .codeLoad h => Sys2Proof.Machine.execCodeLoad h s
  | .configProgram h => Sys2Proof.Machine.execConfigProgram h s
  | .programRead h => Sys2Proof.Machine.execProgramRead h s
  | .traceOpen h => Sys2Proof.Machine.execTraceOpen h s
  | .traceClose h => Sys2Proof.Machine.execTraceClose h s
  | .dispatchStatus h => Sys2Proof.Machine.execDispatchStatus h s
  | .factorisationDone d mismatch => Sys2Proof.Machine.execFactorisationDone d mismatch s
  | .checkpoint d => Sys2Proof.Machine.execCheckpoint d s
  | .jugglerDeadline d => Sys2Proof.Machine.execJugglerDeadline d s
  | .checkpointReport d k => Sys2Proof.Machine.execCheckpointReport d k s
  | .chosenCheckpoint d k => Sys2Proof.Machine.execChosenCheckpoint d k s
  | .generatorAdvance d j => Sys2Proof.Machine.execGeneratorAdvance d j s
  | .driveReady d j => Sys2Proof.Machine.execDriveReady d j s
  | .enableTimeout d j => Sys2Proof.Machine.execEnableTimeout d j s
  | .brakeReleaseDone d j => Sys2Proof.Machine.execBrakeReleaseDone d j s
  | .softEnd d j => Sys2Proof.Machine.execSoftEnd d j s
  | .stopRampEnd d j => Sys2Proof.Machine.execStopRampEnd d j s
  | .armStopRest d a => Sys2Proof.Machine.execArmStopRest d a s
  | .brakeEngageDone d j => Sys2Proof.Machine.execBrakeEngageDone d j s
  | .deferredEnable d j => Sys2Proof.Machine.execDeferredEnable d j s
  | .switchSettled d j => Sys2Proof.Machine.execSwitchSettled d j s
  | .homeEvent d j => Sys2Proof.Machine.execHomeEvent d j s
  | .homingTimeout d j => Sys2Proof.Machine.execHomingTimeout d j s
  | .reducedHold d j => Sys2Proof.Machine.execReducedHold d j s
  | .stall d j => Sys2Proof.Machine.execStall d j s
  | .feedbackLost d j => Sys2Proof.Machine.execFeedbackLost d j s
  | .feedbackFrozen d j => Sys2Proof.Machine.execFeedbackFrozen d j s
  | .extTorqueStale d j => Sys2Proof.Machine.execExtTorqueStale d j s
  | .extTorqueFaded d j => Sys2Proof.Machine.execExtTorqueFaded d j s
  | .tableCopyDone d j friction => Sys2Proof.Machine.execTableCopyDone d j friction s
  | .sepCycleCompute d => Sys2Proof.Machine.execSepCycleCompute d s
  | .stopRequestRelease d a => Sys2Proof.Machine.execStopRequestRelease d a s
  | .sepResultExchange d => Sys2Proof.Machine.execSepResultExchange d s
  | .sepCombinedResult d => Sys2Proof.Machine.execSepCombinedResult d s
  | .sightDatagram udpPort bytes => Sys2Proof.Machine.execSightDatagram udpPort bytes s
  | .zoneMessage bytes => Sys2Proof.Machine.execZoneMessage bytes s
  | .itemRelease d entry => Sys2Proof.Machine.execItemRelease d entry s
  | .prefetchDone d core => Sys2Proof.Machine.execPrefetchDone d core s
  | .itemComplete d core => Sys2Proof.Machine.execItemComplete d core s
  | .itemDrop d entry => Sys2Proof.Machine.execItemDrop d entry s
  | .stateRepair d entry => Sys2Proof.Machine.execStateRepair d entry s
  | .handshakeStall place retryFails => Sys2Proof.Machine.execHandshakeStall place retryFails s
  | .add c rd ra rb => Sys2Proof.Machine.execAdd c rd ra rb s
  | .adds c rd ra rb => Sys2Proof.Machine.execAdds c rd ra rb s
  | .sub c rd ra rb => Sys2Proof.Machine.execSub c rd ra rb s
  | .subs c rd ra rb => Sys2Proof.Machine.execSubs c rd ra rb s
  | .and_ c rd ra rb => Sys2Proof.Machine.execAnd c rd ra rb s
  | .or_ c rd ra rb => Sys2Proof.Machine.execOr c rd ra rb s
  | .xor_ c rd ra rb => Sys2Proof.Machine.execXor c rd ra rb s
  | .shl c rd ra rb => Sys2Proof.Machine.execShl c rd ra rb s
  | .shr c rd ra rb => Sys2Proof.Machine.execShr c rd ra rb s
  | .sar c rd ra rb => Sys2Proof.Machine.execSar c rd ra rb s
  | .min_ c rd ra rb => Sys2Proof.Machine.execMin c rd ra rb s
  | .max_ c rd ra rb => Sys2Proof.Machine.execMax c rd ra rb s
  | .minu c rd ra rb => Sys2Proof.Machine.execMinu c rd ra rb s
  | .maxu c rd ra rb => Sys2Proof.Machine.execMaxu c rd ra rb s
  | .mov c rd ra => Sys2Proof.Machine.execMov c rd ra s
  | .abs_ c rd ra => Sys2Proof.Machine.execAbs c rd ra s
  | .neg_ c rd ra => Sys2Proof.Machine.execNeg c rd ra s
  | .cmp c ra rb => Sys2Proof.Machine.execCmp c ra rb s
  | .tst c ra rb => Sys2Proof.Machine.execTst c ra rb s
  | .mul c rd ra rb residueOk => Sys2Proof.Machine.execMul c rd ra rb residueOk s
  | .clz c rd ra => Sys2Proof.Machine.execClz c rd ra s
  | .addi c rd ra imm => Sys2Proof.Machine.execAddi c rd ra imm s
  | .andi c rd ra imm => Sys2Proof.Machine.execAndi c rd ra imm s
  | .ori c rd ra imm => Sys2Proof.Machine.execOri c rd ra imm s
  | .xori c rd ra imm => Sys2Proof.Machine.execXori c rd ra imm s
  | .cmpi c ra imm => Sys2Proof.Machine.execCmpi c ra imm s
  | .shli c rd ra amount => Sys2Proof.Machine.execShli c rd ra amount s
  | .shri c rd ra amount => Sys2Proof.Machine.execShri c rd ra amount s
  | .sari c rd ra amount => Sys2Proof.Machine.execSari c rd ra amount s
  | .movi c rd imm => Sys2Proof.Machine.execMovi c rd imm s
  | .movhi c rd imm => Sys2Proof.Machine.execMovhi c rd imm s
  | .ld c r p mode size check => Sys2Proof.Machine.execLd c r p mode size check s
  | .st c r p mode size => Sys2Proof.Machine.execSt c r p mode size s
  | .mpy c acc ra rb mode residueOk => Sys2Proof.Machine.execMpy c acc ra rb mode residueOk s
  | .mac c acc ra rb mode residueOk => Sys2Proof.Machine.execMac c acc ra rb mode residueOk s
  | .msu c acc ra rb mode residueOk => Sys2Proof.Machine.execMsu c acc ra rb mode residueOk s
  | .aclr c acc => Sys2Proof.Machine.execAclr c acc s
  | .amov c acc accb => Sys2Proof.Machine.execAmov c acc accb s
  | .aadd c acc accb => Sys2Proof.Machine.execAadd c acc accb s
  | .asub c acc accb => Sys2Proof.Machine.execAsub c acc accb s
  | .aneg c acc => Sys2Proof.Machine.execAneg c acc s
  | .ashr c acc sh => Sys2Proof.Machine.execAshr c acc sh s
  | .ashl c acc sh => Sys2Proof.Machine.execAshl c acc sh s
  | .aset c acc rd sh => Sys2Proof.Machine.execAset c acc rd sh s
  | .asetp c acc rd sh => Sys2Proof.Machine.execAsetp c acc rd sh s
  | .sta c rd acc sh => Sys2Proof.Machine.execSta c rd acc sh s
  | .stal c rd acc sh => Sys2Proof.Machine.execStal c rd acc sh s
  | .stah c rd acc sh => Sys2Proof.Machine.execStah c rd acc sh s
  | .diva c rd acc rb => Sys2Proof.Machine.execDiva c rd acc rb s
  | .pseti c p imm => Sys2Proof.Machine.execPseti c p imm s
  | .paddi c p imm => Sys2Proof.Machine.execPaddi c p imm s
  | .pset c p r => Sys2Proof.Machine.execPset c p r s
  | .pget c r p => Sys2Proof.Machine.execPget c r p s
  | .pmov c p q => Sys2Proof.Machine.execPmov c p q s
  | .padd c p r => Sys2Proof.Machine.execPadd c p r s
  | .cbset c cb p r => Sys2Proof.Machine.execCbset c cb p r s
  | .mini c rd ri p rn uns => Sys2Proof.Machine.execMini c rd ri p rn uns s
  | .maxi c rd ri p rn uns => Sys2Proof.Machine.execMaxi c rd ri p rn uns s
  | .bcc c cond off => Sys2Proof.Machine.execBcc c cond off s
  | .call c target => Sys2Proof.Machine.execCall c target s
  | .loop_ c fromReg ra count last => Sys2Proof.Machine.execLoop c fromReg ra count last s
  | .sysNop c => Sys2Proof.Machine.execSysNop c s
  | .exit_ c => Sys2Proof.Machine.execExit c s
  | .ret c => Sys2Proof.Machine.execRet c s
  | .faultOp c code => Sys2Proof.Machine.execFaultOp c code s
  | .movf c rd => Sys2Proof.Machine.execMovf c rd s
  | .setf c rd => Sys2Proof.Machine.execSetf c rd s
  | .ringLinkUp ring port => Sys2Proof.Machine.execRingLinkUp ring port s
  | .ringLinkDown ring port => Sys2Proof.Machine.execRingLinkDown ring port s
  | .loopbackEnd ring port => Sys2Proof.Machine.execLoopbackEnd ring port s
  | .ringFrameReturn ring port frame => Sys2Proof.Machine.execRingFrameReturn ring port frame s
  | .mailboxReceive ring bytes => Sys2Proof.Machine.execMailboxReceive ring bytes s
  | .mailboxRetryExhausted ring pos => Sys2Proof.Machine.execMailboxRetryExhausted ring pos s
  | .ringListenEnd ring => Sys2Proof.Machine.execRingListenEnd ring s
  | .ringBackoffEnd ring => Sys2Proof.Machine.execRingBackoffEnd ring s
  | .ringDataStart ring => Sys2Proof.Machine.execRingDataStart ring s
  | .ringNodeFrame ring port frame => Sys2Proof.Machine.execRingNodeFrame ring port frame s
  | .nodeApplyInstant ring => Sys2Proof.Machine.execNodeApplyInstant ring s
  | .nodeLossStop ring => Sys2Proof.Machine.execNodeLossStop ring s
  | .isolateEnd ring => Sys2Proof.Machine.execIsolateEnd ring s
  | .flitReceive link crcOk => Sys2Proof.Machine.execFlitReceive link crcOk s
  | .flitAckTimeout link => Sys2Proof.Machine.execFlitAckTimeout link s
  | .compareFailure => Sys2Proof.Machine.execCompareFailure s
  | .cellFrameReceive port bytes => Sys2Proof.Machine.execCellFrameReceive port bytes s
  | .arpRequest bytes => Sys2Proof.Machine.execArpRequest bytes s
  | .macAgeOut vid mac => Sys2Proof.Machine.execMacAgeOut vid mac s
  | .cellLinkChange port sync partner => Sys2Proof.Machine.execCellLinkChange port sync partner s
  | .cellLinkDown port => Sys2Proof.Machine.execCellLinkDown port s
  | .cellLinkUp port => Sys2Proof.Machine.execCellLinkUp port s
  | .ptpMessage inst msg => Sys2Proof.Machine.execPtpMessage inst msg s
  | .ptpSyncInterval inst => Sys2Proof.Machine.execPtpSyncInterval inst s
  | .tpiEdge edge => Sys2Proof.Machine.execTpiEdge edge s
  | .tpoEdge => Sys2Proof.Machine.execTpoEdge s
  | .tpoPulseEnd => Sys2Proof.Machine.execTpoPulseEnd s
  | .peerHeartbeatSend => Sys2Proof.Machine.execPeerHeartbeatSend s
  | .peerMessage bytes => Sys2Proof.Machine.execPeerMessage bytes s
  | .peerLost p => Sys2Proof.Machine.execPeerLost p s
  | .inputSample raw => Sys2Proof.Machine.execInputSample raw s
  | .chatter ch => Sys2Proof.Machine.execChatter ch s
  | .stuckActive ch => Sys2Proof.Machine.execStuckActive ch s
  | .inputValid ch => Sys2Proof.Machine.execInputValid ch s
  | .upLow supply mv => Sys2Proof.Machine.execUpLow supply mv s
  | .upLost supply mv => Sys2Proof.Machine.execUpLost supply mv s
  | .upHigh supply mv => Sys2Proof.Machine.execUpHigh supply mv s
  | .upFlagClear supply => Sys2Proof.Machine.execUpFlagClear supply s
  | .upRecovered supply => Sys2Proof.Machine.execUpRecovered supply s
  | .outputFault ch cause => Sys2Proof.Machine.execOutputFault ch cause s
  | .openLoad ch => Sys2Proof.Machine.execOpenLoad ch s
  | .heartbeatSend d => Sys2Proof.Machine.execHeartbeatSend d s
  | .heartbeat sender path => Sys2Proof.Machine.execHeartbeat sender path s
  | .fioWatchdog => Sys2Proof.Machine.execFioWatchdog s
  | .watchdogAutoRestore => Sys2Proof.Machine.execWatchdogAutoRestore s
  | .enablePairFault => Sys2Proof.Machine.execEnablePairFault s
  | .curtainPairFault => Sys2Proof.Machine.execCurtainPairFault s
  | .curtainDemand => Sys2Proof.Machine.execCurtainDemand s
  | .curtainStopCode => Sys2Proof.Machine.execCurtainStopCode s
  | .encoderSample x sample => Sys2Proof.Machine.execEncoderSample x sample s
  | .indexEdge x => Sys2Proof.Machine.execIndexEdge x s
  | .countError x => Sys2Proof.Machine.execCountError x s
  | .heartbeatSilence d => Sys2Proof.Machine.execHeartbeatSilence d s
  | .tokenRelinquish d => Sys2Proof.Machine.execTokenRelinquish d s
  | .tokenRequest d => Sys2Proof.Machine.execTokenRequest d s
  | .digestReceive d => Sys2Proof.Machine.execDigestReceive d s
  | .syncPassDone copied dirty => Sys2Proof.Machine.execSyncPassDone copied dirty s
  | .syncTimeout => Sys2Proof.Machine.execSyncTimeout s
  | .autoSync => Sys2Proof.Machine.execAutoSync s
  | .journalEpoch d epoch crcOk => Sys2Proof.Machine.execJournalEpoch d epoch crcOk s
  | .latentReady d => Sys2Proof.Machine.execLatentReady d s
  | .revertHoldoff => Sys2Proof.Machine.execRevertHoldoff s
  | .supplySample index mv => Sys2Proof.Machine.execSupplySample index mv s
  | .supplyFault index => Sys2Proof.Machine.execSupplyFault index s
  | .tempSample sensor deci => Sys2Proof.Machine.execTempSample sensor deci s
  | .tempFault sensor => Sys2Proof.Machine.execTempFault sensor s
  | .coarseCheckWindow ppm tickSeen => Sys2Proof.Machine.execCoarseCheckWindow ppm tickSeen s
  | .fineCheckWindow ppm => Sys2Proof.Machine.execFineCheckWindow ppm s
  | .transientLimit d place det => Sys2Proof.Machine.execTransientLimit d place det s
  | .injectionExpiry d slot => Sys2Proof.Machine.execInjectionExpiry d slot s
  | .intervalBoundary => Sys2Proof.Machine.execIntervalBoundary s
  | .badOpcode opcode h => Sys2Proof.Machine.execBadOpcode opcode h s
  | .busMasteringChange d on => Sys2Proof.Machine.execBusMasteringChange d on s
  | .quadratureEdge x forward => Sys2Proof.Machine.execQuadratureEdge x forward s
  | .prpEntryForgotten mac => Sys2Proof.Machine.execPrpEntryForgotten mac s
  | .catcherBehind d => Sys2Proof.Machine.execCatcherBehind d s
  | .vcoreRemoved d => Sys2Proof.Machine.execVcoreRemoved d s
  | .vcoreReturn d => Sys2Proof.Machine.execVcoreReturn d s
  | .directLinkRestored => Sys2Proof.Machine.execDirectLinkRestored s

end Sys2Proof.Machine
end

