-- ==== Sys2Proof/WellFormed.lean ====
section
/-! DEFINITION. Which commands are well formed: the operands that the types alone do not bound. -/

namespace Sys2Proof

/-- A host command carries the parameters its PLEN states, or what the four slots of an overlong one hold (R75). -/
def hostOk (h : HostCmd) : Bool := decide (h.params.length = if h.plen.toNat ≤ 30 then 8 * h.plen.toNat else 240)

/-- A unit or whole cluster that Tables 1.2 and 1.4 define. -/
def unitExists (u : UnitId) : Bool :=
  let n := if u.die = .mw then Machine.mwUnitsOf u.region.val u.cluster.val else Machine.unitsOf u.region.val u.cluster.val
  decide (u.unit.val < n) || (u.unit.val == 31 && decide (0 < n))

/-- A section index of Table 16.3. -/
def partOk : ImagePart → Bool
  | .header => true
  | .section_ i => decide (i < 32)

/-- A pair names an even register (R250). -/
def pairEven (r : Fin 16) (size : MemSize) : Bool := size != .pair || r.val % 2 == 0

/-- A frame or datagram that has passed the port's length check is no longer than an Ethernet frame; a port may receive a longer one. -/
def frameOk (bytes : List Byte) : Bool := decide (bytes.length ≤ 1522)

/-- A well-formed command. -/
def Instr.wf : Instr → Bool
  | .powerUp _ | .packageReset _ | .dieReset _ | .seedDone _ | .pcieLinkUp _ => true
  | .imageSectionRead part => partOk part
  | .signatureVerified | .blossomApply | .ripeBegin | .jogTimeout _ _ | .idcode | .bypass | .samplePreload | .extest | .debugChallenge => true
  | .debugResponse bytes => decide (bytes.length = 136)
  | .debugLock => true
  | .debugRead _ _ count => decide (count ≤ 65535)
  | .debugWrite _ _ bytes => decide (bytes.length ≤ 65535)
  | .debugHalt _ _ | .debugStep _ _ => true
  | .debugFlashRead _ address count => decide (address + count ≤ 16777216)
  | .debugFlashErase _ address count => decide (address + count ≤ 16777216)
  | .debugFlashWrite _ address bytes => decide (address + bytes.length ≤ 16777216)
  | .debugFuseProgram _ _ bytes => decide (bytes.length = 32)
  | .timeBaseTick | .boundary | .cutOff | .atEpochExecute _ | .commitDecision | .commitApply _ | .mwCommitApply => true
  | .unitReady unit => unitExists unit
  | .clusterUngated _ _ | .readmission _ | .doorbell _ _ _ | .queueEnable _ _ _ | .queueDisable _ _ | .queueDrained _ _ | .qerrClear _ _ _
  | .epochNowRead _ | .lostRead _ _ | .registerWrite _ _ _ | .queueDmaError _ _ _ | .replyResume _ _ | .msixBoundarySignal _ _
  | .hostLinkDown _ | .pcieLcrcError _ _ | .dequeueNotice _ | .pairingWindowExpiry _ => true
  | .nop h => hostOk h
  | .identify h => hostOk h
  | .getStatus h => hostOk h
  | .configPeriods h => hostOk h
  | .configDeadline h => hostOk h
  | .configDiscard h => hostOk h
  | .commit h => hostOk h
  | .getBoundary h => hostOk h
  | .timeGet h => hostOk h
  | .timeSetIncrement h => hostOk h
  | .timeOffset h => hostOk h
  | .timeForceStep h => hostOk h
  | .configPtp h => hostOk h
  | .ptpStatus h => hostOk h
  | .configTpo h => hostOk h
  | .tpiStream h => hostOk h
  | .configSwitch h => hostOk h
  | .cellPortStatus h => hostOk h
  | .configCellPeers h => hostOk h
  | .configRing h => hostOk h
  | .configNode h => hostOk h
  | .ringStatus h => hostOk h
  | .ringScan h => hostOk h
  | .ringCounters h => hostOk h
  | .mailboxSend h => hostOk h
  | .mailboxStream h => hostOk h
  | .ringStop h => hostOk h
  | .configJoint h => hostOk h
  | .configLimits h => hostOk h
  | .jointEnable h => hostOk h
  | .jointDisable h => hostOk h
  | .movePoint h => hostOk h
  | .moveVelocity h => hostOk h
  | .streamPoints h => hostOk h
  | .home h => hostOk h
  | .configHoming h => hostOk h
  | .configStandstill h => hostOk h
  | .jointStatus h => hostOk h
  | .jointStop h => hostOk h
  | .configFollowing h => hostOk h
  | .configControl h => hostOk h
  | .configFilter h => hostOk h
  | .configFeedforward h => hostOk h
  | .tableWrite h => hostOk h
  | .tableRead h => hostOk h
  | .extTorque h => hostOk h
  | .configFeedback h => hostOk h
  | .controlStatus h => hostOk h
  | .configJuggler h => hostOk h
  | .configWeights h => hostOk h
  | .referenceLoad h => hostOk h
  | .configRows h => hostOk h
  | .jugglerStatus h => hostOk h
  | .planRead h => hostOk h
  | .planStream h => hostOk h
  | .configGeometry h => hostOk h
  | .configKinematics h => hostOk h
  | .configSsmParams h => hostOk h
  | .configSensor h => hostOk h
  | .configZone h => hostOk h
  | .zoneRequest h => hostOk h
  | .zoneRelease h => hostOk h
  | .sepStatus h => hostOk h
  | .sepStream h => hostOk h
  | .configInputs h => hostOk h
  | .configOutputs h => hostOk h
  | .fioWrite h => hostOk h
  | .fioRead h => hostOk h
  | .fioRearm h => hostOk h
  | .configWatchdog h => hostOk h
  | .configEncoder h => hostOk h
  | .configSafetyInputs h => hostOk h
  | .trapezeStatus h => hostOk h
  | .configTrapeze h => hostOk h
  | .syncStart h => hostOk h
  | .switchOver h => hostOk h
  | .healthStream h => hostOk h
  | .faultInject h => hostOk h
  | .configEvents h => hostOk h
  | .eventRead h => hostOk h
  | .eventClear h => hostOk h
  | .placeTest h => hostOk h
  | .placeTestEnd _ _ => true
  | .faultStatus h => hostOk h
  | .preserveFreeze h => hostOk h
  | .preserveThaw h => hostOk h
  | .preserveAutoThaw _ => true
  | .preserveRead h => hostOk h
  | .configStatistics h => hostOk h
  | .statsRead h => hostOk h
  | .codeLoad h => hostOk h
  | .configProgram h => hostOk h
  | .programRead h => hostOk h
  | .traceOpen h => hostOk h
  | .traceClose h => hostOk h
  | .dispatchStatus h => hostOk h
  | .factorisationDone _ _ | .checkpoint _ | .jugglerDeadline _ => true
  | .checkpointReport _ k => decide (k ≤ 65535)
  | .chosenCheckpoint _ k => decide (k ≤ 65535)
  | .generatorAdvance _ _ | .driveReady _ _ | .enableTimeout _ _ | .brakeReleaseDone _ _ | .softEnd _ _ | .stopRampEnd _ _
  | .armStopRest _ _ | .brakeEngageDone _ _ | .deferredEnable _ _ | .switchSettled _ _ | .homeEvent _ _ | .homingTimeout _ _
  | .reducedHold _ _ | .stall _ _ | .feedbackLost _ _ | .feedbackFrozen _ _ | .extTorqueStale _ _ | .extTorqueFaded _ _
  | .tableCopyDone _ _ _ | .sepCycleCompute _ | .stopRequestRelease _ _ | .sepResultExchange _ | .sepCombinedResult _ => true
  | .sightDatagram _ bytes => frameOk bytes
  | .zoneMessage bytes => frameOk bytes
  | .itemRelease _ _ | .prefetchDone _ _ | .itemComplete _ _ | .itemDrop _ _ | .stateRepair _ _ => true
  | .handshakeStall place _ => unitExists place
  | .add _ _ _ _ | .adds _ _ _ _ | .sub _ _ _ _ | .subs _ _ _ _ | .and_ _ _ _ _ | .or_ _ _ _ _ | .xor_ _ _ _ _ | .shl _ _ _ _ | .shr _ _ _ _
  | .sar _ _ _ _ | .min_ _ _ _ _ | .max_ _ _ _ _ | .minu _ _ _ _ | .maxu _ _ _ _ | .mov _ _ _ | .abs_ _ _ _ | .neg_ _ _ _ | .cmp _ _ _
  | .tst _ _ _ | .mul _ _ _ _ _ | .clz _ _ _ | .addi _ _ _ _ | .andi _ _ _ _ | .ori _ _ _ _ | .xori _ _ _ _ | .cmpi _ _ _ | .shli _ _ _ _
  | .shri _ _ _ _ | .sari _ _ _ _ | .movi _ _ _ | .movhi _ _ _ => true
  | .ld _ r _ _ size _ => pairEven r size
  | .st _ r _ _ size => pairEven r size
  | .mpy _ _ _ _ _ _ | .mac _ _ _ _ _ _ | .msu _ _ _ _ _ _ | .aclr _ _ | .amov _ _ _ | .aadd _ _ _ | .asub _ _ _ | .aneg _ _ | .ashr _ _ _
  | .ashl _ _ _ | .aset _ _ _ _ | .asetp _ _ _ _ | .sta _ _ _ _ | .stal _ _ _ _ | .stah _ _ _ _ | .diva _ _ _ _ | .pseti _ _ _
  | .paddi _ _ _ | .pset _ _ _ | .pget _ _ _ | .pmov _ _ _ | .padd _ _ _ | .cbset _ _ _ _ | .mini _ _ _ _ _ _ | .maxi _ _ _ _ _ _
  | .bcc _ _ _ | .call _ _ | .loop_ _ _ _ _ _ | .sysNop _ | .exit_ _ | .ret _ | .faultOp _ _ | .movf _ _ | .setf _ _ | .ringLinkUp _ _
  | .ringLinkDown _ _ | .loopbackEnd _ _ => true
  | .ringFrameReturn _ _ _ => true
  | .mailboxReceive _ bytes => decide (bytes.length ≤ 64)
  | .mailboxRetryExhausted _ _ | .ringListenEnd _ | .ringBackoffEnd _ | .ringDataStart _ => true
  | .ringNodeFrame _ _ _ => true
  | .nodeApplyInstant _ | .nodeLossStop _ | .isolateEnd _ | .flitReceive _ _ | .flitAckTimeout _ | .compareFailure => true
  | .cellFrameReceive _ _ => true
  | .arpRequest bytes => frameOk bytes
  | .macAgeOut _ _ | .cellLinkChange _ _ _ | .cellLinkDown _ | .cellLinkUp _ | .ptpMessage _ _ | .ptpSyncInterval _ | .tpiEdge _ | .tpoEdge
  | .tpoPulseEnd | .peerHeartbeatSend => true
  | .peerMessage bytes => frameOk bytes
  | .peerLost _ | .inputSample _ | .chatter _ | .stuckActive _ | .inputValid _ => true
  | .upLow _ mv => decide (mv ≤ 65535)
  | .upLost _ mv => decide (mv ≤ 65535)
  | .upHigh _ mv => decide (mv ≤ 65535)
  | .upFlagClear _ | .upRecovered _ | .outputFault _ _ | .openLoad _ | .heartbeatSend _ | .heartbeat _ _ | .fioWatchdog
  | .watchdogAutoRestore | .enablePairFault | .curtainPairFault | .curtainDemand | .curtainStopCode | .encoderSample _ _ | .indexEdge _
  | .countError _ | .heartbeatSilence _ | .tokenRelinquish _ | .tokenRequest _ | .digestReceive _ => true
  | .syncPassDone copied dirty => decide (copied < 2 ^ 32) && decide (dirty < 2 ^ 32)
  | .syncTimeout | .autoSync => true
  | .journalEpoch _ epoch _ => decide (epoch < 2 ^ 64)
  | .latentReady _ | .revertHoldoff => true
  | .supplySample _ mv => decide (mv ≤ 65535)
  | .supplyFault _ | .tempSample _ _ | .tempFault _ | .coarseCheckWindow _ _ | .fineCheckWindow _ => true
  | .transientLimit _ place det => unitExists place && decide (det.val ≤ 14)
  | .injectionExpiry _ _ | .intervalBoundary => true
  | .badOpcode _ h => hostOk h
  | .busMasteringChange _ _ | .quadratureEdge _ _ | .prpEntryForgotten _ | .catcherBehind _ | .vcoreRemoved _ | .vcoreReturn _
  | .directLinkRestored => true

end Sys2Proof
end

