-- ==== Sys2Proof/Safety.lean ====
section
/-! DEFINITION. What the statements about runs speak of: the life of the package (R470..R476, Table 3.3), and which phases may follow which. -/

namespace Sys2Proof

/-- The commands that begin the package's life anew: power-up, package reset, and EXTEST, which holds the dies in reset (R479). -/
def Instr.restarts : Instr → Bool
  | .powerUp _ | .packageReset _ | .extest => true
  | _ => false

/-- The end of a die's Seed, at which the package enters Blossom (R390, R470). -/
def Instr.joins : Instr → Bool
  | .seedDone _ => true
  | _ => false

/-- The debug commands that name an address (R463). -/
def Instr.addresses : Instr → Bool
  | .debugRead .. | .debugWrite .. | .debugFlashRead .. | .debugFlashErase .. | .debugFlashWrite .. => true
  | _ => false

/-- The opcode and packet of a row that is a host command of Table 3.14, none for another row and for BAD_OPCODE. -/
def Instr.hostRow : Instr → Option (Nat × HostCmd)
  | .nop h => some (0x0000, h)
  | .identify h => some (0x0001, h)
  | .getStatus h => some (0x0002, h)
  | .configPeriods h => some (0x0010, h)
  | .configDeadline h => some (0x0011, h)
  | .configDiscard h => some (0x0018, h)
  | .commit h => some (0x0020, h)
  | .getBoundary h => some (0x0021, h)
  | .timeGet h => some (0x0100, h)
  | .timeSetIncrement h => some (0x0101, h)
  | .timeOffset h => some (0x0102, h)
  | .timeForceStep h => some (0x0103, h)
  | .configPtp h => some (0x0110, h)
  | .ptpStatus h => some (0x0111, h)
  | .configTpo h => some (0x0120, h)
  | .tpiStream h => some (0x0121, h)
  | .configSwitch h => some (0x0130, h)
  | .cellPortStatus h => some (0x0131, h)
  | .configCellPeers h => some (0x0140, h)
  | .configRing h => some (0x0200, h)
  | .configNode h => some (0x0201, h)
  | .ringStatus h => some (0x0202, h)
  | .ringScan h => some (0x0203, h)
  | .ringCounters h => some (0x0204, h)
  | .mailboxSend h => some (0x0205, h)
  | .mailboxStream h => some (0x0206, h)
  | .ringStop h => some (0x0207, h)
  | .configJoint h => some (0x0300, h)
  | .configLimits h => some (0x0301, h)
  | .jointEnable h => some (0x0302, h)
  | .jointDisable h => some (0x0303, h)
  | .movePoint h => some (0x0304, h)
  | .moveVelocity h => some (0x0305, h)
  | .streamPoints h => some (0x0306, h)
  | .home h => some (0x0307, h)
  | .configHoming h => some (0x0308, h)
  | .configStandstill h => some (0x0309, h)
  | .jointStatus h => some (0x030A, h)
  | .jointStop h => some (0x030B, h)
  | .configFollowing h => some (0x030C, h)
  | .configControl h => some (0x0400, h)
  | .configFilter h => some (0x0401, h)
  | .configFeedforward h => some (0x0402, h)
  | .tableWrite h => some (0x0403, h)
  | .tableRead h => some (0x0404, h)
  | .extTorque h => some (0x0405, h)
  | .configFeedback h => some (0x0406, h)
  | .controlStatus h => some (0x0407, h)
  | .configJuggler h => some (0x0500, h)
  | .configWeights h => some (0x0501, h)
  | .referenceLoad h => some (0x0502, h)
  | .configRows h => some (0x0503, h)
  | .jugglerStatus h => some (0x0504, h)
  | .planRead h => some (0x0505, h)
  | .planStream h => some (0x0506, h)
  | .configGeometry h => some (0x0600, h)
  | .configKinematics h => some (0x0601, h)
  | .configSsmParams h => some (0x0602, h)
  | .configSensor h => some (0x0603, h)
  | .configZone h => some (0x0604, h)
  | .zoneRequest h => some (0x0605, h)
  | .zoneRelease h => some (0x0606, h)
  | .sepStatus h => some (0x0607, h)
  | .sepStream h => some (0x0608, h)
  | .configInputs h => some (0x0700, h)
  | .configOutputs h => some (0x0701, h)
  | .fioWrite h => some (0x0702, h)
  | .fioRead h => some (0x0703, h)
  | .fioRearm h => some (0x0704, h)
  | .configWatchdog h => some (0x0705, h)
  | .configEncoder h => some (0x0706, h)
  | .configSafetyInputs h => some (0x0707, h)
  | .trapezeStatus h => some (0x0800, h)
  | .configTrapeze h => some (0x0801, h)
  | .syncStart h => some (0x0802, h)
  | .switchOver h => some (0x0803, h)
  | .healthStream h => some (0x0804, h)
  | .faultInject h => some (0x0900, h)
  | .configEvents h => some (0x0901, h)
  | .eventRead h => some (0x0902, h)
  | .eventClear h => some (0x0903, h)
  | .placeTest h => some (0x0904, h)
  | .faultStatus h => some (0x0905, h)
  | .preserveFreeze h => some (0x0A00, h)
  | .preserveThaw h => some (0x0A01, h)
  | .preserveRead h => some (0x0A02, h)
  | .configStatistics h => some (0x0A03, h)
  | .statsRead h => some (0x0A04, h)
  | .codeLoad h => some (0x0B00, h)
  | .configProgram h => some (0x0B01, h)
  | .programRead h => some (0x0B02, h)
  | .traceOpen h => some (0x0B03, h)
  | .traceClose h => some (0x0B04, h)
  | .dispatchStatus h => some (0x0B05, h)
  | _ => none

end Sys2Proof

namespace Sys2Proof.Machine

/-- What only the life of the package moves: the waiting commands, the strapped identifier, the phase, how far the image has come, the boundary number
and whether a boundary has fired, and whether the Curtain is active or latched. -/
structure Life where
  pending  : List Instr
  pkgid    : BitVec 2
  phase    : Phase
  complete : Bool
  applied  : Bool
  bA       : Option Nat
  bR       : Option Nat
  b        : Nat
  fired    : Bool
  curtain  : Bool
  deriving DecidableEq, Repr

/-- The life of a state. -/
def State.life (s : State) : Life where
  pending := s.pending
  pkgid := s.pkgid
  phase := s.phase
  complete := s.mw.image.complete
  applied := s.mw.image.applied
  bA := s.mw.image.bA
  bR := s.mw.image.bR
  b := s.mw.b
  fired := s.mw.fired
  curtain := s.curtained

/-- How far the image has come: B_a is named once the image is staged whole, the image is applied only at B_a, B_r is named only after that, Ripe begins
only at B_r, and in Seed and after CONFIG_FAILED no image is under way (R471, R475, R476, R468). -/
structure Life.Ordered (l : Life) : Prop where
  staged  : l.bA.isSome = true → l.complete = true
  applied : l.applied = true → l.bA.isSome = true
  named   : l.bR.isSome = true → l.applied = true
  ripe    : l.phase = .ripe → l.bR.isSome = true
  none    : l.phase = .seed ∨ l.phase = .failed → l.bA = none

/-- The phases of Table 3.3 that a package out of reset passes through: Blossom ends in Ripe or in CONFIG_FAILED, and both stand. -/
inductive Phase.Leads : Phase → Phase → Prop where
  | stay (p : Phase) : Phase.Leads p p
  | ripe : Phase.Leads .blossom .ripe
  | failed : Phase.Leads .blossom .failed

/-- What a command that answers does to the life of the package; the life before, where it does not answer. -/
def lifeAfter (r : Host.Outcome State Fault Refusal) (s : State) : Life :=
  match r with
  | .next t => t.life
  | _ => s.life

/-! ### Host commands -/

/-- The next command of a queue, that its die deals with itself and that passes every check before its own meaning: it can be dequeued (R68, R73), no other
die takes it (R85), steps 1 to 4 of R76 pass, the die decides for itself (step 5, R82), steps 6 to 10 pass, it is not held for an epoch (R80), and the die its
target names executes commands (R28). -/
structure Accepted (s : State) (opcode : Nat) (h : HostCmd) : Prop where
  dequeued : s.canDequeue h = true
  works    : (s.die h.die).works = true
  direct   : s.receivers h.die = [h.die]
  entry    : entryCheck opcode h (s.queue h.die (cmdQueue h)).expectedSeq = none
  role     : s.hasPartner = false ∨ (dual h = true ∧ s.isFlier h.die = true) ∨ (dual h = false ∧ ∃ o, opInfo opcode = some o ∧ o.single = true)
  check    : ∀ o, opInfo opcode = some o → (s.dequeue h).check h.die opcode o h = none
  now      : atEpoch h = false
  acts     : ((s.dequeue h).die (actingDie h h.die)).works = true

/-- What a die does with the answer of a command's own meaning: the reply is sent or remembered (R79, R83), and a Flier notifies its partner (R82). -/
def State.served (s : State) (h : HostCmd) (opcode : Nat) (a : Answer) : State :=
  let q : Reply := { a.2 with own := (s.hasPartner && !dual h) || ownReply opcode h a.2.own }
  let t := a.1.settle h.die opcode h q
  if s.hasPartner && dual h then t.notify h.die.other opcode h q else t

/-! ### Servo cores -/

/-- The named servo core. -/
def State.core (s : State) (c : CoreRef) : Core := (s.die c.die).cores[c.core]

/-- No injection is armed for a detector of a die, and no array of it holds an error where the detector is SECDED. -/
def State.quiet (s : State) (d : DieId) (det : Nat) : Bool :=
  ((s.die d).det.injections.all fun i => i.detector != det) && (det != 0 || (s.die d).upsets.isEmpty)

/-- No injection is armed for a detector whose place is in MW (R430), and no array of MW holds an error where the detector is SECDED. -/
def State.quietMw (s : State) (det : Nat) : Bool :=
  (s.mw.trapeze.injections.all fun i => i.detector != det) && (det != 0 || s.mw.upsets.isEmpty)

/-- A core that executes an instruction of its item: it runs the item, its memory reads clean (R13), and the word at its program counter is a defined encoding
(R250, Table 8.10). -/
structure Able (s : State) (c : CoreRef) (i : Item) : Prop where
  runs  : s.runningOn c = some i
  clean : s.quiet c.die 0 = true
  coded : ∃ w, i.code[(s.core c).pc]? = some w ∧ wordDefined w = true

/-- A core that reaches a word whose fields are those of this instruction, whether or not the word is a defined encoding (R250). -/
structure Reaches (s : State) (c : CoreRef) (i : Item) (op : Instr) : Prop where
  runs  : s.runningOn c = some i
  clean : s.quiet c.die 0 = true
  word  : ∃ w, i.code[(s.core c).pc]? = some w ∧ spells w op = true

/-- Where the word at the core's program counter is this instruction (R260), the instruction gives `o`. -/
def State.gives (s : State) (c : CoreRef) (i : Item) (op : Instr) (o : Host.Outcome State Fault Refusal) : Prop :=
  s.atInstruction c i op = true → exec op s = o

/-- The core moved past an instruction that does not jump: its ticks are charged, loop returns with 8 each, and the program counter advances (R258, R261). -/
def Core.forward (k after : Core) (cost : Nat) : Core :=
  let a := loopAdvance k.pc k.loops
  { after with ticks := k.ticks + cost + 8 * a.2.2, pc := a.2.1, loops := a.1 }

/-- Able, with a budget for an instruction of `cost` ticks that does not jump (R258). -/
structure Ready (s : State) (c : CoreRef) (i : Item) (cost : Nat) : Prop extends Able s c i where
  budget : ((s.core c).forward (s.core c) cost).ticks ≤ i.bound

/-- The state after an instruction that changes its core as `f` says, costs `cost` ticks and does not jump. -/
def State.retires (s : State) (c : CoreRef) (cost : Nat) (f : Core → Core) : State := s.onCore c fun k => k.forward (f k) cost

/-- Write a data register and FLAGS. -/
def Core.result (k : Core) (rd : Fin 16) (v f : Word) : Core := { k with d := k.d.set rd v, flags := f }

end Sys2Proof.Machine
end

