-- ==== Sys2Proof/Certificates/Slice0/Obligations.lean ====
section
/-! DEFINITION. The statements about the package, for the provers. Each formalises rules of the spec, cited in its docstring. -/

open Sys2Proof Sys2Proof.Machine

/-! ### Servo cores (chapter 8) -/

/-- R241: data registers wrap, but ADDS, SUBS, ABS and NEG saturate and set SAT; shifts by a register amount take its low six bits. The registers named are the
same before and after for every other register. -/
def Obligations.DataArithmetic : Prop :=
  ∀ (s : State) (c : CoreRef) (i : Item) (rd ra rb : Fin 16), Ready s c i 6 →
    let a := (s.core c).reg ra
    let b := (s.core c).reg rb
    let n := b.toNat % 64
    let top : Int := 2147483647
    let clamp : Int → Int := fun v => if v < -2147483648 then -2147483648 else if top < v then top else v
    let sat : State → Bool := fun t => (t.core c).flags.getLsbD 4
    let gives : Instr → (Word → Prop) → Prop := fun op p =>
      s.atInstruction c i op = true → ∃ t, exec op s = .next t ∧ p ((t.core c).reg rd) ∧ ∀ r, r ≠ rd → (t.core c).reg r = (s.core c).reg r
    let saturates : Instr → Int → Prop := fun op v =>
      s.atInstruction c i op = true → ∃ t, exec op s = .next t ∧ ((t.core c).reg rd).toInt = clamp v ∧ sat t = (sat s || decide (clamp v ≠ v)) ∧
        ∀ r, r ≠ rd → (t.core c).reg r = (s.core c).reg r
    gives (.add c rd ra rb) (fun v => v.toNat = (a.toNat + b.toNat) % 4294967296) ∧
    gives (.sub c rd ra rb) (fun v => v.toNat = (a.toNat + 4294967296 - b.toNat) % 4294967296) ∧
    (s.quiet c.die 2 = true → gives (.mul c rd ra rb true) (fun v => v.toNat = (a.toNat * b.toNat) % 4294967296)) ∧
    (∀ imm : BitVec 18, gives (.addi c rd ra imm) (fun v => (v.toNat : Int) = (a.toNat + imm.toInt) % 4294967296)) ∧
    saturates (.adds c rd ra rb) (a.toInt + b.toInt) ∧
    saturates (.subs c rd ra rb) (a.toInt - b.toInt) ∧
    saturates (.abs_ c rd ra) a.toInt.natAbs ∧
    saturates (.neg_ c rd ra) (-a.toInt) ∧
    gives (.shl c rd ra rb) (fun v => v = if 32 ≤ n then 0 else a <<< n) ∧
    gives (.shr c rd ra rb) (fun v => v = if 32 ≤ n then 0 else a >>> n) ∧
    gives (.sar c rd ra rb) (fun v => v.toInt = if 32 ≤ n then (if a.toInt < 0 then -1 else 0) else a.toInt / 2 ^ n)

/-- Addition, subtraction and comparison: the result, N and Z of it, C (no borrow for a subtraction), V; SAT where it saturates. Nothing else of the core and
nothing beyond it changes (Tables 8.2, 8.12, 8.13, R258).
FLAGS as Table 8.2 lays them out: a computation that writes N, Z, C and V leaves SAT and AOV, and the bits above them. -/
def Obligations.AddSubCompare : Prop :=
  (∀ (s : State) (c : CoreRef) (i : Item) (rd ra rb : Fin 16) (imm : BitVec 18), Ready s c i 4 →
      let a := (s.core c).reg ra
      let b := (s.core c).reg rb
      let m : Word := imm.signExtend 32
      let f := (s.core c).flags
      let carry : Word → Word → Bool := fun x y => decide (4294967296 ≤ x.toNat + y.toNat)
      let keeps : Word → Word → Bool := fun x y => decide (y.toNat ≤ x.toNat)
      let over_ : Int → Bool := fun v => decide (v < -2147483648 ∨ 2147483647 < v)
      let flags : Word → Bool → Bool → Word := fun r k v => putNZCV f r.msb (r == 0) k v
      let put : Word → Word → Host.Outcome State Fault Refusal := fun r g => .next (s.retires c 4 fun k => k.result rd r g)
      let sat : Int → Word := fun v => BitVec.ofInt 32 (max (-2147483648) (min v 2147483647))
      s.gives c i (.add c rd ra rb) (put (a + b) (flags (a + b) (carry a b) (over_ (a.toInt + b.toInt)))) ∧
      s.gives c i (.addi c rd ra imm) (put (a + m) (flags (a + m) (carry a m) (over_ (a.toInt + m.toInt)))) ∧
      s.gives c i (.sub c rd ra rb) (put (a - b) (flags (a - b) (keeps a b) (over_ (a.toInt - b.toInt)))) ∧
      s.gives c i (.adds c rd ra rb) (put (sat (a.toInt + b.toInt))
          (setSat (flags (sat (a.toInt + b.toInt)) (carry a b) (over_ (a.toInt + b.toInt))) (over_ (a.toInt + b.toInt)))) ∧
      s.gives c i (.subs c rd ra rb) (put (sat (a.toInt - b.toInt))
          (setSat (flags (sat (a.toInt - b.toInt)) (keeps a b) (over_ (a.toInt - b.toInt))) (over_ (a.toInt - b.toInt)))) ∧
      s.gives c i (.neg_ c rd ra) (put (sat (-a.toInt)) (setSat (flags (sat (-a.toInt)) (keeps 0 a) (over_ (-a.toInt))) (over_ (-a.toInt)))) ∧
      s.gives c i (.cmp c ra rb) (.next (s.retires c 4 fun k => k.withFlags (flags (a - b) (keeps a b) (over_ (a.toInt - b.toInt))))) ∧
      s.gives c i (.cmpi c ra imm) (.next (s.retires c 4 fun k => k.withFlags (flags (a - m) (keeps a m) (over_ (a.toInt - m.toInt)))))) ∧
  (∀ (f : Word) (n z c v : Bool),
      flagN (putNZCV f n z c v) = n ∧ flagZ (putNZCV f n z c v) = z ∧ flagC (putNZCV f n z c v) = c ∧ flagV (putNZCV f n z c v) = v ∧
      (∀ k, 4 ≤ k → (putNZCV f n z c v).getLsbD k = f.getLsbD k) ∧
      (∀ k, (setSat f true).getLsbD k = (f.getLsbD k || k == 4)) ∧ setSat f false = f ∧
      (∀ k, (setAov f true).getLsbD k = (f.getLsbD k || k == 5)) ∧ setAov f false = f)

/-- Logic, register shifts, minimum, maximum and the count of leading zeros: the result, N and Z, C and V cleared; TST writes FLAGS alone; an immediate shift
keeps C and V (a choice of the model). Nothing else changes (R241, Tables 8.12 and 8.13). -/
def Obligations.LogicShiftExtreme : Prop :=
  ∀ (s : State) (c : CoreRef) (i : Item) (rd ra rb : Fin 16) (imm : BitVec 18) (amount : BitVec 5), Ready s c i 4 →
    let a := (s.core c).reg ra
    let b := (s.core c).reg rb
    let m : Word := imm.setWidth 32
    let n := b.toNat % 64
    let f := (s.core c).flags
    let put : Word → Host.Outcome State Fault Refusal := fun r => .next (s.retires c 4 fun k => k.result rd r (putNZCV f r.msb (r == 0) false false))
    let keep : Word → Host.Outcome State Fault Refusal := fun r =>
      .next (s.retires c 4 fun k => k.result rd r (putNZCV f r.msb (r == 0) (flagC f) (flagV f)))
    s.gives c i (.and_ c rd ra rb) (put (a &&& b)) ∧
    s.gives c i (.or_ c rd ra rb) (put (a ||| b)) ∧
    s.gives c i (.xor_ c rd ra rb) (put (a ^^^ b)) ∧
    s.gives c i (.andi c rd ra imm) (put (a &&& m)) ∧
    s.gives c i (.ori c rd ra imm) (put (a ||| m)) ∧
    s.gives c i (.xori c rd ra imm) (put (a ^^^ m)) ∧
    s.gives c i (.shl c rd ra rb) (put (if 32 ≤ n then 0 else a <<< n)) ∧
    s.gives c i (.shr c rd ra rb) (put (if 32 ≤ n then 0 else a >>> n)) ∧
    s.gives c i (.sar c rd ra rb) (put (if 32 ≤ n then (if a.msb then 0xFFFFFFFF else 0) else a.sshiftRight n)) ∧
    s.gives c i (.min_ c rd ra rb) (put (BitVec.ofInt 32 (min a.toInt b.toInt))) ∧
    s.gives c i (.max_ c rd ra rb) (put (BitVec.ofInt 32 (max a.toInt b.toInt))) ∧
    s.gives c i (.minu c rd ra rb) (put (BitVec.ofNat 32 (min a.toNat b.toNat))) ∧
    s.gives c i (.maxu c rd ra rb) (put (BitVec.ofNat 32 (max a.toNat b.toNat))) ∧
    s.gives c i (.clz c rd ra) (put (BitVec.ofNat 32 (if a = 0 then 32 else 31 - Nat.log2 a.toNat))) ∧
    s.gives c i (.tst c ra rb) (.next (s.retires c 4 fun k => k.withFlags (putNZCV f (a &&& b).msb (a &&& b == 0) false false))) ∧
    s.gives c i (.shli c rd ra amount) (keep (a <<< amount.toNat)) ∧
    s.gives c i (.shri c rd ra amount) (keep (a >>> amount.toNat)) ∧
    s.gives c i (.sari c rd ra amount) (keep (a.sshiftRight amount.toNat))

/-- The moves write one register and leave FLAGS; SETF writes FLAGS alone; NOP only advances (Tables 8.12 and 8.13).
ABS saturates and MUL keeps the low word of the product; no rule states C after them, and whatever value the free function gives stands there. One draw is
counted and nothing else changes (R241, R256, Table 8.13). -/
def Obligations.MovesAbsMul : Prop :=
  (∀ (s : State) (c : CoreRef) (i : Item) (rd ra : Fin 16) (imm : BitVec 16), Ready s c i 4 →
      let old := (s.core c).reg rd
      let put : Word → Host.Outcome State Fault Refusal := fun r => .next (s.retires c 4 fun k => k.setReg rd r)
      s.gives c i (.mov c rd ra) (put ((s.core c).reg ra)) ∧
      s.gives c i (.movi c rd imm) (put (imm.signExtend 32)) ∧
      s.gives c i (.movhi c rd imm) (put (BitVec.ofNat 32 (imm.toNat * 65536 + old.toNat % 65536))) ∧
      s.gives c i (.movf c rd) (put (s.core c).flags) ∧
      s.gives c i (.setf c rd) (.next (s.retires c 4 fun k => k.withFlags (BitVec.ofNat 32 (old.toNat % 64)))) ∧
      s.gives c i (.sysNop c) (.next (s.retires c 4 fun k => k))) ∧
  (∀ (s : State) (c : CoreRef) (i : Item) (rd ra rb : Fin 16), Ready s c i 6 →
      let a := (s.core c).reg ra
      let b := (s.core c).reg rb
      let f := (s.core c).flags
      let drawn : State := { s with draws := s.draws + 1 }
      let free := Config.freeBool s.draws
      let most := decide (a.toInt = -2147483648)
      let r : Word := if most then 0x7FFFFFFF else if a.msb then -a else a
      let p := decide (a.toInt * b.toInt < -2147483648 ∨ 2147483647 < a.toInt * b.toInt)
      s.gives c i (.abs_ c rd ra) (.next (drawn.retires c 4 fun k => k.result rd r (setSat (putNZCV f r.msb (r == 0) free most) most))) ∧
      (s.quiet c.die 2 = true →
        s.gives c i (.mul c rd ra rb true) (.next (drawn.retires c 6 fun k => k.result rd (a * b) (putNZCV f (a * b).msb (a * b == 0) free p)))))

/-- R242: the accumulator takes the exact product, adds it or subtracts it; the result saturates at 72 bits with AOV. Nothing else of the core but its advance
changes. -/
def Obligations.MultiplyAccumulate : Prop :=
  ∀ (s : State) (c : CoreRef) (i : Item) (acc : Fin 4) (ra rb : Fin 16) (mode : MulMode), Ready s c i 6 → s.quiet c.die 2 = true →
    let a := (s.core c).reg ra
    let b := (s.core c).reg rb
    let x : Int := match mode with
      | .ss | .su => a.toInt
      | .us | .uu => a.toNat
    let y : Int := match mode with
      | .ss | .us => b.toInt
      | .su | .uu => b.toNat
    let top : Int := 2 ^ 71 - 1
    let clamp : Int → Int := fun v => if v < -(2 ^ 71) then -(2 ^ 71) else if top < v then top else v
    let old := (s.core c).accOf acc
    let gives : Instr → Int → Prop := fun op v =>
      s.atInstruction c i op = true → ∃ t w, exec op s = .next t ∧ w.toInt = clamp v ∧
        t = s.retires c 6 fun k => (k.setAcc acc w).withFlags (if clamp v = v then k.flags else k.flags ||| 0x20#32)
    gives (.mpy c acc ra rb mode true) (x * y) ∧
    gives (.mac c acc ra rb mode true) (old.toInt + x * y) ∧
    gives (.msu c acc ra rb mode true) (old.toInt - x * y)

/-- The operations on accumulators: exact, saturating at 72 bits with AOV; ASET and ASETP drop what lies above 72 bits (a choice of the model). ASHR truncates
toward minus infinity (R243, Table 8.13).
R243: narrowing truncates toward minus infinity and saturates, setting SAT; DIVA divides toward minus infinity and faults on 0. -/
def Obligations.AccumulatorOperations : Prop :=
  (∀ (s : State) (c : CoreRef) (i : Item) (acc accb : Fin 4) (rd : Fin 16) (sh : BitVec 6), Ready s c i 4 →
      let a := ((s.core c).accOf acc).toInt
      let b := ((s.core c).accOf accb).toInt
      let top : Int := 2 ^ 71 - 1
      let clamp : Int → Int := fun v => if v < -(2 ^ 71) then -(2 ^ 71) else if top < v then top else v
      let gives : Instr → Int → Prop := fun op v =>
        ∃ w : Acc, w.toInt = clamp v ∧
          s.gives c i op (.next (s.retires c 4 fun k => (k.setAcc acc w).withFlags (if clamp v = v then k.flags else k.flags ||| 0x20#32)))
      let wraps : Instr → Int → Prop := fun op v => s.gives c i op (.next (s.retires c 4 fun k => k.setAcc acc (BitVec.ofInt 72 v)))
      let pair : BitVec 64 := (s.core c).reg (partner rd) ++ (s.core c).reg rd
      gives (.aclr c acc) 0 ∧
      gives (.amov c acc accb) b ∧
      gives (.aadd c acc accb) (a + b) ∧
      gives (.asub c acc accb) (a - b) ∧
      gives (.aneg c acc) (-a) ∧
      gives (.ashr c acc sh) (a / 2 ^ sh.toNat) ∧
      gives (.ashl c acc sh) (a * 2 ^ sh.toNat) ∧
      wraps (.aset c acc rd sh) (((s.core c).reg rd).toInt * 2 ^ sh.toNat) ∧
      (rd.val % 2 = 0 → wraps (.asetp c acc rd sh) (pair.toInt * 2 ^ sh.toNat))) ∧
  (∀ (s : State) (c : CoreRef) (i : Item) (acc : Fin 4) (rd : Fin 16) (sh : BitVec 6), Reaches s c i (.asetp c acc rd sh) → rd.val % 2 = 1 →
      exec (.asetp c acc rd sh) s = .next (s.programFault c i .illegal)) ∧
  (∀ (s : State) (c : CoreRef) (i : Item) (rd rb : Fin 16) (acc : Fin 4) (sh : BitVec 6), Ready s c i 44 →
      let v := ((s.core c).accOf acc).toInt / 2 ^ sh.toNat
      let d := ((s.core c).reg rb).toInt
      let q := Int.fdiv ((s.core c).accOf acc).toInt d
      let clamp : Int → Int → Int := fun h x => if x < -h then -h else if h - 1 < x then h - 1 else x
      let put : Nat → Int → Bool → Host.Outcome State Fault Refusal := fun cost x sat =>
        .next (s.retires c cost fun k => k.result rd (BitVec.ofInt 32 x) (setSat k.flags sat))
      s.gives c i (.sta c rd acc sh) (put 6 (clamp (2 ^ 31) v) (decide (clamp (2 ^ 31) v ≠ v))) ∧
      s.gives c i (.stal c rd acc sh) (put 6 (clamp (2 ^ 63) v % 2 ^ 32) (decide (clamp (2 ^ 63) v ≠ v))) ∧
      s.gives c i (.stah c rd acc sh) (put 6 (clamp (2 ^ 63) v / 2 ^ 32) (decide (clamp (2 ^ 63) v ≠ v))) ∧
      (d ≠ 0 → s.gives c i (.diva c rd acc rb) (put 44 (clamp (2 ^ 31) q) (decide (clamp (2 ^ 31) q ≠ q)))) ∧
      (d = 0 → s.gives c i (.diva c rd acc rb) (.next (s.programFault c i .divide))))

/-- The pointer instructions: 23-bit pointers, sums modulo 2²³, CBSET's base from a pointer and length from the low 15 bits of a register (R245, Table 8.12). -/
def Obligations.Pointers : Prop :=
  ∀ (s : State) (c : CoreRef) (i : Item) (p q : Fin 8) (r : Fin 16) (cb : Fin 4) (imm : BitVec 23), Ready s c i 4 →
    let at_ := ((s.core c).ptr p).toNat
    let w := (s.core c).reg r
    let point : Int → Host.Outcome State Fault Refusal := fun v => .next (s.retires c 4 fun k => { k with p := k.p.set p (BitVec.ofInt 24 (v % 8388608)) })
    s.gives c i (.pseti c p imm) (point imm.toNat) ∧
    s.gives c i (.paddi c p imm) (point (at_ + imm.toInt)) ∧
    s.gives c i (.pset c p r) (point w.toNat) ∧
    s.gives c i (.pmov c p q) (point ((s.core c).ptr q).toNat) ∧
    s.gives c i (.padd c p r) (point (at_ + w.toInt)) ∧
    s.gives c i (.pget c r p) (.next (s.retires c 4 fun k => k.setReg r (BitVec.ofNat 32 at_))) ∧
    s.gives c i (.cbset c cb p r) (.next (s.retires c 4 fun k => { k with cb := k.cb.set cb { base := k.ptr p, len := BitVec.ofNat 15 (w.toNat % 32768) } }))

/-- LD: a checked address of a readable space gives the register (or the even register and its partner) the bytes there, low byte first; the pointer is changed by
the modes that change it; the ticks are those of the space. Memory is unchanged (R244, R246, R248, R258, Table 8.14). -/
def Obligations.Load : Prop :=
  ∀ (s : State) (c : CoreRef) (i : Item) (r : Fin 16) (p : Fin 8) (m : AddrMode) (sz : MemSize) (a : Int) (k' : Core) (n : Nat) (sp : Space) (bs : List Byte),
    Able s c i → s.atInstruction c i (.ld c r p m sz .clean) = true → (sz = .pair → r.val % 2 = 0) →
    effective (s.core c) p m = .ok (a, k') → alignedAt a sz = some n → spaceOf n = some sp →
    loadBytes (s.die c.die) c.core.val (s.core c) i n (memBytes sz) = some bs →
    ((s.core c).forward (s.core c) (memTicks sp (sz == .pair))).ticks ≤ i.bound →
    ∃ k2 : Core, exec (.ld c r p m sz .clean) s = .next (s.retires c (memTicks sp (sz == .pair)) fun _ => k2) ∧
      k2 = { k' with d := k2.d } ∧
      (∀ q, q ≠ r → ¬(sz = .pair ∧ q = partner r) → k2.reg q = (s.core c).reg q) ∧
      (sz = .word ∨ sz = .uhalf ∨ sz = .ubyte → (k2.reg r).toNat = leNat bs) ∧
      (sz = .shalf → (k2.reg r).toInt = toSigned 16 (leNat bs)) ∧
      (sz = .pair → (k2.reg r).toNat = leNat (bs.take 4) ∧ (k2.reg (partner r)).toNat = leNat (bs.drop 4))

/-- ST to the core's own memory: the bytes stored are the low bytes of the register (a pair: the register, then its partner), from the checked address on; every
other byte of local memory reads as before, but those of a scratch word not valid before, which read 0 from then on; no register but the pointer of the address mode
changes (R244, R246, R248). -/
def Obligations.StoreLocal : Prop :=
  ∀ (s : State) (c : CoreRef) (i : Item) (r : Fin 16) (p : Fin 8) (m : AddrMode) (sz : MemSize) (a : Int) (k' : Core) (n : Nat),
    Able s c i → s.atInstruction c i (.st c r p m sz) = true → (sz = .pair → r.val % 2 = 0) →
    effective (s.core c) p m = .ok (a, k') → alignedAt a sz = some n → n + memBytes sz ≤ 0x4000 →
    ((s.core c).forward (s.core c) (if sz = .pair then 8 else 6)).ticks ≤ i.bound →
    ∃ k2 : Core, exec (.st c r p m sz) s = .next (s.retires c (if sz = .pair then 8 else 6) fun _ => k2) ∧
      k2 = { k' with local_ := k2.local_, valid := k2.valid } ∧
      (∀ x, (x < n ∨ n + memBytes sz ≤ x) → k2.local_.read x =
        if 0x800 ≤ x / 4 ∧ n / 4 ≤ x / 4 ∧ x / 4 < (n + memBytes sz + 3) / 4 ∧ (s.core c).valid.contains (x / 4) = false then 0 else (s.core c).local_.read x) ∧
      (∀ j, j < memBytes sz → k2.local_.read (n + j) =
        if j < 4 then BitVec.ofNat 8 (((s.core c).reg r).toNat / 256 ^ j) else BitVec.ofNat 8 (((s.core c).reg (partner r)).toNat / 256 ^ (j - 4))) ∧
      (∀ w, k2.valid.contains w = ((s.core c).valid.contains w || decide (0x800 ≤ w ∧ n / 4 ≤ w ∧ w < (n + memBytes sz + 3) / 4)))

/-- ST to cluster memory: the bytes stored are those of the register, at the checked address; every other byte of the cluster's memory reads
as before, but those of a scratch word the core had not stored into, which read 0 from then on, and so does every other cluster; scratch words stored into are the core's (R244, R246, R248, Table 8.14). -/
def Obligations.StoreCluster : Prop :=
  ∀ (s : State) (c : CoreRef) (i : Item) (r : Fin 16) (p : Fin 8) (m : AddrMode) (sz : MemSize) (a : Int) (k' : Core) (n : Nat) (q : Fin 4),
    Able s c i → s.atInstruction c i (.st c r p m sz) = true → (sz = .pair → r.val % 2 = 0) → q.val = c.core.val / 8 →
    effective (s.core c) p m = .ok (a, k') → alignedAt a sz = some (0x100000 + n) → n + memBytes sz ≤ 0x40000 →
    ((s.core c).forward (s.core c) (if sz = .pair then 32 else 24)).ticks ≤ i.bound →
    ∃ m2 : ClusterMem,
      exec (.st c r p m sz) s =
        .next ((s.retires c (if sz = .pair then 32 else 24) fun _ => k').onDie c.die fun x => { x with clusters := x.clusters.set q m2 }) ∧
      (∀ x, (x < n ∨ n + memBytes sz ≤ x) → m2.mem.read x =
        if 0xF000 ≤ x / 4 ∧ n / 4 ≤ x / 4 ∧ x / 4 < (n + memBytes sz + 3) / 4 ∧ ((s.die c.die).clusters[q]).seen c.core.val (x / 4) = false then 0
        else ((s.die c.die).clusters[q]).mem.read x) ∧
      (∀ j, j < memBytes sz → m2.mem.read (n + j) =
        if j < 4 then BitVec.ofNat 8 (((s.core c).reg r).toNat / 256 ^ j) else BitVec.ofNat 8 (((s.core c).reg (partner r)).toNat / 256 ^ (j - 4))) ∧
      (∀ w, m2.valid.find w =
        if 0xF000 ≤ w ∧ n / 4 ≤ w ∧ w < (n + memBytes sz + 3) / 4 then some (some c.core.val) else ((s.die c.die).clusters[q]).valid.find w)

/-- ST to a buffered space: the bytes wait in the output buffer, after those that wait already, and no memory changes; a buffer that would exceed 1,024 bytes is an
OUTPUT_FULL fault (R247). -/
def Obligations.StoreBuffered : Prop :=
  ∀ (s : State) (c : CoreRef) (i : Item) (r : Fin 16) (p : Fin 8) (m : AddrMode) (sz : MemSize) (a : Int) (k' : Core) (n : Nat),
    Able s c i → (sz = .pair → r.val % 2 = 0) →
    effective (s.core c) p m = .ok (a, k') → alignedAt a sz = some n →
    ((0x500000 ≤ n ∧ n + memBytes sz ≤ 0x502000) ∨ (0x502000 ≤ n ∧ n + memBytes sz ≤ 0x502100) ∨
      (0x400000 ≤ n ∧ n + memBytes sz ≤ 0x404000 ∧ 0x40 ≤ (n - 0x400000) % 256 ∧ 0x40 ≤ (n - 0x400000 + memBytes sz - 1) % 256)) →
    ((s.core c).forward (s.core c) (if sz = .pair then 8 else 6)).ticks ≤ i.bound →
    if 1024 < (s.core c).buffered + memBytes sz then s.gives c i (.st c r p m sz) (.next (s.programFault c i .outputFull))
    else s.gives c i (.st c r p m sz) (.next (s.retires c (if sz = .pair then 8 else 6) fun k => { k' with out := k.out ++ [(n, storeData k r sz)] }))

/-- A load or store whose address is no multiple of min(size, 4) or lies outside the 23-bit map is an ADDRESS fault and nothing else happens; so is a store into
the read-only spaces and a load from the write-only spaces; a pair that names an odd register is ILLEGAL; a circular access outside its buffer is CIRCULAR
(R244..R246, R250). -/
def Obligations.AddressFaults : Prop :=
  (∀ (s : State) (c : CoreRef) (i : Item) (r : Fin 16) (p : Fin 8) (m : AddrMode), r.val % 2 = 1 →
    (Reaches s c i (.ld c r p m .pair .clean) → exec (.ld c r p m .pair .clean) s = .next (s.programFault c i .illegal)) ∧
    (Reaches s c i (.st c r p m .pair) → exec (.st c r p m .pair) s = .next (s.programFault c i .illegal))) ∧
  ∀ (s : State) (c : CoreRef) (i : Item) (r : Fin 16) (p : Fin 8) (m : AddrMode) (sz : MemSize) (a : Int) (k' : Core),
    Able s c i →
    let faults : Cause → Prop := fun e => s.gives c i (.ld c r p m sz .clean) (.next (s.programFault c i e)) ∧ s.gives c i (.st c r p m sz) (.next (s.programFault c i e))
    ((sz = .pair → r.val % 2 = 0) → effective (s.core c) p m = .error .circular → faults .circular) ∧
    ((sz = .pair → r.val % 2 = 0) → effective (s.core c) p m = .ok (a, k') →
      (alignedAt a sz = none → faults .address) ∧
      (∀ n, alignedAt a sz = some n →
        (spaceOf n = none → faults .address) ∧
        (0x440000 ≤ n → n < 0x482000 → s.gives c i (.st c r p m sz) (.next (s.programFault c i .address))) ∧
        (0x200000 ≤ n → n < 0x320000 → s.gives c i (.st c r p m sz) (.next (s.programFault c i .address))) ∧
        (0x7F0000 ≤ n → n < 0x7F0020 → s.gives c i (.st c r p m sz) (.next (s.programFault c i .address))) ∧
        (0x500000 ≤ n → n < 0x502100 → s.gives c i (.ld c r p m sz .clean) (.next (s.programFault c i .address)))))

/-- MINI and MAXI over words in the core's readable memory: the value in rd, then its index in ri, the first of equals; a count of 0 or above 1,024 is a COUNT
fault (Tables 8.10, 8.12, 8.14). -/
def Obligations.MinMaxScan : Prop :=
  ∀ (s : State) (c : CoreRef) (i : Item) (rd ri : Fin 16) (p : Fin 8) (rn : Fin 16) (uns : Bool) (sp : Space) (ws : List Word), Able s c i →
    let n := ((s.core c).reg rn).toNat
    let at_ := ((s.core c).ptr p).toNat
    let less : Word → Word → Prop := fun x y => if uns = true then x.toNat < y.toNat else x.toInt < y.toInt
    ((n = 0 ∨ 1024 < n) →
      s.gives c i (.mini c rd ri p rn uns) (.next (s.programFault c i .count)) ∧ s.gives c i (.maxi c rd ri p rn uns) (.next (s.programFault c i .count))) ∧
    (0 < n → n ≤ 1024 → at_ % 4 = 0 → spaceOf at_ = some sp →
      loadBytes (s.die c.die) c.core.val (s.core c) i at_ (4 * n) = some ((ws.map fun w => le 4 w.toNat).flatten) →
      ((s.core c).forward (s.core c) (12 + n * memTicks sp false)).ticks ≤ i.bound →
      ∃ lo hi : Fin ws.length,
        (∀ j : Fin ws.length, ¬less ws[j] ws[lo] ∧ (j < lo → less ws[lo] ws[j])) ∧
        (∀ j : Fin ws.length, ¬less ws[hi] ws[j] ∧ (j < hi → less ws[j] ws[hi])) ∧
        s.gives c i (.mini c rd ri p rn uns) (.next (s.retires c (12 + n * memTicks sp false) fun k => (k.setReg rd ws[lo]).setReg ri (BitVec.ofNat 32 lo.val))) ∧
        s.gives c i (.maxi c rd ri p rn uns) (.next (s.retires c (12 + n * memTicks sp false) fun k => (k.setReg rd ws[hi]).setReg ri (BitVec.ofNat 32 hi.val))))

/-- Table 8.13 and R261: Bcc goes to PC + off where its condition holds and ends the loops it leaves; CALL pushes PC + 1, at most four deep; RET pops it; LOOP
starts a body, at most two deep, and a register count of 0 skips it. A target outside the block is a PC fault, a full or empty stack a STACK fault (Table 8.10); that
a full call stack comes before such a target is the model's choice (assumption 151), and that a skipped body whose last word also ends an outer body counts as that
end its own reading (assumption 21).
R261: after the last word of a body the core returns to its first word while the remaining count exceeds 1, charging class B, and otherwise goes on past the
loop; elsewhere it takes the next word. A jump keeps the loops whose body holds its target and ends the others, innermost first. -/
def Obligations.Control : Prop :=
  (∀ (s : State) (c : CoreRef) (i : Item) (cond : BitVec 4) (off : BitVec 22), Reaches s c i (.bcc c cond off) → cond.toNat = 15 →
      exec (.bcc c cond off) s = .next (s.programFault c i .illegal)) ∧
  (∀ (s : State) (c : CoreRef) (i : Item), Able s c i →
      let k := s.core c
      let len := i.code.length
      let go : Nat → (Core → Core) → Host.Outcome State Fault Refusal := fun to_ f =>
        .next (s.onCore c fun k => { f k with pc := to_, ticks := k.ticks + 8 })
      let drop : Nat → Core → Core := fun to_ k => { k with loops := leaveLoops to_ k.loops }
      let faults : Instr → Cause → Prop := fun op e => s.gives c i op (.next (s.programFault c i e))
      (∀ (cond : BitVec 4) (off : BitVec 22),
        (condHolds k.flags cond.toNat = some false → Ready s c i 4 → s.gives c i (.bcc c cond off) (.next (s.retires c 4 id))) ∧
        (condHolds k.flags cond.toNat = some true → k.ticks + 8 ≤ i.bound → 0 ≤ k.pc + off.toInt → k.pc + off.toInt < len →
          s.gives c i (.bcc c cond off) (go (k.pc + off.toInt).toNat (drop (k.pc + off.toInt).toNat))) ∧
        (condHolds k.flags cond.toNat = some true → ¬(0 ≤ k.pc + off.toInt ∧ k.pc + off.toInt < len) → faults (.bcc c cond off) .pc)) ∧
      (∀ target : BitVec 10,
        (4 ≤ k.calls.length → faults (.call c target) .stack) ∧
        (k.calls.length < 4 → len ≤ target.toNat → faults (.call c target) .pc) ∧
        (k.calls.length < 4 → target.toNat < len → k.ticks + 8 ≤ i.bound → s.gives c i (.call c target) (go target.toNat fun k => { k with calls := (k.pc + 1) :: k.calls }))) ∧
      (k.calls = [] → faults (.ret c) .stack) ∧
      (∀ t rest, k.calls = t :: rest → k.ticks + 8 ≤ i.bound → s.gives c i (.ret c) (go t fun k => drop t { k with calls := rest })) ∧
      (∀ (fromReg : Bool) (ra : Fin 16) (count : BitVec 10) (last : BitVec 11),
        let n := if fromReg then (k.reg ra).toNat else if count = 0 then 1024 else count.toNat
        1 ≤ last.toNat → last.toNat ≤ 1023 →
        (2 ≤ k.loops.length → faults (.loop_ c fromReg ra count last) .stack) ∧
        (k.loops.length < 2 → len ≤ k.pc + last.toNat → faults (.loop_ c fromReg ra count last) .pc) ∧
        (k.loops.length < 2 → k.pc + last.toNat < len → n = 0 →
          let past := loopAdvance (k.pc + last.toNat) k.loops
          k.ticks + 8 + 8 * past.2.2 ≤ i.bound → s.gives c i (.loop_ c fromReg ra count last) (.next (s.onCore c fun k => { k with pc := past.2.1, loops := past.1, ticks := k.ticks + 8 + 8 * past.2.2 }))) ∧
        (k.loops.length < 2 → k.pc + last.toNat < len → k.ticks + 8 ≤ i.bound →
          (0 < n → s.gives c i (.loop_ c fromReg ra count last) (go (k.pc + 1) fun k => { k with loops := { first := k.pc + 1, last := k.pc + last.toNat, count := n } :: k.loops }))))) ∧
  (∀ (pc : Nat) (f : LoopFrame) (rest : List LoopFrame),
      loopAdvance pc [] = ([], pc + 1, 0) ∧
      (pc ≠ f.last → loopAdvance pc (f :: rest) = (f :: rest, pc + 1, 0)) ∧
      (pc = f.last → 1 < f.count → loopAdvance pc (f :: rest) = ({ f with count := f.count - 1 } :: rest, f.first, 1)) ∧
      (pc = f.last → f.count ≤ 1 → loopAdvance pc (f :: rest) = loopAdvance pc rest) ∧
      (∀ loops : List LoopFrame, ∃ gone, loops = gone ++ leaveLoops pc loops ∧ (∀ g ∈ gone, ¬(g.first ≤ pc ∧ pc ≤ g.last)) ∧
        ∀ g, (leaveLoops pc loops).head? = some g → g.first ≤ pc ∧ pc ≤ g.last))

/-- R255: a program fault stops the item: its buffer is discarded, it will not complete in its period, and event 42 is raised; a core that has prefetched its next
item starts it. FAULT, execution past the block, an undefined word and a spent budget fault; the instruction is not executed (R250, R258, Table 8.10). A row that
is not the instruction of the word at the program counter changes nothing (a choice of the model, assumption 146).
No word that staging takes has a branch target outside its block or an odd register for a pair (R250).
The two words that erased and zeroed memory hold are undefined, and so is every word with OP 0x00 (R260). -/
def Obligations.ProgramFaults : Prop :=
  ((∀ (s : State) (c : CoreRef) (i : Item) (code : Byte), Able s c i →
      s.gives c i (.faultOp c code) (.next (s.programFault c i (if (s.core c).ticks + 4 ≤ i.bound then .software code else .budget)))) ∧
    (∀ (s : State) (c : CoreRef) (i : Item) (op : Instr), s.runningOn c = some i →
      (op = .sysNop c ∨ (∃ rd ra rb, op = .add c rd ra rb) ∨ (∃ rd ra rb, op = .sub c rd ra rb) ∨ (∃ rd imm, op = .movi c rd imm) ∨ (∃ p imm, op = .pseti c p imm)) →
      (i.code[(s.core c).pc]? = none → exec op s = .next (s.programFault c i .pc)) ∧
      (∀ w, i.code[(s.core c).pc]? = some w → s.quiet c.die 0 = true → wordDefined w = false → exec op s = .next (s.programFault c i .illegal)) ∧
      (∀ w, i.code[(s.core c).pc]? = some w → wordDefined w = true → spells w op = false → exec op s = .next s) ∧
      (Able s c i → i.bound < ((s.core c).forward (s.core c) 4).ticks → s.gives c i op (.next (s.programFault c i .budget)))) ∧
    (∀ (s : State) (c : CoreRef) (i : Item) (cause : Cause), ((s.core c).next = none ∨ (s.core c).prefetched = false) →
      ((s.programFault c i cause).core c).run = none ∧ ((s.programFault c i cause).core c).out = [] ∧
      (∀ t ∈ ((s.programFault c i cause).die c.die).disp.insts, t.state ≠ .running c.core.val) ∧
      ((s.programFault c i cause).die c.die).events.pending.getLsbD 42 = true)) ∧
  (wordDefined 0x00000000#32 = false ∧ wordDefined 0xFFFFFFFF#32 = false ∧ (∀ w : Word, w.toNat < 2 ^ 26 → wordDefined w = false) ∧
    (∀ (words at_ : Nat) (w : Word), encodingOk words at_ w = true → wordDefined w = true) ∧
    (∀ (words at_ : Nat) (cond : BitVec 4) (off : BitVec 22) (w : Word), spells w (.bcc ⟨.t0, 0⟩ cond off) = true → encodingOk words at_ w = true →
      cond.toNat ≠ 15 ∧ 0 ≤ (at_ : Int) + off.toInt ∧ (at_ : Int) + off.toInt < words) ∧
    (∀ (words at_ : Nat) (r : Fin 16) (p : Fin 8) (m : AddrMode) (w : Word), (spells w (.ld ⟨.t0, 0⟩ r p m .pair .clean) = true ∨ spells w (.st ⟨.t0, 0⟩ r p m .pair) = true) →
      encodingOk words at_ w = true → r.val % 2 = 0))

/-- R257, R256: a residue mismatch on a multiply is a detection: the first abandons the item and runs it again from entry on the same core, counting the retry; no
register is written. -/
def Obligations.ResidueDetection : Prop :=
  ∀ (s : State) (c : CoreRef) (i : Item) (op : Instr), s.runningOn c = some i → s.quiet c.die 2 = true → s.atInstruction c i op = true →
    ((∃ rd ra rb, op = .mul c rd ra rb false) ∨ (∃ acc ra rb mode, op = .mpy c acc ra rb mode false) ∨
      (∃ acc ra rb mode, op = .mac c acc ra rb mode false) ∨ (∃ acc ra rb mode, op = .msu c acc ra rb mode false)) →
    ∃ t, exec op s = .next t ∧
      (i.retried = false →
        t.core c = ((s.core c).enter (s.die c.die) { i with retried := true, injected := false, detector := 2 } (s.core c).slot).putParams (s.core c).slot i.params)

/-- EXIT: the output buffer, with the words the control output adds, leaves the core, which executes nothing more of the item; its item run waits for the last
acknowledgement (R254). -/
def Obligations.ExitSends : Prop :=
  ∀ (s : State) (c : CoreRef) (i : Item), Able s c i → s.atInstruction c i (.exit_ c) = true →
    (s.core c).ticks + (exitEff (s.die c.die) (s.core c) i).cost ≤ i.bound →
    ∃ t, exec (.exit_ c) s = .next t ∧ (t.core c).exited = true ∧ (t.core c).run = some i ∧ (t.core c).d = (s.core c).d ∧
      (t.core c).out = (exitEff (s.die c.die) (s.core c) i).core.out ∧
      (∀ x ∈ (t.die c.die).disp.insts, x.state ≠ .running c.core.val) ∧
      ((s.die c.die).disp.insts.any (fun x => x.state == .running c.core.val) = true → t.runningOn c = none)

/-! ### Host commands that stage configuration (R47, R50, R76 step 11) -/

/-- The joint group stages what its parameters spell, for the joint or arm named, where they pass the checks that R164, R165, R171, R172, R198..R200 and R204 make: the shadow changes as said, the count of staged commands rises by one and the units are noted; nothing is live yet (R47). -/
def Obligations.StageJoint : Prop :=
  ∀ (h : HostCmd) (s : State),
    let p := h.params
    let s1 := s.dequeue h
    let d := actingDie h h.die
    let sh := (s1.die d).shadow
    let j := tJoint h.target
    let stages : Instr → Nat → List UnitId → (Cfg → Cfg) → List Byte → Prop := fun c op units f r =>
      Accepted s op h → (s1.die d).committing = false → exec c s = .next (s.served h op (answer (s1.stage d units f) r))
    let onJ : (CfgJointAll → CfgJointAll) → Cfg → Cfg := fun g x => x.onJoint j g
    (∀ c : CfgJoint, c = parseJoint p → tKind h.target = 1 → h.plen = 4 → (c.arm < 8 ∨ c.arm = 255) → rd p 1 1 ≤ 1 → rd p 2 1 ≤ 3 → rd p 3 1 ≤ 2 →
      (c.brake = 1 → ∃ k : Fin 16, k.val = c.brakeOut ∧ (sh.outputs[k]).function = 1) →
      c.brakeReleaseNs ≤ 2000000000 → c.brakeEngageNs ≤ 2000000000 → c.enableTimeoutNs ≤ 4000000000 → 10000000 ≤ c.softTimeNs → c.softTimeNs ≤ 2000000000 →
      zeroAt p 5 3 = true → zeroAt p 26 6 = true → (c.arm < 8 → (onJ (fun x => { x with joint := c }) sh).armCount c.arm ≤ 9) →
      (onJ (fun x => { x with joint := c }) sh).scaleOk j = true →
      stages (.configJoint h) 0x0300 [generatorUnit d j] (fun _ => onJ (fun x => { x with joint := c }) sh) []) ∧
    (∀ c : CfgArm, c = { rateDown := orDefault (rd p 0 4) 1310720, rateUp := orDefault (rd p 4 4) 131072 } → tKind h.target = 2 → h.plen = 2 →
      6554 ≤ c.rateDown → c.rateDown ≤ 65536000 → 6554 ≤ c.rateUp → c.rateUp ≤ 65536000 → zeroAt p 8 8 = true →
      Cfg.scalesOk { sh with arms := sh.arms.set (tArm h.target) c } = true →
      stages (.configJoint h) 0x0300
        (((List.finRange 64).filter fun k => (sh.joints[k]).arm? == some (tArm h.target)).map (generatorUnit d))
        (fun _ => { sh with arms := sh.arms.set (tArm h.target) c }) []) ∧
    (∀ l : CfgLimits, l = { qMin := rdS p 0 8, qMax := rdS p 8 8, vMax := rdS p 16 4, aMax := rdS p 20 4, jMax := rdS p 24 4, aStop := rdS p 28 4,
                            jStop := rdS p 32 4, catchOmega := orDefault (rd p 36 4) 1966080 } →
      l.qMin < l.qMax → 0 < l.vMax → 0 < l.aMax → 0 < l.jMax → l.aMax ≤ l.aStop → l.jMax ≤ l.jStop → 65536 ≤ l.catchOmega → l.catchOmega ≤ 131072000 →
      (onJ (fun x => { x with limits := some l }) sh).scaleOk j = true →
      stages (.configLimits h) 0x0301 [generatorUnit d j] (fun _ => onJ (fun x => { x with limits := some l }) sh) []) ∧
    (∀ c : CfgHoming, c = parseHoming p → c.method ≤ 5 → c.direction ≤ 1 → switchOk c.homeSrc = true → switchOk c.limPos = true → switchOk c.limNeg = true →
      2 ≤ c.chatterEdges → rd p 6 1 ≤ 3 → zeroAt p 7 1 = true → zeroAt p 68 4 = true →
      (c.method ∈ ([1, 2, 3] : List Nat) → 0 < c.backoff ∧ 0 < c.maxTravel ∧ 0 < c.vFast ∧ 0 < c.vCreep ∧ c.vCreep ≤ c.vFast ∧ 0 < c.aHome) →
      0 ≤ c.torqueThreshold → c.torqueThreshold ≤ c.torqueLimit →
      stages (.configHoming h) 0x0308 [generatorUnit d j] (onJ fun y => { y with homing := c }) []) ∧
    (zeroAt p 6 2 = true →
      stages (.configStandstill h) 0x0309 [generatorUnit d j]
        (onJ fun y => { y with standstill := { delayNs := orDefault (rd p 0 4) 500000000, fraction := orDefault (rd p 4 2) 26214 } }) []) ∧
    (0 ≤ rdS p 0 8 → 0 ≤ rdS p 8 8 → zeroAt p 20 4 = true →
      stages (.configFollowing h) 0x030C [generatorUnit d j]
        (onJ fun y => { y with following := { windowMoving := rdS p 0 8, windowStandstill := rdS p 8 8, timeNs := orDefault (rd p 16 4) 10000000 } }) []) ∧
    (∀ c : CfgControl,
      c = { tq := rd p 0 1 == 1, predict := bit (rd p 1 1) 0, velFromNode := bit (rd p 1 1) 1, kp := rd p 4 4, kv := rd p 8 4, ki := rd p 12 4,
            torqueMax := rdS p 16 4, limitFraction := orDefault (rd p 20 2) 65535, softLimitStart := orDefault (rd p 22 2) 16383, tauVNs := rd p 24 4 } →
      rd p 0 1 ≤ 1 → rd p 1 1 ≤ 3 → c.kp ≤ 655360000 → c.kv ≤ 4294901760 → c.ki ≤ 655360000 → 0 < c.torqueMax → c.tauVNs ≤ 100000000 →
      zeroAt p 2 2 = true → zeroAt p 28 4 = true →
      ∀ js : List (Fin 64), js = (if tIndex h.target = tAll then s1.presentJoints else [j]) →
      stages (.configControl h) 0x0400 (js.map (generatorUnit d) ++ s1.servoUnits d) (fun x => js.foldl (fun x k => x.onJoint k fun y => { y with control := c }) x) []) ∧
    (∀ f : CfgFilter, f = parseFilter p → rd p 0 1 ≤ 1 → f.type_ ≤ 3 → f.ok sh.periods.tS = true → (f.type_ ≠ 3 → zeroAt p 16 20 = true) →
      zeroAt p 14 2 = true → zeroAt p 36 4 = true →
      stages (.configFilter h) 0x0401 (generatorUnit d j :: s1.servoUnits d) (onJ fun y => if rd p 0 1 = 0 then { y with filter0 := f } else { y with filter1 := f })
        (((if f.coefs sh.periods.tS = [] then [268435456, 0, 0, 0, 0] else f.coefs sh.periods.tS).map (leInt 4)).flatten)) ∧
    (∀ c : CfgFeedforward,
      c = { kvff := rd p 0 4, kaff := rd p 4 4, inertia := rd p 8 4, gearNum := rd p 12 4, gearDen := rd p 16 4, cogOffset := rd p 20 4,
            travelMin := rdS p 24 8, travelMax := rdS p 32 8, vBand := orDefaultI (rdS p 40 4) 655, extFadeNs := orDefault (rd p 44 4) 20000000 } →
      c.kvff ≤ 131072 → c.kaff ≤ 131072 → c.inertia ≤ 4294901760 → c.gearDen ≠ 0 → c.travelMin < c.travelMax → 0 < c.vBand → c.extFadeNs ≤ 1000000000 →
      zeroAt p 48 8 = true →
      stages (.configFeedforward h) 0x0402 (generatorUnit d j :: s1.servoUnits d) (onJ fun y => { y with ff := c }) []) ∧
    (∀ c : CfgFeedback,
      c = { encoderPort := rd p 0 1 == 1, port := rd p 1 1, invert := bit (rd p 2 1) 0, holdLimit := if rd p 3 1 = 255 then 2 else rd p 3 1,
            countsPerUnit := rd p 4 4, offset := rdS p 8 8, freezeV := rdS p 16 4, freezeTorque := rdS p 20 4, freezeTimeNs := orDefault (rd p 24 4) 20000000 } →
      rd p 0 1 ≤ 1 → rd p 2 1 ≤ 1 → (rd p 0 1 = 1 → c.port ≤ 3) → c.holdLimit ≤ 4 → c.countsPerUnit ≠ 0 → 0 ≤ c.freezeV → 0 ≤ c.freezeTorque →
      c.freezeTimeNs ≤ 1000000000 → zeroAt p 28 4 = true →
      stages (.configFeedback h) 0x0406 [generatorUnit d j] (onJ fun y => { y with feedback := c }) []) ∧
    (∀ t : Fin 128, tComp h.target = some t → s1.jointPresent (tInstance h.target) = true → h.plen.toNat = 1 + (rd p 1 1 + 3) / 4 →
      1 ≤ rd p 1 1 → rd p 1 1 ≤ 112 → rd p 0 1 + rd p 1 1 ≤ 256 → rd p 2 1 ≤ 15 → rd p 3 1 ≤ 1 → zeroAt p 4 4 = true → padded h (8 + 2 * rd p 1 1) = true →
      stages (.tableWrite h) 0x0403 [unitOf d 0 6 0]
        (fun x => { x with tables := (x.tables.set t
          { shift := rd p 2 1, enable := bit (rd p 3 1) 0,
            entries := (List.range (rd p 1 1)).foldl (fun e n =>
              if rdS p (8 + 2 * n) 2 = 0 then e.erase (rd p 0 1 + n) else e.set (rd p 0 1 + n) (rdS p (8 + 2 * n) 2)) (x.tables[t]).entries }) }) [])

/-- The Juggler and separation groups stage their settings, weights, rows, geometry, chains, parameters, sensors and zones, where the checks of R127, R128, R130, R232..R236 and the admission pass (R275). -/
def Obligations.StagePlanning : Prop :=
  ∀ (h : HostCmd) (s : State),
    let p := h.params
    let s1 := s.dequeue h
    let d := actingDie h h.die
    let sh := (s1.die d).shadow
    let i := tInstance h.target
    let stages : Instr → Nat → List UnitId → (Cfg → Cfg) → List Byte → Prop := fun c op units f r =>
      Accepted s op h → (s1.die d).committing = false → exec c s = .next (s.served h op (answer (s1.stage d units f) r))
    (∀ (v : CfgJuggler) (new : Cfg), s1.noJuggler = false → readJuggler p = some v → new = { sh with juggler := v } →
      (∀ k : Fin 64, bit (rd p 0 8) k.val = true → s1.jointPresent k.val = true ∧ (sh.joints[k]).joint.arm ≤ 7) →
      rd p 8 1 ≤ 1 → rd p 9 1 ∈ ([1, 2, 4, 8, 16] : List Nat) → 1 ≤ rd p 10 1 → rd p 10 1 ≤ 16 → (rd p 11 1 = 0 ∨ 50 ≤ rd p 11 1 ∧ rd p 11 1 ≤ 95) →
      rd p 12 1 ≤ 25 → rd p 13 1 ≤ 3 → rd p 14 2 < 2 ^ rd p 10 1 → rd p 56 1 + rd p 57 1 + rd p 58 1 ≤ 128 → zeroAt p 59 5 = true →
      new.jugglerAdmitted (s1.jugglerLanes d) = true →
      stages (.configJuggler h) 0x0500 (s1.jugglerUnits d) (fun c => { c with juggler := v }) (s1.jugglerResult d new)) ∧
    (∀ (v : CfgWeights) (js : List (Fin 64)), s1.noJuggler = false →
      v = { wq := BitVec.ofNat 32 (rd p 0 4), wv := BitVec.ofNat 32 (rd p 4 4), wa := BitVec.ofNat 32 (rd p 8 4), wqn := BitVec.ofNat 32 (rd p 12 4),
            wvn := BitVec.ofNat 32 (rd p 16 4) } →
      (∀ x ∈ [v.wq, v.wv, v.wa, v.wqn, v.wvn], x.msb = false ∧ f32Finite x = true ∧ f32Value x ≤ 1000000000000) → zeroAt p 20 4 = true →
      js = (if tKind h.target = 1 then (if tIndex h.target = tAll then s1.presentJoints else [tJoint h.target])
            else (List.finRange 64).filter fun k =>
              if tIndex h.target = tAll then decide ((sh.joints[k]).joint.arm < 8) else (sh.joints[k]).joint.arm == (tArm h.target).val) →
      stages (.configWeights h) 0x0501 (s1.jugglerUnits d) (fun c => { c with weights := js.foldl (fun (ws : Vector CfgWeights 64) (k : Fin 64) => ws.set k v) c.weights }) []) ∧
    (∀ (r : CfgRow) (idx : List Nat) (put : Cfg → Cfg), s1.noJuggler = false → tTable h.target = 0x50 → i < sh.juggler.hostRows → r = readRow p →
      idx = (r.index.take r.nnz).map (fun b => b.toNat) → r.nnz ≤ 20 → zeroAt p 3 5 = true → zeroAt p 36 4 = true → boundsOk r.lower r.upper = true →
      (∀ k, k < 20 → f32Finite (BitVec.ofNat 32 (rd p (40 + 4 * k) 4)) = true) → distinct idx = true →
      (∀ b ∈ idx, sh.juggler.jointSet.getLsbD (b % 64) = true ∧ b / 64 ≠ 3 ∧ (b / 64 = 2 → r.stepMask.getLsbD (sh.juggler.n - 1) = false)) →
      r.stepMask &&& ~~~sh.juggler.rowStepMask = 0 →
      put = (fun c => if r.nnz = 0 then { c with rows := c.rows.erase i } else { c with rows := c.rows.set i r }) →
      (put sh).jugglerAdmitted (s1.jugglerLanes d) = true →
      stages (.configRows h) 0x0503 (s1.jugglerUnits d) put []) ∧
    (∀ (n : Nat) (es : List (Option (Option GeoEntry))) (put : Cfg → Cfg), n = rd p 0 1 → tTable h.target = 0x60 → 1 ≤ n → n ≤ 7 → i + n ≤ 4032 → i < 4032 →
      h.plen.toNat = 1 + 4 * n → zeroAt p 1 7 = true → es = (List.range n).map (fun k => readGeometry ((p.drop (8 + 32 * k)).take 32)) →
      put = (fun c => ((List.range n).zip es).foldl (fun c x => c.setGeo (i + x.1) (x.2.getD none)) c) →
      (∀ e ∈ es, e ≠ none ∧ ∀ g, e = some (some g) → (put sh).capsuleOk g = true) → (put sh).geoLimits = true → (put sh).sepAdmitted (s1.sepLanes d) = true →
      stages (.configGeometry h) 0x0600 (s1.sepUnits d) put []) ∧
    (∀ (a : Fin 8) (n : Nat) (frames : List KinFrame), a.val = i → n = rd p 0 1 → tTable h.target = 0x61 → frames = (List.range (n + 1)).map (readFrame p) →
      1 ≤ n → n ≤ 9 → n = sh.armCount i →
      (∀ k, k < 9 → if k < n then bits (rd p (k + 1) 1) 1 0 ≤ 2 ∧ bits (rd p (k + 1) 1) 6 2 = 0 else rd p (k + 1) 1 = 0) →
      zeroAt p 10 6 = true → zeroAt p (16 + 20 * (n + 1)) (200 - 20 * (n + 1)) = true → frames.all KinFrame.unitary = true →
      stages (.configKinematics h) 0x0601 (s1.sepUnits d)
        (fun c => { c with kinematics := c.kinematics.set a (some { joints := n, axes := (p.drop 1).take n, frames := frames }) }) []) ∧
    (∀ v : CfgSsmArm, tKind h.target = 2 → h.plen = 5 →
      v = { vRMax := rd p 0 4, tRAddNs := rd p 4 4, zR := rdS p 8 4, sSlow := rdS p 12 4, armClear := rdS p 16 4, rowWindow := rdS p 20 4,
            releaseNs := rd p 24 4, personCat := rd p 28 1, machineCat := rd p 29 1, speedTol := rdS p 32 4 } →
      1 ≤ v.vRMax → v.vRMax ≤ 1310720 → v.tRAddNs ≤ 100000000 → v.releaseNs ≤ 10000000000 →
      0 ≤ v.zR → 0 ≤ v.sSlow → 0 ≤ v.armClear → 0 ≤ v.rowWindow → 0 ≤ v.speedTol →
      1 ≤ v.personCat → v.personCat ≤ 3 → 1 ≤ v.machineCat → v.machineCat ≤ 3 → zeroAt p 30 2 = true → zeroAt p 36 4 = true →
      stages (.configSsmParams h) 0x0602 (s1.sepUnits d) (fun c => { c with ssmArm := c.ssmArm.set (tArm h.target) v }) []) ∧
    (∀ (k : Fin 8) (v : CfgSsmClass), tKind h.target = 6 → tTable h.target = 0x62 → k.val = i → h.plen = 2 →
      v = { vH := rd p 0 4, c := rdS p 4 4, zD := rdS p 8 4 } → v.vH ≤ 655360 → 0 ≤ v.c → 0 ≤ v.zD → (k = 0 → v.vH = 0 ∧ v.c = 0) → zeroAt p 12 4 = true →
      stages (.configSsmParams h) 0x0602 (s1.sepUnits d) (fun c => { c with ssmClass := c.ssmClass.set k v }) []) ∧
    (tKind h.target = 0 → h.plen = 1 → rd p 0 2 ≤ 655 → zeroAt p 2 6 = true →
      stages (.configSsmParams h) 0x0602 (s1.sepUnits d) (fun c => { c with scaleTol := rd p 0 2 }) []) ∧
    (∀ (n : Fin 32) (v : CfgSensor) (put : Cfg → Cfg), tTable h.target = 0x63 → n.val = i →
      v = { enable := rd p 0 1 == 1, clsOnTimeout := orDefault (rd p 1 1) 1, sensorId := rd p 2 2, udpPort := orDefault (rd p 4 2) 40117, quota := rd p 6 2,
            tAgeMaxNs := orDefault (rd p 8 4) 20000000, timeoutNs := orDefault (rd p 12 4) 100000000, coverage := rd p 16 2 } →
      rd p 0 1 ≤ 1 → rd p 1 1 ≤ 7 → zeroAt p 18 14 = true → put = (fun c => { c with sensors := c.sensors.set n v }) →
      (v.enable = true → 1024 ≤ v.udpPort ∧ v.udpPort ≤ 65535 ∧ 1 ≤ v.quota ∧ v.quota ≤ 720 ∧ 1000000 ≤ v.tAgeMaxNs ∧ v.tAgeMaxNs ≤ 1000000000 ∧
        v.timeoutNs ≤ 2000000000 ∧ v.coverage ≤ 4031 ∧ (put sh).sensorsClash = false ∧ (put sh).quota ≤ 1024 ∧ v.tAgeMaxNs ≤ v.timeoutNs ∧
        (put sh).sepAdmitted (s1.sepLanes d) = true) →
      stages (.configSensor h) 0x0603 (s1.sepUnits d) put []) ∧
    (∀ e : Option GeoEntry, readZone p (tIndex h.target % 64) = some e →
      stages (.configZone h) 0x0604 (s1.sepUnits d) (fun c => c.setGeo (4032 + tIndex h.target % 64) e) [])

/-- The package's own configuration: CONFIG_PERIODS, CONFIG_DEADLINE, CONFIG_TRAPEZE, CONFIG_EVENTS, CONFIG_STATISTICS, CODE_LOAD and CONFIG_PROGRAM stage what
their parameters spell where the checks and the admission of R275 pass.
The rings, field I/O, the cell switch and the time bases: what CONFIG_RING, CONFIG_NODE, CONFIG_INPUTS, CONFIG_OUTPUTS, CONFIG_WATCHDOG, CONFIG_ENCODER, CONFIG_SAFETY_INPUTS, CONFIG_SWITCH, CONFIG_CELL_PEERS, CONFIG_PTP and CONFIG_TPO stage where their parameters keep the ranges of R319, R320, R379, R380, R384..R386, R350, R352, R354 and R356. -/
def Obligations.StageShared : Prop :=
  (∀ (h : HostCmd) (s : State),
      let p := h.params
      let s1 := s.dequeue h
      let d := actingDie h h.die
      let x := s1.die d
      let sh := x.shadow
      let runs : Instr → Nat → Answer → Prop := fun c op a => Accepted s op h → x.committing = false → exec c s = .next (s.served h op a)
      (∀ (new : CfgPeriods) (c : Cfg) (a : Admit) (stepped : List UnitId), new = { tS := rd p 0 4, tP := rd p 4 4, tSep := rd p 8 4, phase := rd p 12 4 } → c = { sh with periods := new } →
        a = c.admission x.admitDie → new.tS ≠ 0 → (s1.periodsFail d c).1 = 0 →
        stepped = (if x.cfg.periods.tS = new.tS ∧ x.cfg.periods.phase = new.phase then []
          else ((List.finRange 64).filter fun j => s1.jointPresent j.val).map (fun j => generatorUnit d j) ++
            ((List.finRange 8).filter fun r => decide (r.val < s1.rings)).map fun r => mwUnit 0 r 0) →
        runs (.configPeriods h) 0x0010
          (answer (s1.stage d ([dispatcherUnit d, timeUnit 2] ++ s1.sepUnits d ++ s1.jugglerUnits d ++ stepped) fun _ => { a.cfg with periods := new })
            (le 4 a.makespan ++ le 4 a.budget.toNat ++ le 4 (c.slowest c.masters) ++ zeros 4 ++ le 4 (s1.periodsFail d c).2.toNat))) ∧
      (rd p 0 4 ≤ sh.periods.tS → rd p 4 1 ≤ 14 → zeroAt p 5 3 = true →
        runs (.configDeadline h) 0x0011
          (answer (s1.stage d [dispatcherUnit d] fun c => { c with deadline := { slackLowNs := rd p 0 4, overrunLimit := orDefault (rd p 4 1) 3 } }))) ∧
      (∀ new : CfgTrapeze, s1.noTrapeze = false →
        new = { homeFlier := if rd p 0 1 = 1 then .t1 else .t0, latent := rd p 1 1 == 1, noRevert := bit (rd p 2 1) 0, noAutoSync := bit (rd p 2 1) 1,
                noAutoReset := bit (rd p 2 1) 2, resetLimit := orDefault (rd p 3 1) 3, holdoffMs := orDefault (rd p 4 4) 30000,
                pairingNs := orDefault (rd p 8 4) 500000, syncDelayMs := orDefault (rd p 12 4) 100, curtainTStopNs := orDefault (rd p 16 4) 500000000 } →
        rd p 0 1 ≤ 1 → rd p 1 1 ≤ 1 → rd p 2 1 ≤ 7 → rd p 3 1 ≤ 15 → (rd p 4 4 = 0 ∨ 1000 ≤ rd p 4 4 ∧ rd p 4 4 ≤ 3600000) →
        (rd p 8 4 = 0 ∨ 50000 ≤ rd p 8 4 ∧ rd p 8 4 ≤ 10000000) → (rd p 12 4 = 0 ∨ 1 ≤ rd p 12 4 ∧ rd p 12 4 ≤ 60000) →
        (rd p 16 4 = 0 ∨ 10000000 ≤ rd p 16 4 ∧ rd p 16 4 ≤ 10000000000) → zeroAt p 20 12 = true → (rd p 1 1 = 1 → sh.latentFits = true) →
        runs (.configTrapeze h) 0x0801 (answer (s1.stage d [unitOf d 2 0 0, mwUnit 2 3 0] fun c => { c with trapeze := new }))) ∧
      (tKind h.target = 12 → eventDefined (tIndex h.target) = true → controlOk (rd p 0 4) = true → zeroAt p 4 4 = true →
        runs (.configEvents h) 0x0901
          (answer ((s1.stage d [eventUnit d] fun c => c.setControl (tIndex h.target) (BitVec.ofNat 32 (rd p 0 4))).onDie d fun y =>
            { y with staging := { y.staging with events := y.staging.events.set (tIndex h.target) (BitVec.ofNat 32 (rd p 0 4)) } }))) ∧
      (tKind h.target = 0 → rd p 1 1 ≤ 1 → zeroAt p 2 2 = true → controlOk (rd p 4 4) = true →
        runs (.configEvents h) 0x0901
          (answer (s1.stage d [eventUnit d] fun c =>
            let c : Cfg := { c with events := { c.events with transientLimit := orDefault (rd p 0 1) 8 } }
            if rd p 1 1 = 1 then
              x.staging.events.foldl (fun c e => c.setControl e.1 e.2)
                (((List.range 256).filter eventDefined).foldl (fun c e => c.setControl e (BitVec.ofNat 32 (rd p 4 4))) c)
            else c))) ∧
      (pvTarget h.target 1 = true → rd p 0 1 ≤ 1 → (rd p 1 1 = 0 ∨ 4 ≤ rd p 1 1 ∧ rd p 1 1 ≤ 24) → rd p 2 2 ≤ 3600 → zeroAt p 4 4 = true →
        runs (.configStatistics h) 0x0A03
          (answer (s1.stage d [unitOf d 2 2 1] fun c =>
            { c with statistics := { mode := rd p 0 1, log2Periods := orDefault (rd p 1 1) 14, seconds := orDefault (rd p 2 2) 1 } }) [] true)) ∧
      (∀ (b : Bool × Nat) (off len flags : Nat), tBlock h.target = some b → off = rd p 0 2 → len = rd p 2 1 → flags = rd p 3 1 → h.plen.toNat = 1 + len / 8 →
        8 ≤ len → len ≤ 224 → len % 8 = 0 → off % 8 = 0 → off + len ≤ (if b.1 then 4112 else 4096) → zeroAt p 4 4 = true →
        (flags = 2 → len = 8 → runs (.codeLoad h) 0x0B00 (answer (s1.stage d [dispatcherUnit d] fun c => c.setBlock b (x.cfg.blockIs b)))) ∧
        (flags = 0 → runs (.codeLoad h) 0x0B00 (answer (s1.stage d [dispatcherUnit d] fun c => c.setBlock b (some ((sh.blockOf b).put off ((p.drop 8).take len)))))) ∧
        (∀ new : CfgBlock, flags = 1 → new = (sh.blockOf b).put off ((p.drop 8).take len) → new.filled (if b.1 then 16 else 0) = true →
          new.filled (if b.1 then new.size else new.length) = true → (b.1 = true → new.codeOk = true) →
          ((sh.setBlock b (some { new with complete := true })).admission x.admitDie).fail = 0 →
          runs (.codeLoad h) 0x0B00
            (answer (s1.stage d [dispatcherUnit d] fun _ => ((sh.setBlock b (some { new with complete := true })).admission x.admitDie).cfg)))) ∧
      (∀ (first n : Nat) (new : Cfg), tProgram h.target = some first → n = rd p 0 1 → h.plen.toNat = 1 + 4 * n → first + n ≤ 1024 → 1 ≤ n → n ≤ 7 →
        zeroAt p 1 7 = true → (∀ k, k < n → sh.entryFields ((p.drop (8 + 32 * k)).take 32) = true) →
        new = (List.range n).foldl (fun c k => c.setEntry (first + k) ((p.drop (8 + 32 * k)).take 32)) sh →
        (x.cfg.trapeze.latent = true → new.latentFits = true) → (new.admission x.admitDie).fail = 0 →
        runs (.configProgram h) 0x0B01
          (answer (s1.stage d [dispatcherUnit d] fun _ => (new.admission x.admitDie).cfg) (new.admission x.admitDie).bytes))) ∧
  (∀ (h : HostCmd) (s : State),
      let p := h.params
      let s1 := s.dequeue h
      let d := actingDie h h.die
      let sh := (s1.die d).shadow
      let stages : Instr → Nat → List UnitId → (Cfg → Cfg) → List Byte → Prop := fun c op units f r =>
        Accepted s op h → (s1.die d).committing = false → exec c s = .next (s.served h op (answer (s1.stage d units f) r))
      (∀ (r : Fin 8) (new : CfgRing) (f : Cfg → Cfg), r = tRing h.target → r.val < s1.rings →
        new = { role := rd p 0 1, ringId := rd p 1 1, nodes := rd p 2 1, stopAction := rd p 3 1, cableM := rd p 4 2, lossLimit := orDefault (rd p 6 1) 3,
                tStopNs := orDefault (rd p 8 4) 500000000, nodeOutLen := rd p 12 1, nodeInLen := rd p 13 1 } →
        new.role ≤ 3 → new.nodes ≤ 16 → new.stopAction ≤ 1 → rd p 6 1 ≤ 14 → zeroAt p 7 1 = true → rd p 8 4 ≤ 10000000000 →
        (2 ≤ new.role → 4 ≤ new.nodeOutLen ∧ new.nodeOutLen ≤ 64 ∧ 4 ≤ new.nodeInLen ∧ new.nodeInLen ≤ 64) → zeroAt p 14 2 = true →
        new.cableM ≤ 30 * (new.nodes + 1) → f = (fun c => { c with rings := c.rings.set r new }) → (f sh).ringOk r.val = true →
        stages (.configRing h) 0x0200 (ringUnits r.val) f ((f sh).ringResult r.val)) ∧
      (∀ (k : Fin 128) (r : Fin 8) (new : CfgNode) (f : Cfg → Cfg) (drive : Prop), k.val = tIndex h.target % 128 → r.val = k.val / 16 → r.val < s1.rings →
        drive = (rd p 0 1 = 1 ∨ rd p 0 1 = 2) →
        new = { format := rd p 0 1, joint := rd p 1 1,
                outLen := if rd p 0 1 = 1 then 24 else if rd p 0 1 = 2 then 12 else if rd p 0 1 = 3 then 8 else rd p 2 1,
                inLen := if rd p 0 1 = 1 ∨ rd p 0 1 = 2 then 24 else if rd p 0 1 = 3 then 8 else rd p 3 1, hopNs := orDefault (rd p 4 2) 320,
                velShift := rd p 6 1, checkIdent := bit (rd p 7 1) 0, vendor := rd p 8 2, product := rd p 10 2 } →
        rd p 0 1 ≤ 4 → (drive → rd p 1 1 ≤ 63 ∧ s1.jointPresent (rd p 1 1) = true) → (¬drive → rd p 1 1 = 255) →
        (if rd p 0 1 = 4 then 4 ≤ rd p 2 1 ∧ rd p 2 1 ≤ 64 ∧ 4 ≤ rd p 3 1 ∧ rd p 3 1 ≤ 64 else rd p 2 1 = 0 ∧ rd p 3 1 = 0) →
        rd p 4 2 ≤ 320 → rd p 6 1 ≤ 16 → rd p 7 1 ≤ 1 → zeroAt p 12 4 = true → f = (fun c => { c with nodes := c.nodes.set k new }) →
        (drive → ((f sh).nodes.toList.filter fun n => (n.format == 1 || n.format == 2) && n.joint == rd p 1 1).length ≤ 1) →
        ((f sh).nodes.toList.filter fun n => n.format == 3 || n.format == 4).length ≤ 32 → (f sh).ringOk r.val = true →
        stages (.configNode h) 0x0201 [mwUnit 0 r 0] f []) ∧
      (tKind h.target = 0 → rd p 0 1 ≤ 15 → zeroAt p 1 7 = true →
        stages (.configInputs h) 0x0700 [inUnit 0, inUnit 1, inUnit 2, inUnit 3] (fun c => { c with field := { c.field with types := BitVec.ofNat 8 (rd p 0 1) } }) []) ∧
      (∀ k : Fin 32, tKind h.target ≠ 0 → k.val = tChannel h.target % 32 → rd p 2 1 ≠ 1 → rd p 3 1 ≤ 3 → rd p 4 4 ≤ 3600000 →
        stages (.configInputs h) 0x0700 [inUnit (k.val / 8)]
          (fun c => { c with inputs := (c.inputs.set k
            { filterN := orDefault (rd p 0 2) 1000, chatterLimit := orDefault (rd p 2 1) 16, invert := bit (rd p 3 1) 0, stuckEnable := bit (rd p 3 1) 1,
              stuckMs := orDefault (rd p 4 4) 60000 }) }) []) ∧
      (tKind h.target = 0 → (rd p 0 2 = 0 ∨ 12000 ≤ rd p 0 2 ∧ rd p 0 2 ≤ 17000) → (rd p 2 2 = 0 ∨ 12000 ≤ rd p 2 2 ∧ rd p 2 2 ≤ 17000) → rd p 4 1 ≤ 7 →
        zeroAt p 5 3 = true →
        stages (.configOutputs h) 0x0701 [outUnit 0, outUnit 1]
          (fun c => { c with field := { c.field with
            upOffMv := #v[orDefault (rd p 0 2) 15000, orDefault (rd p 2 2) 15000], autoRestoreUp := #v[bit (rd p 4 1) 0, bit (rd p 4 1) 1],
            autoRestoreWd := bit (rd p 4 1) 2 } }) []) ∧
      (∀ (k : Fin 16) (new : CfgOutput) (f : Cfg → Cfg), tKind h.target ≠ 0 → k.val = tChannel h.target % 16 →
        new = { function := rd p 0 1, cls := rd p 1 1, group := rd p 2 1, safe := rd p 3 1, openLoadEnable := bit (rd p 4 1) 0, openLoadMs := orDefault (rd p 8 4) 100 } →
        new.function ≤ 2 → new.cls ≤ 1 → new.group ≤ 2 → new.safe ≤ 2 → rd p 4 1 ≤ 1 → zeroAt p 5 3 = true → rd p 8 4 ≤ 10000 → zeroAt p 12 4 = true →
        f = (fun c => { c with outputs := c.outputs.set k new }) → (f sh).groupsOk = true → (sh.brakeOf k.val = none ∨ new.function = 1) →
        stages (.configOutputs h) 0x0701 [outUnit (k.val / 8)] f []) ∧
      ((rd p 0 4 = 0 ∨ 100000 ≤ rd p 0 4 ∧ rd p 0 4 ≤ 1000000000) → zeroAt p 4 4 = true →
        stages (.configWatchdog h) 0x0705 [curtainUnit] (fun c => { c with field := { c.field with watchdogNs := orDefault (rd p 0 4) 1000000 } }) []) ∧
      (∀ (k : Fin 4) (new : CfgEncoder), k.val = tChannel h.target % 4 →
        new = { mode := rd p 0 1, mirrorRing := bits (rd p 1 1) 6 4, mirrorNode := bits (rd p 1 1) 3 0, gray := bit (rd p 2 1) 0, zEnable := bit (rd p 2 1) 1,
                errorBit := rd p 3 1, clockKhz := orDefault (rd p 4 2) 1000, frameBits := rd p 6 1, posBits := rd p 7 1, posLsb := rd p 8 1, parity := rd p 9 1,
                sampleOffsetNs := rd p 12 4, monoflopNs := orDefault (rd p 16 4) 20000, filterNs := orDefault (rd p 20 2) 40 } →
        new.mode ≤ 2 → bit (rd p 1 1) 7 = false → rd p 2 1 ≤ 3 → (new.errorBit ≤ 39 ∨ new.errorBit = 255) → 100 ≤ new.clockKhz → new.clockKhz ≤ 4000 →
        8 ≤ new.frameBits → new.frameBits ≤ 40 → 8 ≤ new.posBits → new.posBits ≤ 32 → new.posBits ≤ new.frameBits → new.posLsb ≤ new.frameBits - new.posBits →
        new.parity ≤ 2 → zeroAt p 10 2 = true → 2 * new.sampleOffsetNs ≤ sh.periods.tS → 1000 ≤ new.monoflopNs → new.monoflopNs ≤ 100000 →
        40 ≤ new.filterNs → new.filterNs ≤ 1000 → zeroAt p 22 10 = true → new.fits sh.periods.tS = true → new.mirrorRing < s1.rings →
        stages (.configEncoder h) 0x0706 [encUnit k.val] (fun c => { c with encoders := c.encoders.set k new }) (le 4 new.deliver)) ∧
      (∀ new : CfgSafety,
        new = { enA := pairInput (rd p 0 1), enB := pairInput (rd p 1 1), cuA := pairInput (rd p 2 1), cuB := pairInput (rd p 3 1),
                enDiscrepancyMs := orDefault (rd p 4 2) 500, cuDiscrepancyMs := orDefault (rd p 6 2) 100, cuFilterN := orDefault (rd p 8 2) 1000 } →
        (rd p 0 1 = 255 ∧ rd p 1 1 = 255 ∨ rd p 0 1 < 32 ∧ rd p 1 1 < 32 ∧ rd p 0 1 / 8 ≠ rd p 1 1 / 8) →
        (rd p 2 1 = 255 ∧ rd p 3 1 = 255 ∨ rd p 2 1 < 32 ∧ rd p 3 1 < 32 ∧ rd p 2 1 / 8 ≠ rd p 3 1 / 8) →
        (∀ a ∈ [rd p 0 1, rd p 1 1], a = 255 ∨ a ≠ rd p 2 1 ∧ a ≠ rd p 3 1) →
        10 ≤ new.enDiscrepancyMs → new.enDiscrepancyMs ≤ 5000 → 10 ≤ new.cuDiscrepancyMs → new.cuDiscrepancyMs ≤ 5000 → 1 ≤ new.cuFilterN → new.cuFilterN ≤ 10000 →
        zeroAt p 10 6 = true →
        stages (.configSafetyInputs h) 0x0707 [curtainUnit] (fun c => { c with safety := new }) []) ∧
      (∀ new : CfgSwitch, tKind h.target = 0 → p.length = 24 → new = readSwitch p → isGroup new.mac.toNat = false → 1024 ≤ new.peerPort → 1 ≤ new.pkgVid →
        new.pkgVid ≤ 4094 → 1 ≤ new.ptpVid → new.ptpVid ≤ 4094 → rd p 16 1 ≤ 1 → new.dupMode ≤ 1 → new.dupPortA ≤ 5 → new.dupPortB ≤ 5 →
        new.dupPortA ≠ new.dupPortB → 10 ≤ new.ageS → zeroAt p 22 2 = true →
        stages (.configSwitch h) 0x0130 [switchUnit 6] (fun c => { c with switch := new }) []) ∧
      (∀ (k : Fin 6) (new : CfgPort), tKind h.target = 10 → p.length = 8 → k.val = tIndex h.target % 6 →
        new = { mode := rd p 0 1, anDisable := bit (rd p 1 1) 0, taggedOnly := bit (rd p 1 1) 1, pvid := rd p 2 2, defaultPcp := rd p 4 1 } →
        new.mode ≤ 3 → rd p 1 1 ≤ 3 → 1 ≤ new.pvid → new.pvid ≤ 4094 → new.defaultPcp ≤ 7 → zeroAt p 5 3 = true →
        (new.mode = 0 → ∀ q ∈ [sh.ptp0, sh.ptp3], ¬(q.enable = true ∧ q.profile = 1 ∧ q.ptpPort = k.val)) →
        stages (.configSwitch h) 0x0130 [switchUnit k.val] (fun c => { c with ports := c.ports.set k new }) []) ∧
      (∀ (k : Fin 64) (new : CfgVlan), tKind h.target = 6 → p.length = 8 → tTable h.target = 0x30 → k.val = tInstance h.target →
        new = { vid := rd p 0 2, members := rd p 2 1, untagged := rd p 3 1 } → new.vid ≤ 4094 → new.members ≤ 127 → new.untagged ≤ 127 → zeroAt p 4 4 = true →
        stages (.configSwitch h) 0x0130 [switchUnit 6] (fun c => { c with vlans := c.vlans.set k new }) []) ∧
      (∀ new : CfgPeers,
        new = { hbPeriod := orDefault (rd p 0 4) 1000000, hbMiss := orDefault (rd p 4 1) 4, skewTol := orDefault (rd p 8 4) 10000,
                entries := Vector.ofFn fun k : Fin 4 =>
                  { enable := bit (rd p (16 + 12 * k.val) 1) 0, mac := BitVec.ofNat 48 (beNat ((p.drop (18 + 12 * k.val)).take 6)),
                    ipv4 := BitVec.ofNat 32 (beNat ((p.drop (24 + 12 * k.val)).take 4)) } } →
        250000 ≤ new.hbPeriod → new.hbPeriod ≤ 100000000 → 2 ≤ new.hbMiss → new.hbMiss ≤ 16 → zeroAt p 5 3 = true → zeroAt p 12 4 = true →
        (∀ k, k < 4 → rd p (16 + 12 * k) 1 ≤ 1 ∧ zeroAt p (17 + 12 * k) 1 = true) → zeroAt p (16 + 12 * s1.pkgid.toNat) 12 = true →
        stages (.configCellPeers h) 0x0140 [switchUnit 6] (fun c => { c with peers := new }) []) ∧
      (tBase h.target = 2 → zeroAt p 0 14 = true → rd p 14 1 ≤ 2 → zeroAt p 15 1 = true →
        stages (.configPtp h) 0x0110 [timeUnit 2]
          (fun c => { c with tb2Source := if rd p 14 1 = 1 then .tb0 else if rd p 14 1 = 2 then .tb3 else .free }) []) ∧
      (∀ (n : Fin 4) (new : CfgPtp) (f : Cfg → Cfg), n = tBase h.target → (n = 0 ∨ n = 3) →
        new = { enable := bit (rd p 0 1) 0, profile := rd p 1 1, role := rd p 2 1, domain := rd p 3 1, priority1 := rd p 4 1, priority2 := rd p 5 1,
                clockClass := rd p 6 1, servoHost := bit (rd p 7 1) 0, logSync := rdS p 8 1, logAnnounce := rdS p 9 1, logDelay := rdS p 10 1,
                ptpPort := rd p 11 1, jump := orDefault (rd p 12 2) 1000 } →
        f = (fun c => if n = 0 then { c with ptp0 := new } else { c with ptp3 := new }) →
        rd p 0 1 ≤ 1 → new.profile ≤ 1 → new.role ≤ 2 → new.domain ≤ 127 → rd p 7 1 ≤ 1 → -7 ≤ new.logSync → new.logSync ≤ 1 → -3 ≤ new.logAnnounce →
        new.logAnnounce ≤ 3 → -7 ≤ new.logDelay → new.logDelay ≤ 5 → new.ptpPort ≤ 5 → 100 ≤ new.jump → new.jump ≤ 65000 → zeroAt p 14 2 = true →
        (f sh).ptp0.domain ≠ (f sh).ptp3.domain → (new.profile = 1 → (f sh).portMode new.ptpPort ≠ 0) →
        stages (.configPtp h) 0x0110 [timeUnit n.val, timeUnit 6] f []) ∧
      (∀ new : CfgTpo, new = { mode := rd p 0 1, source := rd p 1 1, polarity := rd p 2 1, period := rd p 4 4, phase := rd p 8 4, width := rd p 12 4 } →
        new.mode ≤ 2 → new.source ≤ 3 → new.polarity ≤ 1 → zeroAt p 3 1 = true → 1000 ≤ new.period → new.period ≤ 1000000000 → 1000000000 % new.period = 0 →
        new.phase < new.period → 100 ≤ new.width → new.width + 100 ≤ new.period →
        stages (.configTpo h) 0x0120 [timeUnit 5] (fun c => { c with tpo := new }) []))

/-! ### Every host command: dequeuing, the checks, pairing (R68, R73, R76, R80, R82, R85, R86) -/

/-- A host command that cannot be dequeued changes nothing (R68, R73); one that is dequeued on a working die of its own and fails a check is answered with the status of
the first check that fails, in the order of R76, and has no other effect: the entry checks 1 to 4, single submission (step 5), and the checks 6 to 10. A Catcher whose own copy alone fails
the entry checks answers with OWN = 1 (R82, R83; DEDUCED in `State.receive`).
An opcode outside Table 3.14 is answered `BAD_OPCODE` by the die that dequeues it, and has no other effect (R76 step 1, R90).
An at-epoch command that passes checks 1 to 10 is held for its boundary, up to 64 on a die, and the 65th is answered `BUSY` (R80); a Flier tells its partner (R82). -/
def Obligations.HostTurnedAway : Prop :=
  (∀ (c : Instr) (op : Nat) (h : HostCmd) (s : State), c.hostRow = some (op, h) →
      let s1 := s.dequeue h
      let d := h.die
      (s.canDequeue h = false → exec c s = .next s) ∧
      (s.canDequeue h = true → (s.die d).works = true → s.receivers d = [d] →
        (∀ st, entryCheck op h (s.queue d (cmdQueue h)).expectedSeq = some st →
          exec c s = .next (s1.finish d op h
            { status := st, own := s.hasPartner && (!dual h || (!s.isFlier d && s.mw.trapeze.token.isSome && (entryCheck op h h.seq).isNone)) })) ∧
        (entryCheck op h (s.queue d (cmdQueue h)).expectedSeq = none → ∀ o, opInfo op = some o →
          (s.hasPartner = true → dual h = false → o.single = false → exec c s = .next (s1.finish d op h { status := St.notEligible, own := true })) ∧
          ((s.hasPartner = false ∨ (dual h = true ∧ s.isFlier d = true) ∨ (dual h = false ∧ o.single = true)) →
            ∀ st, s1.check d op o h = some st → exec c s = .next (s.served h op (reject s1 st)))))) ∧
  (∀ (op : BitVec 16) (h : HostCmd) (s : State), opInfo op.toNat = none → s.canDequeue h = true → (s.die h.die).works = true → s.receivers h.die = [h.die] →
      exec (.badOpcode op h) s =
        .next ((s.dequeue h).finish h.die op.toNat h { status := St.badOpcode, own := s.hasPartner && !dual h })) ∧
  (∀ (c : Instr) (op : Nat) (o : OpInfo) (h : HostCmd) (s : State), c.hostRow = some (op, h) → opInfo op = some o →
      let s1 := s.dequeue h
      let d := h.die
      let own := (s.hasPartner && !dual h) || ownReply op h false
      s.canDequeue h = true → (s.die d).works = true → s.receivers d = [d] → entryCheck op h (s.queue d (cmdQueue h)).expectedSeq = none →
      (s.hasPartner = false ∨ (dual h = true ∧ s.isFlier d = true) ∨ (dual h = false ∧ o.single = true)) →
      s1.check d op o h = none → atEpoch h = true →
      ((s.die d).rm.held.length < 64 →
        exec c s = .next (if s.hasPartner && dual h then (s1.hold d op h).notify d.other op h { status := St.later, own := own } else s1.hold d op h)) ∧
      (64 ≤ (s.die d).rm.held.length → exec c s = .next (s.served h op (reject s1 St.busy))))

/-- A Catcher keeps its copy of a command until the Flier's notice for the same queue and SEQ arrives: without a notice it executes nothing, with an equal CRC it carries
the command out as the notice says, and with a different one it answers `DUAL_MISMATCH` and loses eligibility (R82). Where a port is lost, both dies receive the command,
the Flier first (R85). -/
def Obligations.CatcherPairs : Prop :=
  ∀ (c : Instr) (op : Nat) (h : HostCmd) (s : State), c.hostRow = some (op, h) → s.canDequeue h = true →
    let s1 := s.dequeue h
    let d := h.die
    let seq := (s.queue d (cmdQueue h)).expectedSeq
    let copy : Copy := { opcode := op, cmd := h, atNs := s1.now }
    let kept := s1.onDie d fun x => { x with rm := { x.rm with copies := x.rm.copies ++ [copy] } }
    let spent := s1.onDie d fun x => { x with rm := { x.rm with notices := [], copies := [] } }
    ((s.die d).works = true → s.receivers d = [d] → s.hasPartner = true → dual h = true → s.isFlier d = false → entryCheck op h seq = none →
      ((∀ n r, (s.die d).rm.notices = n :: r → n.arrived = false ∨ ∀ v ∈ (s.die d).rm.copies ++ [copy], n.names v = false) → exec c s = .next kept) ∧
      (∀ n : Notice, (s.die d).rm.notices = [n] → (s.die d).rm.copies = [] → n.arrived = true → n.names copy = true →
        (n.crc = crc32 (cmdBytes op h) → exec c s = .next (spent.adopt d copy n)) ∧
        (n.crc ≠ crc32 (cmdBytes op h) →
          exec c s = .next ((spent.finish d op h { status := St.dualMismatch, own := true }).catcherLost d 2)))) ∧
    (s.hasPartner = true → (s.die d.other).port.lost = true → s.linked = true → s.isFlier d = true →
      exec c s = .next ((s1.receive d op h seq).receive d.other op h seq)) ∧
    (s.hasPartner = true → (s.die d.other).port.lost = true → s.linked = true → s.isFlier d = false →
      exec c s = .next ((s1.receive d.other op h seq).receive d op h seq))

/-- A rejected command has no effect (R76): for every opcode but `TIME_OFFSET`, whose refused jump is counted (R333, R348), and `CODE_LOAD`, whose failed block loses its staged content (R250, R278), a command's own meaning that rejects leaves the state as it was. Of `JOINT_ENABLE` and `JOINT_DISABLE`, whose joints act one by one (R166), this is said where they name one joint. -/
def Obligations.RejectionHasNoEffect : Prop :=
  ∀ (op : Nat) (f : HostCmd → DieId → State → Answer) (h : HostCmd) (d : DieId) (s : State),
    bodyOf op = some f → (op = 0x0302 ∨ op = 0x0303 → tKind h.target = 1 ∧ tIndex h.target ≠ tAll) → op ≠ 0x0102 → op ≠ 0x0B00 →
    (f h d s).2.rejects = true → (f h d s).2.status ≠ St.later → (f h d s).1 = s

/-! ### Commands that read (R87..R89, and the result tables of chapters 2 to 15) -/

/-- The commands that only read answer `OK` with a result of the stated length that begins as their tables say, and change nothing: `NOP`, `IDENTIFY`, `GET_STATUS`,
`GET_BOUNDARY`, `TIME_GET`, `PTP_STATUS`, `CELL_PORT_STATUS`, the ring, joint, table, Juggler, separation, field, Trapeze, event, fault, Preserve, statistics, program
and dispatch readers. -/
def Obligations.ReadCommands : Prop :=
  ∀ (h : HostCmd) (s : State),
    let p := h.params
    let s1 := s.dequeue h
    let d := actingDie h h.die
    let x := s1.die d
    let reads : Instr → Nat → List Byte → Nat → Prop := fun c op pre len =>
      Accepted s op h → ∃ rest own, (pre ++ rest).length = len ∧ exec c s = .next (s.served h op (answer s1 (pre ++ rest) own))
    reads (.nop h) 0x0000 [] 0 ∧
    reads (.identify h) 0x0001 (le 4 0x0864C01D ++ le 1 s1.mw.fuses.variant ++ le 1 s1.pkgid.toNat ++ le 1 d.code) 128 ∧
    reads (.getStatus h) 0x0002 (le 8 s1.mw.b) 96 ∧
    reads (.getBoundary h) 0x0021 (le 8 s1.mw.b ++ stamp s1.mw.nominal) 48 ∧
    reads (.timeGet h) 0x0100 (le 8 s1.mw.b ++ le 8 s1.mw.ticks ++ stamp (s1.mw.tb[0]).ns) 112 ∧
    (tBase h.target = 0 ∨ tBase h.target = 3 → reads (.ptpStatus h) 0x0111 [] 48) ∧
    reads (.cellPortStatus h) 0x0131 [] 48 ∧
    ((tRing h.target).val < s1.rings → reads (.ringStatus h) 0x0202 (le 1 (s1.mw.cfg.ring (tRing h.target).val).role ++ le 1 (s1.ring (tRing h.target)).state.code) 104) ∧
    ((tRing h.target).val < s1.rings → (s1.ring (tRing h.target)).state ≠ .off → (s1.ring (tRing h.target)).state ≠ .node →
      (s1.ring (tRing h.target)).counted ≤ 16 →
      reads (.ringScan h) 0x0203 (le 1 (s1.ring (tRing h.target)).counted) (16 + 12 * (s1.ring (tRing h.target)).counted)) ∧
    (tKind h.target = 3 → (tRing h.target).val < s1.rings → reads (.ringCounters h) 0x0204 (le 1 0) 64) ∧
    (∀ (r : Fin 8) (k : Fin 16) (b : Nat), tKind h.target ≠ 3 → r.val = tIndex h.target % 128 / 16 → k.val = tIndex h.target % 16 → r.val < s1.rings →
      ((s1.ring r).nodes[k]).countersB = some b →
      reads (.ringCounters h) 0x0204 (le 1 1 ++ le 1 k.val ++ zeros 2 ++ le 4 (s1.mw.b - b) ++ ((s1.ring r).nodes[k]).counters)
        (8 + (((s1.ring r).nodes[k]).counters).length)) ∧
    (Accepted s 0x030A h → exec (.jointStatus h) s = .next (s.served h 0x030A (answer s1
      ((s1.joint d (tJoint h.target)).shown.getD (x.jointStatus (tJoint h.target) s1.mw.b))))) ∧
    ((s1.joint d (tJoint h.target)).shown = none →
      reads (.jointStatus h) 0x030A (le 1 (s1.joint d (tJoint h.target)).state.code ++ le 1 (s1.joint d (tJoint h.target)).mode.code) 64) ∧
    (∀ t : Fin 128, tComp h.target = some t → s1.jointPresent (tInstance h.target) = true → 1 ≤ rd p 1 1 → rd p 1 1 ≤ 108 → rd p 0 1 + rd p 1 1 ≤ 256 →
      rd p 2 1 ≤ 1 → zeroAt p 3 5 = true → reads (.tableRead h) 0x0404 (le 1 (rd p 0 1) ++ le 1 (rd p 1 1)) (8 + 2 * rd p 1 1)) ∧
    (Accepted s 0x0407 h → exec (.controlStatus h) s = .next (s.served h 0x0407 (answer s1
      ((s1.joint d (tJoint h.target)).shownCtl.getD (x.controlStatus (tJoint h.target)))))) ∧
    ((s1.joint d (tJoint h.target)).shownCtl = none →
      reads (.controlStatus h) 0x0407 (le 1 (b2n (x.jointCfg (tJoint h.target)).control.tq)) 64) ∧
    (s1.noJuggler = false → reads (.jugglerStatus h) 0x0504 (le 1 (b2n x.cfg.juggler.enable) ++ le 1 x.cfg.juggler.n) 112) ∧
    (∀ pl : JointPlan, s1.noJuggler = false → rd p 1 1 ≤ 16 → zeroAt p 2 6 = true → x.cfg.juggler.jointSet.getLsbD (tJoint h.target).val = true →
      ((rd p 0 1 = 0 ∧ (x.joints[tJoint h.target]).plan1 = some pl) ∨ (rd p 0 1 = 1 ∧ (x.joints[tJoint h.target]).plan2 = some pl)) →
      reads (.planRead h) 0x0505 (le 8 pl.b0) (16 + 16 * ((pl.points.drop (rd p 1 1)).take 13).length)) ∧
    reads (.sepStatus h) 0x0607 (le 8 x.sep.lastB) 176 ∧
    reads (.fioRead h) 0x0703 (le 8 s1.mw.field.latchedB ++ le 4 s1.mw.field.latched.toNat) 64 ∧
    (s1.noTrapeze = false → reads (.trapezeStatus h) 0x0800 (le 8 s1.mw.b) 64) ∧
    (tKind h.target = 12 → eventDefined (tIndex h.target) = true → reads (.eventRead h) 0x0902 (le 4 (x.control (tIndex h.target))) 32) ∧
    (tKind h.target ≠ 12 → reads (.eventRead h) 0x0902 (le 8 s1.mw.b ++ le 32 x.events.pending.toNat) 72) ∧
    reads (.faultStatus h) 0x0905 (le 8 s1.mw.b ++ le 1 x.cfg.events.transientLimit) 144 ∧
    (pvTarget h.target 0 = true → 1 ≤ rd p 2 1 → rd p 2 1 ≤ 3 → zeroAt p 3 5 = true → ∀ (k : Nat) (q : Preserve), q = x.preserve.settled →
      k = min (rd p 2 1) ((q.next + 65536 - q.oldest) % 65536 -
        (if 32768 ≤ (rd p 0 2 + 65536 - q.oldest) % 65536 then 0 else (rd p 0 2 + 65536 - q.oldest) % 65536)) →
      reads (.preserveRead h) 0x0A02 (le 2 q.oldest ++ le 2 q.next ++ le 1 k) (16 + 64 * k)) ∧
    (pvTarget h.target 1 = true → s1.mw.interval.due = false → rd p 2 1 ≤ 2 → zeroAt p 3 5 = true → s1.statFault (rd p 0 1) (rd p 1 1) = none →
      reads (.statsRead h) 0x0A04 [] (32 + 4 * statWords (rd p 0 1))) ∧
    (∀ first : Nat, tProgram h.target = some first → first + rd p 0 1 ≤ 1024 → 1 ≤ rd p 0 1 → rd p 0 1 ≤ 7 → rd p 1 1 ≤ 1 → zeroAt p 2 6 = true →
      (rd p 1 1 = 0 → x.disp.rom = false) → Accepted s 0x0B02 h →
      exec (.programRead h) s = .next (s.served h 0x0B02 (answer s1
        ((List.range (rd p 0 1)).map fun k => (if rd p 1 1 = 0 then x.cfg else x.shadow).entryRead (first + k)).flatten))) ∧
    reads (.dispatchStatus h) 0x0B05 (le 8 s1.mw.b) 72

/-! ### Streams and the trace (R78, R83, R255) -/

/-- Opening a stream replaces one of the same opcode and target on the die and remembers its queue, TAG and selection, counted from SEQ 0; closing removes it: ring mailboxes, TPI, plans, separation and health (R325, R353, R133, R239, R420). `TRACE_OPEN` opens the die's one trace, or changes its masks from the queue that opened it, and `TRACE_CLOSE` sends what is held and ends it (R281). -/
def Obligations.StreamCommands : Prop :=
  ∀ (h : HostCmd) (s : State),
    let p := h.params
    let s1 := s.dequeue h
    let d := actingDie h h.die
    let runs : Instr → Nat → Answer → Prop := fun c op a => Accepted s op h → exec c s = .next (s.served h op a)
    let open_ : Nat → List Nat → Answer := fun op args => answer (s1.openStream d op h args)
    let close : Nat → Answer := fun op => answer (s1.closeStream d op h.target)
    (zeroAt p 3 5 = true → rd p 0 1 = 0 → runs (.tpiStream h) 0x0121 (close 0x0121)) ∧
    (zeroAt p 3 5 = true → rd p 0 1 = 1 → 1 ≤ rd p 1 1 → rd p 1 1 ≤ 3 → rd p 2 1 ≤ 3 →
      runs (.tpiStream h) 0x0121 (answer (if s1.isFlier d then
        (s1.openStream d 0x0121 h [rd p 1 1, rd p 2 1]).onMw fun m => { m with tpi := { m.tpi with count := 0 } }
        else s1.openStream d 0x0121 h [rd p 1 1, rd p 2 1]))) ∧
    ((tRing h.target).val < s1.rings → zeroAt p 1 7 = true → rd p 0 1 = 0 → runs (.mailboxStream h) 0x0206 (close 0x0206)) ∧
    ((tRing h.target).val < s1.rings → zeroAt p 1 7 = true → rd p 0 1 = 1 → (s1.ring (tRing h.target)).state ≠ .node → (s1.ring (tRing h.target)).state ≠ .off →
      runs (.mailboxStream h) 0x0206 (open_ 0x0206 [])) ∧
    (s1.noJuggler = false → zeroAt p 2 6 = true → rd p 0 1 = 0 → runs (.planStream h) 0x0506 (close 0x0506)) ∧
    (s1.noJuggler = false → zeroAt p 2 6 = true → rd p 0 1 = 1 → runs (.planStream h) 0x0506 (open_ 0x0506 [orDefault (rd p 1 1) 1])) ∧
    (zeroAt p 2 6 = true → rd p 0 1 = 0 → runs (.sepStream h) 0x0608 (close 0x0608)) ∧
    (zeroAt p 2 6 = true → rd p 0 1 = 1 → runs (.sepStream h) 0x0608 (open_ 0x0608 [orDefault (rd p 1 1) 1])) ∧
    (s1.noTrapeze = false → zeroAt p 1 7 = true → rd p 0 1 = 0 → runs (.healthStream h) 0x0804 (close 0x0804)) ∧
    (s1.noTrapeze = false → zeroAt p 1 7 = true → rd p 0 1 = 1 → runs (.healthStream h) 0x0804 (open_ 0x0804 [])) ∧
    (∀ t : Trace, rd p 0 1 ≤ 15 → rd p 1 1 ≤ 31 → zeroAt p 2 2 = true → (s1.die d).disp.trace = none →
      t = { queue := h.queue.val, tag := h.tag.toNat, target := h.target.toNat, classMask := rd p 0 1, kindMask := rd p 1 1, coreMask := BitVec.ofNat 32 (rd p 4 4) } →
      runs (.traceOpen h) 0x0B03 (answer (s1.onDie d fun x => { x with disp := { x.disp with trace := some t } }))) ∧
    (∀ t : Trace, rd p 0 1 ≤ 15 → rd p 1 1 ≤ 31 → zeroAt p 2 2 = true → (s1.die d).disp.trace = some t → t.queue = h.queue.val →
      runs (.traceOpen h) 0x0B03 (answer (s1.onDie d fun x =>
        { x with disp := { x.disp with trace := some { t with classMask := rd p 0 1, kindMask := rd p 1 1, coreMask := BitVec.ofNat 32 (rd p 4 4) } } }))) ∧
    (∀ t : Trace, (s1.die d).disp.trace = some t →
      runs (.traceClose h) 0x0B04 (answer ((s1.flushTrace d).onDie d fun x => { x with disp := { x.disp with trace := none } })))

/-! ### Motion (chapter 5) -/

/-- The motion commands on an enabled joint: the generator takes the requested target and limits, held within the joint's own, and answers `LIMITED` where it held them; enabling and disabling act on every joint the target names; a stop is by its category, arm by arm (R142..R159, R166..R171). -/
def Obligations.MotionCommands : Prop :=
  ∀ (h : HostCmd) (s : State),
    let p := h.params
    let s1 := s.dequeue h
    let d := actingDie h h.die
    let j := tJoint h.target
    let x := s1.joint d j
    let cfg := (s1.die d).jointCfg j
    let runs : Instr → Nat → Answer → Prop := fun c op a => Accepted s op h → exec c s = .next (s.served h op a)
    (rd p 0 1 ≤ 1 → zeroAt p 1 7 = true → tKind h.target = 1 → tIndex h.target ≠ tAll →
      runs (.jointEnable h) 0x0302
        ((s1.enableJoint d j (bit (rd p 0 1) 0) h.tag.toNat).1,
          { status := worstStatus [(s1.enableJoint d j (bit (rd p 0 1) 0) h.tag.toNat).2] })) ∧
    (s1.phase = .ripe →
      runs (.jointDisable h) 0x0303 (answer ((s1.jointsOf d h.target).foldl (fun s j => s.disableJoint d j h.tag.toNat) s1))) ∧
    (tKind h.target = 1 → tIndex h.target ≠ tAll →
      runs (.jointDisable h) 0x0303 (if s1.jogOk d j then answer (s1.disableJoint d j h.tag.toNat) else reject s1 St.wrongState)) ∧
    (1 ≤ rd p 0 1 → rd p 0 1 ≤ 3 → zeroAt p 1 7 = true → tIndex h.target ≠ tAll → tKind h.target = 1 →
      runs (.jointStop h) 0x030B (answer (s1.commandStop d j (rd p 0 1 - 1)))) ∧
    (1 ≤ rd p 0 1 → rd p 0 1 ≤ 3 → zeroAt p 1 7 = true → tIndex h.target ≠ tAll → tKind h.target = 2 →
      runs (.jointStop h) 0x030B (answer (s1.hostArmStop d (tArm h.target) (rd p 0 1 - 1)))) ∧
    (∀ (l : CfgLimits) (qT : Int) (clamped : Bool), cfg.limits = some l → x.state = .enabled → x.homed = true →
      0 ≤ rdS p 8 4 → 0 ≤ rdS p 12 4 → 0 ≤ rdS p 16 4 → rd p 20 1 ≤ 1 → zeroAt p 21 3 = true →
      qT = rdS p 0 8 + (if rd p 20 1 = 1 then (if x.mode = .point then x.qT else x.q) else 0) → l.holds qT = true →
      clamped = (decide (l.vMax < rdS p 8 4) || decide (l.aMax < rdS p 12 4) || decide (l.jMax < rdS p 16 4)) →
      runs (.movePoint h) 0x0304
        ((s1.beginMotion d j).onJoint d j fun y =>
          { ({ y with qT := qT, reqV := rdS p 8 4, reqA := rdS p 12 4, reqJ := rdS p 16 4, mode := .point } : Joint).planPoint cfg.lim with limited := clamped },
         { status := if clamped then St.limited else St.ok })) ∧
    (∀ (l : CfgLimits) (cap vt : Int) (clamped : Bool), cfg.limits = some l → x.state = .enabled → s1.jogOk d j = true → 0 ≤ rdS p 4 4 → 0 ≤ rdS p 8 4 →
      zeroAt p 12 4 = true → cap = (if s1.phase = .ripe then l.vMax else l.vMax / 10) → vt = max (-cap) (min (rdS p 0 4) cap) →
      clamped = (decide (vt ≠ rdS p 0 4) || decide (l.aMax < rdS p 4 4) || decide (l.jMax < rdS p 8 4)) →
      runs (.moveVelocity h) 0x0305
        ((s1.beginMotion d j).onJoint d j fun y =>
          { ({ y with vT := vt, reqV := (rdS p 0 4).natAbs, reqA := rdS p 4 4, reqJ := rdS p 8 4, jogNs := (s1.beginMotion d j).now } : Joint).planVelocity cfg.lim with
            limited := clamped },
         { status := if clamped then St.limited else St.ok })) ∧
    (∀ (n : Nat) (pts : List HostPoint), n = rd p 1 1 → pts = streamPoints p n → x.state = .enabled → x.homed = true → rd p 0 1 = 1 → n ≤ 9 → zeroAt p 2 6 = true →
      h.plen.toNat = 1 + 3 * n → (∀ i, i < n → zeroAt p (8 + 24 * i + 4) 4 = true) → keysRise (pts.map fun q => q.key) = true →
      (∀ q r, pts = q :: r → q.key = 0) → (∀ l, cfg.limits = some l → ∀ q ∈ pts, l.holds q.q = true) →
      runs (.streamPoints h) 0x0306 (answer ((s1.beginMotion d j).onJoint d j fun y =>
        { y with mode := .stream, source := .host, points := pts, tau := 0, tauLaps := 0, plan := [] }))) ∧
    (∀ (n : Nat) (pts : List HostPoint), n = rd p 1 1 → pts = streamPoints p n → x.state = .enabled → x.mode = .stream → x.source = .host → rd p 0 1 = 0 → n ≤ 9 →
      zeroAt p 2 6 = true → h.plen.toNat = 1 + 3 * n → (∀ i, i < n → zeroAt p (8 + 24 * i + 4) 4 = true) → keysRise (pts.map fun q => q.key) = true →
      (∀ q r v, pts = q :: r → x.points.getLast? = some v → v.key < q.key ∧ q.key - v.key ≤ 1048576) →
      (x.homed = true → ∀ l, cfg.limits = some l → ∀ q ∈ pts, l.holds q.q = true) → x.points.length + n ≤ 32 →
      runs (.streamPoints h) 0x0306 (answer (s1.onJoint d j fun y => { y with points := y.points ++ pts }))) ∧
    (x.state = .enabled → x.v = 0 → cfg.homing.method ≠ 0 → runs (.home h) 0x0307 (answer ((s1.beginMotion d j).startHoming d j)))

/-! ### Items, rings, zones and field outputs -/

/-- The commands that hand the running part a value: external torques, Juggler references, mailbox messages, ring stop codes, zone requests and releases, field outputs and rearming (R203, R129, R324, R326, R237, R381, R383).
The commands on the time bases (R333, R334, R347..R349): the Flier's `TIME_SET_INCREMENT`, `TIME_OFFSET` and `TIME_FORCE_STEP` change the time base, the Catcher's copies nothing, and an offset above the jump threshold is refused. -/
def Obligations.HandedValues : Prop :=
  (∀ (h : HostCmd) (s : State),
      let p := h.params
      let s1 := s.dequeue h
      let d := actingDie h h.die
      let runs : Instr → Nat → Answer → Prop := fun c op a => Accepted s op h → exec c s = .next (s.served h op a)
      (∀ js : List (Fin 64), js = (if tKind h.target = 1 then [tJoint h.target] else (s1.die d).armJoints (tArm h.target)) → rd p 0 1 = js.length →
        1 ≤ js.length → js.length ≤ 9 → h.plen.toNat = 1 + (js.length + 1) / 2 → rd p 4 4 ≤ 10000000000 → zeroAt p 1 3 = true →
        padded h (8 + 4 * js.length) = true → cmdAtEpoch h = false →
        runs (.extTorque h) 0x0405 (answer (((List.range js.length).zip js).foldl (fun t x => t.onJoint d x.2 fun y =>
          { (y.settleExt t.mw.b) with
            extNext := some { tau := rdS p (8 + 4 * x.1) 4, bS := (s1.die d).rm.flierB.getD s1.mw.b + 1, validNs := rd p 4 4 } }) s1))) ∧
      (∀ (a : Fin 8) (nj count mode : Nat) (held kept pts : List RefPoint), s1.noJuggler = false → a = tArm h.target → nj = rd p 13 1 → count = rd p 12 1 →
        mode = rd p 14 1 → mode ≤ 2 → held = (s1.die d).jug.refs[a] →
        kept = (if mode = 0 then held else if mode = 1 then held.filter fun x => decide (x.key < rd p 0 8) else []) →
        h.plen.toNat = (16 + 12 * nj * count + 7) / 8 → zeroAt p 15 1 = true → padded h (16 + 12 * nj * count) = true → nj = ((s1.die d).armJoints a).length →
        (if mode = 2 then count = 0 else 1 ≤ count ∧ count ≤ 224 / (12 * max nj 1)) → 1 ≤ rd p 8 4 → rd p 8 4 ≤ 1048576 →
        (mode = 0 → ∀ l, held.getLast? = some l → l.key < rd p 0 8) → kept.length + count ≤ 64 →
        pts = (List.range count).map (fun i =>
          { key := rd p 0 8 + i * rd p 8 4, qv := (List.range nj).map fun n => (rdS p (16 + 12 * (i * nj + n)) 8, rdS p (24 + 12 * (i * nj + n)) 4) }) →
        runs (.referenceLoad h) 0x0502 (answer (s1.onJug d fun y => { y with refs := y.refs.set a (kept ++ pts) }))) ∧
      (∀ (r : Fin 8) (k : Fin 16) (n : Nat), r.val = tIndex h.target % 128 / 16 → k.val = tIndex h.target % 16 → r.val < s1.rings → rd p 1 1 ≤ 56 →
        p.length = 8 * (1 + (rd p 1 1 + 7) / 8) → zeroAt p 3 5 = true → padded h (8 + rd p 1 1) = true → (s1.ring r).state = .data →
        ((s1.ring r).nodes[k]).state = some n → 2 ≤ n → n ≤ 4 → ((((s1.ring r).nodes[k]).mail.filter fun m => m.report.isSome).length < 4) →
        (rd p 0 1 = 16 ∨ (rd p 0 1 = 3 ∧ (((s1.die d).cfg.ringJoints r.val).all fun j => (s1.joint d j).state == .disabled) = true)) →
        runs (.mailboxSend h) 0x0205 (answer (if s1.isFlier d then
          s1.post r k (rd p 0 1) (orDefault (rd p 2 1) 16) ((p.drop 8).take (rd p 1 1)) (some h.tag.toNat) else s1))) ∧
      (∀ (rs : List (Fin 8)) (code : Nat), code = rd p 0 1 → code ≤ 2 →
        rs = (if tIndex h.target = tAll then (List.finRange 8).filter fun r => decide (r.val < s1.rings) && (s1.mw.cfg.ring r.val).role == 1 else [tRing h.target]) →
        (tIndex h.target ≠ tAll → (tRing h.target).val < s1.rings) → zeroAt p 1 7 = true → (∀ r ∈ rs, (s1.mw.cfg.ring r.val).role = 1) →
        (code = 0 → s1.curtained = false ∧ ∀ r ∈ rs, ∀ j ∈ (s1.die d).cfg.ringJoints r.val, (s1.joint d j).state = .disabled) →
        runs (.ringStop h) 0x0207 (answer (rs.foldl (fun s r => s.stopRing d r code h.tag.toNat) s1))) ∧
      (∀ (z : Fin 64) (e : Nat), z.val = tIndex h.target % 64 → rdStamp p 6 = some e → rd p 0 1 ≤ 7 → zeroAt p 1 5 = true →
        ((s1.die d).cfg.zoneDef z.val).isSome = true →
        runs (.zoneRequest h) 0x0605 (answer (if ((s1.die d).sep.zones[z]).holder = some (s1.pkgid.toNat, rd p 0 1) then s1 else s1.onZone d z fun x =>
          { x with requests := (x.requests.filter fun r => r.1 != rd p 0 1) ++ [(rd p 0 1, e)], withdraw := x.withdraw.filter fun w => w != rd p 0 1 }))) ∧
      (∀ (z : Fin 64) (v : List Nat) (u : Bool × Bool × BitVec 4 × Int), z.val = tIndex h.target % 64 → rd p 0 1 ≤ 7 → zeroAt p 1 7 = true → (s1.die d).cfg.zoneDef z.val = some (v, u) →
        (((s1.die d).sep.zones[z]).holder = some (s1.pkgid.toNat, rd p 0 1) →
          runs (.zoneRelease h) 0x0606 (s1.onZone d z fun y => { y with releasing := true },
            { status := if (s1.die d).armOutside (rd p 0 1) s1.mw.b v then St.ok else St.deferred })) ∧
        (((s1.die d).sep.zones[z]).holder ≠ some (s1.pkgid.toNat, rd p 0 1) → (((s1.die d).sep.zones[z]).requests.any fun r => r.1 == rd p 0 1) = true →
          runs (.zoneRelease h) 0x0606 (answer (s1.onZone d z fun y => { y with withdraw := y.withdraw ++ [rd p 0 1] })))) ∧
      (∀ chs : List (Fin 16), chs = ((List.finRange 16).filter fun i => bit (rd p 2 2) i.val) → zeroAt p 4 4 = true → (∀ i ∈ chs, s1.mw.cfg.leader i = i) →
        (∀ i ∈ chs, (s1.mw.cfg.outputs[i]).function = 1 ∧ s1.mw.cfg.brakeOf i.val = none) →
        runs (.fioWrite h) 0x0702 (answer (if s1.isFlier d then chs.foldl (fun s i => s.onOut i fun o => { o with next := some (bit (rd p 0 2) i.val) }) s1 else s1))) ∧
      (∀ (wd : Bool) (up : Fin 2 → Bool), rd p 0 1 ≤ 7 → zeroAt p 1 1 = true → rd p 4 1 ≤ 15 → zeroAt p 5 3 = true → s1.isFlier d = true →
        wd = (bit (rd p 0 1) 0 && s1.mw.field.wdLatched) → (∀ u : Fin 2, up u = (bit (rd p 0 1) (u.val + 1) && (s1.mw.field.supplies[u]).lost)) →
        runs (.fioRearm h) 0x0704 (answer
          (([0, 1] : List (Fin 2)).foldl (fun s u => if up u && (s1.mw.field.supplies[u]).recovered then s.onSupply u fun y => { y with rearm := true } else s)
            (s1.onField fun f => { f with wdRearm := f.wdRearm || wd }))
          (le 1 (packBits [wd && s1.refreshing, up 0 && (s1.mw.field.supplies[(0 : Fin 2)]).recovered, up 1 && (s1.mw.field.supplies[(1 : Fin 2)]).recovered]) ++
           le 1 (packBits [wd && !s1.refreshing, up 0 && !(s1.mw.field.supplies[(0 : Fin 2)]).recovered, up 1 && !(s1.mw.field.supplies[(1 : Fin 2)]).recovered]) ++ zeros 6)))) ∧
  (∀ (h : HostCmd) (s : State),
      let p := h.params
      let s1 := s.dequeue h
      let d := actingDie h h.die
      let n := tBase h.target
      let runs : Instr → Nat → Answer → Prop := fun c op a => Accepted s op h → exec c s = .next (s.served h op a)
      let lim := if n.val = 2 then ppm100 else ppm500
      (s1.tbFixed n = false → (n.val = 0 → s1.firmwareServo 0 = false) → (n.val = 3 → s1.firmwareServo 1 = false) →
        nominalInc - lim ≤ rd p 0 8 → rd p 0 8 ≤ nominalInc + lim →
        runs (.timeSetIncrement h) 0x0101 (answer (if s1.isFlier d then s1.onTb n fun t => { t with inc := rd p 0 8 } else s1))) ∧
      (s1.tbFixed n = false → (s1.offset n 0 (rdS p 0 8)).2 = true →
        runs (.timeOffset h) 0x0102 (answer (if s1.isFlier d then (s1.offset n 0 (rdS p 0 8)).1 else s1))) ∧
      (s1.tbFixed n = false → (s1.offset n 0 (rdS p 0 8)).2 = false →
        runs (.timeOffset h) 0x0102 (reject (if s1.isFlier d then (s1.offset n 0 (rdS p 0 8)).1 else s1) St.timeJumpRefused)) ∧
      (s1.tbFixed n = false → (n.val = 2 → (s1.die s1.lead).anyEnabled = false) → zeroAt p 1 5 = true → rd p 0 1 = 0 → (rdStamp p 6).isSome = true →
        0 ≤ ((s1.mw.tb[n]).ns : Int) + (s1.mw.tb[n]).step + rdS p 16 8 →
        runs (.timeForceStep h) 0x0103 (answer (if s1.isFlier d then s1.forceStep n ((s1.mw.tb[n]).step + rdS p 16 8) else s1))) ∧
      (∀ t : Nat, s1.tbFixed n = false → (n.val = 2 → (s1.die s1.lead).anyEnabled = false) → zeroAt p 1 5 = true → rd p 0 1 = 1 → rdStamp p 6 = some t →
        runs (.timeForceStep h) 0x0103 (answer (if s1.isFlier d then s1.forceStep n ((t : Int) - ((s1.mw.tb[n]).ns : Int)) else s1))))

/-! ### Time, Trapeze, faults and Preserve -/

/-- `COMMIT`, `CONFIG_DISCARD`, `SYNC_START`, `SWITCH_OVER`, `FAULT_INJECT`, `EVENT_CLEAR`, `PLACE_TEST`, `PRESERVE_FREEZE` and `PRESERVE_THAW` (R50, R51, R60, R61, R417, R418, R436, R439, R440, R448, R453, R454): what each opens, arms, clears, starts or freezes, and the reply that comes at once or later. -/
def Obligations.PackageCommands : Prop :=
  ∀ (h : HostCmd) (s : State),
    let p := h.params
    let s1 := s.dequeue h
    let d := actingDie h h.die
    let x := s1.die d
    let runs : Instr → Nat → Answer → Prop := fun c op a => Accepted s op h → exec c s = .next (s.served h op a)
    let to_ : DieId := if rd p 0 1 = 1 then .t1 else .t0
    (∀ bc n : Nat, bc = rd p 0 8 → n = rd p 8 4 → s1.mw.b + 2 ≤ bc → bc ≤ s1.mw.b + 2 ^ 20 → zeroAt p 12 4 = true → bit h.flags.toNat 1 = false →
      (x.changesPeriods = true → bc % max 1 x.shadow.rP = 0 ∧ bc % max 1 x.shadow.rSep = 0) → 0 < x.staging.count → (n = 0 ∨ n = x.staging.count) →
      x.committing = false → runs (.commit h) 0x0020 (s1.openCommit d bc h, { status := St.later })) ∧
    (x.committing = false → runs (.configDiscard h) 0x0018 (answer (s1.onDie d Die.discard) (le 4 x.staging.count))) ∧
    (s1.noTrapeze = false → s1.mw.trapeze.sync = none → (s1.die d.other).partner.eligible = false → (s1.die d.other).present = true →
      (s1.die d.other).status = .running → s1.mw.trapeze.directUp = true → s1.curtained = false → s1.isFlier d = true →
      runs (.syncStart h) 0x0802 (answer ((s1.onTrapeze fun t => { t with syncFails := 0 }).startSync d.other))) ∧
    (s1.noTrapeze = false → rd p 0 1 ≤ 1 → zeroAt p 1 7 = true → s1.isFlier to_ = true → runs (.switchOver h) 0x0803 (answer s1)) ∧
    (s1.noTrapeze = false → rd p 0 1 ≤ 1 → zeroAt p 1 7 = true → s1.isFlier to_ = false → x.cfg.trapeze.latent = false → s1.curtained = false →
      (s1.die to_).partner.eligible = true → s1.isFlier d = true →
      runs (.switchOver h) 0x0803 (s1.endHandover.onTrapeze (fun t => { t with handover := some { target := to_, atB := s1.endHandover.mw.b, cmd := some h } }),
        { status := St.later })) ∧
    (∀ (det : Nat) (w : Word) (i : Injection), det = rd p 0 1 → w = hpTarget (ownPlace h.target d) det →
      i = { target := w, detector := det, mode := rd p 1 1, bits := rd p 2 1, path := rd p 3 1, delayNs := rd p 4 4, arg := rd p 8 4, armedNs := s1.now } →
      det ≤ 14 → rd p 1 1 ≤ 1 → (if det = 0 then 1 ≤ rd p 2 1 ∧ rd p 2 1 ≤ 2 else rd p 2 1 = 0) → (if det = 13 then rd p 3 1 ≤ 3 else rd p 3 1 = 0) →
      rd p 4 4 ≤ 1000000000 → rd p 8 4 ≤ injectArg det → zeroAt p 12 4 = true → injectTarget h.target det = true → s1.heldInjections d < 4 →
      ∀ mw : Bool, mw = !(tKind w == 7 && decide (bits w.toNat 25 24 < 2)) →
      (mw = false → runs (.faultInject h) 0x0900 (answer (s1.onDie d fun x => { x with det := { x.det with injections := x.det.injections ++ [i] } })
        (le 1 (s1.heldInjections d + 1) ++ zeros 7))) ∧
      (mw = true → s1.isFlier d = true → runs (.faultInject h) 0x0900 (answer (s1.onTrapeze fun t => { t with injections := t.injections ++ [i] })
        (le 1 (s1.heldInjections d + 1) ++ zeros 7)))) ∧
    (rd p 1 1 ≠ 2 → 4 ≤ s1.heldInjections d → s1.isFlier d = true → runs (.faultInject h) 0x0900 (reject s1 St.busy)) ∧
    (∀ t : State, t = (s1.onDie d fun x => { x with events := { x.events with pending := x.events.pending &&& ~~~(BitVec.ofNat 256 (rd p 0 32)) } }) →
      runs (.eventClear h) 0x0903 (answer t (le 32 (t.die t.lead).events.pending.toNat))) ∧
    (∀ r c u : Nat, x.test = none → placeScope (tIndex h.target) = some (bits h.target.toNat 25 24, .unit r c u) → bits h.target.toNat 25 24 ≠ 2 →
      (r = 0 ∧ c < 4 ∨ r = 1) → (s1.setDie d (x.without (r, c, u))).readmitOk d = true →
      ∀ both : Bool, both = decide (bits h.target.toNat 25 24 = 3) →
      runs (.placeTest h) 0x0904 (s1.onDie d fun x => { x with test := some { region := r, cluster := c, unit := u, both := both, cmd := h } },
        { status := St.later, own := both })) ∧
    (∀ t : State, pvTarget h.target 0 = true → rd p 0 4 ≤ 3600000 → zeroAt p 4 4 = true →
      t = (s1.onPreserve d fun q =>
        { q.settled with frozen := true, freezeNs := if q.frozen then q.freezeNs else s1.now, countNs := s1.now, maxMs := orDefault (rd p 0 4) 60000 }) →
      runs (.preserveFreeze h) 0x0A00 (answer t
        (le 2 (t.die d).preserve.oldest ++ le 2 (t.die d).preserve.next ++ le 2 (t.die d).preserve.count ++ zeros 2) true)) ∧
    (pvTarget h.target 0 = true → x.preserve.frozen = true →
      runs (.preserveThaw h) 0x0A01 (answer (s1.thaw d).1 (le 4 (s1.thaw d).2.1 ++ le 4 (s1.thaw d).2.2) true)) ∧
    (pvTarget h.target 0 = true → x.preserve.frozen = false → runs (.preserveThaw h) 0x0A01 (s1, { status := St.wrongState, own := true }))

/-! ### The life of the package and its image (R458..R476) -/

/-- Power-up and package reset put every die into Seed with B at 0, no boundary fired, the token at none and MW as new but for its fuses and flash; Preserve goes at power-up
and stays through a package reset (R33, R390, R447, R458). A die whose Seed steps are done joins Blossom, or halts where its two fuse copies differ (R459, R461); a die
reset sends a halted die into Seed alone, within its limits (R408); removing VCORE switches a die off and loses its Preserve, its return starts Seed (R447). -/
def Obligations.ResetsAndSeed : Prop :=
  (∀ (strap : BitVec 2) (s : State),
    let holds : State → Bool → Prop := fun t keep =>
      t.phase = .seed ∧ t.pkgid = strap ∧ t.pending = s.pending ∧ t.mw.b = 0 ∧ t.mw.fired = false ∧ t.mw.trapeze.token = none ∧ t.mw.trapeze.curtain = none ∧
      t.mw.image.flash0 = s.mw.image.flash0 ∧ t.mw.image.flash1 = s.mw.image.flash1 ∧ t.mw.image.complete = false ∧ t.mw.fuses = s.mw.fuses ∧
      t.t0.present = s.t0.present ∧ (t.t1.present = true ↔ s.mw.fuses.variant ≠ 1) ∧
      (∀ d, (t.die d).fuses = (s.die d).fuses ∧ (t.die d).rm.held = [] ∧ (t.die d).det.injections = [] ∧
        ((t.die d).preserve = if keep = true ∧ (s.die d).status ≠ .off then (s.die d).preserve else {}))
    (∃ t, exec (.powerUp strap) s = .next t ∧ holds t false) ∧ (∃ t, exec (.packageReset strap) s = .next t ∧ holds t true)) ∧
  (∀ (d : DieId) (s : State),
    (∀ t : State, s.seedReady d = true → t = s.testSequencer →
      (t.mw.trapeze.seqTest ≠ some true → exec (.seedDone d) s = .next t) ∧
      (t.mw.trapeze.seqTest = some true → (s.die d).fuses = (s.die d).fuses2 → exec (.seedDone d) s = .next ((t.rebuildPreserve d).join d)) ∧
      (t.mw.trapeze.seqTest = some true → (s.die d).fuses ≠ (s.die d).fuses2 → exec (.seedDone d) s = .next ((t.rebuildPreserve d).haltInSeed d))) ∧
    (∀ b, s.mw.trapeze.seqTest = some b → s.testSequencer = s) ∧
    (s.seedReady d = false → exec (.seedDone d) s = .next s) ∧
    ((s.die d).status = .halted → (s.die d).cfg.trapeze.noAutoReset = false → (s.die d).partner.haltedNs + 10000000 ≤ s.now →
      (s.die d).partner.stuck = false →
      ∃ t, exec (.dieReset d) s = .next t ∧ t.die d.other = s.die d.other ∧ t.mw = s.mw ∧ t.phase = s.phase ∧ (t.die d).status = .seed ∧
        (t.die d).preserve = (s.die d).preserve ∧ (t.die d).fuses = (s.die d).fuses ∧ (t.die d).partner.resets = s.now :: (s.die d).partner.resets) ∧
    ((s.die d).status = .halted → ((s.die d).cfg.trapeze.noAutoReset = true ∨ (s.die d).partner.stuck = true) → exec (.dieReset d) s = .next s) ∧
    ((s.die d).present = true → (s.die d).status ≠ .off → s.mw.trapeze.sync = none → s.phase ≠ .blossom →
      ∃ t, exec (.vcoreRemoved d) s = .next t ∧ (t.die d).status = .off ∧ (t.die d).preserve = {} ∧ t.die d.other = s.die d.other ∧ t.mw = s.mw) ∧
    ((s.die d).present = true → (s.die d).status = .off →
      ∃ t, exec (.vcoreReturn d) s = .next t ∧ (t.die d).status = .seed ∧ (t.die d).preserve = (s.die d).preserve ∧ t.die d.other = s.die d.other ∧
        t.mw.supplyNs[vcoreIndex d] = s.now))

/-- The image: a header and section are read, hashed and staged while a working holder loads it, in order, and a signature that does not verify fails the image with cause 5
(R467, R468); it applies at B_a and Ripe begins at B_r, on the dies that the boundary opens, once each (R471, R475, R476). -/
def Obligations.ImageEvents : Prop :=
  ∀ s : State,
    (∀ p : ImagePart, s.loading = false → exec (.imageSectionRead p) s = .next s) ∧
    (s.loading = true → s.mw.image.headerOk = false → exec (.imageSectionRead .header) s = .next s.headerRead) ∧
    (∀ i, s.loading = true → s.mw.image.headerOk = true → s.mw.image.signed = true → i = s.mw.image.nextSection → i < s.mw.image.sections →
      exec (.imageSectionRead (.section_ i)) s = .next (s.sectionRead i)) ∧
    (∀ bs : List Byte, s.loading = true → s.mw.image.headerOk = true → s.mw.image.signed = false → bs = s.imageBytes 0 256 →
      (ecdsaOk (rd bs 32 32) (rd bs 64 32) (rd bs 96 32) (rd bs 128 32) s.signedBytes = true →
        exec .signatureVerified s = .next (s.onImage fun m => { m with
          signed := true, test := bit (rd bs 13 1) 0, jogTimeoutMs := orDefault (rd bs 14 2) 200, tStopNs := orDefault (rd bs 20 4) 500000000 })) ∧
      (ecdsaOk (rd bs 32 32) (rd bs 64 32) (rd bs 96 32) (rd bs 128 32) s.signedBytes = false →
        exec .signatureVerified s = .next (s.imageFail 5 255 0 0))) ∧
    (s.mw.image.bA = some s.mw.b → s.mw.image.applied = false → (s.t0.opening = true ∨ s.t1.opening = true) →
      ∃ t, exec .blossomApply s = .next t ∧ t.mw.image.applied = true) ∧
    (s.mw.image.bA ≠ some s.mw.b → exec .blossomApply s = .next s) ∧
    (s.phase = .blossom → s.mw.image.bR = some s.mw.b → (s.t0.opening = true ∨ s.t1.opening = true) →
      ∃ t, exec .ripeBegin s = .next t ∧ t.phase = .ripe) ∧
    (s.mw.image.bR ≠ some s.mw.b → exec .ripeBegin s = .next s)

/-- The debug port (R478..R481): the four 1149.1 instructions always answer, EXTEST holding the package in reset; the challenge and response are for a LOCKED or
OPEN part, a nonce serves one attempt; reads need a READ or FULL session, and writes, halting, flash and fuse access a FULL one, else nothing happens. -/
def Obligations.DebugPort : Prop :=
  ∀ s : State,
    (∃ v, exec .idcode s = .next (s.leaveExtest.shiftOut (le 4 v))) ∧
    exec .bypass s = .next (s.leaveExtest.shiftOut [0]) ∧
    (∃ bs, exec .samplePreload s = .next (s.draw.2.leaveExtest.shiftOut bs)) ∧
    (∃ t, exec .extest s = .next t ∧ t.phase = .seed ∧ t.mw.b = 0 ∧ t.mw.dbgPort.extest = true ∧ t.pkgid = s.pkgid ∧ t.pending = s.pending) ∧
    (2 ≤ s.debugState → exec .debugChallenge s = .next s) ∧
    (s.debugState < 2 → 3 ≤ s.mw.dbgPort.failed → exec .debugChallenge s = .next ((s.onDebug fun g => { g with nonce := none }).shiftOut (zeros 48))) ∧
    (s.debugState < 2 → s.mw.dbgPort.failed < 3 → ∃ nonce : List Byte, nonce.length = 32 ∧
      exec .debugChallenge s = .next ((s.draw.2.onDebug fun g => { g with nonce := some nonce, nonceNs := s.now }).shiftOut (s.challenge nonce))) ∧
    (∀ (bs n : List Byte), s.mw.dbgPort.nonce = some n →
      (s.responseOk n bs = true → exec (.debugResponse bs) s = .next (s.onDebug fun g => { g with nonce := none, unlocked := rd bs 0 1 })) ∧
      (s.responseOk n bs = false → exec (.debugResponse bs) s = .next (s.onDebug fun g => { g with nonce := none, failed := g.failed + 1 }))) ∧
    (∃ t, exec .debugLock s = .next t ∧ t.mw.dbgPort.unlocked = 0 ∧ t.t0.rm.halted = 0 ∧ t.t1.rm.halted = 0 ∧ t.t0.cfg = s.t0.cfg ∧ t.phase = s.phase) ∧
    (∀ (w : DebugPlace) (a n : Nat), s.debugReads = true →
      (a + n ≤ placeSize w → exec (.debugRead w a n) s = .next (s.shiftOut ((List.range n).map fun i => s.placeByte w (a + i)))) ∧
      (placeSize w < a + n → exec (.debugRead w a n) s = .fault .noSuchAddress)) ∧
    (∀ (w : DebugPlace) (a n : Nat), s.debugReads = false → exec (.debugRead w a n) s = .next s) ∧
    (s.debugFull = true →
      (∀ (d : DieId) (a : Nat) (bs : List Byte), a + bs.length ≤ placeSize (.preserve d) →
        exec (.debugWrite (.preserve d) a bs) s = .next (s.onPreserve d fun p => p.settled.pokes a bs)) ∧
      (∀ (d : DieId) (a : Nat) (bs : List Byte), a + bs.length ≤ placeSize (.registers d) →
        exec (.debugWrite (.registers d) a bs) s = .next (s.debugRegister d a bs)) ∧
      (∀ (w : DebugPlace) (a : Nat) (bs : List Byte), (∀ d, w ≠ .preserve d ∧ w ≠ .registers d) → a + bs.length ≤ placeSize w →
        exec (.debugWrite w a bs) s = .next (s.onPlaceMemory w fun m => m.writeN a bs)) ∧
      (∀ (w : DebugPlace) (a : Nat) (bs : List Byte), placeSize w < a + bs.length → exec (.debugWrite w a bs) s = .fault .noSuchAddress) ∧
      (∀ (d : DieId) (k : Fin 4), exec (.debugHalt d k) s =
        .next (s.onDie d fun x => { x with rm := { x.rm with halted := x.rm.halted ||| (1#4 <<< k.val) } })) ∧
      (∀ (d : DieId) (k : Fin 4), (s.die d).rm.halted.getLsbD k.val = true → exec (.debugStep d k) s = .next (s.shiftOut [])) ∧
      (∀ (cs : Fin 2) (a n : Nat), a + n ≤ flashSize →
        exec (.debugFlashRead cs a n) s = .next (s.shiftOut (flashBytes (s.mw.image.flash cs) a n)) ∧
        ∃ t, exec (.debugFlashErase cs a n) s = .next t ∧ t.phase = s.phase ∧ t.mw.b = s.mw.b ∧
          ∀ x, (t.mw.image.flash cs).find? (fun c => c.1 == x) =
            if a ≤ x ∧ x < a + n then none else (s.mw.image.flash cs).find? (fun c => c.1 == x)) ∧
      (∀ (cs : Fin 2) (a n : Nat), flashSize < a + n → exec (.debugFlashRead cs a n) s = .fault .noSuchAddress ∧ exec (.debugFlashErase cs a n) s = .fault .noSuchAddress) ∧
      (∀ (cs : Fin 2) (a : Nat) (bs : List Byte), a + bs.length ≤ flashSize →
        exec (.debugFlashWrite cs a bs) s = .next (s.onImage fun m => m.onFlash cs fun f => programFlash f a bs)) ∧
      (∀ (d : DieId) (which : FuseHash) (bs : List Byte), (s.die d).present = true → bs.length = 32 →
        exec (.debugFuseProgram d which bs) s =
          .next ((s.onDie d fun x => { x with fuses := x.fuses.program which bs, fuses2 := x.fuses2.program which bs }).onMw fun m =>
            { m with fuses := m.fuses.program which bs }))) ∧
    (s.debugFull = false → ∀ (w : DebugPlace) (d : DieId) (k : Fin 4) (cs : Fin 2) (which : FuseHash) (a n : Nat) (bs : List Byte),
      exec (.debugWrite w a bs) s = .next s ∧ exec (.debugHalt d k) s = .next s ∧ exec (.debugStep d k) s = .next s ∧ exec (.debugFlashRead cs a n) s = .next s ∧
      exec (.debugFlashErase cs a n) s = .next s ∧ exec (.debugFlashWrite cs a bs) s = .next s ∧ exec (.debugFuseProgram d which bs) s = .next s)

/-! ### The period (chapter 2) -/

/-- The tick moves the four time bases by their increments (R331); a boundary fires once TB2 has reached its nominal instant, or the sequencer of the Curtain has counted T_s in
ticks of the reference (R413), and its number is 0 the first time and one more at each later one (R32, R33); the cut-off comes 1 µs before, once a period (R37); due commands execute (R80), commits are decided, switched and followed by
MW's (R53), and units report ready (R52). -/
def Obligations.PeriodEvents : Prop :=
  ∀ s : State,
    let due : Nat → Prop := fun lead => match s.mw.trapeze.curtain.bind fun c => c.refNext with
      | some t => t ≤ s.now + lead
      | none => s.mw.nextNominal ≤ (s.mw.tb[2]).ns + lead
    (∃ t, exec .timeBaseTick s = .next t ∧ t.mw.ticks = s.mw.ticks + 1 ∧ t.mw.tb = s.mw.tb.map TimeBase.tick ∧ t.t0 = s.t0 ∧ t.t1 = s.t1 ∧ t.mw.b = s.mw.b ∧
      ((s.mw.tb[2]).step = 0 → t.mw.nextNominal = s.mw.nextNominal)) ∧
    (s.phase ≠ .seed → due 0 →
      ∃ t, exec .boundary s = .next t ∧ t.mw.b = (if s.mw.fired = true then s.mw.b + 1 else 0) ∧ t.mw.fired = true) ∧
    ((s.phase = .seed ∨ ¬due 0) → exec .boundary s = .next s) ∧
    (s.phase ≠ .seed → s.mw.fired = true → s.mw.cutDone = false → due 1000 →
      exec .cutOff s = .next s.settleOpen.dueCommit.cutOff) ∧
    ((s.mw.cutDone = true ∨ s.mw.fired = false ∨ s.phase = .seed ∨ ¬due 1000) → exec .cutOff s = .next s) ∧
    (∀ d : DieId, (s.die d).works = true → ∀ due : List Held, due = ((s.die d).rm.held.filter fun k => decide (k.b ≤ s.mw.b)).foldl (fun l k => s.insertHeld d k l) [] →
      exec (.atEpochExecute d) s = .next ((due.foldl (fun s k => s.runHeld d k)
        (s.onDie d fun x => { x with rm := { x.rm with held := x.rm.held.filter fun k => decide (s.mw.b < k.b) } })).afterHeld d)) ∧
    exec .commitDecision s = .next s.dueCommit ∧
    (∀ d, exec (.commitApply d) s = .next (s.commitApply d)) ∧
    exec .mwCommitApply s = .next s.mwApply ∧
    (∀ (d : DieId) (k : ClusterId), (s.die d).works = true → (s.die d).ungating.contains k = true →
      ∃ t, exec (.clusterUngated d k) s = .next t ∧ (t.die d).gated.contains k = false ∧ (t.die d).ungating.contains k = false ∧ t.die d.other = s.die d.other ∧ t.mw = s.mw) ∧
    (∀ (u : UnitId) (d : DieId) (c : Pending), trapezeDie u.die = some d → (s.die d).works = true → (s.die d).ungating = [] → (s.die d).removed = [] →
      (s.die d).fenced = [] → (s.die d).commit = some c → c.affected.contains u = true → c.ready.contains u = false → c.closed = false →
      ∃ t, exec (.unitReady u) s = .next t ∧ (t.die d).commit = some { c with ready := c.ready ++ [u] } ∧ t.mw = s.mw) ∧
    (∀ (d : DieId) (ks : List (Nat × Nat)) (t : State), (s.die d).works = true → (s.die d).readmit = true → s.readmitOk d = false → ks = s.escalated d →
      t = ((s.onDie d fun x => { x with readmit := false, readmitFenced := [] }).spoilCommit (fun u => trapezeDie u.die == some d) 4).raise d 15
        (s.target 7 (wholeDie d)) [] { lasting := true } →
      (ks ≠ [] → exec (.readmission d) s = .next ((ks.foldl (fun s k => s.loseCluster d k.1 k.2) t).reschedule d)) ∧
      (ks = [] → exec (.readmission d) s = .next (t.dieFault d))) ∧
    (∀ d : DieId, (s.die d).works = true → (s.die d).readmit = true → s.readmitOk d = true →
      exec (.readmission d) s = .next ((s.onDie d fun x =>
        { x with rehoming := some ((s.die d).cfg.admission (s.die d).admitDie).cfg.program, readmit := false, readmitFenced := [] }).spoilNext d)) ∧
    (∀ d : DieId, (s.die d).readmit = false → exec (.readmission d) s = .next s)

/-! ### Queues and ports (R61..R73, R85) -/

/-- The registers of a port act only while its PCIe function is visible and decodes memory (R61, R63): doorbells move a tail, QCFG enables, a disable drains, the record and
error registers clear by writing, LOST and EPOCH_NOW read as their tables say, a vector of BAR2's MSI-X table takes its address and data, and sends a pending message when
its mask goes; bus mastering and memory space turn, a DMA error stops its queue, a stalled queue resumes once its replies fit (R63..R72). -/
def Obligations.QueueEvents : Prop :=
  ∀ (d : DieId) (q : Fin 64) (s : State),
    (s.reachable d = true →
      (∀ i : BitVec 16, exec (.doorbell d q i) s = .next (s.ringDoorbell d q i.toNat)) ∧
      (∀ w : Word, exec (.queueEnable d q w) s = .next (s.writeQcfg d q (w ||| 0x80000000))) ∧
      exec (.queueDisable d q) s = .next (s.disableQueue d q) ∧
      (∀ hi w, exec (.qerrClear d hi w) s = .next (s.clearQerr d hi w)) ∧
      exec (.epochNowRead d) s = .next (s.onPort d fun p => { p with bHi := BitVec.ofNat 32 (s.mw.b / 2 ^ 32) }) ∧
      (32 ≤ q.val → exec (.lostRead d q) s = .next (s.onQueue d q fun b => { b with lost := 0, lossSeen := false })) ∧
      (∀ w, exec (.registerWrite d ⟨false, 0x10⟩ w) s = .next (s.clearQerr d false w) ∧ exec (.registerWrite d ⟨false, 0x14⟩ w) s = .next (s.clearQerr d true w)) ∧
      (∀ (o : Fin 32) (w : Word), exec (.registerWrite d ⟨false, (BitVec.ofNat 16 (0x100 + 32 * q.val + o.val))⟩ w) s = .next (s.writeBlock d q o.val w)) ∧
      (∀ w : Word, exec (.registerWrite d ⟨false, (BitVec.ofNat 16 (0x1000 + 8 * q.val))⟩ w) s = .next (s.ringDoorbell d q (w.toNat % 65536))) ∧
      (∀ (v : Fin 32) (w : Word) (e : Word × Word × Word), e = ((s.die d).port.msixTable)[v] →
        (∀ (k : Nat) (f : Word × Word × Word), (k = 0 ∧ f = (w, e.2) ∨ k = 4 ∧ f = (e.1, w, e.2.2) ∨ k = 8 ∧ f = (e.1, e.2.1, w)) →
          exec (.registerWrite d ⟨true, (BitVec.ofNat 16 (16 * v.val + k))⟩ w) s = .next (s.onPort d fun p => { p with msixTable := p.msixTable.set v f })) ∧
        (bit w.toNat 0 = true → exec (.registerWrite d ⟨true, (BitVec.ofNat 16 (16 * v.val + 12))⟩ w) s =
          .next (s.onPort d fun p => { p with msixMask := p.msixMask ||| (1#32 <<< v.val) })) ∧
        (bit w.toNat 0 = false → ((s.die d).port.msixPending).getLsbD v.val = true →
          exec (.registerWrite d ⟨true, (BitVec.ofNat 16 (16 * v.val + 12))⟩ w) s = .next ((s.onPort d fun p =>
            { p with msixMask := p.msixMask &&& ~~~(1#32 <<< v.val), msixPending := p.msixPending &&& ~~~(1#32 <<< v.val) }).msix d v.val)))) ∧
    (s.visible d = true →
      (∀ write : Bool, (s.queue d q).state = .running ∨ (s.queue d q).state = .stalled →
        exec (.queueDmaError d q write) s = .next (s.queueError d q (if write then 3 else 2))) ∧
      (∀ on memory, exec (.busMasteringChange d ⟨on, memory⟩) s = .next (s.onPort d fun p => { p with busMaster := on, memSpace := memory })) ∧
      ((s.die d).port.busMaster = true → (s.queue d (recordQueue q.val)).waiting = [] →
        exec (.replyResume d q) s = .next (s.onQueue d ⟨q.val % 32, by omega⟩ fun b => if b.state = .stalled then { b with state := .running } else b))) ∧
    (s.reachable d = false → ∀ (i : BitVec 16) (w : Word) (hi bar2 : Bool) (o : BitVec 16),
      exec (.doorbell d q i) s = .next s ∧ exec (.queueEnable d q w) s = .next s ∧ exec (.queueDisable d q) s = .next s ∧ exec (.qerrClear d hi w) s = .next s ∧
      exec (.registerWrite d ⟨bar2, o⟩ w) s = .next s ∧ exec (.lostRead d q) s = .next s ∧ exec (.epochNowRead d) s = .next s) ∧
    (s.visible d = false → ∀ on memory write : Bool,
      exec (.busMasteringChange d ⟨on, memory⟩) s = .next s ∧ exec (.queueDmaError d q write) s = .next s ∧ exec (.replyResume d q) s = .next s) ∧
    ((s.queue d q).draining = true → (∀ c ∈ (s.die d).rm.copies, c.cmd.queue.val ≠ q.val) → (∀ k ∈ (s.die d).rm.held, k.cmd.queue.val ≠ q.val) →
      (∀ w ∈ (s.die d).rm.awaiting, w.executes = true → w.cmd.queue.val ≠ q.val) →
      ∃ t, exec (.queueDrained d q) s = .next t ∧ (t.queue d q).state = .disabled ∧ (t.queue d q).draining = false) ∧
    (32 ≤ q.val → (s.queue d q).state = .running → (s.queue d q).vectorEn = true → 0 < (s.queue d q).unsignalled →
      exec (.msixBoundarySignal d q) s = .next ((s.onQueue d q fun b => { b with unsignalled := 0 }).msix d (s.queue d q).vector))

/-- The links (R17, R85, R421, R425, R496): a port lost, its link up again and, once a queue is enabled through it, found (a reading of R85, assumption 55); LCRC errors with and without a replay that fails, flits received, refused or unacknowledged, the direct link restored; and the Flier's notices: one arrives, and a copy alone past the pairing window costs what R82 says. -/
def Obligations.LinkEvents : Prop :=
  ∀ (d : DieId) (s : State),
    (s.visible d = true → exec (.hostLinkDown d) s = .next (s.hostPortLost d)) ∧
    ((s.die d).present = true → (s.die d).status ≠ .off → (s.die d).status ≠ .seed → (s.die d).port.linkUp = false →
      ∃ t, exec (.pcieLinkUp d) s = .next t ∧ (t.die d).port.linkUp = true ∧ (∀ q, (t.queue d q).state = .disabled) ∧
        (t.die d).port.lost = (s.die d).port.lost ∧ t.mw = s.mw) ∧
    (∀ (q : Fin 64) (w : Word) (b : Queue), q.val < 32 → b = { s.queue d q with qcfg := qcfgStored (w ||| 0x80000000) } → s.reachable d = true → (s.die d).port.lost = true →
      (s.queue d q).enable = false → (s.queue d q).draining = false → 4 ≤ b.log2 → b.log2 ≤ 12 → b.baseLo.toNat % 4096 = 0 →
      ∃ t, exec (.queueEnable d q w) s = .next t ∧ (t.die d).port.lost = false ∧ (t.queue d q).state = .running) ∧
    ((s.die d).port.linkUp = true → s.quiet d 6 = true → ∀ fails : Bool, ∀ r : State × Bool,
      r = s.detect d (s.unitTarget (unitOf d 2 4 0)) (placeNumber (unitOf d 2 4 0)) 6 fails false [BitVec.ofNat 8 d.code] →
      exec (.pcieLcrcError d fails) s = .next (if r.2 = true then r.1.hostPortLost d else r.1)) ∧
    (s.hasPartner = true → s.mw.trapeze.directUp = false →
      exec .directLinkRestored s = .next (s.onTrapeze fun t =>
        { t with directUp := true, flitRetry := t.flitRetry.filter (fun k => k != .direct), flitFalse := t.flitFalse.filter fun k => k != .direct })) ∧
    (∀ (l : LinkId) (ok : Bool), s.linkUp l = true → exec (.flitReceive l ok) s = .next ((s.linkInjected l).1.flit l (ok && !(s.linkInjected l).2) (s.linkInjected l).2)) ∧
    (∀ l : LinkId, s.linkUp l = true → exec (.flitAckTimeout l) s = .next (s.flit l false false)) ∧
    (∀ l : LinkId, s.linkUp l = false → ∀ ok, exec (.flitReceive l ok) s = .next s ∧ exec (.flitAckTimeout l) s = .next s) ∧
    (∀ (n : Notice) (r : List Notice), (s.die d).rm.notices = n :: r → n.arrived = false →
      ((s.die d).rm.expired.contains (n.queue, n.seq) = false →
        exec (.dequeueNotice d) s = .next ((s.onDie d fun x => { x with rm := { x.rm with notices := { n with arrived := true, atNs := s.now } :: r } }).pairAll d)) ∧
      ((s.die d).rm.expired.contains (n.queue, n.seq) = true →
        exec (.dequeueNotice d) s = .next ((s.onDie d fun x =>
          { x with rm := { x.rm with notices := r, expired := x.rm.expired.filter fun k => k != (n.queue, n.seq) } }).catcherLost d 2))) ∧
    (∀ c : Copy, s.isFlier d = false → s.mw.trapeze.token ≠ none → s.hasPartner = true → (s.die d).works = true → (s.die d).rm.notices = [] →
      (s.die d).rm.copies = [c] → c.atNs + (s.die d).cfg.trapeze.pairingNs ≤ s.now →
      ∃ t : State, exec (.pairingWindowExpiry d) s = .next ((t.dualMismatch d c).pairAll d) ∧ (t.die d).rm.copies = [] ∧
        (t.die d).rm.expired = (s.die d).rm.expired ++ [(c.cmd.queue.val, c.cmd.seq.toNat)])

/-! ### Joints (chapters 5 and 6) -/

/-- The joint's own events: the generator advances once a period (R135); enabling waits for the drive, then releases the brake and starts soft; a timeout stops it (R153, R155); a stop ends in a brake or at rest; a brake engaged disables (R149, R151, R152, Table 5.3); a deferred enable starts or is cancelled (R157); jog ends without renewal (R473). -/
def Obligations.JointEvents : Prop :=
  ∀ (d : DieId) (j : Fin 64) (s : State),
    let x := s.joint d j
    let g := (s.die d).jointCfg j
    (∀ u : State, s.computes d = true → s.jointPresent j.val = true → x.advB ≠ some s.mw.b → u = s.useArray d 0 (4 + j.val / 32) →
      (u.mw.cutDone = false → u.computes d = true → exec (.generatorAdvance d j) s = .next (u.advance d j)) ∧
      (u.mw.cutDone = true ∨ u.computes d = false → exec (.generatorAdvance d j) s = .next (u.onJoint d j fun x => { x with advB := some u.mw.b }))) ∧
    (x.advB = some s.mw.b → exec (.generatorAdvance d j) s = .next s) ∧
    ((s.die d).works = true →
      (x.state = .enabling → x.brakeRelease = false → bit ((s.die d).stores.exchange.read (256 * j.val + 0x51)).toNat 5 = true →
        exec (.driveReady d j) s = .next (s.onJoint d j fun x => { x with brakeRelease := true, torqueOff := false, timerNs := s.now })) ∧
      (x.state = .enabling → x.brakeRelease = false → x.timerNs + g.joint.enableTimeoutNs ≤ s.now →
        exec (.enableTimeout d j) s = .next ((s.faultStop d j 5).raise d 36 (s.jointTarget j) [])) ∧
      (x.state = .enabling → x.brakeRelease = true → x.timerNs + g.joint.brakeReleaseNs ≤ s.now →
        (x.feedbackFresh = true → exec (.brakeReleaseDone d j) s = .next (s.enterSoft d j)) ∧
        (x.feedbackFresh = false → exec (.brakeReleaseDone d j) s = .next (s.onJoint d j fun x => { x with softWait := x.softWait.orElse fun _ => some s.mw.b }))) ∧
      (x.state = .soft → x.timerNs + g.joint.softTimeNs ≤ s.now → (planNs x.plan : Rat) ≤ ns32 x.pt →
        exec (.softEnd d j) s = .next (s.onJoint d j fun x => { x.leaveSoft with jogNs := s.now })) ∧
      (x.state = .stopping → x.real = true → (planNs x.plan : Rat) ≤ ns32 x.pt →
        (x.toDisabled = true → exec (.stopRampEnd d j) s = .next (s.engageBrake d j)) ∧
        (x.toDisabled = false → exec (.stopRampEnd d j) s = .next (s.onJoint d j fun x => { x.holdPoint with state := .enabled }))) ∧
      (x.state = .braking → x.timerNs + g.joint.brakeEngageNs ≤ s.now → exec (.brakeEngageDone d j) s = .next (s.onJoint d j (Joint.arriveDisabled s.mw.b))) ∧
      (∀ (tag b : Nat) (clear : Bool), x.deferred = some (tag, clear) → x.deferredB = some b → b < s.mw.b → x.state = .disabled →
        (s.enableRefused d j clear (s.jogOk d j) = none → exec (.deferredEnable d j) s = .next (s.startEnable d j clear (some tag))) ∧
        (∀ cause, s.enableRefused d j clear (s.jogOk d j) = some cause → exec (.deferredEnable d j) s = .next (s.cancelDeferred d j 0xFFFF cause))) ∧
      (s.phase = .blossom → x.state = .enabled → x.jogNs + 1000000 * s.mw.image.jogTimeoutMs ≤ s.now → exec (.jogTimeout d j) s = .next (s.jogStop d j)) ∧
      (∀ (a : Fin 8) (y : Arm) (u : State), y = (s.die d).arms[a] → y.sigma = 0 → (y.hostStop ≠ none ∨ y.sepStop ≠ none ∨ y.stopping = true) →
        u = ((s.die d).armJoints a).foldl (fun (s : State) (j : Fin 64) =>
          if (s.joint d j).state = .stopping ∧ (s.joint d j).armStop ∧ !(s.joint d j).real then s.engageBrake d j else s) s →
        (y.hostStop ≠ some 2 → exec (.armStopRest d a) s = .next (u.onArm d a fun x => { x with hostStop := none, stopping := false })) ∧
        (y.hostStop = some 2 → exec (.armStopRest d a) s = .next ((((u.die d).armJoints a).foldl (fun (s : State) (j : Fin 64) =>
          if (s.joint d j).state = .enabled then (s.abortHoming d j).onJoint d j fun g => { g.holdPoint with armStop := false } else s) u).onArm d a fun x =>
            { x with hostStop := none, stopping := false })))) ∧
    (x.state ≠ .enabling → exec (.driveReady d j) s = .next s ∧ exec (.enableTimeout d j) s = .next s ∧ exec (.brakeReleaseDone d j) s = .next s) ∧
    (x.state = .disabled → exec (.softEnd d j) s = .next s ∧ exec (.stopRampEnd d j) s = .next s ∧ exec (.brakeEngageDone d j) s = .next s ∧
      exec (.jogTimeout d j) s = .next s)

/-- Homing and supervision: a settled home switch moves a search on (R160), the method's event homes the joint (R159), a timeout fails it (R161); standstill reduces the holding torque (R162); a following error that lasts (R163), feedback lost (R195) or frozen (R196), and an external torque gone stale or faded (R187) act as those rules say; a friction or cogging table copied is read in place again (R191). -/
def Obligations.SupervisionEvents : Prop :=
  ∀ (d : DieId) (j : Fin 64) (s : State),
    let x := s.joint d j
    let g := (s.die d).jointCfg j
    (x.homing = none → exec (.switchSettled d j) s = .next s ∧ exec (.homeEvent d j) s = .next s ∧ exec (.homingTimeout d j) s = .next s) ∧
    (∀ h : Homing, x.homing = some h → (s.die d).works = true → h.phase ≠ .retreat → h.startNs + 1000000 * g.homing.timeoutMs ≤ s.now →
      exec (.homingTimeout d j) s = .next (s.homingFails d j 4)) ∧
    (∀ (s1 : State) (h : Homing), s1 = s.sampleSwitches d j → (s1.joint d j).homing = some h → (s1.die d).works = true →
      ((s1.die d).jointCfg j).homing.method ≤ 2 →
      ((s1.joint d j).switches[(0 : Fin 3)]).settled s1.now ((s1.die d).jointCfg j).homing.settleNs = true →
      ((s1.joint d j).switches[(0 : Fin 3)]).level = true → h.phase = .fast →
      exec (.switchSettled d j) s = .next (s1.onJoint d j fun x =>
        { (x.homeSlow ((s1.die d).jointCfg j)) with homing := x.homing.map fun h => { h with phase := .decel } })) ∧
    (∀ h : Homing, x.homing = some h → s.computes d = true → h.phase = .event → bit ((s.die d).stores.exchange.read (256 * j.val + 0x51)).toNat 0 = true →
      bit ((s.die d).stores.exchange.read (256 * j.val + 0x51)).toNat 1 = false → x.ctl.holding = false → x.ctl.rawValid = true →
      exec (.homeEvent d j) s = .next (s.homingDone d j ((s.die d).qFb j))) ∧
    (∀ h : Homing, x.homing = some h → s.computes d = true → h.phase = .index → g.feedback.encoderPort = true → (s.die d).indexSeq j ≠ h.latch0 →
      exec (.homeEvent d j) s = .next (s.homingDone d j ((s.die d).indexPosition j))) ∧
    (∀ t : Nat, x.stillNs = some t → (s.die d).works = true → x.reducedHold = false → t + g.standstill.delayNs ≤ s.now →
      exec (.reducedHold d j) s = .next ((s.onJoint d j fun x => { x with reducedHold := true }).writeGenerator d j)) ∧
    (∀ t : Nat, x.errNs = some t → (s.die d).works = true → t + g.following.timeNs ≤ s.now →
      exec (.stall d j) s = .next (((s.faultStop d j 1).onJoint d j fun x => { x with errNs := none }).raise d 33 (s.jointTarget j) [])) ∧
    (s.computes d = true →
      (x.ctl.lost = false → (x.state ≠ .disabled ∧ x.state ≠ .enabling ∧ g.feedback.holdLimit < x.ctl.holdCount ∨
          x.state = .enabling ∧ x.ctl.holdCount = g.feedback.holdLimit + 1 ∨
          x.state = .enabling ∧ x.feedbackFresh = false ∧ ∃ b0, x.softWait = some b0 ∧ g.feedback.holdLimit ≤ s.mw.b - b0) →
        exec (.feedbackLost d j) s = .next (((s.onJoint d j fun x => { x with ctl := { x.ctl with lost := true } }).writeCtrlFlags d j).raise d 39 (s.jointTarget j) [])) ∧
      (x.ctl.frozen = false → g.feedback.freezeV ≠ 0 → g.feedback.freezeTimeNs ≤ x.ctl.freeze →
        exec (.feedbackFrozen d j) s = .next (((s.onJoint d j fun x => { x with ctl := { x.ctl with frozen := true } }).writeCtrlFlags d j).raise d 40 (s.jointTarget j) [])) ∧
      (∀ y : Joint, y = x.settleExt s.mw.b → y.ext.validNs ≠ 0 → y.extStale = false → (s.die d).staleB y.ext ≤ s.mw.b →
        exec (.extTorqueStale d j) s =
          .next (((s.onJoint d j fun y => { (y.settleExt s.mw.b) with extStale := true }).count d 2 j.val 3).raise d 41
            ((s.onJoint d j fun y => { (y.settleExt s.mw.b) with extStale := true }).jointTarget j) [])) ∧
      (∀ y : Joint, y = x.settleExt s.mw.b → y.ext.validNs ≠ 0 → y.extStale = true →
        (s.die d).staleB y.ext + periodsOf g.ff.extFadeNs (s.die d).cfg.periods.tS ≤ s.mw.b →
        exec (.extTorqueFaded d j) s = .next (s.onJoint d j fun y => { (y.settleExt s.mw.b) with ext := { tau := 0, bS := s.mw.b, validNs := 0 } }))) ∧
    (∀ (fr : Bool) (t : Nat), t = 2 * j.val + b2n fr → (s.die d).works = true → (s.die d).redirect.contains t = true →
      ∃ u, exec (.tableCopyDone d j fr) s = .next u ∧ (u.die d).redirect.contains t = false ∧
        (∀ n, n < 512 → (u.die d).compByte (512 * t + n) = (s.die d).compByte (512 * t + n)) ∧ u.die d.other = s.die d.other ∧ u.mw = s.mw) ∧
    (x.errNs = none → exec (.stall d j) s = .next s) ∧ (x.stillNs = none → exec (.reducedHold d j) s = .next s) ∧
    (x.state = .disabled → exec (.feedbackLost d j) s = .next s)

/-! ### The Juggler and separation (chapters 4 and 7) -/

/-- The solver's events (R105..R110, R117, R121): the factorisation and its checksum, a checkpoint every CHECK_EVERY iterations on a die that leads, the reports and the choice that the Flier and the Catcher exchange, the deadline, and a Catcher left behind. Without a solve under way none does anything. -/
def Obligations.JugglerEvents : Prop :=
  ∀ (d : DieId) (s : State),
    let c := (s.die d).cfg
    ((s.die d).jug.solve = none → ∀ (m : Option (Fin 4)) (k : Nat), exec (.factorisationDone d m) s = .next s ∧ exec (.checkpoint d) s = .next s ∧
      exec (.jugglerDeadline d) s = .next s ∧ exec (.checkpointReport d k) s = .next s ∧ exec (.chosenCheckpoint d k) s = .next s ∧ exec (.catcherBehind d) s = .next s) ∧
    (∀ sol : Solve, (s.die d).jug.solve = some sol →
      (s.computes d = true → sol.phase = .factor → s.quiet d 0 = true → s.quiet d 3 = true →
        (∀ (m : Fin 4) (n : Nat × Nat × Nat), n = ({ c with juggler := sol.cfg } : Cfg).jugglerTimes (s.jugglerLanes d) →
          (sol.abft = none → s.tb2 + n.1 + 25 * n.2.1 ≤ sol.deadlineNs → exec (.factorisationDone d (some m)) s =
            .next (s.onJug d fun y => { y with solve := y.solve.map fun z => { z with abft := some (m.val, false), abftRetry := true } })) ∧
          (sol.abft ≠ none ∨ sol.deadlineNs < s.tb2 + n.1 + 25 * n.2.1 →
            exec (.factorisationDone d (some m)) s = .next ((s.abftDetected d m.val true false).solveEnd d none))) ∧
        (sol.abft = none → (sol.nonfinite = true ∨ sol.factorise = none) → exec (.factorisationDone d none) s = .next (s.solveNonfinite d)) ∧
        (∀ (stages : List Stage) (rep : List (Nat × Nat)), sol.abft = none → sol.nonfinite = false → sol.factorise = some (stages, rep) →
          ∃ t : State, exec (.factorisationDone d none) s = .next t ∧ (t.die d).jug.solve = some { sol with
            phase := .iterate, stages := stages, regCount := rep.length, regStep := (rep.head?.getD (255, 255)).1, regJoint := (rep.head?.getD (255, 255)).2,
            tFactNs := s.now - sol.startNs } ∧ (rep = [] → t = s.onJug d fun _ => (t.die d).jug))) ∧
      (s.computes d = true → sol.phase = .iterate → s.quiet d 0 = true → s.follows d = false → 25 ≤ sol.iters → ∀ (n : Nat) (o : Option Checkpoint),
        n = sol.iters + max 1 sol.cfg.checkEvery → o = (sol.iterates (max 1 sol.cfg.checkEvery) sol.cur).bind (sol.checkpoint n) →
        (o = none → exec (.checkpoint d) s = .next (s.solveNonfinite d)) ∧
        (∀ (k : Checkpoint) (z : Solve) (u : State), o = some k → z = { sol with iters := n, cur := k.it, points := sol.points ++ [k] } →
          u = (s.onJug d fun y => { y with solve := some z }) →
          (k.converged sol.cfg = true → exec (.checkpoint d) s = .next (u.solveEnd d (some k))) ∧
          (k.converged sol.cfg = false → sol.timeLimit = true → exec (.checkpoint d) s = .next (u.solveEnd d (z.best n))) ∧
          (k.converged sol.cfg = false → sol.timeLimit = false → exec (.checkpoint d) s = .next u))) ∧
      (s.computes d = true → sol.deadlineNs ≤ s.tb2 → ∀ u : State,
        u = (s.onJug d fun y => { y with solve := y.solve.map fun z => { z with timeLimit := true } }) →
        (s.follows d = false → exec (.jugglerDeadline d) s = .next (u.solveEnd d (sol.best sol.iters))) ∧
        (s.follows d = true → sol.timeLimit = false → sol.iters < 25 → exec (.jugglerDeadline d) s = .next (u.catcherLost d 5)) ∧
        (s.follows d = true → sol.timeLimit = false → 25 ≤ sol.iters → exec (.jugglerDeadline d) s = .next u)) ∧
      (∀ (k : Nat) (z : Solve), (s.die d).live = true → (s.die d.other).live = true → (s.die d.other).jug.solve = some z → z.p = sol.p →
        (∃ q ∈ z.points, q.iter = k) →
        exec (.checkpointReport d k) s = .next (s.onJug d fun y => { y with solve := y.solve.map fun z => { z with peerIter := max z.peerIter k } })) ∧
      (∀ k : Nat, s.follows d = true → s.computes d = true → (s.die d.other).jug.solve = none → (s.die d.other).jug.lastP = sol.p →
        (s.die d.other).jug.lastIter = k → ∀ u : State,
        u = (s.onJug d fun y => { y with solve := y.solve.map fun z =>
          { z with want := some k, peerIter := max z.peerIter k, phase := if z.phase = .waitChosen then .iterate else z.phase } }) →
        (k = 0 → exec (.chosenCheckpoint d k) s = .next (u.takeFlierPlan d sol (s.die d.other).jug false)) ∧
        (0 < k → k ≤ sol.iters → exec (.chosenCheckpoint d k) s = .next (u.solveEnd d (sol.best k))) ∧
        (sol.iters < k → exec (.chosenCheckpoint d k) s = .next u)) ∧
      (∀ w : Nat, sol.want = some w → s.follows d = true → s.computes d = true → sol.iters < w → (s.die d.other).jug.lastP = sol.p →
        sol.endNs ≤ s.tb2 + 10000 → exec (.catcherBehind d) s = .next (s.takeFlierPlan d sol (s.die d.other).jug true)))

/-- Separation: a cycle tests every arm once its placements are in (R206); the two dies' results are combined by the Flier and taken by the Catcher (R224); stop requests fall away once every cycle has passed for RELEASE_NS (R219); a sensor frame fragment is taken from its own port and identifier, and one that no sensor's port takes is counted with cause 1 (R214); a zone message accepted from a peer is kept for the arbiter (R230). -/
def Obligations.SeparationEvents : Prop :=
  ∀ (d : DieId) (s : State),
    ((s.die d).sep.cycle = none → exec (.sepCycleCompute d) s = .next s ∧ exec (.sepResultExchange d) s = .next s) ∧
    (∀ cy : SepCycle, (s.die d).sep.cycle = some cy → cy.computed = true → exec (.sepCycleCompute d) s = .next s) ∧
    (∀ cy : SepCycle, (s.die d).sep.cycle = some cy → s.computes d = true → cy.computed = false → cy.due = false → (s.die d).noSepPower = false →
      s.placementsReady d cy = true → ∃ t, exec (.sepCycleCompute d) s = .next t ∧ (t.die d).sep.cycle = some { cy with computed := true } ∧ (∃ outs, (t.die d).sep.raw = some outs ∧ outs.length = 8)) ∧
    (∀ (cf cc : SepCycle) (rf rc : List SepOut) (u : State), (s.die d).sep.cycle = some cf → (s.die d.other).sep.cycle = some cc → (s.die d).sep.raw = some rf →
      (s.die d.other).sep.raw = some rc → s.isFlier d = true → s.dualSep = true → s.linked = true → (s.die d).sep.combined = none → cf.b = cc.b →
      u = (match sepDifference (s.die d).cfg.scaleTol rf rc cf.tokens cc.tokens s.pkgid.toNat with
        | some m => s.sepMismatch d cf.b m
        | none => s) →
      exec (.sepResultExchange d) s = .next (u.onSep d fun y =>
        { y.applyTokens (combineTokens cf.tokens cc.tokens) with combined := some ((rf.zip rc).map fun p => p.1.combine p.2), other := some (rc, cc.tokens) })) ∧
    (∀ (cf cc : SepCycle) (both : List SepOut), (s.die d).sep.cycle = some cf → (s.die d.other).sep.cycle = some cc → (s.die d.other).sep.combined = some both →
      s.isFlier d.other = true → s.dualSep = true → s.linked = true → (s.die d).sep.combined = none → cf.b = cc.b →
      exec (.sepCombinedResult d) s = .next (s.onSep d fun y =>
        { y.applyTokens (s.die d.other).sep.tokenList with combined := some both, mismatch := (s.die d.other).sep.mismatch })) ∧
    (∀ (a : Fin 8) (t : Nat), s.computes d = true → ((s.die d).sep.arms[a]).reqs ≠ [] → ((s.die d).sep.arms[a]).passNs = some t →
      t + ((s.die d).cfg.ssm a.val).releaseNs ≤ s.now →
      exec (.stopRequestRelease d a) s = .next (s.onSep d fun z => { z with arms := z.arms.set a { z.arms[a] with reqs := [] } })) ∧
    (∀ (port : BitVec 16) (p : List Byte), (∀ n : Fin 32, ¬((s.mw.cfg.sensors[n]).enable = true ∧ (s.mw.cfg.sensors[n]).udpPort = port.toNat)) →
      exec (.sightDatagram port p) s = .next (s.sightReject 255 1 port.toNat p)) ∧
    (∀ (port : BitVec 16) (p : List Byte) (n : Fin 32) (t : Nat), (s.mw.cfg.sensors[n]).enable = true → (s.mw.cfg.sensors[n]).udpPort = port.toNat →
      (s.mw.cfg.sensors[n]).sensorId = rd p 6 2 →
      (∀ k : Fin 32, (s.mw.cfg.sensors[k]).enable = true → (s.mw.cfg.sensors[k]).udpPort = port.toNat → (s.mw.cfg.sensors[k]).sensorId = rd p 6 2 → k = n) →
      rd p 0 4 = 0x53475448 → rd p 4 1 = 1 → rd p 23 1 ≤ 45 → p.length = 32 + 32 * rd p 23 1 → rd p 24 4 = (crc32 (p.take 24 ++ zeros 4 ++ p.drop 28)).toNat →
      bits (rd p 22 1) 3 0 ≤ bits (rd p 22 1) 7 4 → rdStamp p 12 = some t → t ≤ s.tb0 + 1000000 →
      exec (.sightDatagram port p) s = .next (s.sightFragment n port.toNat p t)) ∧
    (∀ bytes : List Byte, s.peerAccept 2 bytes = none → exec (.zoneMessage bytes) s = .next s) ∧
    (∀ (bytes body : List Byte) (k : Fin 4), s.peerAccept 2 bytes = some (k, body) → rd body 0 1 = 1 → rd body 1 1 = k.val → rd body 2 1 ≤ 64 →
      body.length = 24 + 16 * rd body 2 1 →
      exec (.zoneMessage bytes) s = .next ((s.onPeer k fun x => { x with rxSeq := some (rd bytes 8 4), lastNs := s.now }).onMw fun m =>
        { m with zoneMsgs := m.zoneMsgs.set k (some (zoneEntries body)) }))

/-! ### The dispatcher (chapter 9) -/

/-- An item whose period has passed is released (R266, R271), a prefetched one starts on an idle core (R268, R269), one not started in time is dropped (R270); a completed item's outputs take effect in time (R254, R43); a Catcher exchanges its own state half or repairs it (R271); a stalled handshake is a detection of the unit, in Midway a compare failure (R425). -/
def Obligations.DispatchEvents : Prop :=
  (∀ (d : DieId) (k : Fin 32) (s u : State) (i : Item), s.computes d = true → (s.die d).cores[k].next ≠ none → (s.die d).cores[k].prefetched = false →
    u = s.useArray d 0 (clusterOf k) → (u.die d).cores[k].next = some i → ∀ n : Item, n = (u.die d).prefetch k i →
    exec (.prefetchDone d k) s = .next (((u.onCore ⟨d, k⟩ fun c =>
      { c.putParams (!c.slot) n.params with next := some n, prefetched := true }).startNext ⟨d, k⟩).reschedule d)) ∧
  (∀ (d : DieId) (k : Fin 32) (s : State), (s.die d).cores[k].next = none → exec (.prefetchDone d k) s = .next s) ∧
  (∀ (d : DieId) (n : Fin 1024) (s u : State) (e : ProgEntry) (i : Inst) (at_ : Nat), u = s.ringsSettle → (u.die d).entryOf i = some e →
    (u.die d).disp.insts.find? (fun i => i.entry == n.val && !i.released && !i.state.ended) = some i → u.computes d = true →
    u.reference d i e = some at_ → at_ + e.offsetNs ≤ u.now → (e.cls = 0 → (u.die d).holds u.mw.b = false) → (u.die d).disp.repair = [] →
    ∃ t : State, exec (.itemRelease d n) s = .next (t.reschedule d) ∧
      (t.die d).disp.insts = ((u.die d).disp.onInst n.val i.b fun j => { j with released := true }).insts) ∧
  (∀ (d : DieId) (n : Fin 1024) (s u : State) (e : ProgEntry) (i : Inst) (at_ : Nat), u = s.ringsSettle → (u.die d).entryOf i = some e →
    (u.die d).disp.insts.find? (fun i => i.entry == n.val && !i.released && !i.state.ended) = some i → u.reference d i e = some at_ →
    (u.now < at_ + e.offsetNs ∨ e.cls = 0 ∧ (u.die d).holds u.mw.b = true) → exec (.itemRelease d n) s = .next u) ∧
  (∀ (d : DieId) (n : Fin 1024) (s : State) (e : ProgEntry) (i : Inst), (s.die d).entryOf i = some e → s.computes d = true →
    (s.die d).disp.insts = [i] → i.entry = n.val → i.state = .waiting → s.inTime d i e = false → exec (.itemDrop d n) s = .next (s.dropInst d i e)) ∧
  (∀ (d : DieId) (k : Fin 32) (s : State), (s.die d).cores[k].run = none → exec (.itemComplete d k) s = .next s) ∧
  (∀ (d : DieId) (k : Fin 32) (s : State) (i : Item) (n : Inst), s.computes d = true → (s.die d).cores[k].run = some i → i.retried = false →
    (s.die d).disp.insts.find? (fun n => n.state == .exited k.val) = some n → s.beforeDeadline d n.b i.cls = true → n.frozen = none → 0 < i.cls →
    ∀ u : State, u = (((s.onDie d fun x => { x with disp := x.disp.ranOnce k.val i.entry.val }).applyOutputs d i (s.die d).cores[k].blocks (s.die d).cores[k].out (s.die d).cores[k].ctl).exchangeHalves d i).onDie d (fun x =>
      { x with disp := x.disp.onInst n.entry n.b fun j => { j with state := .done } }) →
    exec (.itemComplete d k) s = .next ((((((u.trace d i.entry.val 3 0 k.val (clusterOf k) i.cls i.b (s.die d).cores[k].ticks)).onCore ⟨d, k⟩ fun c =>
      { c with run := none, out := [], ctl := none, exited := false }).onCluster ⟨d, k⟩ fun m => m.complete k.val).startNext ⟨d, k⟩).reschedule d)) ∧
  (∀ (d : DieId) (n : Fin 1024) (s : State) (e : ProgEntry), s.computes d = true → s.isFlier d = false → (s.die d).disp.repair = [(n.val, true)] →
    (s.die d).cfg.program.find n.val = some e →
    exec (.stateRepair d n) s = .next (((s.onDie d fun x => { x with disp := { x.disp with repair := [] } }).onDie d fun x =>
      { x with disp := { x.disp with half := x.disp.half.set n.val !(x.disp.half.getD n.val false) } }).count d 3 0 4)) ∧
  (∀ (d : DieId) (n : Fin 1024) (s : State), (s.die d).disp.repair = [] → exec (.stateRepair d n) s = .next s) ∧
  (∀ (u : UnitId) (fails : Bool) (s : State) (d : DieId), s.unitExists u = true → trapezeDie u.die = some d → (s.die d).works = true →
    (s.die d).fenced.contains (u.region.val, u.cluster.val, u.unit.val) = false → s.quiet d 1 = true → u.region ≠ 0 →
    exec (.handshakeStall u fails) s = .next (s.unitDetected u 1 fails false)) ∧
  (∀ (u : UnitId) (fails : Bool) (s : State), s.unitExists u = true → trapezeDie u.die = none → s.quietMw 1 = true →
    exec (.handshakeStall u fails) s = .next ((s.detectMw (s.unitTarget u) (placeNumber u) 1 true false []).1.compareFailed false)) ∧
  (∀ (u : UnitId) (fails : Bool) (s : State), s.unitExists u = false → exec (.handshakeStall u fails) s = .next s)

/-! ### Rings (chapter 10) -/

/-- A ring's links, returns and mailbox seen by its master: a port comes up, or goes down into loopback until its link has stood 1 ms (R284, R295); a returned frame is counted, a foreign header (R309) and a frame of its own no cycle sent are acted on, a good one tells the topology and is merged (R293, R295); a mailbox message is taken once (R305, R306) and given up past its limit (R306); LISTEN and BACKOFF end (R309) and DISCOVER does where R310 lets it. -/
def Obligations.RingMasterEvents : Prop :=
  ∀ (r : Fin 8) (p : RingPort) (s : State),
    let x := s.ring r
    (r.val < s.rings → (x.port p).linkUp = false → ¬(x.state = .node ∧ x.asNode.state = .init) →
      exec (.ringLinkUp r p) s = .next (s.onRing r fun x => x.onPort p fun q => { q with linkUp := true, upNs := s.now })) ∧
    (s.rings ≤ r.val → exec (.ringLinkUp r p) s = .next s) ∧
    ((x.port p).linkUp = true → exec (.ringLinkDown r p) s =
      .next (s.onRing r fun x => x.onPort p fun q => { q with linkUp := false, linkDown := min 65535 (q.linkDown + 1), loopback := true })) ∧
    ((x.port p).linkUp = false → exec (.ringLinkDown r p) s = .next s) ∧
    ((x.port p).loopback = true → (x.port p).linkUp = true → (x.port p).isolated = false → (x.port p).upNs + 1000000 ≤ s.now →
      exec (.loopbackEnd r p) s = .next (s.onRing r fun x => x.onPort p fun q => { q with loopback := false })) ∧
    ((x.port p).loopback = false → exec (.loopbackEnd r p) s = .next s) ∧
    (∀ (f : List Byte) (codes : BitVec 8) (elastic : Bool), x.state = .off ∨ x.state = .node ∨ (x.port p).linkUp = false →
      exec (.ringFrameReturn r p ⟨f, codes, elastic⟩) s = .next s) ∧
    (∀ (f : List Byte) (codes : BitVec 8) (elastic : Bool) (v u t : State) (k : FrameCheck) (ok lost lasts : Bool), x.state ≠ .off → x.state ≠ .node → (x.port p).linkUp = true →
      ((s.ringReceive r p codes elastic).ringSettle r).ringCount r p f = (v, k, ok) → v.readMwArray 0 r.val true = (u, lost, lasts) →
      t = (u.countMw 7 r.val (match p with
        | .a => 1
        | .b => 2)).ringTopology r p f →
      (ok = false ∨ lost = true → exec (.ringFrameReturn r p ⟨f, codes, elastic⟩) s = .next u) ∧
      (ok = true → lost = false →
        (rd f 2 1 ≠ u.masterId r.val → exec (.ringFrameReturn r p ⟨f, codes, elastic⟩) s = .next (u.ringForeign r p (rd f 2 1))) ∧
        (rd f 2 1 = u.masterId r.val → x.sends = false → exec (.ringFrameReturn r p ⟨f, codes, elastic⟩) s = .next u) ∧
        (rd f 2 1 = u.masterId r.val → x.sends = true → x.sentFrom = none →
          exec (.ringFrameReturn r p ⟨f, codes, elastic⟩) s = .next ((u.onRing r fun y => { y with state := .stopped, sentFrom := none }).raiseMw 98 (u.ringTarget r.val) [])) ∧
        (rd f 2 1 = u.masterId r.val → x.sends = true → ∀ b0, x.sentFrom = some b0 → b0 ≤ x.sentCycle → rd f 4 4 = x.sentCycle % 2 ^ 32 →
          (rd f 0 1 ≠ 2 → exec (.ringFrameReturn r p ⟨f, codes, elastic⟩) s = .next t) ∧
          (rd f 0 1 = 2 → rd f 28 2 = x.layout → f.length = t.mw.cfg.frameLen r.val → (t.ring r).state = .data → (t.ring r).settled = false →
            exec (.ringFrameReturn r p ⟨f, codes, elastic⟩) s = .next (t.ringMerge r f))))) ∧
    (∀ (box : List Byte) (n : Fin 16) (u : State), x.sends = true → x.mailTaken = false → s.mw.b % 2 ^ 32 % 2 = 1 → x.counted ≠ 0 → box.length = 64 → crcEnds box = true →
      rd box 0 1 = n.val → n.val = (s.mw.b % 2 ^ 32 - 1) / 2 % x.counted → rd box 1 1 = 255 → rd box 3 1 ≤ 56 →
      u = (s.onRing r fun y => { y with mailTaken := true }).mailAck r n (rd box 5 1) →
      (rd box 2 1 = 0 ∨ ((u.ring r).nodes[n]).rxSeq = some (rd box 4 1) → exec (.mailboxReceive r box) s = .next u) ∧
      (rd box 2 1 ≠ 0 → ((u.ring r).nodes[n]).rxSeq ≠ some (rd box 4 1) → exec (.mailboxReceive r box) s =
        .next ((u.onNode r n fun y => { y with rxSeq := some (rd box 4 1) }).mailMessage r n (rd box 2 1) ((box.drop 6).take (rd box 3 1))))) ∧
    (∀ box : List Byte, x.sends = false ∨ x.mailTaken = true ∨ s.mw.b % 2 ^ 32 % 2 = 0 → exec (.mailboxReceive r box) s = .next s) ∧
    (∀ (n : Fin 16) (m : MailOut) (rest : List MailOut) (u : State), (x.nodes[n]).mail = m :: rest →
      u = (s.onNode r n fun y => { y with mail := rest, assigned := y.assigned && m.type_ != 1 }).onRing r (fun x => { x with turn := (n.val + 1) % 16 }) →
      (m.turns < m.limit → exec (.mailboxRetryExhausted r n) s = .next s) ∧
      (m.limit ≤ m.turns → m.report = none → exec (.mailboxRetryExhausted r n) s = .next u) ∧
      (∀ tag, m.limit ≤ m.turns → m.report = some tag → exec (.mailboxRetryExhausted r n) s = .next (u.mailRecord r n.val 2 m.type_ tag m.payload))) ∧
    (x.state = .listen → x.left = 0 → exec (.ringListenEnd r) s = .next (s.onRing r fun y => { y with state := .discover, settled := true })) ∧
    (x.state = .backoff → x.left = 0 → exec (.ringBackoffEnd r) s = .next (s.onRing r (·.listen (s.cycles 3)))) ∧
    (x.state = .discover → s.imageApplied = true → x.countMade = true → x.mismatched = false → x.delayed = false → s.countOk r = true → s.identFail r = none → s.delayOk r = true → (x.dMeas ≠ 0 ∨ x.broken = true) →
      (∀ n ∈ s.mw.cfg.windows r.val, (x.nodes[n]).acked = true) → exec (.ringDataStart r) s = .next (s.onRing r fun y => { y with state := .data })) ∧
    (x.left ≠ 0 → exec (.ringListenEnd r) s = .next s ∧ exec (.ringBackoffEnd r) s = .next s) ∧ (x.state ≠ .discover → exec (.ringDataStart r) s = .next s)

/-- A ring in node role: a frame with a bad header passes on as it came (R294); a second good frame of one master in step joins a listening node (R301); at the apply instant the cycle's OUT part is latched, or counts as missing (R292, R297, R316); LOSS_LIMIT missing parts stop the node (R292); isolation ends by its time (R307). -/
def Obligations.RingNodeEvents : Prop :=
  ∀ (r : Fin 8) (p : RingPort) (f : List Byte) (s : State),
    let x := s.ring r
    let n := x.asNode
    (x.state ≠ .node → (∀ codes elastic, exec (.ringNodeFrame r p ⟨f, codes, elastic⟩) s = .next s) ∧ exec (.nodeApplyInstant r) s = .next s ∧ exec (.nodeLossStop r) s = .next s) ∧
    (x.state = .node → (x.port p).linkUp = true → (x.port p).isolated = false → 36 ≤ f.length → n.state ≠ .init → s.quietMw 4 = true →
      (∀ (u : State) (k : FrameCheck) (codes : BitVec 8) (elastic : Bool), (s.ringReceive r p codes elastic).ringCount r p f = (u, k, false) →
        (match p with
          | .a => (u.ring r).portB
          | .b => (u.ring r).portA).closed = false →
        exec (.ringNodeFrame r p ⟨f, codes, elastic⟩) s = .next (u.emit (.nodeFrame r.val (p == .a) (closeFrame f false (k == .good && !elastic))))) ∧
      (n.state = .listen → n.master = none → headerOk f = true → frameCheck f = .good → ∀ c : Nat, n.lastSeen = some (rd f 2 1, rd f 3 1, c) → (c + 1) % 2 ^ 32 = rd f 4 4 →
        ∀ codes : BitVec 8, ∃ t : State, exec (.ringNodeFrame r p ⟨f, codes, false⟩) s = .next t ∧ (t.ring r).asNode.state = .joined ∧
          (t.ring r).asNode.master = some (rd f 2 1, rd f 3 1))) ∧
    (((s.nodeSample r).ring r).asNode = { n with inPart := s.nodeIn r, inCycle := some n.timerCyc, flying := [] }) ∧
    (∀ (t : Nat) (next : Option Nat) (cyc : Nat) (u : State), x.state = .node → n.timer = some t → t ≤ s.now → next = (if n.tsNs = 0 then none else some (t + n.tsNs)) →
      cyc = (n.timerCyc + 1) % 2 ^ 32 → u = s.nodeSample r →
      (∀ b : List Byte, n.state = .operational → n.outPart = some b → bit (rd b 0 1) 4 = true → rd b 0 1 % 16 ≠ 15 → exec (.nodeApplyInstant r) s =
        .next (u.onAsNode r fun n => { n with timer := next, timerCyc := cyc, outPart := none, latched := b, latchedAge := rd b 0 1 % 16, missing := 0 })) ∧
      (n.state = .operational → n.outPart = none → exec (.nodeApplyInstant r) s =
        .next (u.onAsNode r fun n => { n with timer := next, timerCyc := cyc, outPart := none, latchedAge := min 15 (n.latchedAge + 1), missing := n.missing + 1 })) ∧
      (n.state ≠ .operational → exec (.nodeApplyInstant r) s =
        .next (u.onAsNode r fun n => { n with timer := next, timerCyc := cyc, outPart := none, latchedAge := min 15 (n.latchedAge + 1) }))) ∧
    (x.state = .node → n.state = .operational → n.lossLimit ≤ n.missing → exec (.nodeLossStop r) s = .next (s.onAsNode r fun n => { n.to .stopping with cause := 1 })) ∧
    (∀ t, n.isolateNs = some t → t ≤ s.now → exec (.isolateEnd r) s =
      .next ((s.onRing r fun x => { x with portA := x.portA.rejoin s.now, portB := x.portB.rejoin s.now }).onAsNode r fun n =>
        { n with isolateNs := none })) ∧
    (n.isolateNs = none → exec (.isolateEnd r) s = .next s)

/-! ### The cell network and time (chapters 11 and 12) -/

/-- The cell network: a link change is remembered at once and reported after 1 ms down or 10 ms up (R328); a frame is counted, checked for its FCS, size and VLAN, learned and forwarded (R327, R329); addresses and sequence numbers age out (R329, R342); an ARP request for the package's own address is answered (R330). -/
def Obligations.CellNetworkEvents : Prop :=
  ∀ (p : Fin 6) (s : State),
    let x := s.mw.net.ports[p]
    (∀ (sync partner up : Bool) (u : State), (s.mw.cfg.ports[p]).mode ≠ 0 → up = (s.mw.cfg.ports[p]).linkUp sync partner →
      u = s.onCell p (fun q => { q with sync := sync, partner := partner }) →
      (x.raw = up → exec (.cellLinkChange p sync partner) s = .next u) ∧
      (x.raw = false → up = true → exec (.cellLinkChange p sync partner) s = .next (u.onCell p fun q => { q with raw := true, rawNs := s.now, been := true })) ∧
      (x.raw = true → up = false → exec (.cellLinkChange p sync partner) s = .next ((u.onNet fun y => y.cutPort p).onCell p fun q =>
        { q with raw := false, rawNs := s.now, cause := if sync = false then 0 else if (s.mw.cfg.ports[p]).mode = 3 then 2 else 1, downs := sat32 (q.downs + 1) }))) ∧
    (s.mw.cfg.portMode p.val ≠ 0 →
      (x.been = true → x.raw = false → x.rawNs + 1000000 ≤ s.now → exec (.cellLinkDown p) s =
        .next ((s.onCell p fun q => { q with reported := false, been := false }).raiseMw 128 (s.cellTarget p.val) (s.linkData p x.cause))) ∧
      (x.reported = false → x.raw = true → x.rawNs + 10000000 ≤ s.now → exec (.cellLinkUp p) s =
        .next ((s.onCell p fun q => { q with reported := true }).raiseMw 129 (s.cellTarget p.val) (s.linkData p 0)))) ∧
    (s.mw.cfg.portMode p.val = 0 → ∀ f, exec (.cellLinkDown p) s = .next s ∧ exec (.cellLinkUp p) s = .next s ∧ exec (.cellFrameReceive p f) s = .next s) ∧
    ((s.mw.cfg.ports[p]).mode = 0 → ∀ sync partner, exec (.cellLinkChange p sync partner) s = .next s) ∧
    (∀ (f : List Byte) (u : State), s.mw.cfg.portMode p.val ≠ 0 → x.raw = true → s.quietMw 5 = true → s.quietMw 0 = true → u = s.onCell p (fun q => { q with rx := sat32 (q.rx + 1) }) →
      (fcsOk f = false → f.length ≤ 1528 → exec (.cellFrameReceive p f) s = .next ((u.onCell p fun q => { q with fcsErr := sat32 (q.fcsErr + 1) }).detectMw (s.cellTarget p.val)
        (2 ^ 28 + p.val) 5 false false [BitVec.ofNat 8 p.val]).1) ∧
      (1528 < f.length → exec (.cellFrameReceive p f) s = .next (u.onCell p fun q => { q with oversize := sat32 (q.oversize + 1) })) ∧
      (fcsOk f = true → f.length < 64 → exec (.cellFrameReceive p f) s = .next u) ∧
      (fcsOk f = true → 64 ≤ f.length → f.length ≤ 1528 → ∀ i : Option EthFrame, i = (s.mw.cfg.ports[p]).ingress (f.take (f.length - 4)) →
        (i = none → exec (.cellFrameReceive p f) s = .next (u.onCell p fun q => { q with vlanDrop := sat32 (q.vlanDrop + 1) })) ∧
        (∀ g : EthFrame, i = some g → s.mw.cfg.vlan g.vid = none → exec (.cellFrameReceive p f) s =
          .next (u.onCell p fun q => { q with vlanDrop := sat32 (q.vlanDrop + 1) })) ∧
        (∀ (g : EthFrame) (v : CfgVlan), i = some g → s.mw.cfg.vlan g.vid = some v → bit v.members p.val = false → exec (.cellFrameReceive p f) s =
          .next (u.onCell p fun q => { q with vlanDrop := sat32 (q.vlanDrop + 1) })) ∧
        (∀ (g : EthFrame) (v : CfgVlan) (w : State), i = some g → s.mw.cfg.vlan g.vid = some v → bit v.members p.val = true →
          w = u.onNet (fun y => y.learn g.vid g.src p.val s.now) → (w.forward v p.val g).contains 6 = false →
          exec (.cellFrameReceive p f) s = .next (w.sendOut v g (w.forward v p.val g) (w.inMark g))))) ∧
    (∀ vid mac, exec (.macAgeOut vid mac) s = .next (s.onNet fun y => { y with macs := y.macs.filter fun e =>
      !(e.vid == vid.toNat && e.mac == mac.toNat && decide (e.ns + 1000000000 * s.mw.cfg.switch.ageS ≤ s.now)) })) ∧
    (∀ mac, exec (.prpEntryForgotten mac) s = .next (s.onNet fun y => { y with prp := y.prp.filter fun e => !(e.mac == mac.toNat && decide (e.ns + 400000000 ≤ s.now)) })) ∧
    (∀ f : List Byte, 28 ≤ f.length → beNat ((f.drop 6).take 2) = 1 → (f.drop 24).take 4 = be 4 s.mw.cfg.switch.ipv4.toNat → s.mw.cfg.switch.ipv4 ≠ 0 →
      exec (.arpRequest f) s = .next (s.sendDup (beNat ((f.drop 8).take 6)) s.mw.cfg.switch.pkgVid 0 0x0806
        (be 2 1 ++ be 2 0x0800 ++ [6, 4] ++ be 2 2 ++ be 6 s.mw.cfg.switch.mac.toNat ++ be 4 s.mw.cfg.switch.ipv4.toNat ++ (f.drop 8).take 6 ++ (f.drop 14).take 4))) ∧
    (∀ f : List Byte, s.mw.cfg.switch.ipv4 = 0 → exec (.arpRequest f) s = .next s)

/-- Peers (R343..R345): a heartbeat goes to every named peer each period; a live peer silent for HB_MISS periods is lost; an accepted heartbeat in Ripe renews the peer, echoes its time, makes it live, and measures the skew once it carries an echo; one not accepted does nothing. -/
def Obligations.PeerEvents : Prop :=
  ∀ (s : State),
    (s.mw.net.peersOn = true → s.mw.net.hbNs + s.mw.cfg.peers.hbPeriod ≤ s.now → ∀ u : State, u = s.onNet (fun x => { x with hbNs := s.now }) →
      exec .peerHeartbeatSend s = .next (u.peersNamed.foldl (fun t p => t.sendPeer p 1 (t.heartbeatBody p)) u)) ∧
    (s.mw.net.peersOn = false → exec .peerHeartbeatSend s = .next s) ∧
    (∀ p : Fin 4, (s.mw.net.peers[p]).live = true →
      ((s.mw.net.peers[p]).lastNs + s.mw.cfg.peers.hbMiss * s.mw.cfg.peers.hbPeriod ≤ s.now → exec (.peerLost p) s = .next (s.losePeer p)) ∧
      (s.now < (s.mw.net.peers[p]).lastNs + s.mw.cfg.peers.hbMiss * s.mw.cfg.peers.hbPeriod → exec (.peerLost p) s = .next s)) ∧
    (∀ f : List Byte, s.peerAccept 1 f = none → rd f 5 1 ≠ 2 → exec (.peerMessage f) s = .next s) ∧
    (∀ f : List Byte, s.peerAccept 1 f = none → rd f 5 1 = 2 → exec (.peerMessage f) s = exec (.zoneMessage f) s) ∧
    (∀ (f body : List Byte) (p : Fin 4) (tx eTx eRx : Nat) (u : State), s.peerAccept 1 f = some (p, body) → body.length = 48 → rdStamp body 16 = some tx →
      rdStamp body 26 = some eTx → rdStamp body 36 = some eRx → rd body 0 1 = 2 → bit (rd body 1 1) 0 = false →
      u = s.onPeer p (fun x => { x with rxSeq := some (rd f 8 4), lastNs := s.now, echoTx := tx, echoRx := s.tb0 }) →
      ((s.mw.net.peers[p]).live = true → eTx = 0 → exec (.peerMessage f) s = .next u) ∧
      ((s.mw.net.peers[p]).live = true → eTx ≠ 0 →
        exec (.peerMessage f) s = .next (u.peerSkew p (Int.fdiv (((eRx : Int) - eTx) + ((tx : Int) - u.tb0)) 2))) ∧
      ((s.mw.net.peers[p]).live = false → (s.mw.net.peers[p]).everLost = false → eTx = 0 →
        exec (.peerMessage f) s = .next (u.onPeer p fun y => { y with live := true })))

/-- Time inputs and outputs: PTP messages by domain and role, the own interval of a domain (R335, R336, R338), edges at the time-pin input counted (R339), pulses at the time-pin output begun once per edge and ended (R340). The layout of the messages is that of IEEE 1588-2019, which the rules name (assumption 152). -/
def Obligations.TimeEvents : Prop :=
  (∀ (i : Fin 2) (s : State),
    let c := s.mw.cfg.ptp i
    let p := s.mw.ptp[i]
    (∀ (m : PtpMsg) (t : Nat) (b : List Byte), b = m.bytes → t = (s.mw.tb[ptpBase i]).ns + m.sub.val →
      let linked := (s.mw.net.ports[m.port]).raw = true ∧ s.mw.cfg.portMode m.port.val ≠ 0
      let own := c.enable = true ∧ 44 ≤ b.length ∧ rd b 0 1 / 16 = c.sdo ∧ rd b 4 1 = c.domain ∧ (c.profile = 1 → c.ptpPort = m.port.val)
      (¬linked ∨ ¬own → exec (.ptpMessage i m) s = .next s) ∧
      (linked → own → ptpUnsupported b = true → exec (.ptpMessage i m) s = .next (s.onCell m.port fun q => { q with ptpDiscarded := sat32 (q.ptpDiscarded + 1) })) ∧
      (linked → own → ptpUnsupported b = false →
        (∀ k : PtpClock, s.receives i = true → p.best = some k → k.port = ptpSource b →
          (∀ t1 : Int, ptpKind b = 0 → ptpTwoStep b = false → t1 = (rdPtpStamp b 34 : Int) + corrNs (ptpCorr b) → exec (.ptpMessage i m) s = .next (s.onPtp i fun p =>
            { p with offsetNs := (t : Int) - t1 - p.meanPath, lastSync := some (t1, t), lastSyncB := s.mw.b, fresh := true, portState := 9, syncPend := none })) ∧
          (ptpKind b = 0 → ptpTwoStep b = true → exec (.ptpMessage i m) s = .next (s.onPtp i fun p => { p with syncPend := some (ptpSeq b, t, ptpCorr b) })) ∧
          (∀ (t2 : Nat) (k2 t1 : Int), ptpKind b = 8 → p.syncPend = some (ptpSeq b, t2, k2) → t1 = (rdPtpStamp b 34 : Int) + corrNs (k2 + ptpCorr b) →
            exec (.ptpMessage i m) s = .next (s.onPtp i fun p =>
              { p with offsetNs := (t2 : Int) - t1 - p.meanPath, lastSync := some (t1, t2), lastSyncB := s.mw.b, fresh := true, portState := 9, syncPend := none }))) ∧
        (ptpKind b = 1 → p.portState = 6 → c.profile = 0 → exec (.ptpMessage i m) s = .next (s.onPtp i fun p =>
          { p with requests := p.requests ++ [{ port := ptpSource b, seq := ptpSeq b, t4 := t, corr := ptpCorr b }] })) ∧
        (ptpKind b = 11 → c.role ≠ 2 → p.best = none → ∃ u k, exec (.ptpMessage i m) s = .next u ∧ (u.mw.ptp[i]).best = some k ∧ (u.mw.ptp[i]).heardNs = s.now ∧
          k.priority1 = rd b 47 1 ∧ k.cls = rd b 48 1 ∧ k.priority2 = rd b 52 1 ∧ k.identity = beNat ((b.drop 53).take 8) ∧ k.port = ptpSource b))) ∧
    (c.enable = false → exec (.ptpSyncInterval i) s = .next s) ∧
    (c.enable = true → p.best = none → ptpStateOf c none (s.ownClock i) = 6 → s.now < p.announceNs + logNs c.logAnnounce → s.now < p.delayNs + logNs c.logDelay →
      (p.syncNs + logNs c.logSync ≤ s.now → exec (.ptpSyncInterval i) s = .next ((s.onPtp i fun p => { p with best := none, portState := 6, syncNs := s.now }).ptpMaster i false)) ∧
      (s.now < p.syncNs + logNs c.logSync → exec (.ptpSyncInterval i) s = .next (s.onPtp i fun p => { p with best := none, portState := 6 })))) ∧
  (∀ (e : PinEdge) (s : State), (∀ d ∈ allDies, (s.die d).rm.streams.find? (fun t => t.opcode == 0x0121) = none) →
    exec (.tpiEdge e) s = .next (s.onMw fun m => { m with tpi := { m.tpi with count := sat32 (m.tpi.count + 1) } })) ∧
  (∀ (e : PinEdge) (s : State) (d : DieId) (z : Stream), (s.die d).rm.streams.find? (fun t => t.opcode == 0x0121) = some z →
    bit (z.args.getD 0 0) (if e.rising then 0 else 1) = true → s.mw.tpi.second ≠ (s.mw.tb[1]).ns / 1000000000 →
    ∃ u, exec (.tpiEdge e) s = .next u ∧ u.mw.tpi.count = sat32 (s.mw.tpi.count + 1) ∧ u.mw.tpi.inSecond = 1 ∧ u.mw.tpi.lost = s.mw.tpi.lost) ∧
  (∀ s : State,
    (s.mw.cfg.tpo.mode = 1 → s.tpoDue = true → s.mw.tpo.pulse = false → s.mw.tpo.lastEdge ≠ some s.tpoIndex → exec .tpoEdge s =
      .next (s.onMw fun m => { m with tpo := { level := s.mw.cfg.tpo.polarity == 0, pulse := true, endNs := s.now + s.mw.cfg.tpo.width, lastEdge := some s.tpoIndex } })) ∧
    (s.mw.cfg.tpo.mode ≠ 1 ∨ s.tpoDue = false → exec .tpoEdge s = .next s) ∧
    (s.mw.tpo.pulse = true → s.mw.tpo.endNs ≤ s.now → exec .tpoPulseEnd s =
      .next (s.onMw fun m => { m with tpo := { m.tpo with level := m.cfg.tpo.mode == 1 && m.cfg.tpo.polarity != 0, pulse := false } })) ∧
    (s.mw.tpo.pulse = false → exec .tpoPulseEnd s = .next s))

/-! ### Field inputs, outputs and encoders (chapter 13) -/

/-- Field inputs: a sample passes each valid input's filter and the input pairs follow it (R358, R359, R371); chatter (R360) and a stuck input (R361) are reported once; an input becomes valid where its supply has stood in range (R371), a reading nothing reports being free within it; the supplies' flags for low, lost and high, and their end, act on their channels (R370..R372). -/
def Obligations.FieldInputEvents : Prop :=
  ∀ s : State,
    (∀ raw : Word, ∃ u : State, exec (.inputSample raw) s = .next u.enablePair.curtainPair ∧ u.mw.cfg = s.mw.cfg ∧ u.t0 = s.t0 ∧ u.t1 = s.t1 ∧ u.phase = s.phase ∧
      u.mw.field.outs = s.mw.field.outs ∧
      ∀ i : Fin 32, u.mw.field.ins[i] =
        (if (s.mw.field.ins[i]).valid then (s.mw.field.ins[i]).take (raw.getLsbD i.val) (s.mw.cfg.inputs[i]).filterN (s.mw.cfg.inputs[i]).invert s.now
        else { s.mw.field.ins[i] with raw := raw.getLsbD i.val })) ∧
    (∀ ch : Fin 32,
      let x := s.mw.field.ins[ch]
      let g := s.mw.cfg.inputs[ch]
      let v := s.mw.field.supplies[inSupply ch]
      (x.chatter = false → g.chatterLimit < x.edges →
        exec (.chatter ch) s = .next ((s.onIn ch fun x => { x with chatter := true }).raiseMw 160 (s.channelTarget 0 ch.val) [])) ∧
      (x.chatter = true ∨ x.edges ≤ g.chatterLimit → exec (.chatter ch) s = .next s) ∧
      (g.stuckEnable = true → x.active = true → x.stuck = false → x.since + 1000000 * g.stuckMs ≤ s.now →
        exec (.stuckActive ch) s = .next ((s.onIn ch fun x => { x with stuck := true }).raiseMw 161 (s.channelTarget 0 ch.val) [])) ∧
      (g.stuckEnable = false → exec (.stuckActive ch) s = .next s) ∧
      (x.valid = false → ∀ u : State,
        u = (s.readsWithin (inSupply ch) (s.mw.cfg.field.upOffMv[inSupply ch] + 1000) 32000).onIn ch (fun x => { (x.preset g.filterN g.invert s.now) with valid := true }) →
        exec (.inputValid ch) s = .next u.enablePair.curtainPair ∧
        (s.mw.cfg.field.upOffMv[inSupply ch] + 1000 ≤ v.mv → v.mv ≤ 32000 → u.mw.field.supplies = s.mw.field.supplies)) ∧
      (x.valid = true → exec (.inputValid ch) s = .next s)) ∧
    (∀ (k : Fin 2) (mv : Nat),
      let x := s.mw.field.supplies[k]
      let off := s.mw.cfg.field.upOffMv[k]
      (mv < 18000 → x.low = false →
        exec (.upLow k mv) s = .next ((s.onSupply k fun u => { u with low := true, mv := mv }).raiseMw 163 (s.target 0 0) (supplyData k mv 18000))) ∧
      (18000 ≤ mv ∨ x.low = true → exec (.upLow k mv) s = .next s) ∧
      (mv < off → x.lost = false → exec (.upLost k mv) s =
        .next ((((s.onSupply k fun u => { u with lost := true, mv := mv, recovered := false, rearm := false }).invalidate k).holdOutputs).raiseMw 164 (s.target 0 0)
          (supplyData k mv off))) ∧
      (mv < off → x.lost = true → exec (.upLost k mv) s = .next
        (((s.onSupply k fun u => { u with lost := true, mv := mv, recovered := false, rearm := false }).invalidate k).holdOutputs)) ∧
      (off ≤ mv → exec (.upLost k mv) s = .next s) ∧
      (32000 < mv → x.high = false → exec (.upHigh k mv) s =
        .next (((s.onSupply k fun u => { u with high := true, mv := mv }).invalidate k).raiseMw 165 (s.target 0 0) (supplyData k mv 32000))) ∧
      (32000 < mv → x.high = true → exec (.upHigh k mv) s = .next ((s.onSupply k fun u => { u with high := true, mv := mv }).invalidate k)) ∧
      (mv ≤ 32000 → exec (.upHigh k mv) s = .next s) ∧
      (x.low = true ∨ x.high = true → exec (.upFlagClear k) s = .next ((s.readsWithin k 18000 32000).onSupply k fun u => { u with low := false, high := false })) ∧
      (x.low = false → x.high = false → exec (.upFlagClear k) s = .next s) ∧
      (x.lost = true → x.recovered = false → exec (.upRecovered k) s =
        .next (((s.readsWithin k 18001 (if x.high then 65535 else 32000)).onSupply k fun u => { u with recovered := true, rearm := s.mw.cfg.field.autoRestoreUp[k] }).holdOutputs)) ∧
      (x.lost = false ∨ x.recovered = true → exec (.upRecovered k) s = .next s))

/-- Field outputs and encoders: an output's fault latches at its group's leader and holds it, a readback fault being a detection, and an open load is flagged (R366, Table 14.1); an encoder is sampled once a period at its own offset, counts edges, latches its index and reports a count error (R376..R378). -/
def Obligations.OutputEncoderEvents : Prop :=
  ∀ s : State,
    (∀ (ch l : Fin 16) (cause : OutCause), l = s.mw.cfg.leader ch →
      ((s.mw.cfg.outputs[l]).function ≠ 0 → (s.mw.field.outs[l]).fault = false →
        (∀ code : Nat, (cause = .overload ∧ code = 1) ∨ (cause = .thermal ∧ code = 2) → ∀ u : State,
          u = (s.onOut l fun o => { o with fault := true, cause := code, rearm := false }).holdOutputs →
          exec (.outputFault ch cause) s = .next (u.raiseMw 162 (u.channelTarget 1 l.val) (le 1 l.val ++ le 1 code))) ∧
        (∀ u : State, cause = .readback → u = (s.onOut l fun o => { o with fault := true, cause := 3, rearm := false }).holdOutputs → u.quietMw 11 = true →
          exec (.outputFault ch cause) s = .next (u.detectMw (u.channelTarget 1 l.val) (2 ^ 27 + l.val) 11 true false (le 1 l.val ++ le 1 3)).1)) ∧
      ((s.mw.cfg.outputs[l]).function = 0 ∨ (s.mw.field.outs[l]).fault = true → exec (.outputFault ch cause) s = .next s) ∧
      ((s.mw.cfg.outputs[l]).openLoadEnable = true → s.driven l = true → exec (.openLoad ch) s = .next (s.onOut l fun o => { o with openLoad := true })) ∧
      ((s.mw.cfg.outputs[l]).openLoadEnable = false → exec (.openLoad ch) s = .next s)) ∧
    (∀ n : Fin 4,
      let e := s.mw.cfg.encoders[n]
      let x := s.mw.field.encoders[n]
      (x.sampled = true ∨ s.now < s.mw.bNs + e.sampleOffsetNs → ∀ k, exec (.encoderSample n k) s = .next s) ∧
      (x.sampled = false → s.mw.bNs + e.sampleOffsetNs ≤ s.now →
        (e.mode = 2 → ∀ line : Bool, exec (.encoderSample n (.incremental line)) s =
          .next (((s.onEncoder n fun y => { y with status := packBits [!line && !x.countError, false, false, line, x.countError, false], age := 0, sampled := true, lineFault := line }).deliverEncoder n).encoderFaults n (if line then (if x.countError then [3, 4] else [3]) else if x.countError then [4] else []))) ∧
        (∀ (frame : BitVec 40) (pos : Nat), e.mode = 1 → e.readFrame frame.toNat = (pos, false, false) → x.prevPos = none →
          exec (.encoderSample n (.ssi frame true false)) s =
            .next (((s.onEncoder n fun y => { y with count := pos, prevPos := some pos, status := packBits [true, false, false, false, false, false], age := 0, sampled := true, lineFault := false }).deliverEncoder n).encoderFaults n []))) ∧
      (e.mode = 2 →
        (∀ fwd : Bool, exec (.quadratureEdge n fwd) s = .next (s.onEncoder n fun y => { y with count := (y.count + (if fwd then 1 else 4294967295)) % 4294967296 })) ∧
        (e.zEnable = true → exec (.indexEdge n) s = .next (s.onEncoder n fun y => { y with latched := y.count, index := (y.index + 1) % 256 })) ∧
        (e.zEnable = false → exec (.indexEdge n) s = .next s) ∧
        exec (.countError n) s = .next ((s.onEncoder n fun y => { y with countError := true }).encoderFaults n [4])) ∧
      (e.mode ≠ 2 → ∀ fwd, exec (.quadratureEdge n fwd) s = .next s ∧ exec (.indexEdge n) s = .next s ∧ exec (.countError n) s = .next s))

/-- Field safety: a watchdog not refreshed (R368), a curtain pair that opens (R375) and the compare latch (R14, R22) start the Curtain; the watchdog restores itself only where configured (R368); a pair whose members differ too long faults (R374, R375); the Curtain's torque goes off once its stop time has passed (R413). -/
def Obligations.FieldSafetyEvents : Prop :=
  ∀ s : State,
    (s.phase ≠ .seed → (s.mw.trapeze.token ≠ none ∨ s.mw.trapeze.relinquished = true) → s.mw.field.wdLatched = false → s.mw.field.lastRefresh + s.mw.cfg.field.watchdogNs ≤ s.now → ∀ u : State,
      u = s.onField (fun f => { f with wdLatched := true, wdRearm := false, refreshFrom := none }) →
      exec .fioWatchdog s = .next (((u.holdOutputs.raiseMw 166 (u.target 0 0) []).startCurtain 2).holdOutputs)) ∧
    (s.phase = .seed ∨ (s.mw.trapeze.token = none ∧ s.mw.trapeze.relinquished = false) ∨ s.mw.field.wdLatched = true ∨ s.now < s.mw.field.lastRefresh + s.mw.cfg.field.watchdogNs → exec .fioWatchdog s = .next s) ∧
    (∀ t, s.mw.field.refreshFrom = some t → s.mw.field.wdLatched = true → s.refreshing = true → t + 10000000 ≤ s.now →
      (s.mw.cfg.field.autoRestoreWd = true → exec .watchdogAutoRestore s = .next ((s.onField fun f => { f with wdLatched := false }).holdOutputs)) ∧
      (s.mw.cfg.field.autoRestoreWd = false → exec .watchdogAutoRestore s = .next s)) ∧
    (∀ t, s.mw.field.enDiff = some t → s.mw.field.enFault = false → t + 1000000 * s.mw.cfg.safety.enDiscrepancyMs < s.now →
      exec .enablePairFault s = .next (((s.onField fun f => { f with enFault := true }).enablePair).raiseMw 167 (s.target 0 0) [])) ∧
    (s.mw.field.enDiff = none → exec .enablePairFault s = .next s) ∧
    (∀ t, s.mw.field.cuDiff = some t → s.mw.field.cuFault = false → t + 1000000 * s.mw.cfg.safety.cuDiscrepancyMs < s.now →
      exec .curtainPairFault s = .next ((s.onField fun f => { f with cuFault := true }).raiseMw 168 (s.target 0 0) [])) ∧
    (s.mw.field.cuDiff = none → exec .curtainPairFault s = .next s) ∧
    (s.mw.cfg.safety.cuA ≠ none → s.curtainPairOk = false → s.curtained = false → exec .curtainDemand s = .next ((s.startCurtain 3).holdOutputs)) ∧
    (s.curtainPairOk = true ∨ s.curtained = true → exec .curtainDemand s = .next s) ∧
    (∀ c : Curtain, s.mw.trapeze.curtain = some c → c.torqueOff = false →
      (c.t0 + c.tStopNs ≤ s.now → exec .curtainStopCode s =
        .next (s.onMw fun m => { m with trapeze := { m.trapeze with curtain := some { c with torqueOff := true } } })) ∧
      (s.now < c.t0 + c.tStopNs → exec .curtainStopCode s = .next s)) ∧
    (s.quietMw 14 = true → ∀ u : State, u = (s.onLive fun d s => s.noteLasting d 14 false).startCurtain 1 →
      exec .compareFailure s = .next (u.onTrapeze fun t => { t with curtain := t.curtain.map fun c =>
        { c with refNext := some (c.refNext.getD (max u.now (u.mw.bNs + u.mw.grid.tS))) } }).holdOutputs)

/-! ### Trapeze (chapter 14) -/

/-- The partner's life: heartbeats are sent every 5 µs and heard on either path (R388), silence loses the Catcher or has the Catcher ask for the token (R398), a condemned die gives the token or its eligibility up (R407), MW grants the token asked for after silence or given up, or counts a refusal (R389); digests of one boundary are compared once (R392, R394); a LATENT Catcher applies the journal in order (R403, R405) and replays when it is ready (R406); the hold-off ends in a handover back (R411). -/
def Obligations.PartnerEvents : Prop :=
  ∀ (d : DieId) (s : State),
    let p := (s.die d).partner
    let o := (s.die d.other).partner
    ((s.die d).beats = true → p.hbSentNs + 5000 ≤ s.now → s.hasPartner = false ∨ (p.hbSentNs ≤ p.heard1Ns ∧ p.hbSentNs ≤ p.heard2Ns) → s.quiet d 13 = true →
      exec (.heartbeatSend d) s = .next (s.onPartner d fun q => { q with hbSentNs := s.now, hbOn1 := s.mw.trapeze.directUp, hbOn2 := q.mwLinkUp })) ∧
    (s.now < p.hbSentNs + 5000 → exec (.heartbeatSend d) s = .next s) ∧
    (p.hbOn1 = true → s.mw.trapeze.directUp = true → exec (.heartbeat d .path1) s =
      .next ((s.onPartner d fun q => { q with hbOn1 := false }).onPartner d.other fun q => { q with heard1Ns := s.now, requested := false })) ∧
    (p.hbOn2 = true → p.mwLinkUp = true → s.isFlier d = true → o.mwLinkUp = false → exec (.heartbeat d .path2) s =
      .next (s.onPartner d fun q => { q with hbOn2 := false, hbMwNs := s.now }).refresh) ∧
    (p.hbOn2 = true → p.mwLinkUp = true → s.isFlier d = false → o.mwLinkUp = true → exec (.heartbeat d .path2) s =
      .next ((s.onPartner d fun q => { q with hbOn2 := false, hbMwNs := s.now }).onPartner d.other fun q => { q with heard2Ns := s.now, requested := false })) ∧
    (p.hbOn1 = false → exec (.heartbeat d .path1) s = .next s) ∧ (p.hbOn2 = false → exec (.heartbeat d .path2) s = .next s) ∧
    ((s.die d).works = true → s.hasPartner = true → s.silent d = true →
      (s.isFlier d = true → o.eligible = true → exec (.heartbeatSilence d) s = .next ((s.noteLasting d 13 o.injected).catcherLost d.other 10)) ∧
      (s.isFlier d = false → s.isFlier d.other = true → p.requested = false → exec (.heartbeatSilence d) s =
        .next ((s.noteLasting d 13 o.injected).onPartner d fun q => { q with requested := true }))) ∧
    (s.silent d = false → exec (.heartbeatSilence d) s = .next s) ∧
    ((s.die d).works = true → (s.die d).condemned = true → s.isFlier d = false → exec (.tokenRelinquish d) s = .next ((s.catcherLost d 9).haltDie d)) ∧
    (∀ u : State, (s.die d).works = true → (s.die d).condemned = true → s.isFlier d = true → u = s.endHandover →
      ((u.die d).partner.mwLinkUp = true → exec (.tokenRelinquish d) s =
        .next ((u.onTrapeze fun t => { t with token := none, relinquished := true, oldHolder := some d, leftNs := u.now }).haltDie d)) ∧
      ((u.die d).partner.mwLinkUp = false → exec (.tokenRelinquish d) s = .next (u.haltDie d))) ∧
    ((s.die d).condemned = false → exec (.tokenRelinquish d) s = .next s) ∧
    (s.hasPartner = true → (s.die d).works = true → s.isFlier d = false → (p.requested = true ∨ s.mw.trapeze.relinquished = true) →
      (s.grantable d = true → exec (.tokenRequest d) s = .next (s.takeToken d)) ∧
      (s.grantable d = false → exec (.tokenRequest d) s =
        .next ((s.onTrapeze fun t => { t with refused := min 65535 (t.refused + 1) }).onPartner d fun q => { q with requested := false }))) ∧
    (s.isFlier d = true → exec (.tokenRequest d) s = .next s) ∧
    (∀ u : State, s.isFlier d = true → s.hasPartner = true → s.linked = true → s.inCompare d.other = true → s.computes d = true → p.compared = false →
      o.compared = false → p.digestB = o.digestB →
      u = (((((s.onPartner d fun q => { q with compared := true }).onPartner d.other fun q => { q with compared := true }).count d 9 0 0).count d.other 9 0 0).markRepairs d d.other) →
      (digestsMatch p.digest o.digest = false ∨ p.digestBad = true ∨ o.digestBad = true →
        exec (.digestReceive d) s = .next (u.digestMismatch d.other (p.digestBad || o.digestBad))) ∧
      (digestsMatch p.digest o.digest = true → p.digestBad = false → o.digestBad = false → o.eligible = true →
        u.mw.trapeze.warmUp = false → exec (.digestReceive d) s = .next (u.onPartner d.other fun q => { q with matchRun := min 65535 (o.matchRun + 1) }))) ∧
    (p.compared = true → exec (.digestReceive d) s = .next s) ∧
    (∀ (epoch : Nat) (j : Journal), s.journal = some j → j.b = epoch → s.hasPartner = true → (s.die d).works = true → p.latentGated = true → s.isFlier d.other = true → s.linked = true → (p.eligible = true ∨ p.synced = true) →
      s.closedB = some epoch → p.journalB ≠ some epoch →
      (p.journalBad = true → exec (.journalEpoch d epoch false) s = .next ((s.onPartner d fun q => { q with journalBad := false }).catcherLost d 11)) ∧
      (p.journalBad = false → exec (.journalEpoch d epoch false) s = .next (s.onPartner d fun q => { q with journalBad := true })) ∧
      (∀ e, p.journalB = some e → epoch ≠ e + 1 → exec (.journalEpoch d epoch true) s = .next (s.catcherLost d 11)) ∧
      (p.journalB = none → ∃ t : State, exec (.journalEpoch d epoch true) s = .next t ∧ (t.die d).partner.journalB = some epoch ∧ (t.die d).partner.journalBad = false)) ∧
    (p.latentGated = false → ∀ epoch ok, exec (.journalEpoch d epoch ok) s = .next s) ∧
    (s.isFlier d = true → (s.die d).works = true → p.latentGated = true → p.latentWake ≠ none → p.ready = false → ∀ u : State,
      u = s.onPartner d (fun q => { q with ready := true }) → exec (.latentReady d) s = .next ((u.replayLatent d).replay d)) ∧
    (p.latentGated = false → exec (.latentReady d) s = .next s) ∧
    (∀ (t : Nat) (c : DieId), s.holdoffEnd = some t → s.catcher = some c → t ≤ s.now → s.mw.trapeze.handover = none → s.mw.trapeze.warmUp = false → s.phase = .ripe →
      ((s.die c).cfg.trapeze.latent = true → exec .revertHoldoff s = .next ((s.onTrapeze fun t => { t with warmUp := true }).onDie c Die.latentUngate)) ∧
      ((s.die c).cfg.trapeze.latent = false → exec .revertHoldoff s = .next (s.onTrapeze fun t => { t with handover := some { target := c, atB := s.mw.b } }))) ∧
    (s.holdoffEnd = none → exec .revertHoldoff s = .next s)

/-- Synchronisation (R395, R396): it starts by itself SYNC_DELAY after the die is ready, passes over the dirty memory until 64 KiB or fewer are left, then names the boundary two on; it fails at the eighth pass and after 100 ms. -/
def Obligations.SyncEvents : Prop :=
  ∀ s : State,
    (s.mw.trapeze.sync = none → exec .syncTimeout s = .next s ∧ ∀ a b, exec (.syncPassDone a b) s = .next s) ∧
    (∀ y : Sync, s.mw.trapeze.sync = some y →
      (y.startNs + 100000000 ≤ s.now → exec .syncTimeout s = .next s.failSync) ∧ (s.now < y.startNs + 100000000 → exec .syncTimeout s = .next s) ∧
      (∀ (copied dirty : Nat) (u : State), y.syncB = none → s.mw.trapeze.directUp = true → (s.die y.target).status = .sync →
        u = s.onTrapeze (fun t => { t with syncBytes := sat32 (t.syncBytes + copied) }) →
        (y.pass ≠ 0 → dirty ≤ 65536 → exec (.syncPassDone copied dirty) s = .next (u.onTrapeze fun t => { t with sync := some { y with syncB := some (s.mw.b + 2) } })) ∧
        (65536 < dirty → 8 ≤ y.pass → exec (.syncPassDone copied dirty) s = .next u.failSync) ∧
        (y.pass = 0 ∨ (65536 < dirty ∧ y.pass < 8) → exec (.syncPassDone copied dirty) s = .next (u.onTrapeze fun t => { t with sync := some { y with pass := y.pass + 1 } })))) ∧
    (∀ (t : Nat) (c : DieId), s.mw.trapeze.syncWaitNs = some t → s.catcher = some c → s.phase = .ripe → s.mw.trapeze.sync = none →
      (s.die c.other).cfg.trapeze.noAutoSync = false → s.mw.trapeze.syncFails < 3 → t + 1000000 * (s.die c.other).cfg.trapeze.syncDelayMs ≤ s.now →
      ((s.die c).status = .running ∨ (s.die c).status = .sync) → (s.die c).partner.eligible = false →
      exec .autoSync s = .next (if (s.startSync c).mw.trapeze.directUp then s.startSync c else (s.startSync c).failSync)) ∧
    (s.mw.trapeze.syncWaitNs = none → exec .autoSync s = .next s)

/-! ### Monitors and faults (chapters 14 and 15) -/

/-- The monitors (R426, R427): a supply or temperature sample is recorded and its run counted, the fault command after four samples outside is a lasting detection; a coarse reference check that fails twice takes the backup clock and starts the Curtain; a fine one only reports. -/
def Obligations.MonitorEvents : Prop :=
  ∀ s : State,
    (∀ (i : Fin 7) (mv : Nat), s.supplyWatched i = true → s.quietMw 9 = true → s.mw.falsified.contains (9, i.val) = false → ∀ out : Bool, out = !within mv (s.supplyWindow i).1 (s.supplyWindow i).2 →
      (out = true ∨ s.mw.supplyRun[i] = 0 ∨ 3 < s.mw.supplyRun[i] →
        exec (.supplySample i mv) s = .next (s.onMw fun m => { m with
          supplyMv := m.supplyMv.set i mv, supplyRun := m.supplyRun.set i (runOn s.mw.supplyRun[i] out),
          supplyNs := m.supplyNs.set i (if out || !within s.mw.supplyMv[i] (s.supplyWindow i).1 (s.supplyWindow i).2 then s.now else s.mw.supplyNs[i]) }))) ∧
    (∀ (i : Fin 7) (mv : Nat), s.supplyWatched i = false → exec (.supplySample i mv) s = .next s ∧ exec (.supplyFault i) s = .next s) ∧
    (∀ i : Fin 7, s.mw.supplyRun[i] = 4 → s.phase ≠ .seed → s.supplyWatched i = true → s.mw.trapeze.token = none → ∀ u : State,
      u = s.onMw (fun m => { m with supplyRun := m.supplyRun.set i 5 }) → exec (.supplyFault i) s = .next ((u.supplyDetect i true (s.mw.falsified.contains (9, i.val))).1.supplyLasting i)) ∧
    (∀ i : Fin 7, s.mw.supplyRun[i] ≠ 4 → exec (.supplyFault i) s = .next s) ∧
    (∀ (z : TempSensor) (deci : Int) (k : Fin 3), k = sensorCode z → s.quiet .t0 10 = true → s.quiet .t1 10 = true → s.quietMw 10 = true → deci ≤ (s.tempFuses z).tempWarn →
      deci ≤ (s.tempFuses z).tempFault → s.mw.tempRun[k] = 0 → s.mw.falsified.contains (10, k.val) = false →
      exec (.tempSample z deci) s = .next (s.onMw fun m => { m with tempDeci := m.tempDeci.set k deci, tempRun := m.tempRun.set k (runOn s.mw.tempRun[k] false) })) ∧
    (∀ (z : TempSensor) (k : Fin 3), k = sensorCode z →
      (s.mw.tempRun[k] = 4 → s.quiet .t0 10 = true → s.quiet .t1 10 = true → ∀ u : State, u = s.onMw (fun m => { m with tempRun := m.tempRun.set k 5 }) →
        exec (.tempFault z) s = .next ((u.tempDetect z true (s.mw.falsified.contains (10, k.val))).1.tempLasting z)) ∧
      (s.mw.tempRun[k] ≠ 4 → exec (.tempFault z) s = .next s)) ∧
    (∀ ppm : Int, s.quietMw 8 = true →
      (∀ tick : Bool, (ppm < -50000 ∨ 50000 < ppm ∨ tick = false) → 1 ≤ s.mw.refRun → ∀ u : State,
        u = s.onMw (fun m => { m with refRun := m.refRun + 1, coarseOk := 0 }) →
        exec (.coarseCheckWindow ppm tick) s = .next ((u.detectMw (u.target 0 0) (3 * 2 ^ 24 + 16) 8 true (s.mw.falsified.contains (8, 0)) (leInt 4 ppm ++ zeros 1)).1.referenceLost)) ∧
      (∀ tick : Bool, (ppm < -50000 ∨ 50000 < ppm ∨ tick = false) → s.mw.refRun = 0 →
        exec (.coarseCheckWindow ppm tick) s = .next (s.onMw fun m => { m with refRun := m.refRun + 1, coarseOk := 0 })) ∧
      (-50000 ≤ ppm → ppm ≤ 50000 → s.mw.refRun ≠ 1 → s.mw.falsified.contains (8, 0) = false →
        exec (.coarseCheckWindow ppm true) s = .next (s.onMw fun m => { m with refRun := 0, coarseOk := m.coarseOk + 1 })) ∧
      (-1000 ≤ ppm → ppm ≤ 1000 → exec (.fineCheckWindow ppm) s = .next s) ∧
      (ppm < -1000 ∨ 1000 < ppm → exec (.fineCheckWindow ppm) s =
        .next (s.raiseMw 200 (s.target 0 0) (detectorData (s.target 0 0) 0 0 (leInt 4 ppm ++ [1])) { injected := false, detector := 8 })))

/-- Faults: transients of one place at the limit of an interval are promoted to a lasting fault once (R422); an injection not hit within a second of its start expires (R430); a place test that passes answers its command (R440), one whose unit a fence took meanwhile answers UNIT_ABSENT (R31); a freeze ends by itself (R448) and the statistics interval closes (R451). -/
def Obligations.FaultEvents : Prop :=
  ∀ (d : DieId) (s : State),
    (∀ (u : UnitId) (k : Fin 16) (n : Nat) (o : Occur), n = (s.die d).det.interval.getD (16 * placeNumber u + k.val) 0 →
      o = ({ lasting := true, promoted := true, detector := k.val } : Occur) → (s.die d).works = true → k.val ≠ 4 → k.val ≠ 5 →
      (s.die d).cfg.events.transientLimit ≤ n → 0 < n → (s.die d).det.promoted.contains (16 * placeNumber u + k.val) = false → s.unitExists u = true →
      trapezeDie u.die = some d → ∀ t : State,
      t = s.onDie d (fun y => { y with det := { y.det with promoted := (16 * placeNumber u + k.val) :: y.det.promoted, lasting := bump y.det.lasting k.val 65535 } }) →
      exec (.transientLimit d u k) s =
        .next (((t.raise d (detectorEvent k.val) (s.unitTarget u) (detectorData (s.unitTarget u) 2 n []) o).raise d 204 (t.unitTarget u)
          (detectorData (s.unitTarget u) 2 n []) o).unitLasting u o)) ∧
    (∀ (u : UnitId) (k : Fin 16), (s.die d).det.promoted.contains (16 * placeNumber u + k.val) = true ∨
      (s.die d).det.interval.getD (16 * placeNumber u + k.val) 0 < (s.die d).cfg.events.transientLimit → exec (.transientLimit d u k) s = .next s) ∧
    (∀ (n : Fin 4) (i : Injection), (s.die d).det.injections[n.val]? = some i → i.fired = false →
      (i.armedNs + i.delayNs + 1000000000 ≤ s.now → exec (.injectionExpiry d n) s =
        .next ((s.onDie d fun x => { x with det := { x.det with injections := x.det.injections.eraseIdx n.val } }).raise d 203 i.target (i.data 1)
          { injected := true, detector := i.detector })) ∧
      (s.now < i.armedNs + i.delayNs + 1000000000 → exec (.injectionExpiry d n) s = .next s)) ∧
    (∀ n : Fin 4, (s.die d).det.injections[n.val]? = none →
      (s.isFlier d = false → exec (.injectionExpiry d n) s = .next s) ∧
      (∀ (k : Nat) (i : Injection), k = n.val - (s.die d).det.injections.length → s.isFlier d = true → s.mw.trapeze.injections[k]? = some i → i.fired = false →
        (i.armedNs + i.delayNs + 1000000000 ≤ s.now → exec (.injectionExpiry d n) s =
          .next ((s.onTrapeze fun t => { t with injections := t.injections.eraseIdx k }).raise d 203 i.target (i.data 1) { injected := true, detector := i.detector })) ∧
        (s.now < i.armedNs + i.delayNs + 1000000000 → exec (.injectionExpiry d n) s = .next s))) ∧
    ((s.die d).test = none → ∀ pass, exec (.placeTestEnd d pass) s = .next s) ∧
    (∀ (t : PlaceTest) (ns : Nat) (u : State), (s.die d).test = some t → t.startNs = some ns → t.passed = false → t.lost = false → t.unit ≠ 31 → t.both = false →
      u = (s.onDie d fun x => { x with test := some { t with passed := true } }).raise d 16 (ownPlace t.cmd.target d) [] →
      exec (.placeTestEnd d true) s = .next (u.lateReply 0x0904 t.cmd { status := St.ok, result := le 1 1 ++ zeros 3 ++ le 4 (u.now - ns), own := false })) ∧
    (∀ (t : PlaceTest) (ns : Nat) (pass : Bool), (s.die d).test = some t → t.startNs = some ns → t.passed = false → t.lost = true →
      exec (.placeTestEnd d pass) s = .next (s.testAbsent d t)) ∧
    ((s.die d).preserve.frozen = true → (s.die d).preserve.countNs + 1000000 * (s.die d).preserve.maxMs ≤ s.now → exec (.preserveAutoThaw d) s = .next (s.thaw d).1) ∧
    ((s.die d).preserve.frozen = false → exec (.preserveAutoThaw d) s = .next s) ∧
    (s.mw.interval.due = true → exec .intervalBoundary s = .next s.intervalMove) ∧ (s.mw.interval.due = false → exec .intervalBoundary s = .next s)

/-! ### The machine as a whole -/

/-- A step runs the command at the front of the queue on the state with the queue's rest, and nothing else; on an empty queue the block idles (the model's own choice, assumption 1). -/
def Obligations.StepTakesFront : Prop :=
  (∀ (c : Instr) (rest : List Instr) (s : State), s.pending = c :: rest → step s = exec c { s with pending := rest }) ∧
  (∀ (c : Instr) (s : State), step { s with pending := c :: s.pending } = exec c s) ∧
  (∀ s : State, s.pending = [] → step s = .next s)

/-- Right after power-up every die is in Seed (R458), B is 0 and no boundary has fired (R33), the token is none (R390), no Curtain is active (R415), no queue or joint is
enabled, no command waits; and the life of the package is in order. -/
def Obligations.ResetState : Prop :=
  State.reset.phase = .seed ∧ State.reset.mw.b = 0 ∧ State.reset.mw.fired = false ∧ State.reset.mw.trapeze.token = none ∧ State.reset.mw.trapeze.curtain = none ∧
  State.reset.pending = [] ∧ State.reset.life.Ordered ∧
  ∀ d : DieId, (State.reset.die d).status = .seed ∧ (∀ q : Fin 64, (State.reset.queue d q).state = .disabled) ∧
    (∀ j : Fin 64, (State.reset.joint d j).state = .disabled) ∧ (∀ k : Fin 32, ((State.reset.die d).cores[k]).run = none)

/-- Every step keeps the image's stages in order: B_a is named only for an image staged whole, the image is applied only at B_a, B_r comes only after that, Ripe only with B_r,
and in Seed and after CONFIG_FAILED no image is under way (R468, R471, R475, R476). -/
def Obligations.StepKeepsOrdered : Prop :=
  ∀ s t : State, s.life.Ordered → step s = .next t → t.life.Ordered

/-- Short of a reset and of a die's end of Seed, the package moves from Blossom to Ripe or to CONFIG_FAILED and nowhere else (Table 3.3, R468, R476); the end of a die's Seed
leaves the phase or begins Blossom (R390, R470). -/
def Obligations.PhasesAdvance : Prop :=
  ∀ (s t : State) (c : Instr) (rest : List Instr), s.pending = c :: rest → c.restarts = false → step s = .next t →
    (c.joins = false → Phase.Leads s.phase t.phase) ∧ (c.joins = true → t.phase = s.phase ∨ t.phase = .blossom)

/-- A step takes one command off the queue and leaves the others in their order; only a restart reads the strap balls (Table 3.1). -/
def Obligations.StepConsumesOne : Prop :=
  ∀ (s t : State), step s = .next t → t.pending = s.pending.tail ∧ ((∀ c ∈ s.pending.head?, c.restarts = false) → t.pkgid = s.pkgid)

/-- R33: B is 0 at the first boundary after package reset, goes up by exactly one at every boundary, and changes at nothing else; package reset and power-up set it back
to 0. -/
def Obligations.BoundaryNumber : Prop :=
  (∀ (c : Instr) (s t : State), c.restarts = false → c ≠ .boundary → exec c s = .next t → t.mw.b = s.mw.b ∧ t.mw.fired = s.mw.fired) ∧
  (∀ s t : State, exec .boundary s = .next t → t = s ∨ (t.mw.fired = true ∧ t.mw.b = if s.mw.fired then s.mw.b + 1 else 0)) ∧
  (∀ (s : State) (strap : BitVec 2), ∃ t u : State, exec (.packageReset strap) s = .next t ∧ t.mw.b = 0 ∧ t.mw.fired = false ∧ exec (.powerUp strap) s = .next u ∧
    u.mw.b = 0 ∧ u.mw.fired = false)

/-- No command but package reset, power-up and EXTEST, which holds the dies in reset, ends the Curtain; the first two do (R415, Table 16.1, R479). -/
def Obligations.CurtainStands : Prop :=
  (∀ s t : State, s.curtained = true → (∀ c ∈ s.pending.head?, c.restarts = false) → step s = .next t → t.curtained = true) ∧
  (∀ (s : State) (strap : BitVec 2), ∃ t u : State, exec (.packageReset strap) s = .next t ∧ t.curtained = false ∧ exec (.powerUp strap) s = .next u ∧
    u.curtained = false)

/-- The byte stores keep one canonical form, so equal contents are equal data; a write is read back and leaves every other byte alone (assumption 2). -/
def Obligations.StoreForm : Prop :=
  (∀ (m : Memory) (a : Nat) (bs : List Byte), m.wf = true → (m.writeN a bs).wf = true ∧
    (∀ k, k < a ∨ a + bs.length ≤ k → (m.writeN a bs).read k = m.read k) ∧ (∀ k (h : k < bs.length), (m.writeN a bs).read (a + k) = bs[k]) ∧
    (m.writeN a bs).readN a bs.length = bs) ∧
  (∀ m n : Memory, m.wf = true → n.wf = true → (∀ a, m.read a = n.read a) → m = n)

/-- No command is refused, and the only stop is an access of the debug port outside an array or a flash device (Tables 1.3, 8.4, R463). -/
def Obligations.EveryCommandAnswers : Prop :=
  ∀ (c : Instr) (s : State), (∃ t, exec c s = .next t) ∨ (c.addresses = true ∧ exec c s = .fault .noSuchAddress)
end

