-- ==== Sys2Proof/Laws/Injected.lean ====
section
/-! SUPPORT. Where no injection is armed for a detector and no array holds an error, asking for one finds none and changes nothing (R13, R430); an instruction
whose word names it then runs as its row says. -/

namespace Sys2Proof.Machine

theorem State.checkInjected_quiet {s : State} {d : DieId} {det : Nat} (h : s.quiet d det = true) (hit : Injection → Bool) :
    s.checkInjected d det hit = (s, none) := by
  have none_hits : (s.die d).det.injections.find? (fun i => i.detector == det && hit i && i.firesAt s.now) = none := by
    rw [List.find?_eq_none]
    intro i hi
    have := (List.all_eq_true.mp (Bool.and_eq_true _ _ ▸ h).1) i hi
    simp_all
  simp [State.checkInjected, none_hits]

theorem State.quiet_upsets {s : State} {d : DieId} (h : s.quiet d 0 = true) : (s.die d).upsets = [] := by
  have := (Bool.and_eq_true _ _ ▸ h).2
  simpa using this

theorem State.readWord_quiet {s : State} {d : DieId} (h : s.quiet d 0 = true) (region cluster unit : Nat) (hit : Injection → Bool) :
    s.readWord d region cluster unit hit = (s, .clean) := by
  simp [State.readWord, State.checkInjected_quiet h, State.quiet_upsets h]

theorem State.useArray_quiet {s : State} {d : DieId} (h : s.quiet d 0 = true) (region cluster : Nat) : s.useArray d region cluster = s := by
  simp [State.useArray, State.readArray, State.readWord_quiet h]

theorem State.fetchWord_quiet {s : State} {c : CoreRef} (h : s.quiet c.die 0 = true) (i : Item) (go : State → State) : s.fetchWord c i go = go s := by
  simp [State.fetchWord, State.readWord_quiet h]

theorem State.readOperand_quiet {s : State} {c : CoreRef} (h : s.quiet c.die 0 = true) (i : Item) (owner : ArrayOwner) (go : State → State) :
    s.readOperand c i owner .clean go = go s := by
  simp [State.readOperand, State.readWord_quiet h, WordRead.with]

theorem State.checkInjectedMw_quiet {s : State} {det : Nat} (h : s.quietMw det = true) (hit : Injection → Bool) :
    s.checkInjectedMw det hit = (s, none) := by
  have none_hits : s.mw.trapeze.injections.find? (fun i => i.detector == det && hit i && i.firesAt s.now) = none := by
    rw [List.find?_eq_none]
    intro i hi
    have := (List.all_eq_true.mp (Bool.and_eq_true _ _ ▸ h).1) i hi
    simp_all
  simp [State.checkInjectedMw, none_hits]

theorem State.readMwArray_quiet {s : State} (h : s.quietMw 0 = true) (region cluster : Nat) (before : Bool) :
    s.readMwArray region cluster before = (s, false, false) := by
  have e := (Bool.and_eq_true _ _ ▸ h).2
  have k : s.mw.upsets = [] := by simpa using e
  simp [State.readMwArray, State.checkInjectedMw_quiet h, k]

/-- What an able core does with the instruction its word names: a program fault, or its effect (R255, R260). -/
theorem State.coreStep_able {s : State} {c : CoreRef} {i : Item} (h : Able s c i) {op : Instr} (n : s.atInstruction c i op = true)
    (f : Die → Core → Item → Except Cause Eff) :
    s.coreStep c op f = match f (s.die c.die) (s.core c) i with
      | .error cause => s.programFault c i cause
      | .ok e => s.retire c i e := by
  obtain ⟨w, hw, he⟩ := h.coded
  have hs : spells w op = true := by
    simp only [State.atInstruction] at n
    rw [show ((s.die c.die).cores[c.core]).pc = (s.core c).pc from rfl, hw] at n
    exact (Bool.and_eq_true _ _ ▸ n).2
  have hw' : i.code[((s.die c.die).cores[c.core]).pc]? = some w := hw
  
  unfold State.coreStep State.coreStepAt
  simp only [h.runs, hw', he, hs, State.fetchWord_quiet h.clean, Bool.not_true, Bool.false_eq_true, if_false]
  rfl

/-- At a word that is no defined encoding any instruction is an ILLEGAL program fault (R250, R255). -/
theorem State.coreStep_undefined {s : State} {c : CoreRef} {i : Item} {w : Word} (hr : s.runningOn c = some i) (hq : s.quiet c.die 0 = true)
    (hw : i.code[(s.core c).pc]? = some w) (hd : wordDefined w = false) (op : Instr) (f : Die → Core → Item → Except Cause Eff) :
    s.coreStep c op f = s.programFault c i .illegal := by
  have hw' : i.code[((s.die c.die).cores[c.core]).pc]? = some w := hw
  unfold State.coreStep State.coreStepAt
  simp only [hr, hw', hd, State.fetchWord_quiet hq, Bool.not_false, if_true]

end Sys2Proof.Machine
end

