-- ==== Sys2Proof/Laws/LifeMotion.lean ====
section
/-! SUPPORT. What leaves the life of the package alone, one lemma per operation: joints, arms and the servo core. -/

namespace Sys2Proof.Machine

/-- The life of the package as a command leaves it is the life before where it answers no next state. -/
@[simp] theorem lifeAfter_next (s t : State) : lifeAfter (.next t) s = t.life := rfl
@[simp] theorem lifeAfter_fault (s : State) (f : Fault) : lifeAfter (.fault f) s = s.life := rfl
@[simp] theorem lifeAfter_refused (s : State) (r : Refusal) : lifeAfter (.refused r) s = s.life := rfl
@[simp] theorem life_ite (c : Prop) [Decidable c] (a b : State) : (if c then a else b).life = if c then a.life else b.life := by
  split <;> rfl
@[simp] theorem life_fst_ite {α : Type} (c : Prop) [Decidable c] (a b : State × α) :
    (if c then a else b).1.life = if c then a.1.life else b.1.life := by
  split <;> rfl
@[simp] theorem lifeAfter_ite (c : Prop) [Decidable c] (a b : Result) (s : State) :
    lifeAfter (if c then a else b) s = if c then lifeAfter a s else lifeAfter b s := by
  split <;> rfl
@[simp] theorem life_out (s : State) (o : List OutMsg) : ({ s with out := o } : State).life = s.life := rfl
@[simp] theorem life_draws (s : State) (n : Nat) : ({ s with draws := n } : State).life = s.life := rfl
@[simp] theorem State.setDie_life (s : State) (d : DieId) (x : Die) : (s.setDie d x).life = s.life := by cases d <;> rfl
@[simp] theorem State.onDie_life (s : State) (d : DieId) (f : Die → Die) : (s.onDie d f).life = s.life := by simp [State.onDie]

/-- What of the load state belongs to the life of the package. -/
def ImageLoad.life (m : ImageLoad) : Bool × Bool × Option Nat × Option Nat := (m.complete, m.applied, m.bA, m.bR)

@[simp] theorem State.onMw_life (s : State) (f : Midway → Midway) (hi : (f s.mw).image.life = s.mw.image.life) (hb : (f s.mw).b = s.mw.b)
    (hf : (f s.mw).fired = s.mw.fired) (hc : (f s.mw).trapeze.curtain.isSome = s.mw.trapeze.curtain.isSome) : (s.onMw f).life = s.life := by
  simp only [ImageLoad.life, Prod.mk.injEq] at hi
  simp [State.onMw, State.life, State.curtained, hi, hb, hf, hc]

/-- A fold keeps what each of its steps keeps. -/
@[simp] theorem foldl_life {α : Type} (l : List α) (f : State → α → State) (s : State) (h : ∀ s a, (f s a).life = s.life) :
    (l.foldl f s).life = s.life := by
  induction l generalizing s with
  | nil => rfl
  | cons a l ih => simp [ih, h]

@[simp] theorem foldl_life_fst {α β : Type} (l : List α) (f : State × β → α → State × β) (s : State × β)
    (h : ∀ s a, (f s a).1.life = s.1.life) : (l.foldl f s).1.life = s.1.life := by
  induction l generalizing s with
  | nil => rfl
  | cons a l ih => simp [ih, h]

@[simp] theorem State.onLive_life (s : State) (f : DieId → State → State) (h : ∀ d s, (f d s).life = s.life) : (s.onLive f).life = s.life := by
  simp [State.onLive, h]

@[simp] theorem State.draw_life (s : State) :
    (State.draw s).2.life = s.life := by
  simp [State.draw]

@[simp] theorem State.emit_life (s : State) (m : OutMsg) :
    (State.emit s m).life = s.life := by
  simp [State.emit]

@[simp] theorem State.onQueue_life (s : State) (d : DieId) (q : Fin 64) (f : Queue → Queue) :
    (State.onQueue s d q f).life = s.life := by
  simp [State.onQueue]

@[simp] theorem State.msix_life (s : State) (d : DieId) (v : Nat) :
    (State.msix s d v).life = s.life := by
  simp [State.msix]

@[simp] theorem State.writeRecord_life (s : State) (port : DieId) (r : Record) (d : DieId) :
    (State.writeRecord s port r d).life = s.life := by
  simp [State.writeRecord]

@[simp] theorem State.record_life (s : State) (d : DieId) (code : Nat) (source : Word) (data : List Byte) (mark : optParam Nat 0) :
    (State.record s d code source data mark).life = s.life := by
  simp [State.record]

@[simp] theorem State.phaseRecords_life (s : State) (old : State) :
    (State.phaseRecords s old).life = s.life := by
  simp [State.phaseRecords]

@[simp] theorem State.count_life (s : State) (d : DieId) (group : Nat) (inst : Nat) (word : Nat) (n : optParam Nat 1) :
    (State.count s d group inst word n).life = s.life := by
  simp [State.count]

@[simp] theorem State.countMw_life (s : State) (group : Nat) (inst : Nat) (word : Nat) (n : optParam Nat 1) :
    (State.countMw s group inst word n).life = s.life := by
  simp [State.countMw]

@[simp] theorem State.markEvent_life (s : State) (d : DieId) (e : Nat) (source : Word) (data : List Byte) (o : Occur) :
    (State.markEvent s d e source data o).life = s.life := by
  simp [State.markEvent]

@[simp] theorem State.dropRecord_life (s : State) (port : DieId) (qi : Fin 64) :
    (State.dropRecord s port qi).2.life = s.life := by
  simp [State.dropRecord]

@[simp] theorem State.raiseFuel_life (a0 : Nat) (a1 : State) (a2 : DieId) (a3 : Nat) (a4 : Word) (a5 : List Byte) (a6 : Occur) :
    (State.raiseFuel a0 a1 a2 a3 a4 a5 a6).life = a1.life := by
  induction a0 generalizing a1 a3 a4 a5 a6 with
  | zero =>
    unfold State.raiseFuel
    extract_lets c was s1 masked wants r port qi s2 s3
    have h1 : s1.life = a1.life := by simp [s1]
    have h2 : s2.life = s1.life := by simp [s2]
    have h3 : s3.life = s1.life := by
      simp only [s3]
      split
      · split
        · simp [h2]
        · split <;> simp [h2]
      · rfl
    split <;> simp [h1, h3]
  | succ n ih =>
    unfold State.raiseFuel
    extract_lets c was s1 masked wants r port qi s2 s3
    have h1 : s1.life = a1.life := by simp [s1]
    have h2 : s2.life = s1.life := by simp [s2]
    have h3 : s3.life = s1.life := by
      simp only [s3]
      split
      · split
        · simp [h2]
        · split <;> simp [h2, ih]
      · rfl
    split <;> simp [h1, h3]

@[simp] theorem State.raise_life (s : State) (d : DieId) (e : Nat) (source : Word) (data : List Byte) (o : optParam Occur { }) :
    (State.raise s d e source data o).life = s.life := by
  simp [State.raise]

@[simp] theorem State.raiseMw_life (s : State) (e : Nat) (source : Word) (data : List Byte) (o : optParam Occur { }) :
    (State.raiseMw s e source data o).life = s.life := by
  simp [State.raiseMw]

@[simp] theorem State.sendStream_life (s : State) (d : DieId) (r : Record) :
    (State.sendStream s d r).life = s.life := by
  simp [State.sendStream]

@[simp] theorem State.stream_life (s : State) (d : DieId) (opcode : Nat) (kind : Nat) (own : Bool) (keep : Stream → Bool) (epoch : Nat) (result : Stream → List Byte) :
    (State.stream s d opcode kind own keep epoch result).life = s.life := by
  simp [State.stream]

@[simp] theorem State.sendReply_life (s : State) (port : DieId) (d : DieId) (r : Record) :
    (State.sendReply s port d r).life = s.life := by
  simp [State.sendReply]

@[simp] theorem State.onJoint_life (s : State) (d : DieId) (j : Fin 64) (f : Joint → Joint) :
    (State.onJoint s d j f).life = s.life := by
  simp [State.onJoint]

@[simp] theorem State.onArm_life (s : State) (d : DieId) (a : Fin 8) (f : Arm → Arm) :
    (State.onArm s d a f).life = s.life := by
  simp [State.onArm]

@[simp] theorem State.endDisabled_life (s : State) (d : DieId) (j : Fin 64) (byTag : optParam Nat 65535) :
    (State.endDisabled s d j byTag).life = s.life := by
  unfold State.endDisabled
  dsimp only
  (repeat' split) <;> simp [*]

@[simp] theorem State.abortHoming_life (s : State) (d : DieId) (j : Fin 64) :
    (State.abortHoming s d j).life = s.life := by
  simp [State.abortHoming]

@[simp] theorem State.cancelDeferred_life (s : State) (d : DieId) (j : Fin 64) (byTag : Nat) (cause : Nat) :
    (State.cancelDeferred s d j byTag cause).life = s.life := by
  unfold State.cancelDeferred
  dsimp only
  (repeat' split) <;> simp [*]

@[simp] theorem State.jointStop_life (s : State) (d : DieId) (j : Fin 64) (cat : Nat) (A : Int) (J : Int) :
    (State.jointStop s d j cat A J).life = s.life := by
  unfold State.jointStop
  dsimp only
  (repeat' split) <;> simp [*]

@[simp] theorem State.engageBrake_life (s : State) (d : DieId) (j : Fin 64) :
    (State.engageBrake s d j).life = s.life := by
  simp [State.engageBrake]

@[simp] theorem State.untrustedStop_life (s : State) (d : DieId) (j : Fin 64) (tq : Bool) (l : CfgLimits) :
    (State.untrustedStop s d j tq l).life = s.life := by
  simp [State.untrustedStop]

@[simp] theorem State.measuredStop_life (s : State) (d : DieId) (j : Fin 64) :
    (State.measuredStop s d j).life = s.life := by
  unfold State.measuredStop
  dsimp only
  (repeat' split) <;> simp [*]

@[simp] theorem State.faultStop_life (s : State) (d : DieId) (j : Fin 64) (cause : Nat) :
    (State.faultStop s d j cause).life = s.life := by
  unfold State.faultStop
  dsimp only
  (repeat' split) <;> simp [*]

@[simp] theorem State.commandStop_life (s : State) (d : DieId) (j : Fin 64) (cat : Nat) :
    (State.commandStop s d j cat).life = s.life := by
  unfold State.commandStop
  (repeat' split) <;> simp_all

@[simp] theorem State.armStopJoint_life (s : State) (d : DieId) (cat : Nat) (sep : Bool) (j : Fin 64) :
    (State.armStopJoint s d cat sep j).life = s.life := by
  unfold State.armStopJoint
  dsimp only
  (repeat' split) <;> simp [*]

@[simp] theorem State.hostArmStop_life (s : State) (d : DieId) (a : Fin 8) (cat : Nat) :
    (State.hostArmStop s d a cat).life = s.life := by
  simp [State.hostArmStop]

@[simp] theorem State.disableJoint_life (s : State) (d : DieId) (j : Fin 64) (tag : Nat) :
    (State.disableJoint s d j tag).life = s.life := by
  unfold State.disableJoint
  dsimp only
  (repeat' split) <;> simp [*]

@[simp] theorem State.curtainJoints_life (s : State) (d : DieId) :
    (State.curtainJoints s d).life = s.life := by
  simp [State.curtainJoints]

@[simp] theorem State.startEnable_life (s : State) (d : DieId) (j : Fin 64) (clear : Bool) (deferred : optParam (Option Nat) none) :
    (State.startEnable s d j clear deferred).life = s.life := by
  simp [State.startEnable]

@[simp] theorem State.enterSoft_life (s : State) (d : DieId) (j : Fin 64) :
    (State.enterSoft s d j).life = s.life := by
  simp [State.enterSoft]

@[simp] theorem State.homingFails_life (s : State) (d : DieId) (j : Fin 64) (cause : Nat) :
    (State.homingFails s d j cause).life = s.life := by
  simp [State.homingFails]

@[simp] theorem State.homingDone_life (s : State) (d : DieId) (j : Fin 64) (event : Int) :
    (State.homingDone s d j event).life = s.life := by
  simp [State.homingDone]

@[simp] theorem State.startHoming_life (s : State) (d : DieId) (j : Fin 64) :
    (State.startHoming s d j).life = s.life := by
  unfold State.startHoming
  dsimp only
  (repeat' split) <;> simp [*]

@[simp] theorem State.writeGenerator_life (s : State) (d : DieId) (j : Fin 64) :
    (State.writeGenerator s d j).life = s.life := by
  simp [State.writeGenerator]

@[simp] theorem State.sampleSwitches_life (s : State) (d : DieId) (j : Fin 64) :
    (State.sampleSwitches s d j).life = s.life := by
  unfold State.sampleSwitches
  dsimp only
  (repeat' split) <;> simp [*]

@[simp] theorem State.homingAdvance_life (s : State) (d : DieId) (j : Fin 64) (q0 : Int) :
    (State.homingAdvance s d j q0).life = s.life := by
  unfold State.homingAdvance
  dsimp only
  (repeat' split) <;> simp [*]

@[simp] theorem State.advanceChecks_life (s : State) (d : DieId) (j : Fin 64) :
    (State.advanceChecks s d j).life = s.life := by
  simp [State.advanceChecks]

@[simp] theorem State.advance_life (s : State) (d : DieId) (j : Fin 64) :
    (State.advance s d j).life = s.life := by
  simp [State.advance]

@[simp] theorem execDriveReady_life (d : DieId) (j : Fin 64) (s : State) :
    lifeAfter (execDriveReady d j s) s = s.life := by
  simp [execDriveReady]

@[simp] theorem execEnableTimeout_life (d : DieId) (j : Fin 64) (s : State) :
    lifeAfter (execEnableTimeout d j s) s = s.life := by
  simp [execEnableTimeout]

@[simp] theorem execBrakeReleaseDone_life (d : DieId) (j : Fin 64) (s : State) :
    lifeAfter (execBrakeReleaseDone d j s) s = s.life := by
  simp [execBrakeReleaseDone]

@[simp] theorem execSoftEnd_life (d : DieId) (j : Fin 64) (s : State) :
    lifeAfter (execSoftEnd d j s) s = s.life := by
  simp [execSoftEnd]

@[simp] theorem execStopRampEnd_life (d : DieId) (j : Fin 64) (s : State) :
    lifeAfter (execStopRampEnd d j s) s = s.life := by
  simp [execStopRampEnd]

@[simp] theorem execArmStopRest_life (d : DieId) (a : Fin 8) (s : State) :
    lifeAfter (execArmStopRest d a s) s = s.life := by
  unfold execArmStopRest
  dsimp only
  (repeat' split) <;> simp [*]

@[simp] theorem execBrakeEngageDone_life (d : DieId) (j : Fin 64) (s : State) :
    lifeAfter (execBrakeEngageDone d j s) s = s.life := by
  simp [execBrakeEngageDone]

@[simp] theorem execDeferredEnable_life (d : DieId) (j : Fin 64) (s : State) :
    lifeAfter (execDeferredEnable d j s) s = s.life := by
  unfold execDeferredEnable
  (repeat' split) <;> simp_all

@[simp] theorem State.jogStop_life (s : State) (d : DieId) (j : Fin 64) :
    (State.jogStop s d j).life = s.life := by
  unfold State.jogStop
  (repeat' split) <;> simp_all

@[simp] theorem execJogTimeout_life (d : DieId) (j : Fin 64) (s : State) :
    lifeAfter (execJogTimeout d j s) s = s.life := by
  simp [execJogTimeout]

@[simp] theorem execSwitchSettled_life (d : DieId) (j : Fin 64) (s : State) :
    lifeAfter (execSwitchSettled d j s) s = s.life := by
  unfold execSwitchSettled
  dsimp only
  (repeat' split) <;> simp [*]

@[simp] theorem execHomingTimeout_life (d : DieId) (j : Fin 64) (s : State) :
    lifeAfter (execHomingTimeout d j s) s = s.life := by
  unfold execHomingTimeout
  (repeat' split) <;> simp_all

@[simp] theorem execReducedHold_life (d : DieId) (j : Fin 64) (s : State) :
    lifeAfter (execReducedHold d j s) s = s.life := by
  unfold execReducedHold
  dsimp only
  (repeat' split) <;> simp [*]

@[simp] theorem execStall_life (d : DieId) (j : Fin 64) (s : State) :
    lifeAfter (execStall d j s) s = s.life := by
  unfold execStall
  dsimp only
  (repeat' split) <;> simp [*]

@[simp] theorem reject_life (s : State) (status : Nat) :
    (reject s status).1.life = s.life := by
  simp [reject]

@[simp] theorem answer_life (s : State) (result : optParam (List Byte) []) (own : optParam Bool false) :
    (answer s result own).1.life = s.life := by
  simp [answer]

@[simp] theorem State.stage_life (s : State) (d : DieId) (units : List UnitId) (f : Cfg → Cfg) :
    (State.stage s d units f).life = s.life := by
  simp [State.stage]

@[simp] theorem State.config_life (s : State) (d : DieId) (check : Option Nat) (units : List UnitId) (f : Cfg → Cfg) (result : optParam (List Byte) []) :
    (State.config s d check units f result).1.life = s.life := by
  unfold State.config
  (repeat' split) <;> simp_all

@[simp] theorem State.catcherLost_life (s : State) (d : DieId) (cause : Nat) :
    (State.catcherLost s d cause).life = s.life := by
  simp [State.catcherLost]

@[simp] theorem State.dieFault_life (s : State) (d : DieId) :
    (State.dieFault s d).life = s.life := by
  simp [State.dieFault]

@[simp] theorem State.failSync_life (s : State) :
    (State.failSync s).life = s.life := by
  unfold State.failSync
  dsimp only
  (repeat' split) <;> simp [*]

@[simp] theorem State.linkLost_life (s : State) (l : LinkId) :
    (State.linkLost s l).life = s.life := by
  cases l <;> simp [State.linkLost, State.linkLost.go]

@[simp] theorem State.linkLost.go_life (s : State) (d : DieId) :
    (State.linkLost.go s d).life = s.life := by
  simp [State.linkLost.go]

@[simp] theorem State.spoilCommit_life (s : State) (u : UnitId → Bool) (reason : Nat) :
    (State.spoilCommit s u reason).life = s.life := by
  simp [State.spoilCommit]

@[simp] theorem State.spoilNext_life (s : State) (d : DieId) :
    (State.spoilNext s d).life = s.life := by
  simp [State.spoilNext]

@[simp] theorem State.releaseCore_life (s : State) (d : DieId) (k : Fin 32) :
    (State.releaseCore s d k).life = s.life := by
  simp [State.releaseCore]

@[simp] theorem State.loseCluster_life (s : State) (d : DieId) (region : Nat) (cluster : Nat) (o : optParam Occur { }) :
    (State.loseCluster s d region cluster o).life = s.life := by
  simp [State.loseCluster]

@[simp] theorem State.fenceUnit_life (s : State) (d : DieId) (region : Nat) (cluster : Nat) (unit : Nat) (o : optParam Occur { }) :
    (State.fenceUnit s d region cluster unit o).life = s.life := by
  simp [State.fenceUnit]

@[simp] theorem State.detect_life (s : State) (d : DieId) (place : Word) (number : Nat) (det : Nat) (lasting : Bool) (injected : Bool) (value : List Byte) :
    (State.detect s d place number det lasting injected value).1.life = s.life := by
  simp [State.detect]

@[simp] theorem State.detectMw_life (s : State) (place : Word) (number : Nat) (det : Nat) (lasting : Bool) (injected : Bool) (value : List Byte) :
    (State.detectMw s place number det lasting injected value).1.life = s.life := by
  simp [State.detectMw]

@[simp] theorem State.checkInjected_life (s : State) (d : DieId) (det : Nat) (hit : Injection → Bool) :
    (State.checkInjected s d det hit).1.life = s.life := by
  unfold State.checkInjected
  dsimp only
  (repeat' split) <;> simp [*]

@[simp] theorem State.countSingle_life (s : State) (d : DieId) : (State.countSingle s d).life = s.life := by
  simp [State.countSingle]

@[simp] theorem State.readWord_life (s : State) (d : DieId) (region cluster unit : Nat) (hit : Injection → Bool) :
    (State.readWord s d region cluster unit hit).1.life = s.life := by
  unfold State.readWord
  dsimp only
  (repeat' split) <;> simp [*]

@[simp] theorem State.readArray_life (s : State) (d : DieId) (region : Nat) (cluster : Nat) :
    (State.readArray s d region cluster).1.life = s.life := by
  unfold State.readArray
  dsimp only
  (repeat' split) <;> simp [*]

@[simp] theorem State.arrayFault_life (s : State) (d : DieId) (region : Nat) (cluster : Nat) (o : Occur) :
    (State.arrayFault s d region cluster o).life = s.life := by
  simp [State.arrayFault]

@[simp] theorem State.useArray_life (s : State) (d : DieId) (region : Nat) (cluster : Nat) :
    (State.useArray s d region cluster).life = s.life := by
  unfold State.useArray
  dsimp only
  split <;> simp

@[simp] theorem State.onTrapeze_life (s : State) (f : TrapezeMw → TrapezeMw) (h : (f s.mw.trapeze).curtain.isSome = s.mw.trapeze.curtain.isSome) :
    (State.onTrapeze s f).life = s.life := by
  simp [State.onTrapeze, h]

@[simp] theorem State.sequencerCounts_life (s : State) : s.sequencerCounts.life = s.life := by
  simp [State.sequencerCounts]

@[simp] theorem State.checkInjectedMw_life (s : State) (det : Nat) (hit : Injection → Bool) :
    (State.checkInjectedMw s det hit).1.life = s.life := by
  unfold State.checkInjectedMw
  split
  · rfl
  · dsimp only
    (repeat' split) <;> simp

@[simp] theorem State.readMwArray_life (s : State) (region : Nat) (cluster : Nat) (before : Bool) :
    (State.readMwArray s region cluster before).1.life = s.life := by
  unfold State.readMwArray
  dsimp only
  (repeat' split) <;> simp [*]

@[simp] theorem State.onCluster_life (s : State) (c : CoreRef) (f : ClusterMem → ClusterMem) :
    (State.onCluster s c f).life = s.life := by
  simp [State.onCluster]

@[simp] theorem State.onCore_life (s : State) (c : CoreRef) (f : Core → Core) :
    (State.onCore s c f).life = s.life := by
  simp [State.onCore]

@[simp] theorem State.flushTrace_life (s : State) (d : DieId) :
    (State.flushTrace s d).life = s.life := by
  unfold State.flushTrace
  dsimp only
  (repeat' split) <;> simp [*]

@[simp] theorem State.trace_life (s : State) (d : DieId) (entry : Nat) (kind : Nat) (flags : Nat) (core : Nat) (home : Nat) (cls : Nat) (b : Nat) (ticks : Nat) :
    (State.trace s d entry kind flags core home cls b ticks).life = s.life := by
  unfold State.trace
  dsimp only
  (repeat' split) <;> simp [*]

@[simp] theorem State.startNext_life (s : State) (c : CoreRef) :
    (State.startNext s c).life = s.life := by
  unfold State.startNext
  dsimp only
  (repeat' split) <;> simp [*]

@[simp] theorem State.faultItem_life (s : State) (c : CoreRef) (i : Item) (cause : Cause) :
    (State.faultItem s c i cause).life = s.life := by
  simp [State.faultItem]

@[simp] theorem State.fillCore_life (s : State) (d : DieId) (k : Fin 32) :
    (State.fillCore s d k).life = s.life := by
  unfold State.fillCore
  dsimp only
  (repeat' split) <;> simp [*]

@[simp] theorem State.fillAll_life (s : State) (d : DieId) :
    (State.fillAll s d).life = s.life := by
  simp [State.fillAll]

@[simp] theorem State.cancelPrefetches_life (s : State) (d : DieId) (was : List Inst) :
    (State.cancelPrefetches s d was).life = s.life := by
  refine foldl_life _ _ _ fun s a => ?_
  repeat' split
  all_goals simp

@[simp] theorem State.reschedule_life (s : State) (d : DieId) :
    (State.reschedule s d).life = s.life := by
  simp only [State.reschedule, State.fillAll_life, State.cancelPrefetches_life]
  rw [foldl_life, State.onDie_life]
  intro s a
  repeat' split
  all_goals simp

@[simp] theorem State.programFault_life (s : State) (c : CoreRef) (i : Item) (cause : Cause) :
    (State.programFault s c i cause).life = s.life := by
  simp [State.programFault]

@[simp] theorem State.coreDetection_life (s : State) (c : CoreRef) (i : Item) (det : Nat) (injected : Bool) :
    (State.coreDetection s c i det injected).life = s.life := by
  simp [State.coreDetection]

@[simp] theorem State.retire_life (s : State) (c : CoreRef) (i : Item) (e : Eff) :
    (State.retire s c i e).life = s.life := by
  unfold State.retire
  dsimp only
  (repeat' split) <;> simp [*]

@[simp] theorem State.fetchWord_life (s : State) (c : CoreRef) (i : Item) (go : State → State) (h : ∀ t : State, (go t).life = t.life) :
    (State.fetchWord s c i go).life = s.life := by
  unfold State.fetchWord
  dsimp only
  split <;> simp [h]

@[simp] theorem State.coreStepAt_life (s : State) (c : CoreRef) (row : Word → Bool) (f : Die → Core → Item → Except Cause Eff) :
    (State.coreStepAt s c row f).life = s.life := by
  unfold State.coreStepAt
  dsimp only
  (repeat' split) <;> simp [*]
  refine State.fetchWord_life _ _ _ _ fun t => ?_
  split <;> simp

@[simp] theorem State.coreStep_life (s : State) (c : CoreRef) (op : Instr) (f : Die → Core → Item → Except Cause Eff) :
    (State.coreStep s c op f).life = s.life := State.coreStepAt_life s c _ f

@[simp] theorem State.coreStepChecked_life (s : State) (c : CoreRef) (op : Instr) (residueOk : Bool) (f : Die → Core → Item → Except Cause Eff) :
    (State.coreStepChecked s c op residueOk f).life = s.life := by
  unfold State.coreStepChecked
  dsimp only
  (repeat' split) <;> simp [*]

@[simp] theorem bodyConfigJoint_life (h : HostCmd) (d : DieId) (s : State) :
    (bodyConfigJoint h d s).1.life = s.life := by
  simp [bodyConfigJoint]

@[simp] theorem bodyConfigLimits_life (h : HostCmd) (d : DieId) (s : State) :
    (bodyConfigLimits h d s).1.life = s.life := by
  simp [bodyConfigLimits]

@[simp] theorem bodyConfigHoming_life (h : HostCmd) (d : DieId) (s : State) :
    (bodyConfigHoming h d s).1.life = s.life := by
  simp [bodyConfigHoming]

@[simp] theorem bodyConfigStandstill_life (h : HostCmd) (d : DieId) (s : State) :
    (bodyConfigStandstill h d s).1.life = s.life := by
  simp [bodyConfigStandstill]

@[simp] theorem bodyConfigFollowing_life (h : HostCmd) (d : DieId) (s : State) :
    (bodyConfigFollowing h d s).1.life = s.life := by
  simp [bodyConfigFollowing]

@[simp] theorem State.replaceDeferred_life (s : State) (d : DieId) (j : Fin 64) (tag : Nat) :
    (State.replaceDeferred s d j tag).life = s.life := by
  unfold State.replaceDeferred
  (repeat' split) <;> simp_all

@[simp] theorem State.enableJoint_life (s : State) (d : DieId) (j : Fin 64) (clear : Bool) (tag : Nat) :
    (State.enableJoint s d j clear tag).1.life = s.life := by
  unfold State.enableJoint
  dsimp only
  (repeat' split) <;> simp [*]

@[simp] theorem bodyJointEnable_life (h : HostCmd) (d : DieId) (s : State) :
    (bodyJointEnable h d s).1.life = s.life := by
  simp [bodyJointEnable]

@[simp] theorem bodyJointDisable_life (h : HostCmd) (d : DieId) (s : State) :
    (bodyJointDisable h d s).1.life = s.life := by
  simp [bodyJointDisable]

@[simp] theorem bodyJointStop_life (h : HostCmd) (d : DieId) (s : State) :
    (bodyJointStop h d s).1.life = s.life := by
  simp [bodyJointStop]

@[simp] theorem State.beginMotion_life (s : State) (d : DieId) (j : Fin 64) :
    (State.beginMotion s d j).life = s.life := by
  simp [State.beginMotion]

@[simp] theorem bodyMovePoint_life (h : HostCmd) (d : DieId) (s : State) :
    (bodyMovePoint h d s).1.life = s.life := by
  unfold bodyMovePoint
  dsimp only
  (repeat' split) <;> simp [*]

@[simp] theorem bodyMoveVelocity_life (h : HostCmd) (d : DieId) (s : State) :
    (bodyMoveVelocity h d s).1.life = s.life := by
  unfold bodyMoveVelocity
  dsimp only
  (repeat' split) <;> simp [*]

@[simp] theorem bodyStreamPoints_life (h : HostCmd) (d : DieId) (s : State) :
    (bodyStreamPoints h d s).1.life = s.life := by
  unfold bodyStreamPoints
  dsimp only
  (repeat' split) <;> simp [*]

@[simp] theorem bodyHome_life (h : HostCmd) (d : DieId) (s : State) :
    (bodyHome h d s).1.life = s.life := by
  simp [bodyHome]

@[simp] theorem bodyJointStatus_life (h : HostCmd) (d : DieId) (s : State) :
    (bodyJointStatus h d s).1.life = s.life := by
  simp [bodyJointStatus]

@[simp] theorem State.onRing_life (s : State) (r : Fin 8) (f : Ring → Ring) :
    (State.onRing s r f).life = s.life := by
  simp [State.onRing]

@[simp] theorem State.onNode_life (s : State) (r : Fin 8) (p : Fin 16) (f : RNode → RNode) :
    (State.onNode s r p f).life = s.life := by
  simp [State.onNode]

@[simp] theorem State.mirror_life (s : State) (slot : Nat) (p : List Byte) :
    (State.mirror s slot p).life = s.life := by
  simp [State.mirror]

@[simp] theorem State.setMerged_life (s : State) (r : Fin 8) (p : Fin 16) (part : List Byte) (age : Nat) :
    (State.setMerged s r p part age).life = s.life := by
  simp [State.setMerged]

@[simp] theorem State.repeatPart_life (s : State) (r : Fin 8) (p : Fin 16) :
    (State.repeatPart s r p).life = s.life := by
  simp [State.repeatPart]

@[simp] theorem State.ringVerdict_life (s : State) (r : Fin 8) :
    (State.ringVerdict s r).life = s.life := by
  simp [State.ringVerdict]

@[simp] theorem State.ringRepeat_life (s : State) (r : Fin 8) :
    (State.ringRepeat s r).life = s.life := by
  simp [State.ringRepeat]

@[simp] theorem State.ringSettle_life (s : State) (r : Fin 8) :
    (State.ringSettle s r).life = s.life := by
  simp [State.ringSettle]

@[simp] theorem State.ringsSettle_life (s : State) :
    (State.ringsSettle s).life = s.life := by
  simp [State.ringsSettle]

@[simp] theorem State.ringComplete_life (s : State) (r : Fin 8) :
    (State.ringComplete s r).life = s.life := by
  simp [State.ringComplete]

end Sys2Proof.Machine
end

