-- ==== Sys2Proof/Laws/LifeServo.lean ====
section
/-! SUPPORT. What leaves the life of the package alone, one lemma per operation: the servo core instructions. -/

namespace Sys2Proof.Machine

@[simp] theorem execAdd_life (c : CoreRef) (rd : Fin 16) (ra : Fin 16) (rb : Fin 16) (s : State) :
    lifeAfter (execAdd c rd ra rb s) s = s.life := by
  simp [execAdd]

@[simp] theorem execAdds_life (c : CoreRef) (rd : Fin 16) (ra : Fin 16) (rb : Fin 16) (s : State) :
    lifeAfter (execAdds c rd ra rb s) s = s.life := by
  simp [execAdds]

@[simp] theorem execSub_life (c : CoreRef) (rd : Fin 16) (ra : Fin 16) (rb : Fin 16) (s : State) :
    lifeAfter (execSub c rd ra rb s) s = s.life := by
  simp [execSub]

@[simp] theorem execSubs_life (c : CoreRef) (rd : Fin 16) (ra : Fin 16) (rb : Fin 16) (s : State) :
    lifeAfter (execSubs c rd ra rb s) s = s.life := by
  simp [execSubs]

@[simp] theorem execAnd_life (c : CoreRef) (rd : Fin 16) (ra : Fin 16) (rb : Fin 16) (s : State) :
    lifeAfter (execAnd c rd ra rb s) s = s.life := by
  simp [execAnd]

@[simp] theorem execOr_life (c : CoreRef) (rd : Fin 16) (ra : Fin 16) (rb : Fin 16) (s : State) :
    lifeAfter (execOr c rd ra rb s) s = s.life := by
  simp [execOr]

@[simp] theorem execXor_life (c : CoreRef) (rd : Fin 16) (ra : Fin 16) (rb : Fin 16) (s : State) :
    lifeAfter (execXor c rd ra rb s) s = s.life := by
  simp [execXor]

@[simp] theorem execShl_life (c : CoreRef) (rd : Fin 16) (ra : Fin 16) (rb : Fin 16) (s : State) :
    lifeAfter (execShl c rd ra rb s) s = s.life := by
  simp [execShl]

@[simp] theorem execShr_life (c : CoreRef) (rd : Fin 16) (ra : Fin 16) (rb : Fin 16) (s : State) :
    lifeAfter (execShr c rd ra rb s) s = s.life := by
  simp [execShr]

@[simp] theorem execSar_life (c : CoreRef) (rd : Fin 16) (ra : Fin 16) (rb : Fin 16) (s : State) :
    lifeAfter (execSar c rd ra rb s) s = s.life := by
  simp [execSar]

@[simp] theorem execMin_life (c : CoreRef) (rd : Fin 16) (ra : Fin 16) (rb : Fin 16) (s : State) :
    lifeAfter (execMin c rd ra rb s) s = s.life := by
  simp [execMin]

@[simp] theorem execMax_life (c : CoreRef) (rd : Fin 16) (ra : Fin 16) (rb : Fin 16) (s : State) :
    lifeAfter (execMax c rd ra rb s) s = s.life := by
  simp [execMax]

@[simp] theorem execMinu_life (c : CoreRef) (rd : Fin 16) (ra : Fin 16) (rb : Fin 16) (s : State) :
    lifeAfter (execMinu c rd ra rb s) s = s.life := by
  simp [execMinu]

@[simp] theorem execMaxu_life (c : CoreRef) (rd : Fin 16) (ra : Fin 16) (rb : Fin 16) (s : State) :
    lifeAfter (execMaxu c rd ra rb s) s = s.life := by
  simp [execMaxu]

@[simp] theorem execMov_life (c : CoreRef) (rd : Fin 16) (ra : Fin 16) (s : State) :
    lifeAfter (execMov c rd ra s) s = s.life := by
  simp [execMov]

@[simp] theorem execAbs_life (c : CoreRef) (rd : Fin 16) (ra : Fin 16) (s : State) :
    lifeAfter (execAbs c rd ra s) s = s.life := by
  simp [execAbs]

@[simp] theorem execNeg_life (c : CoreRef) (rd : Fin 16) (ra : Fin 16) (s : State) :
    lifeAfter (execNeg c rd ra s) s = s.life := by
  simp [execNeg]

@[simp] theorem execCmp_life (c : CoreRef) (ra : Fin 16) (rb : Fin 16) (s : State) :
    lifeAfter (execCmp c ra rb s) s = s.life := by
  simp [execCmp]

@[simp] theorem execTst_life (c : CoreRef) (ra : Fin 16) (rb : Fin 16) (s : State) :
    lifeAfter (execTst c ra rb s) s = s.life := by
  simp [execTst]

@[simp] theorem execMul_life (c : CoreRef) (rd : Fin 16) (ra : Fin 16) (rb : Fin 16) (residueOk : Bool) (s : State) :
    lifeAfter (execMul c rd ra rb residueOk s) s = s.life := by
  simp [execMul]

@[simp] theorem execClz_life (c : CoreRef) (rd : Fin 16) (ra : Fin 16) (s : State) :
    lifeAfter (execClz c rd ra s) s = s.life := by
  simp [execClz]

@[simp] theorem execAddi_life (c : CoreRef) (rd : Fin 16) (ra : Fin 16) (imm : BitVec 18) (s : State) :
    lifeAfter (execAddi c rd ra imm s) s = s.life := by
  simp [execAddi]

@[simp] theorem execAndi_life (c : CoreRef) (rd : Fin 16) (ra : Fin 16) (imm : BitVec 18) (s : State) :
    lifeAfter (execAndi c rd ra imm s) s = s.life := by
  simp [execAndi]

@[simp] theorem execOri_life (c : CoreRef) (rd : Fin 16) (ra : Fin 16) (imm : BitVec 18) (s : State) :
    lifeAfter (execOri c rd ra imm s) s = s.life := by
  simp [execOri]

@[simp] theorem execXori_life (c : CoreRef) (rd : Fin 16) (ra : Fin 16) (imm : BitVec 18) (s : State) :
    lifeAfter (execXori c rd ra imm s) s = s.life := by
  simp [execXori]

@[simp] theorem execCmpi_life (c : CoreRef) (ra : Fin 16) (imm : BitVec 18) (s : State) :
    lifeAfter (execCmpi c ra imm s) s = s.life := by
  simp [execCmpi]

@[simp] theorem execShli_life (c : CoreRef) (rd : Fin 16) (ra : Fin 16) (amount : BitVec 5) (s : State) :
    lifeAfter (execShli c rd ra amount s) s = s.life := by
  simp [execShli]

@[simp] theorem execShri_life (c : CoreRef) (rd : Fin 16) (ra : Fin 16) (amount : BitVec 5) (s : State) :
    lifeAfter (execShri c rd ra amount s) s = s.life := by
  simp [execShri]

@[simp] theorem execSari_life (c : CoreRef) (rd : Fin 16) (ra : Fin 16) (amount : BitVec 5) (s : State) :
    lifeAfter (execSari c rd ra amount s) s = s.life := by
  simp [execSari]

@[simp] theorem execMovi_life (c : CoreRef) (rd : Fin 16) (imm : BitVec 16) (s : State) :
    lifeAfter (execMovi c rd imm s) s = s.life := by
  simp [execMovi]

@[simp] theorem execMovhi_life (c : CoreRef) (rd : Fin 16) (imm : BitVec 16) (s : State) :
    lifeAfter (execMovhi c rd imm s) s = s.life := by
  simp [execMovhi]

@[simp] theorem execMovf_life (c : CoreRef) (rd : Fin 16) (s : State) :
    lifeAfter (execMovf c rd s) s = s.life := by
  simp [execMovf]

@[simp] theorem execSetf_life (c : CoreRef) (rd : Fin 16) (s : State) :
    lifeAfter (execSetf c rd s) s = s.life := by
  simp [execSetf]

@[simp] theorem execSysNop_life (c : CoreRef) (s : State) :
    lifeAfter (execSysNop c s) s = s.life := by
  simp [execSysNop]

@[simp] theorem State.readOperand_life (s : State) (c : CoreRef) (i : Item) (owner : ArrayOwner) (check : ReadCheck) (go : State → State)
    (h : ∀ t : State, (go t).life = t.life) : (State.readOperand s c i owner check go).life = s.life := by
  unfold State.readOperand
  dsimp only
  (repeat' split) <;> simp [h]

@[simp] theorem State.scan_life (s : State) (c : CoreRef) (op : Instr) (p : Fin 8) (f : Die → Core → Item → Except Cause Eff) :
    (State.scan s c op p f).life = s.life := by
  unfold State.scan
  (repeat' split) <;> simp

@[simp] theorem execLd_life (c : CoreRef) (r : Fin 16) (p : Fin 8) (m : AddrMode) (sz : MemSize) (check : ReadCheck) (s : State) :
    lifeAfter (execLd c r p m sz check s) s = s.life := by
  unfold execLd
  dsimp only
  (repeat' split) <;> simp [*]

@[simp] theorem execSt_life (c : CoreRef) (r : Fin 16) (p : Fin 8) (m : AddrMode) (sz : MemSize) (s : State) :
    lifeAfter (execSt c r p m sz s) s = s.life := by
  simp [execSt]

@[simp] theorem execMpy_life (c : CoreRef) (acc : Fin 4) (ra : Fin 16) (rb : Fin 16) (mode : MulMode) (residueOk : Bool) (s : State) :
    lifeAfter (execMpy c acc ra rb mode residueOk s) s = s.life := by
  simp [execMpy]

@[simp] theorem execMac_life (c : CoreRef) (acc : Fin 4) (ra : Fin 16) (rb : Fin 16) (mode : MulMode) (residueOk : Bool) (s : State) :
    lifeAfter (execMac c acc ra rb mode residueOk s) s = s.life := by
  simp [execMac]

@[simp] theorem execMsu_life (c : CoreRef) (acc : Fin 4) (ra : Fin 16) (rb : Fin 16) (mode : MulMode) (residueOk : Bool) (s : State) :
    lifeAfter (execMsu c acc ra rb mode residueOk s) s = s.life := by
  simp [execMsu]

@[simp] theorem execAclr_life (c : CoreRef) (acc : Fin 4) (s : State) :
    lifeAfter (execAclr c acc s) s = s.life := by
  simp [execAclr]

@[simp] theorem execAmov_life (c : CoreRef) (acc : Fin 4) (accb : Fin 4) (s : State) :
    lifeAfter (execAmov c acc accb s) s = s.life := by
  simp [execAmov]

@[simp] theorem execAadd_life (c : CoreRef) (acc : Fin 4) (accb : Fin 4) (s : State) :
    lifeAfter (execAadd c acc accb s) s = s.life := by
  simp [execAadd]

@[simp] theorem execAsub_life (c : CoreRef) (acc : Fin 4) (accb : Fin 4) (s : State) :
    lifeAfter (execAsub c acc accb s) s = s.life := by
  simp [execAsub]

@[simp] theorem execAneg_life (c : CoreRef) (acc : Fin 4) (s : State) :
    lifeAfter (execAneg c acc s) s = s.life := by
  simp [execAneg]

@[simp] theorem execAshr_life (c : CoreRef) (acc : Fin 4) (sh : BitVec 6) (s : State) :
    lifeAfter (execAshr c acc sh s) s = s.life := by
  simp [execAshr]

@[simp] theorem execAshl_life (c : CoreRef) (acc : Fin 4) (sh : BitVec 6) (s : State) :
    lifeAfter (execAshl c acc sh s) s = s.life := by
  simp [execAshl]

@[simp] theorem execAset_life (c : CoreRef) (acc : Fin 4) (rd : Fin 16) (sh : BitVec 6) (s : State) :
    lifeAfter (execAset c acc rd sh s) s = s.life := by
  simp [execAset]

@[simp] theorem execAsetp_life (c : CoreRef) (acc : Fin 4) (rd : Fin 16) (sh : BitVec 6) (s : State) :
    lifeAfter (execAsetp c acc rd sh s) s = s.life := by
  simp [execAsetp]

@[simp] theorem execSta_life (c : CoreRef) (rd : Fin 16) (acc : Fin 4) (sh : BitVec 6) (s : State) :
    lifeAfter (execSta c rd acc sh s) s = s.life := by
  simp [execSta]

@[simp] theorem execStal_life (c : CoreRef) (rd : Fin 16) (acc : Fin 4) (sh : BitVec 6) (s : State) :
    lifeAfter (execStal c rd acc sh s) s = s.life := by
  simp [execStal]

@[simp] theorem execStah_life (c : CoreRef) (rd : Fin 16) (acc : Fin 4) (sh : BitVec 6) (s : State) :
    lifeAfter (execStah c rd acc sh s) s = s.life := by
  simp [execStah]

@[simp] theorem execDiva_life (c : CoreRef) (rd : Fin 16) (acc : Fin 4) (rb : Fin 16) (s : State) :
    lifeAfter (execDiva c rd acc rb s) s = s.life := by
  simp [execDiva]

@[simp] theorem execPseti_life (c : CoreRef) (p : Fin 8) (imm : BitVec 23) (s : State) :
    lifeAfter (execPseti c p imm s) s = s.life := by
  simp [execPseti]

@[simp] theorem execPaddi_life (c : CoreRef) (p : Fin 8) (imm : BitVec 23) (s : State) :
    lifeAfter (execPaddi c p imm s) s = s.life := by
  simp [execPaddi]

@[simp] theorem execPset_life (c : CoreRef) (p : Fin 8) (r : Fin 16) (s : State) :
    lifeAfter (execPset c p r s) s = s.life := by
  simp [execPset]

@[simp] theorem execPget_life (c : CoreRef) (r : Fin 16) (p : Fin 8) (s : State) :
    lifeAfter (execPget c r p s) s = s.life := by
  simp [execPget]

@[simp] theorem execPmov_life (c : CoreRef) (p : Fin 8) (q : Fin 8) (s : State) :
    lifeAfter (execPmov c p q s) s = s.life := by
  simp [execPmov]

@[simp] theorem execPadd_life (c : CoreRef) (p : Fin 8) (r : Fin 16) (s : State) :
    lifeAfter (execPadd c p r s) s = s.life := by
  simp [execPadd]

@[simp] theorem execCbset_life (c : CoreRef) (cb : Fin 4) (p : Fin 8) (r : Fin 16) (s : State) :
    lifeAfter (execCbset c cb p r s) s = s.life := by
  simp [execCbset]

@[simp] theorem execMini_life (c : CoreRef) (rd : Fin 16) (ri : Fin 16) (p : Fin 8) (rn : Fin 16) (uns : Bool) (s : State) :
    lifeAfter (execMini c rd ri p rn uns s) s = s.life := by
  simp [execMini]

@[simp] theorem execMaxi_life (c : CoreRef) (rd : Fin 16) (ri : Fin 16) (p : Fin 8) (rn : Fin 16) (uns : Bool) (s : State) :
    lifeAfter (execMaxi c rd ri p rn uns s) s = s.life := by
  simp [execMaxi]

@[simp] theorem execBcc_life (c : CoreRef) (cond : BitVec 4) (off : BitVec 22) (s : State) :
    lifeAfter (execBcc c cond off s) s = s.life := by
  simp [execBcc]

@[simp] theorem execCall_life (c : CoreRef) (target : BitVec 10) (s : State) :
    lifeAfter (execCall c target s) s = s.life := by
  simp [execCall]

@[simp] theorem execRet_life (c : CoreRef) (s : State) :
    lifeAfter (execRet c s) s = s.life := by
  simp [execRet]

@[simp] theorem execLoop_life (c : CoreRef) (fromReg : Bool) (ra : Fin 16) (count : BitVec 10) (last : BitVec 11) (s : State) :
    lifeAfter (execLoop c fromReg ra count last s) s = s.life := by
  simp [execLoop]

@[simp] theorem execFaultOp_life (c : CoreRef) (code : Byte) (s : State) :
    lifeAfter (execFaultOp c code s) s = s.life := by
  simp [execFaultOp]

end Sys2Proof.Machine
end

