-- ==== Sys2Proof/Laws/LifeControl.lean ====
section
/-! SUPPORT. What leaves the life of the package alone, one lemma per operation: control, the dispatcher, separation and the Juggler. -/

namespace Sys2Proof.Machine

@[simp] theorem bodyConfigControl_life (h : HostCmd) (d : DieId) (s : State) :
    (bodyConfigControl h d s).1.life = s.life := by
  simp [bodyConfigControl]

@[simp] theorem bodyConfigFilter_life (h : HostCmd) (d : DieId) (s : State) :
    (bodyConfigFilter h d s).1.life = s.life := by
  simp [bodyConfigFilter]

@[simp] theorem bodyConfigFeedforward_life (h : HostCmd) (d : DieId) (s : State) :
    (bodyConfigFeedforward h d s).1.life = s.life := by
  simp [bodyConfigFeedforward]

@[simp] theorem bodyConfigFeedback_life (h : HostCmd) (d : DieId) (s : State) :
    (bodyConfigFeedback h d s).1.life = s.life := by
  simp [bodyConfigFeedback]

@[simp] theorem bodyTableWrite_life (h : HostCmd) (d : DieId) (s : State) :
    (bodyTableWrite h d s).1.life = s.life := by
  unfold bodyTableWrite
  dsimp only
  (repeat' split) <;> simp [*]

@[simp] theorem bodyTableRead_life (h : HostCmd) (d : DieId) (s : State) :
    (bodyTableRead h d s).1.life = s.life := by
  unfold bodyTableRead
  dsimp only
  (repeat' split) <;> simp [*]

@[simp] theorem bodyExtTorque_life (h : HostCmd) (d : DieId) (s : State) :
    (bodyExtTorque h d s).1.life = s.life := by
  simp [bodyExtTorque]

@[simp] theorem bodyControlStatus_life (h : HostCmd) (d : DieId) (s : State) :
    (bodyControlStatus h d s).1.life = s.life := by
  simp [bodyControlStatus]

@[simp] theorem State.showPeriod_life (s : State) (d : DieId) :
    (State.showPeriod s d).life = s.life := by
  simp [State.showPeriod]

@[simp] theorem execGeneratorAdvance_life (d : DieId) (j : Fin 64) (s : State) :
    lifeAfter (execGeneratorAdvance d j s) s = s.life := by
  simp [execGeneratorAdvance]

@[simp] theorem State.writeCtrlFlags_life (s : State) (d : DieId) (j : Fin 64) :
    (State.writeCtrlFlags s d j).life = s.life := by
  simp [State.writeCtrlFlags]

@[simp] theorem execFeedbackLost_life (d : DieId) (j : Fin 64) (s : State) :
    lifeAfter (execFeedbackLost d j s) s = s.life := by
  simp [execFeedbackLost]

@[simp] theorem execFeedbackFrozen_life (d : DieId) (j : Fin 64) (s : State) :
    lifeAfter (execFeedbackFrozen d j s) s = s.life := by
  simp [execFeedbackFrozen]

@[simp] theorem execExtTorqueStale_life (d : DieId) (j : Fin 64) (s : State) :
    lifeAfter (execExtTorqueStale d j s) s = s.life := by
  simp [execExtTorqueStale]

@[simp] theorem execExtTorqueFaded_life (d : DieId) (j : Fin 64) (s : State) :
    lifeAfter (execExtTorqueFaded d j s) s = s.life := by
  simp [execExtTorqueFaded]

@[simp] theorem execTableCopyDone_life (d : DieId) (j : Fin 64) (friction : Bool) (s : State) :
    lifeAfter (execTableCopyDone d j friction s) s = s.life := by
  simp [execTableCopyDone]

@[simp] theorem execHomeEvent_life (d : DieId) (j : Fin 64) (s : State) :
    lifeAfter (execHomeEvent d j s) s = s.life := by
  unfold execHomeEvent
  dsimp only
  (repeat' split) <;> simp [*]

@[simp] theorem execItemRelease_life (d : DieId) (entry : Fin 1024) (s : State) :
    lifeAfter (execItemRelease d entry s) s = s.life := by
  unfold execItemRelease
  dsimp only
  (repeat' split) <;> simp [*]

@[simp] theorem execPrefetchDone_life (d : DieId) (core : Fin 32) (s : State) :
    lifeAfter (execPrefetchDone d core s) s = s.life := by
  simp [execPrefetchDone]

@[simp] theorem execExit_life (c : CoreRef) (s : State) :
    lifeAfter (execExit c s) s = s.life := by
  simp [execExit]

@[simp] theorem State.applyOutputs_life (s : State) (d : DieId) (i : Item) (blocks : Memory) (out : List (Nat × List Byte)) (ctl : Option (Nat × Control)) :
    (State.applyOutputs s d i blocks out ctl).life = s.life := by
  unfold State.applyOutputs
  extract_lets go s1
  have h0 : (out.foldl go s).life = s.life := by
    refine foldl_life _ _ _ fun s a => ?_
    simp only [go]
    (repeat' split) <;> simp
  have h1 : s1.life = s.life := by simp [s1, h0]
  (repeat' split) <;> simp [h1]

@[simp] theorem State.exchangeHalves_life (s : State) (d : DieId) (i : Item) : (State.exchangeHalves s d i).life = s.life := by
  unfold State.exchangeHalves
  split <;> simp

@[simp] theorem State.itemLate_life (s : State) (d : DieId) (cls : Nat) (entry : Nat) :
    (State.itemLate s d cls entry).life = s.life := by
  simp [State.itemLate]

@[simp] theorem execItemComplete_life (d : DieId) (core : Fin 32) (s : State) :
    lifeAfter (execItemComplete d core s) s = s.life := by
  unfold execItemComplete
  extract_lets x k
  split
  · rfl
  · split
    · split
      · rfl
      · extract_lets ok s1 s2 s3 s4 s5 s6 r s7 s8 s9
        have h2 : s2.life = s.life := by simp only [s2]; split <;> simp [s1]
        have h3 : s3.life = s2.life := by simp only [s3]; split <;> simp
        have h4 : s4.life = s3.life := by simp [s4]
        have h5 : s5.life = s4.life := by simp only [s5]; split <;> simp
        have h6 : s6.life = s5.life := by simp [s6]
        have h7 : s7.life = s6.life := by simp [s7, r]
        have h8 : s8.life = s7.life := by simp [s8]
        have h9 : s9.life = s8.life := by simp [s9]
        simp [h2, h3, h4, h5, h6, h7, h8, h9]
    · rfl

@[simp] theorem State.dropInst_life (s : State) (d : DieId) (i : Inst) (e : ProgEntry) :
    (State.dropInst s d i e).life = s.life := by
  unfold State.dropInst
  dsimp only
  (repeat' split) <;> simp [*]

@[simp] theorem execItemDrop_life (d : DieId) (entry : Fin 1024) (s : State) :
    lifeAfter (execItemDrop d entry s) s = s.life := by
  unfold execItemDrop
  dsimp only
  (repeat' split) <;> simp [*]

@[simp] theorem execStateRepair_life (d : DieId) (entry : Fin 1024) (s : State) :
    lifeAfter (execStateRepair d entry s) s = s.life := by
  unfold execStateRepair
  dsimp only
  (repeat' split) <;> simp [*]

@[simp] theorem State.rehome_life (s : State) (d : DieId) :
    (State.rehome s d).life = s.life := by
  unfold State.rehome
  dsimp only
  (repeat' split) <;> simp [*]

@[simp] theorem execReadmission_life (d : DieId) (s : State) :
    lifeAfter (execReadmission d s) s = s.life := by
  unfold execReadmission
  dsimp only
  (repeat' split) <;> simp [*]

@[simp] theorem State.stageAdmitted_life (s : State) (d : DieId) (c : Cfg) (result : Admit → List Byte) :
    (State.stageAdmitted s d c result).1.life = s.life := by
  simp [State.stageAdmitted]

@[simp] theorem bodyCodeLoad_life (h : HostCmd) (d : DieId) (s : State) :
    (bodyCodeLoad h d s).1.life = s.life := by
  unfold bodyCodeLoad
  dsimp only
  (repeat' split) <;> simp [*]

@[simp] theorem bodyConfigProgram_life (h : HostCmd) (d : DieId) (s : State) :
    (bodyConfigProgram h d s).1.life = s.life := by
  unfold bodyConfigProgram
  dsimp only
  (repeat' split) <;> simp [*]

@[simp] theorem bodyProgramRead_life (h : HostCmd) (d : DieId) (s : State) :
    (bodyProgramRead h d s).1.life = s.life := by
  unfold bodyProgramRead
  dsimp only
  (repeat' split) <;> simp [*]

@[simp] theorem bodyTraceOpen_life (h : HostCmd) (d : DieId) (s : State) :
    (bodyTraceOpen h d s).1.life = s.life := by
  unfold bodyTraceOpen
  dsimp only
  (repeat' split) <;> simp [*]

@[simp] theorem bodyTraceClose_life (_h : HostCmd) (d : DieId) (s : State) :
    (bodyTraceClose _h d s).1.life = s.life := by
  unfold bodyTraceClose
  dsimp only
  (repeat' split) <;> simp [*]

@[simp] theorem bodyDispatchStatus_life (h : HostCmd) (d : DieId) (s : State) :
    (bodyDispatchStatus h d s).1.life = s.life := by
  simp [bodyDispatchStatus]

@[simp] theorem State.onSep_life (s : State) (d : DieId) (f : Sep → Sep) :
    (State.onSep s d f).life = s.life := by
  simp [State.onSep]

@[simp] theorem State.arbitrate_life (s : State) (d : DieId) :
    (State.arbitrate s d).life = s.life := by
  refine foldl_life _ _ _ fun s a => ?_
  dsimp only
  split <;> simp

@[simp] theorem State.sensorStep_life (s : State) (d : DieId) (tCut : Nat) (b0 : Nat) (n : Fin 32) :
    (State.sensorStep s d tCut b0 n).life = s.life := by
  simp [State.sensorStep]

@[simp] theorem State.sepStart_life (s : State) (d : DieId) :
    (State.sepStart s d).life = s.life := by
  simp [State.sepStart]

@[simp] theorem State.sepDue_life (s : State) (d : DieId) :
    (State.sepDue s d).life = s.life := by
  unfold State.sepDue
  dsimp only
  (repeat' split) <;> simp [*]

@[simp] theorem State.sepLatch_life (s : State) (d : DieId) :
    (State.sepLatch s d).life = s.life := by
  simp [State.sepLatch]

@[simp] theorem State.requestStop_life (s : State) (d : DieId) (a : Fin 8) (cat : Nat) (cause : Nat) :
    (State.requestStop s d a cat cause).life = s.life := by
  simp [State.requestStop]

@[simp] theorem State.failAgain_life (s : State) (d : DieId) (a : Fin 8) (t : Nat) :
    (State.failAgain s d a t).life = s.life := by
  simp [State.failAgain]

@[simp] theorem State.testArm_life (s : State) (d : DieId) (caps : List Cap) (ps : List PairOut) (cy : SepCycle) (a : Fin 8) :
    (State.testArm s d caps ps cy a).life = s.life := by
  simp [State.testArm]

@[simp] theorem execSepCycleCompute_life (d : DieId) (s : State) :
    lifeAfter (execSepCycleCompute d s) s = s.life := by
  unfold execSepCycleCompute
  dsimp only
  (repeat' split) <;> simp [*]

@[simp] theorem State.sepMismatch_life (s : State) (d : DieId) (b : Nat) (m : Nat × Nat × Nat × Nat × Nat) :
    (State.sepMismatch s d b m).life = s.life := by
  simp [State.sepMismatch]

@[simp] theorem execSepResultExchange_life (d : DieId) (s : State) :
    lifeAfter (execSepResultExchange d s) s = s.life := by
  unfold execSepResultExchange
  dsimp only
  (repeat' split) <;> simp [*]

@[simp] theorem execSepCombinedResult_life (d : DieId) (s : State) :
    lifeAfter (execSepCombinedResult d s) s = s.life := by
  unfold execSepCombinedResult
  dsimp only
  (repeat' split) <;> simp [*]

@[simp] theorem State.applySepArm_life (s : State) (d : DieId) (a : Fin 8) (o : SepOut) :
    (State.applySepArm s d a o).life = s.life := by
  unfold State.applySepArm
  dsimp only
  (repeat' split) <;> simp [*]

@[simp] theorem State.sepApply_life (s : State) (d : DieId) (cy : SepCycle) (outs : List SepOut) (single : Bool) :
    (State.sepApply s d cy outs single).life = s.life := by
  simp [State.sepApply]

@[simp] theorem State.sepLate_life (s : State) (d : DieId) :
    (State.sepLate s d).life = s.life := by
  simp [State.sepLate]

@[simp] theorem State.sepFinish_life (s : State) (d : DieId) :
    (State.sepFinish s d).life = s.life := by
  unfold State.sepFinish
  dsimp only
  (repeat' split) <;> simp [*]

@[simp] theorem State.sepBoundary_life (s : State) (d : DieId) :
    (State.sepBoundary s d).life = s.life := by
  simp [State.sepBoundary]

@[simp] theorem State.sepTrack_life (s : State) (d : DieId) :
    (State.sepTrack s d).life = s.life := by
  simp [State.sepTrack]

@[simp] theorem execStopRequestRelease_life (d : DieId) (a : Fin 8) (s : State) :
    lifeAfter (execStopRequestRelease d a s) s = s.life := by
  simp [execStopRequestRelease]

@[simp] theorem State.openStream_life (s : State) (d : DieId) (opcode : Nat) (h : HostCmd) (args : List Nat) :
    (State.openStream s d opcode h args).life = s.life := by
  simp [State.openStream]

@[simp] theorem State.closeStream_life (s : State) (d : DieId) (opcode : Nat) (target : Word) :
    (State.closeStream s d opcode target).life = s.life := by
  simp [State.closeStream]

@[simp] theorem State.configGated_life (s : State) (d : DieId) (check : Option Nat) (units : List UnitId) (admitted : Cfg → Bool) (f : Cfg → Cfg) :
    (State.configGated s d check units admitted f).1.life = s.life := by
  unfold State.configGated
  dsimp only
  (repeat' split) <;> simp [*]

@[simp] theorem bodyConfigGeometry_life (h : HostCmd) (d : DieId) (s : State) :
    (bodyConfigGeometry h d s).1.life = s.life := by
  simp [bodyConfigGeometry]

@[simp] theorem bodyConfigKinematics_life (h : HostCmd) (d : DieId) (s : State) :
    (bodyConfigKinematics h d s).1.life = s.life := by
  unfold bodyConfigKinematics
  dsimp only
  (repeat' split) <;> simp [*]

@[simp] theorem bodyConfigSsmParams_life (h : HostCmd) (d : DieId) (s : State) :
    (bodyConfigSsmParams h d s).1.life = s.life := by
  unfold bodyConfigSsmParams
  dsimp only
  (repeat' split) <;> simp [*]

@[simp] theorem bodyConfigSensor_life (h : HostCmd) (d : DieId) (s : State) :
    (bodyConfigSensor h d s).1.life = s.life := by
  unfold bodyConfigSensor
  dsimp only
  (repeat' split) <;> simp [*]

@[simp] theorem bodyConfigZone_life (h : HostCmd) (d : DieId) (s : State) :
    (bodyConfigZone h d s).1.life = s.life := by
  simp [bodyConfigZone]

@[simp] theorem State.onZone_life (s : State) (d : DieId) (z : Fin 64) (f : Zone → Zone) :
    (State.onZone s d z f).life = s.life := by
  simp [State.onZone]

@[simp] theorem bodyZoneRequest_life (h : HostCmd) (d : DieId) (s : State) :
    (bodyZoneRequest h d s).1.life = s.life := by
  unfold bodyZoneRequest
  dsimp only
  (repeat' split) <;> simp [*]

@[simp] theorem bodyZoneRelease_life (h : HostCmd) (d : DieId) (s : State) :
    (bodyZoneRelease h d s).1.life = s.life := by
  unfold bodyZoneRelease
  dsimp only
  (repeat' split) <;> simp [*]

@[simp] theorem bodySepStatus_life (_h : HostCmd) (d : DieId) (s : State) :
    (bodySepStatus _h d s).1.life = s.life := by
  simp [bodySepStatus]

@[simp] theorem bodySepStream_life (h : HostCmd) (d : DieId) (s : State) :
    (bodySepStream h d s).1.life = s.life := by
  simp [bodySepStream]

@[simp] theorem State.sightReject_life (s : State) (sensor : Nat) (cause : Nat) (port : Nat) (p : List Byte) :
    (State.sightReject s sensor cause port p).life = s.life := by
  simp [State.sightReject]

@[simp] theorem State.onSight_life (s : State) (n : Fin 32) (f : SensorIn → SensorIn) :
    (State.onSight s n f).life = s.life := by
  simp [State.onSight]

@[simp] theorem State.sightFragment_life (s : State) (n : Fin 32) (port : Nat) (p : List Byte) (time : Nat) :
    (State.sightFragment s n port p time).life = s.life := by
  simp [State.sightFragment]

@[simp] theorem State.takeSight_life (s : State) (port : Nat) (p : List Byte) :
    (State.takeSight s port p).life = s.life := by
  unfold State.takeSight
  dsimp only
  (repeat' split) <;> simp [*]

@[simp] theorem execSightDatagram_life (udpPort : BitVec 16) (bytes : List Byte) (s : State) :
    lifeAfter (execSightDatagram udpPort bytes s) s = s.life := by
  simp [execSightDatagram]

@[simp] theorem State.onPeer_life (s : State) (p : Fin 4) (f : Peer → Peer) :
    (State.onPeer s p f).life = s.life := by
  simp [State.onPeer]

@[simp] theorem State.takeZone_life (s : State) (bytes : List Byte) :
    (State.takeZone s bytes).life = s.life := by
  unfold State.takeZone
  dsimp only
  (repeat' split) <;> simp [*]

@[simp] theorem execZoneMessage_life (bytes : List Byte) (s : State) :
    lifeAfter (execZoneMessage bytes s) s = s.life := by
  simp [execZoneMessage]

@[simp] theorem State.onJug_life (s : State) (d : DieId) (f : Juggler → Juggler) :
    (State.onJug s d f).life = s.life := by
  simp [State.onJug]

@[simp] theorem State.solveStart_life (s : State) (d : DieId) :
    (State.solveStart s d).life = s.life := by
  simp [State.solveStart]

@[simp] theorem State.solveRecord_life (s : State) (d : DieId) (p : Nat) (flags : Nat) (dropped : Nat) (report : List Byte) :
    (State.solveRecord s d p flags dropped report).life = s.life := by
  simp [State.solveRecord]

@[simp] theorem State.solveEnd_life (s : State) (d : DieId) (chosen : Option Checkpoint) (behind : optParam Bool false) :
    (State.solveEnd s d chosen behind).life = s.life := by
  unfold State.solveEnd
  dsimp only
  (repeat' split) <;> simp [*]

@[simp] theorem State.missedSolve_life (s : State) (d : DieId) :
    (State.missedSolve s d).life = s.life := by
  simp [State.missedSolve]

@[simp] theorem State.solveNonfinite_life (s : State) (d : DieId) :
    (State.solveNonfinite s d).life = s.life := by
  simp [State.solveNonfinite]

@[simp] theorem State.abftDetected_life (s : State) (d : DieId) (k : Nat) (fails : Bool) (injected : Bool) :
    (State.abftDetected s d k fails injected).life = s.life := by
  simp [State.abftDetected]

@[simp] theorem State.useJuggler_life (s : State) (d : DieId) :
    (State.useJuggler s d).1.life = s.life := by
  simp [State.useJuggler]

@[simp] theorem execFactorisationDone_life (d : DieId) (mismatch : Option (Fin 4)) (s : State) :
    lifeAfter (execFactorisationDone d mismatch s) s = s.life := by
  unfold execFactorisationDone
  split
  · rfl
  · split
    · rfl
    · split
      · simp
      · extract_lets s1 c0 c hit s2 inj k t fits s3
        have h2 : s2.life = s.life := by simp [s2, hit, s1]
        have h3 : s3.life = s.life := by
          simp only [s3]
          split <;> simp [h2]
        clear_value s3 s2 inj k hit
        split
        · split <;> simp [h2]
        · split <;> simp [h3]

@[simp] theorem execCheckpoint_life (d : DieId) (s : State) :
    lifeAfter (execCheckpoint d s) s = s.life := by
  unfold execCheckpoint
  split
  · rfl
  · rename_i sol _
    extract_lets c follows s1 iter
    generalize (sol.iterates (max 1 c.checkEvery) sol.cur).bind (sol.checkpoint iter) = o
    have h1 : s1.life = s.life := by simp [s1]
    clear_value s1 iter
    cases o with
    | none => (repeat' split) <;> simp [h1]
    | some k => (repeat' split) <;> simp [h1]

@[simp] theorem execCheckpointReport_life (d : DieId) (k : Nat) (s : State) :
    lifeAfter (execCheckpointReport d k s) s = s.life := by
  unfold execCheckpointReport
  dsimp only
  (repeat' split) <;> simp [*]

@[simp] theorem State.takeFlierPlan_life (s : State) (d : DieId) (sol : Solve) (f : Juggler) (behind : Bool) :
    (State.takeFlierPlan s d sol f behind).life = s.life := by
  simp [State.takeFlierPlan]

@[simp] theorem execChosenCheckpoint_life (d : DieId) (k : Nat) (s : State) :
    lifeAfter (execChosenCheckpoint d k s) s = s.life := by
  unfold execChosenCheckpoint
  dsimp only
  (repeat' split) <;> simp [*]

@[simp] theorem execJugglerDeadline_life (d : DieId) (s : State) :
    lifeAfter (execJugglerDeadline d s) s = s.life := by
  unfold execJugglerDeadline
  dsimp only
  (repeat' split) <;> simp [*]

@[simp] theorem execCatcherBehind_life (d : DieId) (s : State) :
    lifeAfter (execCatcherBehind d s) s = s.life := by
  unfold execCatcherBehind
  dsimp only
  (repeat' split) <;> simp [*]

@[simp] theorem State.jugglerBoundary_life (s : State) (d : DieId) :
    (State.jugglerBoundary s d).life = s.life := by
  simp [State.jugglerBoundary]

@[simp] theorem State.jugglerDue_life (s : State) (d : DieId) :
    (State.jugglerDue s d).life = s.life := by
  simp [State.jugglerDue]

@[simp] theorem bodyConfigJuggler_life (h : HostCmd) (d : DieId) (s : State) :
    (bodyConfigJuggler h d s).1.life = s.life := by
  unfold bodyConfigJuggler
  dsimp only
  (repeat' split) <;> simp [*]

@[simp] theorem bodyConfigWeights_life (h : HostCmd) (d : DieId) (s : State) :
    (bodyConfigWeights h d s).1.life = s.life := by
  simp [bodyConfigWeights]

@[simp] theorem bodyReferenceLoad_life (h : HostCmd) (d : DieId) (s : State) :
    (bodyReferenceLoad h d s).1.life = s.life := by
  unfold bodyReferenceLoad
  dsimp only
  (repeat' split) <;> simp [*]

@[simp] theorem bodyConfigRows_life (h : HostCmd) (d : DieId) (s : State) :
    (bodyConfigRows h d s).1.life = s.life := by
  simp [bodyConfigRows]

@[simp] theorem bodyJugglerStatus_life (_h : HostCmd) (d : DieId) (s : State) :
    (bodyJugglerStatus _h d s).1.life = s.life := by
  simp [bodyJugglerStatus]

@[simp] theorem bodyPlanRead_life (h : HostCmd) (d : DieId) (s : State) :
    (bodyPlanRead h d s).1.life = s.life := by
  unfold bodyPlanRead
  dsimp only
  (repeat' split) <;> simp [*]

@[simp] theorem bodyPlanStream_life (h : HostCmd) (d : DieId) (s : State) :
    (bodyPlanStream h d s).1.life = s.life := by
  simp [bodyPlanStream]

end Sys2Proof.Machine
end

