-- ==== Sys2Proof/Laws/LifeField.lean ====
section
/-! SUPPORT. What leaves the life of the package alone, one lemma per operation: rings, field I/O, time and the network. -/

namespace Sys2Proof.Machine

@[simp] theorem State.post_life (s : State) (r : Fin 8) (p : Fin 16) (type_ : Nat) (retry : Nat) (payload : List Byte) (report : optParam (Option Nat) none) :
    (State.post s r p type_ retry payload report).life = s.life := by
  simp [State.post]

@[simp] theorem State.idleTurn_life (s : State) (r : Fin 8) :
    (State.idleTurn s r).1.life = s.life := by
  simp [State.idleTurn]

@[simp] theorem State.masterTurn_life (s : State) (r : Fin 8) :
    (State.masterTurn s r).1.life = s.life := by
  unfold State.masterTurn
  dsimp only
  (repeat' split) <;> simp [*]

@[simp] theorem State.ringAssign_life (s : State) (r : Fin 8) :
    (State.ringAssign s r).life = s.life := by
  unfold State.ringAssign
  extract_lets x bad wrong slow s1 s2 s3 go
  have h1 : s1.life = s.life := by simp [s1]
  have h2 : s2.life = s1.life := by simp [s2]
  have h3 : s3.life = s2.life := by simp [s3]
  have h4 : ∀ l : List (Fin 16), (l.foldl go (s3, false)).1.life = s3.life := fun l => foldl_life_fst _ _ _ fun s a => by
    simp only [go]
    repeat' split
    all_goals simp
  split
  · rfl
  · split <;> simp [h1, h2, h3, h4]

@[simp] theorem execRingDataStart_life (ring : Fin 8) (s : State) :
    lifeAfter (execRingDataStart ring s) s = s.life := by
  simp [execRingDataStart]

@[simp] theorem State.ringRole_life (s : State) (r : Fin 8) :
    (State.ringRole s r).life = s.life := by
  unfold State.ringRole
  dsimp only
  (repeat' split) <;> simp [*]

@[simp] theorem State.ringLaunch_life (s : State) (r : Fin 8) :
    (State.ringLaunch s r).life = s.life := by
  simp [State.ringLaunch]

@[simp] theorem State.ringBoundary_life (s : State) (r : Fin 8) :
    (State.ringBoundary s r).life = s.life := by
  unfold State.ringBoundary
  dsimp only
  (repeat' split) <;> simp [*]

@[simp] theorem execRingListenEnd_life (ring : Fin 8) (s : State) :
    lifeAfter (execRingListenEnd ring s) s = s.life := by
  simp [execRingListenEnd]

@[simp] theorem execRingBackoffEnd_life (ring : Fin 8) (s : State) :
    lifeAfter (execRingBackoffEnd ring s) s = s.life := by
  simp [execRingBackoffEnd]

@[simp] theorem execRingLinkUp_life (ring : Fin 8) (port : RingPort) (s : State) :
    lifeAfter (execRingLinkUp ring port s) s = s.life := by
  simp [execRingLinkUp]

@[simp] theorem execRingLinkDown_life (ring : Fin 8) (port : RingPort) (s : State) :
    lifeAfter (execRingLinkDown ring port s) s = s.life := by
  simp [execRingLinkDown]

@[simp] theorem execLoopbackEnd_life (ring : Fin 8) (port : RingPort) (s : State) :
    lifeAfter (execLoopbackEnd ring port s) s = s.life := by
  simp [execLoopbackEnd]

@[simp] theorem State.ringReceive_life (s : State) (r : Fin 8) (port : RingPort) (codes : BitVec 8) (elastic : Bool) :
    (State.ringReceive s r port codes elastic).life = s.life := by
  simp [State.ringReceive]

@[simp] theorem State.ringCount_life (s : State) (r : Fin 8) (port : RingPort) (f : List Byte) :
    (State.ringCount s r port f).1.life = s.life := by
  simp [State.ringCount]

@[simp] theorem State.ringForeign_life (s : State) (r : Fin 8) (port : RingPort) (id : Nat) :
    (State.ringForeign s r port id).life = s.life := by
  unfold State.ringForeign
  dsimp only
  (repeat' split) <;> simp [*]

@[simp] theorem State.ringMerge_life (s : State) (r : Fin 8) (f : List Byte) :
    (State.ringMerge s r f).life = s.life := by
  simp [State.ringMerge]

@[simp] theorem State.ringTopology_life (s : State) (r : Fin 8) (port : RingPort) (f : List Byte) :
    (State.ringTopology s r port f).life = s.life := by
  unfold State.ringTopology
  extract_lets flags dir1 hop x seen intact s1 s2 counting y n s3 dd s4 z
  have h1 : s1.life = s.life := by simp [s1]
  have h2 : s2.life = s1.life := by simp [s2]
  have h3 : s3.life = s2.life := by
    simp only [s3]
    generalize n = k
    cases k <;> simp
  have h4 : s4.life = s3.life := by simp [s4]
  repeat' split
  all_goals simp [h1, h2, h3, h4]

@[simp] theorem execRingFrameReturn_life (ring : Fin 8) (port : RingPort) (frame : RxFrame) (s : State) :
    lifeAfter (execRingFrameReturn ring port frame s) s = s.life := by
  simp [execRingFrameReturn]

@[simp] theorem State.mailRecord_life (s : State) (r : Fin 8) (pos : Nat) (event : Nat) (type_ : Nat) (tag : Nat) (payload : List Byte) :
    (State.mailRecord s r pos event type_ tag payload).life = s.life := by
  simp [State.mailRecord]

@[simp] theorem State.mailAck_life (s : State) (r : Fin 8) (p : Fin 16) (ack : Nat) :
    (State.mailAck s r p ack).life = s.life := by
  unfold State.mailAck
  dsimp only
  (repeat' split) <;> simp [*]

@[simp] theorem State.mailMessage_life (s : State) (r : Fin 8) (p : Fin 16) (type_ : Nat) (payload : List Byte) :
    (State.mailMessage s r p type_ payload).life = s.life := by
  unfold State.mailMessage
  (repeat' split) <;> simp_all

@[simp] theorem execMailboxReceive_life (ring : Fin 8) (bytes : List Byte) (s : State) :
    lifeAfter (execMailboxReceive ring bytes s) s = s.life := by
  simp [execMailboxReceive]

@[simp] theorem execMailboxRetryExhausted_life (ring : Fin 8) (pos : Fin 16) (s : State) :
    lifeAfter (execMailboxRetryExhausted ring pos s) s = s.life := by
  unfold execMailboxRetryExhausted
  dsimp only
  (repeat' split) <;> simp [*]

@[simp] theorem State.ringRestart_life (s : State) (r : Fin 8) :
    (State.ringRestart s r).life = s.life := by
  simp [State.ringRestart]

@[simp] theorem State.relayout_life (s : State) (r : Fin 8) (oldId : Nat) :
    (State.relayout s r oldId).life = s.life := by
  simp [State.relayout]

@[simp] theorem State.onAsNode_life (s : State) (r : Fin 8) (f : AsNode → AsNode) :
    (State.onAsNode s r f).life = s.life := by
  simp [State.onAsNode]

@[simp] theorem State.nodeSay_life (s : State) (r : Fin 8) :
    (State.nodeSay s r).life = s.life := by
  unfold State.nodeSay
  dsimp only
  (repeat' split) <;> simp [*]

@[simp] theorem State.nodeTurn_life (s : State) (r : Fin 8) (pos : Nat) :
    (State.nodeTurn s r pos).life = s.life := by
  simp [State.nodeTurn]

@[simp] theorem State.nodeHears_life (s : State) (r : Fin 8) (type_ : Nat) (p : List Byte) :
    (State.nodeHears s r type_ p).life = s.life := by
  unfold State.nodeHears
  dsimp only
  (repeat' split) <;> simp [*]

@[simp] theorem State.nodeMail_life (s : State) (r : Fin 8) (box : List Byte) (pos : Option Nat) :
    (State.nodeMail s r box pos).life = s.life := by
  simp [State.nodeMail]

@[simp] theorem State.nodeStopArms_life (s : State) (r : Fin 8) (code : Nat) :
    (State.nodeStopArms s r code).life = s.life := by
  simp [State.nodeStopArms]

@[simp] theorem State.nodeStop_life (s : State) (r : Fin 8) (first : Bool) (code : Nat) :
    (State.nodeStop s r first code).life = s.life := by
  simp [State.nodeStop]

@[simp] theorem State.nodeState_life (s : State) (r : Fin 8) (f : List Byte) :
    (State.nodeState s r f).life = s.life := by
  unfold State.nodeState
  dsimp only
  (repeat' split) <;> simp [*]

@[simp] theorem State.nodeJoin_life (s : State) (r : Fin 8) (good : Bool) (f : List Byte) :
    (State.nodeJoin s r good f).life = s.life := by
  unfold State.nodeJoin
  dsimp only
  (repeat' split) <;> simp [*]

@[simp] theorem State.nodeProcess_life (s : State) (r : Fin 8) (dir1 : Bool) (f : List Byte) :
    (State.nodeProcess s r dir1 f).1.life = s.life := by
  unfold State.nodeProcess
  extract_lets n cyc hop nodes pos fits s1 part s2 m f speaks
  have h1 : s1.life = s.life := by simp [s1]
  have h2 : s2.life = s1.life := by simp [s2]
  repeat' split
  all_goals simp [h1, h2]

@[simp] theorem State.nodeSample_life (s : State) (r : Fin 8) : (State.nodeSample s r).life = s.life := by
  unfold State.nodeSample
  dsimp only
  rw [State.onAsNode_life]
  exact foldl_life _ _ _ fun s a => by simp

@[simp] theorem execRingNodeFrame_life (ring : Fin 8) (port : RingPort) (frame : RxFrame) (s : State) :
    lifeAfter (execRingNodeFrame ring port frame s) s = s.life := by
  simp [execRingNodeFrame]

@[simp] theorem execNodeApplyInstant_life (ring : Fin 8) (s : State) :
    lifeAfter (execNodeApplyInstant ring s) s = s.life := by
  unfold execNodeApplyInstant
  dsimp only
  (repeat' split) <;> simp [*]

@[simp] theorem execNodeLossStop_life (ring : Fin 8) (s : State) :
    lifeAfter (execNodeLossStop ring s) s = s.life := by
  simp [execNodeLossStop]

@[simp] theorem execIsolateEnd_life (ring : Fin 8) (s : State) :
    lifeAfter (execIsolateEnd ring s) s = s.life := by
  unfold execIsolateEnd
  dsimp only
  (repeat' split) <;> simp [*]

@[simp] theorem State.nodeBoundary_life (s : State) (r : Fin 8) :
    (State.nodeBoundary s r).life = s.life := by
  simp [State.nodeBoundary]

@[simp] theorem State.onField_life (s : State) (f : Field → Field) :
    (State.onField s f).life = s.life := by
  simp [State.onField]

@[simp] theorem State.onIn_life (s : State) (c : Fin 32) (f : InChan → InChan) :
    (State.onIn s c f).life = s.life := by
  simp [State.onIn]

@[simp] theorem State.onOut_life (s : State) (c : Fin 16) (f : OutChan → OutChan) :
    (State.onOut s c f).life = s.life := by
  simp [State.onOut]

@[simp] theorem State.onSupply_life (s : State) (u : Fin 2) (f : Supply → Supply) :
    (State.onSupply s u f).life = s.life := by
  simp [State.onSupply]

@[simp] theorem State.onEncoder_life (s : State) (n : Fin 4) (f : Encoder → Encoder) :
    (State.onEncoder s n f).life = s.life := by
  simp [State.onEncoder]

@[simp] theorem State.enablePair_life (s : State) :
    (State.enablePair s).life = s.life := by
  simp [State.enablePair]

@[simp] theorem State.curtainPair_life (s : State) :
    (State.curtainPair s).life = s.life := by
  simp [State.curtainPair]

@[simp] theorem execInputSample_life (raw : Word) (s : State) :
    lifeAfter (execInputSample raw s) s = s.life := by
  simp [execInputSample]

@[simp] theorem execChatter_life (ch : Fin 32) (s : State) :
    lifeAfter (execChatter ch s) s = s.life := by
  simp [execChatter]

@[simp] theorem execStuckActive_life (ch : Fin 32) (s : State) :
    lifeAfter (execStuckActive ch s) s = s.life := by
  simp [execStuckActive]

@[simp] theorem State.readsWithin_life (s : State) (u : Fin 2) (lo : Nat) (hi : Nat) :
    (State.readsWithin s u lo hi).life = s.life := by
  simp [State.readsWithin]

@[simp] theorem execInputValid_life (ch : Fin 32) (s : State) :
    lifeAfter (execInputValid ch s) s = s.life := by
  simp [execInputValid]

@[simp] theorem State.holdOutputs_life (s : State) :
    (State.holdOutputs s).life = s.life := by
  simp [State.holdOutputs]

@[simp] theorem State.commandOutputs_life (s : State) :
    (State.commandOutputs s).life = s.life := by
  refine foldl_life _ _ _ fun s a => ?_
  repeat' split
  all_goals simp

@[simp] theorem execOutputFault_life (ch : Fin 16) (cause : OutCause) (s : State) :
    lifeAfter (execOutputFault ch cause s) s = s.life := by
  simp [execOutputFault]

@[simp] theorem execOpenLoad_life (ch : Fin 16) (s : State) :
    lifeAfter (execOpenLoad ch s) s = s.life := by
  simp [execOpenLoad]

@[simp] theorem State.invalidate_life (s : State) (u : Fin 2) :
    (State.invalidate s u).life = s.life := by
  simp [State.invalidate]

@[simp] theorem execUpLow_life (supply : Fin 2) (mv : Nat) (s : State) :
    lifeAfter (execUpLow supply mv s) s = s.life := by
  simp [execUpLow]

@[simp] theorem execUpLost_life (supply : Fin 2) (mv : Nat) (s : State) :
    lifeAfter (execUpLost supply mv s) s = s.life := by
  simp [execUpLost]

@[simp] theorem execUpHigh_life (supply : Fin 2) (mv : Nat) (s : State) :
    lifeAfter (execUpHigh supply mv s) s = s.life := by
  simp [execUpHigh]

@[simp] theorem execUpFlagClear_life (supply : Fin 2) (s : State) :
    lifeAfter (execUpFlagClear supply s) s = s.life := by
  simp [execUpFlagClear]

@[simp] theorem execUpRecovered_life (supply : Fin 2) (s : State) :
    lifeAfter (execUpRecovered supply s) s = s.life := by
  simp [execUpRecovered]

@[simp] theorem execEnablePairFault_life (s : State) :
    lifeAfter (execEnablePairFault s) s = s.life := by
  unfold execEnablePairFault
  (repeat' split) <;> simp_all

@[simp] theorem execCurtainPairFault_life (s : State) :
    lifeAfter (execCurtainPairFault s) s = s.life := by
  unfold execCurtainPairFault
  (repeat' split) <;> simp_all

@[simp] theorem execCurtainStopCode_life (s : State) :
    lifeAfter (execCurtainStopCode s) s = s.life := by
  unfold execCurtainStopCode
  dsimp only
  (repeat' split) <;> simp [*]

@[simp] theorem State.refresh_life (s : State) :
    (State.refresh s).life = s.life := by
  simp [State.refresh]

@[simp] theorem execWatchdogAutoRestore_life (s : State) :
    lifeAfter (execWatchdogAutoRestore s) s = s.life := by
  unfold execWatchdogAutoRestore
  (repeat' split) <;> simp_all

@[simp] theorem State.encoderFaults_life (s : State) (n : Fin 4) (kinds : List Nat) :
    (State.encoderFaults s n kinds).life = s.life := by
  simp [State.encoderFaults]

@[simp] theorem State.deliverEncoder_life (s : State) (n : Fin 4) :
    (State.deliverEncoder s n).life = s.life := by
  simp [State.deliverEncoder]

@[simp] theorem execEncoderSample_life (n : Fin 4) (sample : EncSample) (s : State) :
    lifeAfter (execEncoderSample n sample s) s = s.life := by
  unfold execEncoderSample
  dsimp only
  (repeat' split) <;> simp [*]

@[simp] theorem execIndexEdge_life (n : Fin 4) (s : State) :
    lifeAfter (execIndexEdge n s) s = s.life := by
  simp [execIndexEdge]

@[simp] theorem execQuadratureEdge_life (n : Fin 4) (forward : Bool) (s : State) :
    lifeAfter (execQuadratureEdge n forward s) s = s.life := by
  simp [execQuadratureEdge]

@[simp] theorem execCountError_life (n : Fin 4) (s : State) :
    lifeAfter (execCountError n s) s = s.life := by
  simp [execCountError]

@[simp] theorem State.rearmed_life (s : State) :
    (State.rearmed s).life = s.life := by
  simp [State.rearmed]

@[simp] theorem State.fieldBoundary_life (s : State) :
    (State.fieldBoundary s).life = s.life := by
  simp [State.fieldBoundary]

@[simp] theorem State.fieldRipe_life (s : State) :
    (State.fieldRipe s).life = s.life := by
  simp [State.fieldRipe]

@[simp] theorem bodyConfigInputs_life (h : HostCmd) (d : DieId) (s : State) :
    (bodyConfigInputs h d s).1.life = s.life := by
  simp [bodyConfigInputs]

@[simp] theorem bodyConfigOutputs_life (h : HostCmd) (d : DieId) (s : State) :
    (bodyConfigOutputs h d s).1.life = s.life := by
  simp [bodyConfigOutputs]

@[simp] theorem bodyFioWrite_life (h : HostCmd) (d : DieId) (s : State) :
    (bodyFioWrite h d s).1.life = s.life := by
  simp [bodyFioWrite]

@[simp] theorem bodyFioRead_life (_h : HostCmd) (_d : DieId) (s : State) :
    (bodyFioRead _h _d s).1.life = s.life := by
  simp [bodyFioRead]

@[simp] theorem bodyFioRearm_life (h : HostCmd) (d : DieId) (s : State) :
    (bodyFioRearm h d s).1.life = s.life := by
  simp [bodyFioRearm]

@[simp] theorem bodyConfigWatchdog_life (h : HostCmd) (d : DieId) (s : State) :
    (bodyConfigWatchdog h d s).1.life = s.life := by
  simp [bodyConfigWatchdog]

@[simp] theorem bodyConfigEncoder_life (h : HostCmd) (d : DieId) (s : State) :
    (bodyConfigEncoder h d s).1.life = s.life := by
  simp [bodyConfigEncoder]

@[simp] theorem bodyConfigSafetyInputs_life (h : HostCmd) (d : DieId) (s : State) :
    (bodyConfigSafetyInputs h d s).1.life = s.life := by
  simp [bodyConfigSafetyInputs]

@[simp] theorem State.fieldApply_life (s : State) (old : Cfg) (new : Cfg) :
    (State.fieldApply s old new).life = s.life := by
  simp [State.fieldApply]

@[simp] theorem State.onTb_life (s : State) (n : Fin 4) (f : TimeBase → TimeBase) :
    (State.onTb s n f).life = s.life := by
  simp [State.onTb]

@[simp] theorem State.onPtp_life (s : State) (n : Fin 2) (f : Ptp → Ptp) :
    (State.onPtp s n f).life = s.life := by
  simp [State.onPtp]

@[simp] theorem State.onNet_life (s : State) (f : Network → Network) :
    (State.onNet s f).life = s.life := by
  simp [State.onNet]

@[simp] theorem State.onCell_life (s : State) (n : Fin 6) (f : CellPort → CellPort) :
    (State.onCell s n f).life = s.life := by
  simp [State.onCell]

@[simp] theorem State.transmit_life (s : State) (p : Fin 6) (q : Queued) : (State.transmit s p q).life = s.life := by
  unfold State.transmit
  dsimp only
  split <;> simp

@[simp] theorem State.wireTick_life (s : State) (p : Fin 6) : (State.wireTick s p).life = s.life := by
  unfold State.wireTick
  dsimp only
  (repeat' split) <;> simp

@[simp] theorem State.tpoBack_life (s : State) : (State.tpoBack s).life = s.life := by
  unfold State.tpoBack
  (repeat' split) <;> simp

@[simp] theorem execTimeBaseTick_life (s : State) :
    lifeAfter (execTimeBaseTick s) s = s.life := by
  have h : ∀ t : State, ((List.finRange 6).foldl (fun s p => State.wireTick s p) t).life = t.life :=
    fun t => foldl_life _ _ _ fun s a => by simp
  unfold execTimeBaseTick
  simp only [lifeAfter_next, h, State.tpoBack_life]
  split <;> simp

@[simp] theorem State.sendOut_life (s : State) (v : CfgVlan) (f : EthFrame) (ports : List Nat) (mark : EgressMark) :
    (State.sendOut s v f ports mark).life = s.life := by
  refine foldl_life _ _ _ fun s a => ?_
  dsimp only
  repeat' split
  all_goals simp

@[simp] theorem State.sendPtp_life (s : State) (n : Fin 2) (link : Bool) (m : List Byte) (mark : EgressMark) :
    (State.sendPtp s n link m mark).life = s.life := by
  unfold State.sendPtp
  dsimp only
  split <;> simp

@[simp] theorem State.ptpSync_life (s : State) (n : Fin 2) (t1 : Int) (t2 : Nat) : (State.ptpSync s n t1 t2).life = s.life := by
  simp [State.ptpSync]

@[simp] theorem State.ptpPath_life (s : State) (n : Fin 2) (v : Int) : (State.ptpPath s n v).life = s.life := by
  simp [State.ptpPath]

@[simp] theorem State.ptpAnnounce_life (s : State) (n : Fin 2) (m : List Byte) : (State.ptpAnnounce s n m).life = s.life := by
  simp [State.ptpAnnounce]

@[simp] theorem State.ptpActs_life (s : State) (n : Fin 2) (m : List Byte) (t : Nat) : (State.ptpActs s n m t).life = s.life := by
  unfold State.ptpActs
  dsimp only
  (repeat' split) <;> simp

@[simp] theorem State.takePtp_life (s : State) (n : Fin 2) (m : PtpMsg) : (State.takePtp s n m).life = s.life := by
  simp [State.takePtp]

@[simp] theorem State.ptpMaster_life (s : State) (n : Fin 2) (announce : Bool) : (State.ptpMaster s n announce).life = s.life := by
  simp [State.ptpMaster]

@[simp] theorem State.ptpAnswer_life (s : State) (n : Fin 2) : (State.ptpAnswer s n).life = s.life := by
  unfold State.ptpAnswer
  dsimp only
  rw [State.onPtp_life]
  exact foldl_life _ _ _ fun s a => by simp

@[simp] theorem State.ptpAsk_life (s : State) (n : Fin 2) : (State.ptpAsk s n).life = s.life := by
  simp [State.ptpAsk]

@[simp] theorem execPtpMessage_life (inst : Fin 2) (msg : PtpMsg) (s : State) :
    lifeAfter (execPtpMessage inst msg s) s = s.life := by
  simp [execPtpMessage]

@[simp] theorem State.tb2Follow_life (s : State) :
    (State.tb2Follow s).life = s.life := by
  unfold State.tb2Follow
  dsimp only
  (repeat' split) <;> simp [*]

@[simp] theorem State.timeJump_life (s : State) (n : Fin 4) (origin : Nat) (delta : Int) :
    (State.timeJump s n origin delta).life = s.life := by
  simp [State.timeJump]

@[simp] theorem State.offset_life (s : State) (n : Fin 4) (origin : Nat) (delta : Int) :
    (State.offset s n origin delta).1.life = s.life := by
  simp [State.offset]

@[simp] theorem State.forceStep_life (s : State) (n : Fin 4) (delta : Int) :
    (State.forceStep s n delta).life = s.life := by
  simp [State.forceStep]

@[simp] theorem State.servoStep_life (s : State) (inst : Fin 2) :
    (State.servoStep s inst).life = s.life := by
  simp [State.servoStep]

@[simp] theorem execPtpSyncInterval_life (inst : Fin 2) (s : State) :
    lifeAfter (execPtpSyncInterval inst s) s = s.life := by
  unfold execPtpSyncInterval
  extract_lets c p stale best st due sync s1 s2 s3
  split
  · rfl
  · have h1 : s1.life = s.life := by simp [s1]
    have h2 : s2.life = s1.life := by
      simp only [s2]
      (repeat' split) <;> simp
    have h3 : s3.life = s2.life := by
      simp only [s3]
      split <;> simp
    (repeat' split) <;> simp [h1, h2, h3]

@[simp] theorem execTpiEdge_life (rising : PinEdge) (s : State) :
    lifeAfter (execTpiEdge rising s) s = s.life := by
  simp [execTpiEdge]

@[simp] theorem execTpoEdge_life (s : State) :
    lifeAfter (execTpoEdge s) s = s.life := by
  simp [execTpoEdge]

@[simp] theorem execTpoPulseEnd_life (s : State) :
    lifeAfter (execTpoPulseEnd s) s = s.life := by
  simp [execTpoPulseEnd]

@[simp] theorem State.tpoBoundary_life (s : State) :
    (State.tpoBoundary s).life = s.life := by
  unfold State.tpoBoundary
  dsimp only
  (repeat' split) <;> simp [*]

@[simp] theorem State.tpoApply_life (s : State) (old : CfgTpo) (new : CfgTpo) :
    (State.tpoApply s old new).life = s.life := by
  simp [State.tpoApply]

@[simp] theorem State.tb2Apply_life (s : State) (old : Cfg) (new : Cfg) :
    (State.tb2Apply s old new).life = s.life := by
  simp [State.tb2Apply]

@[simp] theorem bodyTimeGet_life (_h : HostCmd) (_d : DieId) (s : State) :
    (bodyTimeGet _h _d s).1.life = s.life := by
  simp [bodyTimeGet]

@[simp] theorem bodyTimeSetIncrement_life (h : HostCmd) (d : DieId) (s : State) :
    (bodyTimeSetIncrement h d s).1.life = s.life := by
  simp [bodyTimeSetIncrement]

@[simp] theorem bodyTimeOffset_life (h : HostCmd) (d : DieId) (s : State) :
    (bodyTimeOffset h d s).1.life = s.life := by
  simp [bodyTimeOffset]

@[simp] theorem bodyTimeForceStep_life (h : HostCmd) (d : DieId) (s : State) :
    (bodyTimeForceStep h d s).1.life = s.life := by
  unfold bodyTimeForceStep
  dsimp only
  (repeat' split) <;> simp [*]

@[simp] theorem bodyConfigPtp_life (h : HostCmd) (d : DieId) (s : State) :
    (bodyConfigPtp h d s).1.life = s.life := by
  simp [bodyConfigPtp]

@[simp] theorem bodyPtpStatus_life (h : HostCmd) (_d : DieId) (s : State) :
    (bodyPtpStatus h _d s).1.life = s.life := by
  simp [bodyPtpStatus]

@[simp] theorem bodyConfigTpo_life (h : HostCmd) (d : DieId) (s : State) :
    (bodyConfigTpo h d s).1.life = s.life := by
  simp [bodyConfigTpo]

@[simp] theorem bodyTpiStream_life (h : HostCmd) (d : DieId) (s : State) :
    (bodyTpiStream h d s).1.life = s.life := by
  simp [bodyTpiStream]

@[simp] theorem State.cellLink_life (s : State) (port : Fin 6) : (State.cellLink s port).life = s.life := by
  unfold State.cellLink
  dsimp only
  (repeat' split) <;> simp

@[simp] theorem execCellLinkChange_life (port : Fin 6) (sync : Bool) (partner : Bool) (s : State) :
    lifeAfter (execCellLinkChange port sync partner s) s = s.life := by
  simp [execCellLinkChange]

@[simp] theorem execCellLinkDown_life (port : Fin 6) (s : State) :
    lifeAfter (execCellLinkDown port s) s = s.life := by
  simp [execCellLinkDown]

@[simp] theorem execCellLinkUp_life (port : Fin 6) (s : State) :
    lifeAfter (execCellLinkUp port s) s = s.life := by
  simp [execCellLinkUp]

@[simp] theorem execMacAgeOut_life (vid : BitVec 12) (mac : BitVec 48) (s : State) :
    lifeAfter (execMacAgeOut vid mac s) s = s.life := by
  simp [execMacAgeOut]

@[simp] theorem execPrpEntryForgotten_life (mac : BitVec 48) (s : State) :
    lifeAfter (execPrpEntryForgotten mac s) s = s.life := by
  simp [execPrpEntryForgotten]

@[simp] theorem State.sendDup_life (s : State) (dst : Nat) (vid : Nat) (pcp : Nat) (etherType : Nat) (payload : List Byte) (mark : EgressMark) :
    (State.sendDup s dst vid pcp etherType payload mark).life = s.life := by
  unfold State.sendDup
  dsimp only
  split
  · rfl
  · exact (foldl_life _ _ _ fun s a => by simp).trans (by simp)

@[simp] theorem State.takeArp_life (s : State) (bytes : List Byte) :
    (State.takeArp s bytes).life = s.life := by
  simp [State.takeArp]

@[simp] theorem execArpRequest_life (bytes : List Byte) (s : State) :
    lifeAfter (execArpRequest bytes s) s = s.life := by
  simp [execArpRequest]

@[simp] theorem State.sendPeer_life (s : State) (p : Fin 4) (type_ : Nat) (body : List Byte) :
    (State.sendPeer s p type_ body).life = s.life := by
  simp [State.sendPeer]

@[simp] theorem execPeerHeartbeatSend_life (s : State) :
    lifeAfter (execPeerHeartbeatSend s) s = s.life := by
  simp [execPeerHeartbeatSend]

@[simp] theorem State.sendZones_life (s : State) :
    (State.sendZones s).life = s.life := by
  simp [State.sendZones]

@[simp] theorem State.losePeer_life (s : State) (p : Fin 4) :
    (State.losePeer s p).life = s.life := by
  simp [State.losePeer]

@[simp] theorem execPeerLost_life (p : Fin 4) (s : State) :
    lifeAfter (execPeerLost p s) s = s.life := by
  simp [execPeerLost]

@[simp] theorem State.peerSkew_life (s : State) (p : Fin 4) (off : Int) :
    (State.peerSkew s p off).life = s.life := by
  simp [State.peerSkew]

@[simp] theorem State.takePeer_life (s : State) (bytes : List Byte) :
    (State.takePeer s bytes).life = s.life := by
  unfold State.takePeer
  dsimp only
  (repeat' split) <;> simp [*]

@[simp] theorem execPeerMessage_life (bytes : List Byte) (s : State) :
    lifeAfter (execPeerMessage bytes s) s = s.life := by
  simp [execPeerMessage]

@[simp] theorem State.deliver_life (s : State) (port : Fin 6) (f : EthFrame) :
    (State.deliver s port f).life = s.life := by
  unfold State.deliver
  dsimp only
  (repeat' split) <;> simp [*]

@[simp] theorem execCellFrameReceive_life (port : Fin 6) (bytes : List Byte) (s : State) :
    lifeAfter (execCellFrameReceive port bytes s) s = s.life := by
  unfold execCellFrameReceive
  extract_lets s1 inj s2 s3 drop
  have h1 : s1.life = s.life := by simp [s1]
  have h2 : inj.1.life = s1.life := by simp [inj]
  repeat' split
  all_goals simp [s2, s3, drop, h1, h2]

@[simp] theorem bodyConfigSwitch_life (h : HostCmd) (d : DieId) (s : State) :
    (bodyConfigSwitch h d s).1.life = s.life := by
  unfold bodyConfigSwitch
  dsimp only
  (repeat' split) <;> simp [*]

@[simp] theorem bodyCellPortStatus_life (h : HostCmd) (_d : DieId) (s : State) :
    (bodyCellPortStatus h _d s).1.life = s.life := by
  simp [bodyCellPortStatus]

@[simp] theorem bodyConfigCellPeers_life (h : HostCmd) (d : DieId) (s : State) :
    (bodyConfigCellPeers h d s).1.life = s.life := by
  simp [bodyConfigCellPeers]

@[simp] theorem State.cellApply_life (s : State) (old : Cfg) (new : Cfg) :
    (State.cellApply s old new).life = s.life := by
  refine foldl_life _ _ _ fun s a => ?_
  split <;> simp

@[simp] theorem bodyConfigRing_life (h : HostCmd) (d : DieId) (s : State) :
    (bodyConfigRing h d s).1.life = s.life := by
  simp [bodyConfigRing]

@[simp] theorem bodyConfigNode_life (h : HostCmd) (d : DieId) (s : State) :
    (bodyConfigNode h d s).1.life = s.life := by
  simp [bodyConfigNode]

@[simp] theorem bodyRingStatus_life (h : HostCmd) (_d : DieId) (s : State) :
    (bodyRingStatus h _d s).1.life = s.life := by
  simp [bodyRingStatus]

@[simp] theorem bodyRingScan_life (h : HostCmd) (_d : DieId) (s : State) :
    (bodyRingScan h _d s).1.life = s.life := by
  simp [bodyRingScan]

@[simp] theorem bodyRingCounters_life (h : HostCmd) (_d : DieId) (s : State) :
    (bodyRingCounters h _d s).1.life = s.life := by
  unfold bodyRingCounters
  dsimp only
  (repeat' split) <;> simp [*]

@[simp] theorem bodyMailboxSend_life (h : HostCmd) (d : DieId) (s : State) :
    (bodyMailboxSend h d s).1.life = s.life := by
  simp [bodyMailboxSend]

@[simp] theorem bodyMailboxStream_life (h : HostCmd) (d : DieId) (s : State) :
    (bodyMailboxStream h d s).1.life = s.life := by
  simp [bodyMailboxStream]

@[simp] theorem State.stopRing_life (s : State) (d : DieId) (r : Fin 8) (code : Nat) (tag : Nat) :
    (State.stopRing s d r code tag).life = s.life := by
  simp [State.stopRing]

@[simp] theorem bodyRingStop_life (h : HostCmd) (d : DieId) (s : State) :
    (bodyRingStop h d s).1.life = s.life := by
  simp [bodyRingStop]

end Sys2Proof.Machine
end

