-- ==== Sys2Proof/Laws/LifePackage.lean ====
section
/-! SUPPORT. What leaves the life of the package alone, one lemma per operation: replies, Trapeze, faults and commits. -/

namespace Sys2Proof.Machine

@[simp] theorem State.finish_life (s : State) (d : DieId) (opcode : Nat) (h : HostCmd) (r : Reply) :
    (State.finish s d opcode h r).life = s.life := by
  simp [State.finish]

@[simp] theorem State.awaitReply_life (s : State) (d : DieId) (opcode : Nat) (h : HostCmd) (mine : Option Reply) :
    (State.awaitReply s d opcode h mine).life = s.life := by
  simp [State.awaitReply]

@[simp] theorem State.noticeReply_life (s : State) (d : DieId) (h : HostCmd) (r : Reply) :
    (State.noticeReply s d h r).life = s.life := by
  simp [State.noticeReply]

@[simp] theorem State.lateReplyOn_life (s : State) (d : DieId) (opcode : Nat) (h : HostCmd) (r : Reply) :
    (State.lateReplyOn s d opcode h r).life = s.life := by
  unfold State.lateReplyOn
  dsimp only
  (repeat' split) <;> simp [*]

@[simp] theorem State.lateReply_life (s : State) (opcode : Nat) (h : HostCmd) (r : Reply) :
    (State.lateReply s opcode h r).life = s.life := by
  simp [State.lateReply]

@[simp] theorem State.onPartner_life (s : State) (d : DieId) (f : Partner → Partner) :
    (State.onPartner s d f).life = s.life := by
  simp [State.onPartner]

@[simp] theorem State.noteLasting_life (s : State) (d : DieId) (det : Nat) (injected : Bool) :
    (State.noteLasting s d det injected).life = s.life := by
  simp [State.noteLasting]

@[simp] theorem execHeartbeatSend_life (d : DieId) (s : State) :
    lifeAfter (execHeartbeatSend d s) s = s.life := by
  simp [execHeartbeatSend]

@[simp] theorem execHeartbeat_life (sender : DieId) (path : HbPath) (s : State) :
    lifeAfter (execHeartbeat sender path s) s = s.life := by
  unfold execHeartbeat
  dsimp only
  (repeat' split) <;> simp [*]

@[simp] theorem execHeartbeatSilence_life (d : DieId) (s : State) :
    lifeAfter (execHeartbeatSilence d s) s = s.life := by
  simp [execHeartbeatSilence]

@[simp] theorem State.closeDigest_life (s : State) (d : DieId) :
    (State.closeDigest s d).life = s.life := by
  simp [State.closeDigest]

@[simp] theorem State.digestMismatch_life (s : State) (c : DieId) (injected : Bool) :
    (State.digestMismatch s c injected).life = s.life := by
  simp [State.digestMismatch]

@[simp] theorem State.makeEligible_life (s : State) (c : DieId) :
    (State.makeEligible s c).life = s.life := by
  simp [State.makeEligible]

@[simp] theorem State.markRepairs_life (s : State) (f : DieId) (c : DieId) :
    (State.markRepairs s f c).life = s.life := by
  simp [State.markRepairs]

@[simp] theorem State.endHandover_life (s : State) :
    (State.endHandover s).life = s.life := by
  unfold State.endHandover
  dsimp only
  (repeat' split) <;> simp [*]

@[simp] theorem execDigestReceive_life (d : DieId) (s : State) :
    lifeAfter (execDigestReceive d s) s = s.life := by
  simp [execDigestReceive]

@[simp] theorem State.startSync_life (s : State) (c : DieId) :
    (State.startSync s c).life = s.life := by
  simp [State.startSync]

@[simp] theorem execSyncPassDone_life (copied : Nat) (dirty : Nat) (s : State) :
    lifeAfter (execSyncPassDone copied dirty s) s = s.life := by
  unfold execSyncPassDone
  dsimp only
  (repeat' split) <;> simp [*]

@[simp] theorem State.syncPoint_life (s : State) :
    (State.syncPoint s).life = s.life := by
  unfold State.syncPoint
  dsimp only
  (repeat' split) <;> simp [*]

@[simp] theorem execSyncTimeout_life (s : State) :
    lifeAfter (execSyncTimeout s) s = s.life := by
  unfold execSyncTimeout
  (repeat' split) <;> simp_all

@[simp] theorem execAutoSync_life (s : State) :
    lifeAfter (execAutoSync s) s = s.life := by
  unfold execAutoSync
  dsimp only
  (repeat' split) <;> simp [*]

@[simp] theorem execJournalEpoch_life (d : DieId) (epoch : Nat) (crcOk : Bool) (s : State) :
    lifeAfter (execJournalEpoch d epoch crcOk s) s = s.life := by
  unfold execJournalEpoch
  dsimp only
  (repeat' split) <;> simp [*]

@[simp] theorem State.answerLost_life (s : State) (d : DieId) : (State.answerLost s d).life = s.life :=
  foldl_life _ _ _ fun s a => by simp

@[simp] theorem State.haltDie_life (s : State) (d : DieId) :
    (State.haltDie s d).life = s.life := by
  unfold State.haltDie
  dsimp only
  (repeat' split) <;> simp [*]

@[simp] theorem execTokenRelinquish_life (d : DieId) (s : State) :
    lifeAfter (execTokenRelinquish d s) s = s.life := by
  simp [execTokenRelinquish]

@[simp] theorem execDieReset_life (d : DieId) (s : State) :
    lifeAfter (execDieReset d s) s = s.life := by
  simp [execDieReset]

@[simp] theorem State.handoverCut_life (s : State) :
    (State.handoverCut s).life = s.life := by
  unfold State.handoverCut
  dsimp only
  (repeat' split) <;> simp [*]

@[simp] theorem execRevertHoldoff_life (s : State) :
    lifeAfter (execRevertHoldoff s) s = s.life := by
  unfold execRevertHoldoff
  (repeat' split) <;> simp_all

@[simp] theorem State.warmBoundary_life (s : State) :
    (State.warmBoundary s).life = s.life := by
  unfold State.warmBoundary
  (repeat' split) <;> simp_all

@[simp] theorem State.flit_life (s : State) (l : LinkId) (passes : Bool) (injected : Bool) :
    (State.flit s l passes injected).life = s.life := by
  simp [State.flit]

@[simp] theorem State.linkInjected_life (s : State) (l : LinkId) :
    (State.linkInjected s l).1.life = s.life := by
  unfold State.linkInjected
  dsimp only
  (repeat' split) <;> simp [*]

@[simp] theorem execFlitReceive_life (link : LinkId) (crcOk : Bool) (s : State) :
    lifeAfter (execFlitReceive link crcOk s) s = s.life := by
  simp [execFlitReceive]

@[simp] theorem execFlitAckTimeout_life (link : LinkId) (s : State) :
    lifeAfter (execFlitAckTimeout link s) s = s.life := by
  simp [execFlitAckTimeout]

@[simp] theorem execDirectLinkRestored_life (s : State) :
    lifeAfter (execDirectLinkRestored s) s = s.life := by
  simp [execDirectLinkRestored]

@[simp] theorem bodyConfigTrapeze_life (h : HostCmd) (d : DieId) (s : State) :
    (bodyConfigTrapeze h d s).1.life = s.life := by
  simp [bodyConfigTrapeze]

@[simp] theorem bodySyncStart_life (_h : HostCmd) (d : DieId) (s : State) :
    (bodySyncStart _h d s).1.life = s.life := by
  simp [bodySyncStart]

@[simp] theorem bodySwitchOver_life (h : HostCmd) (d : DieId) (s : State) :
    (bodySwitchOver h d s).1.life = s.life := by
  simp [bodySwitchOver]

@[simp] theorem bodyTrapezeStatus_life (_h : HostCmd) (_d : DieId) (s : State) :
    (bodyTrapezeStatus _h _d s).1.life = s.life := by
  simp [bodyTrapezeStatus]

@[simp] theorem bodyHealthStream_life (h : HostCmd) (d : DieId) (s : State) :
    (bodyHealthStream h d s).1.life = s.life := by
  simp [bodyHealthStream]

@[simp] theorem State.onPreserve_life (s : State) (d : DieId) (f : Preserve → Preserve) :
    (State.onPreserve s d f).life = s.life := by
  simp [State.onPreserve]

@[simp] theorem State.thaw_life (s : State) (d : DieId) :
    (State.thaw s d).1.life = s.life := by
  simp [State.thaw]

@[simp] theorem execPreserveAutoThaw_life (d : DieId) (s : State) :
    lifeAfter (execPreserveAutoThaw d s) s = s.life := by
  simp [execPreserveAutoThaw]

@[simp] theorem bodyPreserveFreeze_life (h : HostCmd) (d : DieId) (s : State) :
    (bodyPreserveFreeze h d s).1.life = s.life := by
  simp [bodyPreserveFreeze]

@[simp] theorem bodyPreserveThaw_life (h : HostCmd) (d : DieId) (s : State) :
    (bodyPreserveThaw h d s).1.life = s.life := by
  simp [bodyPreserveThaw]

@[simp] theorem bodyPreserveRead_life (h : HostCmd) (d : DieId) (s : State) :
    (bodyPreserveRead h d s).1.life = s.life := by
  simp [bodyPreserveRead]

@[simp] theorem State.intervalMove_life (s : State) :
    (State.intervalMove s).life = s.life := by
  simp [State.intervalMove]

@[simp] theorem State.dueInterval_life (s : State) : s.dueInterval.life = s.life := by
  unfold State.dueInterval
  split <;> simp

@[simp] theorem execIntervalBoundary_life (s : State) :
    lifeAfter (execIntervalBoundary s) s = s.life := by
  simp [execIntervalBoundary]

@[simp] theorem State.intervalBoundary_life (s : State) :
    (State.intervalBoundary s).life = s.life := by
  simp [State.intervalBoundary]

@[simp] theorem bodyConfigStatistics_life (h : HostCmd) (d : DieId) (s : State) :
    (bodyConfigStatistics h d s).1.life = s.life := by
  simp [bodyConfigStatistics]

@[simp] theorem bodyStatsRead_life (h : HostCmd) (d : DieId) (s : State) :
    (bodyStatsRead h d s).1.life = s.life := by
  unfold bodyStatsRead
  dsimp only
  (repeat' split) <;> simp [*]

@[simp] theorem State.moveWaiting_life (s : State) (d : DieId) : (State.moveWaiting s d).life = s.life := by
  unfold State.moveWaiting
  dsimp only
  split
  · rfl
  · refine foldl_life _ _ _ fun s q => ?_
    exact (foldl_life _ _ _ fun s e => by split <;> simp).trans (by simp)

@[simp] theorem State.hostPortLost_life (s : State) (d : DieId) :
    (State.hostPortLost s d).life = s.life := by
  simp [State.hostPortLost]

@[simp] theorem execPcieLcrcError_life (d : DieId) (replayFails : Bool) (s : State) :
    lifeAfter (execPcieLcrcError d replayFails s) s = s.life := by
  simp [execPcieLcrcError]

@[simp] theorem State.dieDown_life (s : State) (d : DieId) :
    (State.dieDown s d).life = s.life := by
  have h := execTokenRelinquish_life d (s.dieFault d)
  unfold State.dieDown
  split <;> simp_all

@[simp] theorem State.falseRun_life (s : State) (det index : Nat) (out injected : Bool) : (State.falseRun s det index out injected).1.life = s.life := by
  unfold State.falseRun
  dsimp only
  split
  · rfl
  · exact State.onMw_life _ _ rfl rfl rfl rfl

@[simp] theorem State.supplyDetect_life (s : State) (i : Fin 7) (lasting : Bool) (injected : Bool) :
    (State.supplyDetect s i lasting injected).1.life = s.life := by
  simp [State.supplyDetect]

@[simp] theorem State.tempDetect_life (s : State) (x : TempSensor) (lasting : Bool) (injected : Bool) :
    (State.tempDetect s x lasting injected).1.life = s.life := by
  unfold State.tempDetect
  dsimp only
  (repeat' split) <;> simp [*]

@[simp] theorem State.tempHigh_life (s : State) (d : DieId) (x : TempSensor) (injected : Bool) :
    (State.tempHigh s d x injected).life = s.life := by
  simp [State.tempHigh]

@[simp] theorem execFineCheckWindow_life (ppm : Int) (s : State) :
    lifeAfter (execFineCheckWindow ppm s) s = s.life := by
  simp [execFineCheckWindow]

@[simp] theorem execInjectionExpiry_life (d : DieId) (slot : Fin 4) (s : State) :
    lifeAfter (execInjectionExpiry d slot s) s = s.life := by
  unfold execInjectionExpiry
  dsimp only
  (repeat' split) <;> simp [*]

@[simp] theorem State.onInjections_life (s : State) (d : DieId) (mw : Bool) (f : List Injection → List Injection) : (s.onInjections d mw f).life = s.life := by
  unfold State.onInjections
  split <;> simp

@[simp] theorem bodyFaultInject_life (h : HostCmd) (d : DieId) (s : State) :
    (bodyFaultInject h d s).1.life = s.life := by
  simp [bodyFaultInject]

@[simp] theorem bodyConfigEvents_life (h : HostCmd) (d : DieId) (s : State) :
    (bodyConfigEvents h d s).1.life = s.life := by
  simp [bodyConfigEvents]

@[simp] theorem bodyEventRead_life (h : HostCmd) (d : DieId) (s : State) :
    (bodyEventRead h d s).1.life = s.life := by
  simp [bodyEventRead]

@[simp] theorem bodyEventClear_life (h : HostCmd) (d : DieId) (s : State) :
    (bodyEventClear h d s).1.life = s.life := by
  simp [bodyEventClear]

@[simp] theorem bodyFaultStatus_life (_h : HostCmd) (d : DieId) (s : State) :
    (bodyFaultStatus _h d s).1.life = s.life := by
  simp [bodyFaultStatus]

@[simp] theorem bodyPlaceTest_life (h : HostCmd) (d : DieId) (s : State) :
    (bodyPlaceTest h d s).1.life = s.life := by
  unfold bodyPlaceTest
  dsimp only
  (repeat' split) <;> simp [*]

@[simp] theorem State.testReply_life (s : State) (d : DieId) (t : PlaceTest) (r : Reply) :
    (State.testReply s d t r).life = s.life := by
  simp [State.testReply]

@[simp] theorem State.testAbsent_life (s : State) (d : DieId) (t : PlaceTest) :
    (State.testAbsent s d t).life = s.life := by
  simp [State.testAbsent]

@[simp] theorem State.testBoundary_life (s : State) (d : DieId) :
    (State.testBoundary s d).life = s.life := by
  unfold State.testBoundary
  dsimp only
  (repeat' split) <;> simp [*]

@[simp] theorem State.clusterReset_life (s : State) (d : DieId) (k : Nat) :
    (State.clusterReset s d k).life = s.life := by
  simp [State.clusterReset]

@[simp] theorem execPlaceTestEnd_life (d : DieId) (pass : Bool) (s : State) :
    lifeAfter (execPlaceTestEnd d pass s) s = s.life := by
  unfold execPlaceTestEnd
  dsimp only
  (repeat' split) <;> simp [*]

@[simp] theorem State.startUngating_life (s : State) (d : DieId) (new : Cfg) :
    (State.startUngating s d new).life = s.life := by
  simp [State.startUngating]

@[simp] theorem execClusterUngated_life (d : DieId) (cluster : ClusterId) (s : State) :
    lifeAfter (execClusterUngated d cluster s) s = s.life := by
  simp [execClusterUngated]

@[simp] theorem State.openCommit_life (s : State) (d : DieId) (bc : Nat) (h : HostCmd) :
    (State.openCommit s d bc h).life = s.life := by
  simp [State.openCommit]

@[simp] theorem bodyCommit_life (h : HostCmd) (d : DieId) (s : State) :
    (bodyCommit h d s).1.life = s.life := by
  unfold bodyCommit
  dsimp only
  (repeat' split) <;> simp [*]

@[simp] theorem execUnitReady_life (u : UnitId) (s : State) :
    lifeAfter (execUnitReady u s) s = s.life := by
  simp [execUnitReady]

@[simp] theorem State.rollBack_life (s : State) (f : DieId) (p : Pending) (reason : Nat) (first : Word) :
    (State.rollBack s f p reason first).life = s.life := by
  simp [State.rollBack]

@[simp] theorem State.decideCommit_life (s : State) (f : DieId) (p : Pending) :
    (State.decideCommit s f p).life = s.life := by
  unfold State.decideCommit
  dsimp only
  (repeat' split) <;> simp [*]

@[simp] theorem State.dueCommit_life (s : State) :
    (State.dueCommit s).life = s.life := by
  unfold State.dueCommit
  (repeat' split) <;> simp_all

@[simp] theorem execCommitDecision_life (s : State) :
    lifeAfter (execCommitDecision s) s = s.life := by
  simp [execCommitDecision]

@[simp] theorem State.abandonNext_life (s : State) :
    (State.abandonNext s).life = s.life := by
  unfold State.abandonNext
  dsimp only
  (repeat' split) <;> simp [*]

@[simp] theorem State.dropSolve_life (s : State) (d : DieId) (old : Cfg) (new : Cfg) :
    (State.dropSolve s d old new).life = s.life := by
  unfold State.dropSolve
  dsimp only
  (repeat' split) <;> simp [*]

@[simp] theorem State.switchDie_life (s : State) (d : DieId) (new : Cfg) (rest : Cfg) (count : Nat) :
    (State.switchDie s d new rest count).life = s.life := by
  simp [State.switchDie]

@[simp] theorem bodyConfigDiscard_life (_h : HostCmd) (d : DieId) (s : State) :
    (bodyConfigDiscard _h d s).1.life = s.life := by
  simp [bodyConfigDiscard]

@[simp] theorem bodyConfigDeadline_life (h : HostCmd) (d : DieId) (s : State) :
    (bodyConfigDeadline h d s).1.life = s.life := by
  simp [bodyConfigDeadline]

@[simp] theorem bodyConfigPeriods_life (h : HostCmd) (d : DieId) (s : State) :
    (bodyConfigPeriods h d s).1.life = s.life := by
  simp [bodyConfigPeriods]

@[simp] theorem bodyGetBoundary_life (h : HostCmd) (d : DieId) (s : State) :
    (bodyGetBoundary h d s).1.life = s.life := by
  simp [bodyGetBoundary]

end Sys2Proof.Machine
end

