-- ==== Sys2Proof/Laws/LifeHost.lean ====
section
/-! SUPPORT. What leaves the life of the package alone, one lemma per operation: the Ringmaster, boundaries, ports, images and the debug port. -/

namespace Sys2Proof.Machine

@[simp] theorem bodyNop_life (_h : HostCmd) (_d : DieId) (s : State) :
    (bodyNop _h _d s).1.life = s.life := by
  simp [bodyNop]

@[simp] theorem bodyIdentify_life (_h : HostCmd) (d : DieId) (s : State) :
    (bodyIdentify _h d s).1.life = s.life := by
  simp [bodyIdentify]

@[simp] theorem bodyGetStatus_life (_h : HostCmd) (_d : DieId) (s : State) :
    (bodyGetStatus _h _d s).1.life = s.life := by
  simp [bodyGetStatus]

@[simp] theorem State.headShadow_life (s : State) (d : DieId) (q : Fin 64) :
    (State.headShadow s d q).life = s.life := by
  simp [State.headShadow]

@[simp] theorem State.dequeue_life (s : State) (h : HostCmd) :
    (State.dequeue s h).life = s.life := by
  simp [State.dequeue]

theorem bodyOf_life {op : Nat} {f : HostCmd → DieId → State → Answer} (hf : bodyOf op = some f) (h : HostCmd) (d : DieId) (s : State) :
    (f h d s).1.life = s.life := by
  unfold bodyOf at hf
  split at hf
  all_goals first | (cases hf; simp) | (simp at hf)

@[simp] theorem State.act_life (s : State) (d : DieId) (opcode : Nat) (h : HostCmd) :
    (State.act s d opcode h).1.life = s.life := by
  unfold State.act
  dsimp only
  split
  · simp
  · rename_i f hf
    have := bodyOf_life hf
    split <;> simp [this]

@[simp] theorem State.hold_life (s : State) (d : DieId) (opcode : Nat) (h : HostCmd) :
    (State.hold s d opcode h).life = s.life := by
  simp [State.hold]

@[simp] theorem State.settle_life (s : State) (d : DieId) (opcode : Nat) (h : HostCmd) (r : Reply) :
    (State.settle s d opcode h r).life = s.life := by
  simp [State.settle]

@[simp] theorem State.execute_life (s : State) (d : DieId) (opcode : Nat) (o : OpInfo) (h : HostCmd) (alone : Bool) :
    (State.execute s d opcode o h alone).1.life = s.life := by
  unfold State.execute
  dsimp only
  (repeat' split) <;> simp [*]

@[simp] theorem State.effectOn_life (s : State) (d : DieId) (opcode : Nat) (h : HostCmd) :
    (State.effectOn s d opcode h).1.life = s.life := by
  unfold State.effectOn
  repeat' split
  all_goals first | simp | (rename_i f hf; exact bodyOf_life hf _ _ _)

@[simp] theorem State.takeEffect_life (s : State) (d : DieId) (opcode : Nat) (h : HostCmd) :
    (State.takeEffect s d opcode h).life = s.life := by
  exact State.effectOn_life s d opcode h

@[simp] theorem State.adopt_life (s : State) (d : DieId) (c : Copy) (n : Notice) :
    (State.adopt s d c n).life = s.life := by
  unfold State.adopt
  dsimp only
  (repeat' split) <;> simp [*]

@[simp] theorem State.dualMismatch_life (s : State) (d : DieId) (c : Copy) :
    (State.dualMismatch s d c).life = s.life := by
  simp [State.dualMismatch]

@[simp] theorem State.pairUp_life (a0 : Nat) (a1 : DieId) (a2 : State) :
    (State.pairUp a0 a1 a2).life = a2.life := by
  induction a0 generalizing a2 with
  | zero => rfl
  | succ n ih =>
    simp only [State.pairUp]
    repeat' split
    all_goals simp [ih]

@[simp] theorem State.pairAll_life (s : State) (d : DieId) :
    (State.pairAll s d).life = s.life := by
  simp [State.pairAll]

@[simp] theorem State.notify_life (s : State) (c : DieId) (opcode : Nat) (h : HostCmd) (r : Reply) :
    (State.notify s c opcode h r).life = s.life := by
  simp [State.notify]

@[simp] theorem State.receive_life (s : State) (d : DieId) (opcode : Nat) (h : HostCmd) (expected : BitVec 16) :
    (State.receive s d opcode h expected).life = s.life := by
  unfold State.receive
  dsimp only
  (repeat' split) <;> simp [*]

@[simp] theorem hostCommand_life (opcode : Nat) (h : HostCmd) (s : State) :
    lifeAfter (hostCommand opcode h s) s = s.life := by
  simp [hostCommand]

@[simp] theorem State.tellCatcher_life (s : State) (c : DieId) (k : Held) (r : Reply) :
    (State.tellCatcher s c k r).life = s.life := by
  simp [State.tellCatcher]

@[simp] theorem State.runHeld_life (s : State) (d : DieId) (k : Held) :
    (State.runHeld s d k).life = s.life := by
  unfold State.runHeld
  dsimp only
  (repeat' split) <;> simp [*]

@[simp] theorem State.afterHeld_life (s : State) (d : DieId) :
    (State.afterHeld s d).life = s.life := by
  simp [State.afterHeld]

@[simp] theorem State.executeHeld_life (s : State) (d : DieId) :
    (State.executeHeld s d).life = s.life := by
  simp [State.executeHeld]

@[simp] theorem execAtEpochExecute_life (d : DieId) (s : State) :
    lifeAfter (execAtEpochExecute d s) s = s.life := by
  simp [execAtEpochExecute]

@[simp] theorem execDequeueNotice_life (d : DieId) (s : State) :
    lifeAfter (execDequeueNotice d s) s = s.life := by
  unfold execDequeueNotice
  dsimp only
  (repeat' split) <;> simp [*]

@[simp] theorem execPairingWindowExpiry_life (d : DieId) (s : State) :
    lifeAfter (execPairingWindowExpiry d s) s = s.life := by
  simp [execPairingWindowExpiry]

@[simp] theorem State.ownAnswers_life (s : State) (d : DieId) : (State.ownAnswers s d).life = s.life := by
  refine foldl_life _ _ _ fun s w => ?_
  (repeat' split) <;> simp

@[simp] theorem State.replay_life (s : State) (d : DieId) :
    (State.replay s d).life = s.life := by
  simp only [State.replay]
  rw [foldl_life, foldl_life] 
  · simp
  · intro s a; split <;> simp
  · intro s a; split <;> simp

@[simp] theorem State.replayMoved_life (s : State) (was : Option DieId) :
    (State.replayMoved s was).life = s.life := by
  unfold State.replayMoved
  (repeat' split) <;> simp_all

@[simp] theorem State.replayLatent_life (s : State) (d : DieId) :
    (State.replayLatent s d).life = s.life := by
  unfold State.replayLatent
  dsimp only
  refine (foldl_life _ _ _ fun s c => ?_).trans (by simp)
  split <;> simp

@[simp] theorem State.romPeriod_life (s : State) (d : DieId) :
    (State.romPeriod s d).life = s.life := by
  unfold State.romPeriod
  extract_lets item one rings s1 s2 s3
  have h1 : s1.life = s.life := foldl_life _ _ _ fun s a => by simp [one]
  have h2 : s2.life = s1.life := foldl_life _ _ _ fun s a => by simp [one]
  have h3 : s3.life = s2.life := foldl_life _ _ _ fun s a => by simp [one]
  split <;> simp [h1, h2, h3]

@[simp] theorem State.freezeBank_life (s : State) (f : Option DieId) :
    (State.freezeBank s f).life = s.life := by
  simp [State.freezeBank]

@[simp] theorem State.freezeField_life (s : State) (f : Option DieId) :
    (State.freezeField s f).life = s.life := by
  unfold State.freezeField
  dsimp only
  (repeat' split) <;> simp [*]

@[simp] theorem State.countOverruns_life (s : State) (d : DieId) :
    (State.countOverruns s d).life = s.life := by
  simp [State.countOverruns]

@[simp] theorem State.actOverruns_life (s : State) :
    (State.actOverruns s).life = s.life := by
  simp [State.actOverruns]

@[simp] theorem State.takeSlack_life (s : State) (d : DieId) :
    (State.takeSlack s d).life = s.life := by
  simp [State.takeSlack]

@[simp] theorem State.cutDie_life (s : State) (d : DieId) :
    (State.cutDie s d).life = s.life := by
  simp [State.cutDie]

@[simp] theorem State.cutDigests_life (s : State) :
    (State.cutDigests s).life = s.life := by
  unfold State.cutDigests
  dsimp only
  (repeat' split) <;> simp [*]

@[simp] theorem State.releaseBoundary_life (s : State) (d : DieId) :
    (State.releaseBoundary s d).life = s.life := by
  simp only [State.releaseBoundary, State.onDie_life]
  refine foldl_life _ _ _ fun s a => ?_
  repeat' split
  all_goals simp

@[simp] theorem State.latentStart_life (s : State) (d : DieId) :
    (State.latentStart s d).life = s.life := by
  simp [State.latentStart]

@[simp] theorem State.dieBoundary_life (s : State) (d : DieId) :
    (State.dieBoundary s d).life = s.life := by
  unfold State.dieBoundary
  extract_lets s1 s2 s3 s4 s5 s6
  have h1 : s1.life = s.life := State.latentStart_life s d
  have h2 : s2.life = s.life := by simp only [s2, life_ite, State.rehome_life, ite_self, h1]
  have h3 : s3.life = s.life := (foldl_life _ _ _ fun s k => State.useArray_life s d 2 k).trans h2
  have h4 : s4.life = s.life := (State.sepBoundary_life s3 d).trans h3
  have h5 : s5.life = s.life := (State.onDie_life s4 d _).trans h4
  have h6 : s6.life = s.life := (State.jugglerBoundary_life (s5.sepTrack d) d).trans ((State.sepTrack_life s5 d).trans h5)
  split
  · exact (State.jugglerBoundary_life s2 d).trans h2
  · exact (State.afterHeld_life _ d).trans ((State.reschedule_life _ d).trans
      ((State.releaseBoundary_life _ d).trans ((State.testBoundary_life s6 d).trans h6)))

@[simp] theorem State.mwBoundary_life (s : State) :
    (State.mwBoundary s).life = s.life := by
  simp [State.mwBoundary]

@[simp] theorem State.switchMw_life (s : State) (new : Cfg) :
    (State.switchMw s new).life = s.life := by
  simp [State.switchMw]

@[simp] theorem State.mwApply_life (s : State) :
    (State.mwApply s).life = s.life := by
  simp [State.mwApply]

@[simp] theorem execMwCommitApply_life (s : State) :
    lifeAfter (execMwCommitApply s) s = s.life := by
  simp [execMwCommitApply]

@[simp] theorem State.commitApply_life (s : State) (d : DieId) :
    (State.commitApply s d).life = s.life := by
  unfold State.commitApply
  dsimp only
  (repeat' split) <;> simp [*]

@[simp] theorem execCommitApply_life (d : DieId) (s : State) :
    lifeAfter (execCommitApply d s) s = s.life := by
  simp [execCommitApply]

@[simp] theorem State.onPort_life (s : State) (d : DieId) (f : HostPort → HostPort) :
    (State.onPort s d f).life = s.life := by
  simp [State.onPort]

@[simp] theorem State.writeBar2_life (s : State) (d : DieId) (offset : Nat) (w : Word) :
    (State.writeBar2 s d offset w).life = s.life := by
  unfold State.writeBar2
  dsimp only
  (repeat' split) <;> simp [*]

@[simp] theorem State.queueError_life (s : State) (d : DieId) (q : Fin 64) (cause : Nat) :
    (State.queueError s d q cause).life = s.life := by
  simp [State.queueError]

@[simp] theorem State.ringDoorbell_life (s : State) (d : DieId) (q : Fin 64) (index : Nat) :
    (State.ringDoorbell s d q index).life = s.life := by
  simp [State.ringDoorbell]

@[simp] theorem execDoorbell_life (d : DieId) (q : Fin 64) (index : BitVec 16) (s : State) :
    lifeAfter (execDoorbell d q index s) s = s.life := by
  simp [execDoorbell]

@[simp] theorem State.portFound_life (s : State) (d : DieId) : (s.portFound d).life = s.life := by
  unfold State.portFound
  dsimp only
  (repeat' split) <;> simp

@[simp] theorem State.enableQueue_life (s : State) (d : DieId) (q : Fin 64) (qcfg : Word) :
    (State.enableQueue s d q qcfg).life = s.life := by
  simp [State.enableQueue]

@[simp] theorem State.disableQueue_life (s : State) (d : DieId) (q : Fin 64) :
    (State.disableQueue s d q).life = s.life := by
  simp [State.disableQueue]

@[simp] theorem State.writeQcfg_life (s : State) (d : DieId) (q : Fin 64) (v : Word) :
    (State.writeQcfg s d q v).life = s.life := by
  simp [State.writeQcfg]

@[simp] theorem execQueueEnable_life (d : DieId) (q : Fin 64) (qcfg : Word) (s : State) :
    lifeAfter (execQueueEnable d q qcfg s) s = s.life := by
  simp [execQueueEnable]

@[simp] theorem execQueueDisable_life (d : DieId) (q : Fin 64) (s : State) :
    lifeAfter (execQueueDisable d q s) s = s.life := by
  simp [execQueueDisable]

@[simp] theorem State.cancelHeld_life (s : State) (d : DieId) (k : Held) :
    (State.cancelHeld s d k).life = s.life := by
  simp [State.cancelHeld]

@[simp] theorem execQueueDrained_life (d : DieId) (q : Fin 64) (s : State) :
    lifeAfter (execQueueDrained d q s) s = s.life := by
  simp [execQueueDrained]

@[simp] theorem State.clearQerr_life (s : State) (d : DieId) (high : Bool) (mask : Word) :
    (State.clearQerr s d high mask).life = s.life := by
  simp [State.clearQerr]

@[simp] theorem execQerrClear_life (d : DieId) (high : Bool) (mask : Word) (s : State) :
    lifeAfter (execQerrClear d high mask s) s = s.life := by
  simp [execQerrClear]

@[simp] theorem execEpochNowRead_life (d : DieId) (s : State) :
    lifeAfter (execEpochNowRead d s) s = s.life := by
  simp [execEpochNowRead]

@[simp] theorem execLostRead_life (d : DieId) (q : Fin 64) (s : State) :
    lifeAfter (execLostRead d q s) s = s.life := by
  simp [execLostRead]

@[simp] theorem State.writeBlock_life (s : State) (d : DieId) (q : Fin 64) (register : Nat) (v : Word) :
    (State.writeBlock s d q register v).life = s.life := by
  unfold State.writeBlock
  dsimp only
  (repeat' split) <;> simp [*]

@[simp] theorem execRegisterWrite_life (d : DieId) (at_ : BarOffset) (value : Word) (s : State) :
    lifeAfter (execRegisterWrite d at_ value s) s = s.life := by
  simp [execRegisterWrite]

@[simp] theorem execQueueDmaError_life (d : DieId) (q : Fin 64) (write : Bool) (s : State) :
    lifeAfter (execQueueDmaError d q write s) s = s.life := by
  simp [execQueueDmaError]

@[simp] theorem State.resume_life (a0 : Nat) (a1 : DieId) (a2 : Fin 64) (a3 : State) :
    (State.resume a0 a1 a2 a3).life = a3.life := by
  induction a0 generalizing a3 with
  | zero => rfl
  | succ n ih =>
    simp only [State.resume]
    repeat' split
    all_goals simp [ih]

@[simp] theorem execReplyResume_life (d : DieId) (q : Fin 64) (s : State) :
    lifeAfter (execReplyResume d q s) s = s.life := by
  simp [execReplyResume]

@[simp] theorem execMsixBoundarySignal_life (d : DieId) (q : Fin 64) (s : State) :
    lifeAfter (execMsixBoundarySignal d q s) s = s.life := by
  simp [execMsixBoundarySignal]

@[simp] theorem execHostLinkDown_life (d : DieId) (s : State) :
    lifeAfter (execHostLinkDown d s) s = s.life := by
  simp [execHostLinkDown]

@[simp] theorem execBusMasteringChange_life (d : DieId) (on : PcieEnables) (s : State) :
    lifeAfter (execBusMasteringChange d on s) s = s.life := by
  simp [execBusMasteringChange]

@[simp] theorem execPcieLinkUp_life (d : DieId) (s : State) :
    lifeAfter (execPcieLinkUp d s) s = s.life := by
  simp [execPcieLinkUp]

@[simp] theorem execBadOpcode_life (opcode : BitVec 16) (h : HostCmd) (s : State) :
    lifeAfter (execBadOpcode opcode h s) s = s.life := by
  simp [execBadOpcode]

@[simp] theorem execNop_life (h : HostCmd) (s : State) :
    lifeAfter (execNop h s) s = s.life := by
  simp [execNop]

@[simp] theorem execIdentify_life (h : HostCmd) (s : State) :
    lifeAfter (execIdentify h s) s = s.life := by
  simp [execIdentify]

@[simp] theorem execGetStatus_life (h : HostCmd) (s : State) :
    lifeAfter (execGetStatus h s) s = s.life := by
  simp [execGetStatus]

@[simp] theorem execConfigPeriods_life (h : HostCmd) (s : State) :
    lifeAfter (execConfigPeriods h s) s = s.life := by
  simp [execConfigPeriods]

@[simp] theorem execConfigDeadline_life (h : HostCmd) (s : State) :
    lifeAfter (execConfigDeadline h s) s = s.life := by
  simp [execConfigDeadline]

@[simp] theorem execConfigDiscard_life (h : HostCmd) (s : State) :
    lifeAfter (execConfigDiscard h s) s = s.life := by
  simp [execConfigDiscard]

@[simp] theorem execCommit_life (h : HostCmd) (s : State) :
    lifeAfter (execCommit h s) s = s.life := by
  simp [execCommit]

@[simp] theorem execGetBoundary_life (h : HostCmd) (s : State) :
    lifeAfter (execGetBoundary h s) s = s.life := by
  simp [execGetBoundary]

@[simp] theorem execTimeGet_life (h : HostCmd) (s : State) :
    lifeAfter (execTimeGet h s) s = s.life := by
  simp [execTimeGet]

@[simp] theorem execTimeSetIncrement_life (h : HostCmd) (s : State) :
    lifeAfter (execTimeSetIncrement h s) s = s.life := by
  simp [execTimeSetIncrement]

@[simp] theorem execTimeOffset_life (h : HostCmd) (s : State) :
    lifeAfter (execTimeOffset h s) s = s.life := by
  simp [execTimeOffset]

@[simp] theorem execTimeForceStep_life (h : HostCmd) (s : State) :
    lifeAfter (execTimeForceStep h s) s = s.life := by
  simp [execTimeForceStep]

@[simp] theorem execConfigPtp_life (h : HostCmd) (s : State) :
    lifeAfter (execConfigPtp h s) s = s.life := by
  simp [execConfigPtp]

@[simp] theorem execPtpStatus_life (h : HostCmd) (s : State) :
    lifeAfter (execPtpStatus h s) s = s.life := by
  simp [execPtpStatus]

@[simp] theorem execConfigTpo_life (h : HostCmd) (s : State) :
    lifeAfter (execConfigTpo h s) s = s.life := by
  simp [execConfigTpo]

@[simp] theorem execTpiStream_life (h : HostCmd) (s : State) :
    lifeAfter (execTpiStream h s) s = s.life := by
  simp [execTpiStream]

@[simp] theorem execConfigSwitch_life (h : HostCmd) (s : State) :
    lifeAfter (execConfigSwitch h s) s = s.life := by
  simp [execConfigSwitch]

@[simp] theorem execCellPortStatus_life (h : HostCmd) (s : State) :
    lifeAfter (execCellPortStatus h s) s = s.life := by
  simp [execCellPortStatus]

@[simp] theorem execConfigCellPeers_life (h : HostCmd) (s : State) :
    lifeAfter (execConfigCellPeers h s) s = s.life := by
  simp [execConfigCellPeers]

@[simp] theorem execConfigRing_life (h : HostCmd) (s : State) :
    lifeAfter (execConfigRing h s) s = s.life := by
  simp [execConfigRing]

@[simp] theorem execConfigNode_life (h : HostCmd) (s : State) :
    lifeAfter (execConfigNode h s) s = s.life := by
  simp [execConfigNode]

@[simp] theorem execRingStatus_life (h : HostCmd) (s : State) :
    lifeAfter (execRingStatus h s) s = s.life := by
  simp [execRingStatus]

@[simp] theorem execRingScan_life (h : HostCmd) (s : State) :
    lifeAfter (execRingScan h s) s = s.life := by
  simp [execRingScan]

@[simp] theorem execRingCounters_life (h : HostCmd) (s : State) :
    lifeAfter (execRingCounters h s) s = s.life := by
  simp [execRingCounters]

@[simp] theorem execMailboxSend_life (h : HostCmd) (s : State) :
    lifeAfter (execMailboxSend h s) s = s.life := by
  simp [execMailboxSend]

@[simp] theorem execMailboxStream_life (h : HostCmd) (s : State) :
    lifeAfter (execMailboxStream h s) s = s.life := by
  simp [execMailboxStream]

@[simp] theorem execRingStop_life (h : HostCmd) (s : State) :
    lifeAfter (execRingStop h s) s = s.life := by
  simp [execRingStop]

@[simp] theorem execConfigJoint_life (h : HostCmd) (s : State) :
    lifeAfter (execConfigJoint h s) s = s.life := by
  simp [execConfigJoint]

@[simp] theorem execConfigLimits_life (h : HostCmd) (s : State) :
    lifeAfter (execConfigLimits h s) s = s.life := by
  simp [execConfigLimits]

@[simp] theorem execJointEnable_life (h : HostCmd) (s : State) :
    lifeAfter (execJointEnable h s) s = s.life := by
  simp [execJointEnable]

@[simp] theorem execJointDisable_life (h : HostCmd) (s : State) :
    lifeAfter (execJointDisable h s) s = s.life := by
  simp [execJointDisable]

@[simp] theorem execMovePoint_life (h : HostCmd) (s : State) :
    lifeAfter (execMovePoint h s) s = s.life := by
  simp [execMovePoint]

@[simp] theorem execMoveVelocity_life (h : HostCmd) (s : State) :
    lifeAfter (execMoveVelocity h s) s = s.life := by
  simp [execMoveVelocity]

@[simp] theorem execStreamPoints_life (h : HostCmd) (s : State) :
    lifeAfter (execStreamPoints h s) s = s.life := by
  simp [execStreamPoints]

@[simp] theorem execHome_life (h : HostCmd) (s : State) :
    lifeAfter (execHome h s) s = s.life := by
  simp [execHome]

@[simp] theorem execConfigHoming_life (h : HostCmd) (s : State) :
    lifeAfter (execConfigHoming h s) s = s.life := by
  simp [execConfigHoming]

@[simp] theorem execConfigStandstill_life (h : HostCmd) (s : State) :
    lifeAfter (execConfigStandstill h s) s = s.life := by
  simp [execConfigStandstill]

@[simp] theorem execJointStatus_life (h : HostCmd) (s : State) :
    lifeAfter (execJointStatus h s) s = s.life := by
  simp [execJointStatus]

@[simp] theorem execJointStop_life (h : HostCmd) (s : State) :
    lifeAfter (execJointStop h s) s = s.life := by
  simp [execJointStop]

@[simp] theorem execConfigFollowing_life (h : HostCmd) (s : State) :
    lifeAfter (execConfigFollowing h s) s = s.life := by
  simp [execConfigFollowing]

@[simp] theorem execConfigControl_life (h : HostCmd) (s : State) :
    lifeAfter (execConfigControl h s) s = s.life := by
  simp [execConfigControl]

@[simp] theorem execConfigFilter_life (h : HostCmd) (s : State) :
    lifeAfter (execConfigFilter h s) s = s.life := by
  simp [execConfigFilter]

@[simp] theorem execConfigFeedforward_life (h : HostCmd) (s : State) :
    lifeAfter (execConfigFeedforward h s) s = s.life := by
  simp [execConfigFeedforward]

@[simp] theorem execTableWrite_life (h : HostCmd) (s : State) :
    lifeAfter (execTableWrite h s) s = s.life := by
  simp [execTableWrite]

@[simp] theorem execTableRead_life (h : HostCmd) (s : State) :
    lifeAfter (execTableRead h s) s = s.life := by
  simp [execTableRead]

@[simp] theorem execExtTorque_life (h : HostCmd) (s : State) :
    lifeAfter (execExtTorque h s) s = s.life := by
  simp [execExtTorque]

@[simp] theorem execConfigFeedback_life (h : HostCmd) (s : State) :
    lifeAfter (execConfigFeedback h s) s = s.life := by
  simp [execConfigFeedback]

@[simp] theorem execControlStatus_life (h : HostCmd) (s : State) :
    lifeAfter (execControlStatus h s) s = s.life := by
  simp [execControlStatus]

@[simp] theorem execConfigJuggler_life (h : HostCmd) (s : State) :
    lifeAfter (execConfigJuggler h s) s = s.life := by
  simp [execConfigJuggler]

@[simp] theorem execConfigWeights_life (h : HostCmd) (s : State) :
    lifeAfter (execConfigWeights h s) s = s.life := by
  simp [execConfigWeights]

@[simp] theorem execReferenceLoad_life (h : HostCmd) (s : State) :
    lifeAfter (execReferenceLoad h s) s = s.life := by
  simp [execReferenceLoad]

@[simp] theorem execConfigRows_life (h : HostCmd) (s : State) :
    lifeAfter (execConfigRows h s) s = s.life := by
  simp [execConfigRows]

@[simp] theorem execJugglerStatus_life (h : HostCmd) (s : State) :
    lifeAfter (execJugglerStatus h s) s = s.life := by
  simp [execJugglerStatus]

@[simp] theorem execPlanRead_life (h : HostCmd) (s : State) :
    lifeAfter (execPlanRead h s) s = s.life := by
  simp [execPlanRead]

@[simp] theorem execPlanStream_life (h : HostCmd) (s : State) :
    lifeAfter (execPlanStream h s) s = s.life := by
  simp [execPlanStream]

@[simp] theorem execConfigGeometry_life (h : HostCmd) (s : State) :
    lifeAfter (execConfigGeometry h s) s = s.life := by
  simp [execConfigGeometry]

@[simp] theorem execConfigKinematics_life (h : HostCmd) (s : State) :
    lifeAfter (execConfigKinematics h s) s = s.life := by
  simp [execConfigKinematics]

@[simp] theorem execConfigSsmParams_life (h : HostCmd) (s : State) :
    lifeAfter (execConfigSsmParams h s) s = s.life := by
  simp [execConfigSsmParams]

@[simp] theorem execConfigSensor_life (h : HostCmd) (s : State) :
    lifeAfter (execConfigSensor h s) s = s.life := by
  simp [execConfigSensor]

@[simp] theorem execConfigZone_life (h : HostCmd) (s : State) :
    lifeAfter (execConfigZone h s) s = s.life := by
  simp [execConfigZone]

@[simp] theorem execZoneRequest_life (h : HostCmd) (s : State) :
    lifeAfter (execZoneRequest h s) s = s.life := by
  simp [execZoneRequest]

@[simp] theorem execZoneRelease_life (h : HostCmd) (s : State) :
    lifeAfter (execZoneRelease h s) s = s.life := by
  simp [execZoneRelease]

@[simp] theorem execSepStatus_life (h : HostCmd) (s : State) :
    lifeAfter (execSepStatus h s) s = s.life := by
  simp [execSepStatus]

@[simp] theorem execSepStream_life (h : HostCmd) (s : State) :
    lifeAfter (execSepStream h s) s = s.life := by
  simp [execSepStream]

@[simp] theorem execConfigInputs_life (h : HostCmd) (s : State) :
    lifeAfter (execConfigInputs h s) s = s.life := by
  simp [execConfigInputs]

@[simp] theorem execConfigOutputs_life (h : HostCmd) (s : State) :
    lifeAfter (execConfigOutputs h s) s = s.life := by
  simp [execConfigOutputs]

@[simp] theorem execFioWrite_life (h : HostCmd) (s : State) :
    lifeAfter (execFioWrite h s) s = s.life := by
  simp [execFioWrite]

@[simp] theorem execFioRead_life (h : HostCmd) (s : State) :
    lifeAfter (execFioRead h s) s = s.life := by
  simp [execFioRead]

@[simp] theorem execFioRearm_life (h : HostCmd) (s : State) :
    lifeAfter (execFioRearm h s) s = s.life := by
  simp [execFioRearm]

@[simp] theorem execConfigWatchdog_life (h : HostCmd) (s : State) :
    lifeAfter (execConfigWatchdog h s) s = s.life := by
  simp [execConfigWatchdog]

@[simp] theorem execConfigEncoder_life (h : HostCmd) (s : State) :
    lifeAfter (execConfigEncoder h s) s = s.life := by
  simp [execConfigEncoder]

@[simp] theorem execConfigSafetyInputs_life (h : HostCmd) (s : State) :
    lifeAfter (execConfigSafetyInputs h s) s = s.life := by
  simp [execConfigSafetyInputs]

@[simp] theorem execTrapezeStatus_life (h : HostCmd) (s : State) :
    lifeAfter (execTrapezeStatus h s) s = s.life := by
  simp [execTrapezeStatus]

@[simp] theorem execConfigTrapeze_life (h : HostCmd) (s : State) :
    lifeAfter (execConfigTrapeze h s) s = s.life := by
  simp [execConfigTrapeze]

@[simp] theorem execSyncStart_life (h : HostCmd) (s : State) :
    lifeAfter (execSyncStart h s) s = s.life := by
  simp [execSyncStart]

@[simp] theorem execSwitchOver_life (h : HostCmd) (s : State) :
    lifeAfter (execSwitchOver h s) s = s.life := by
  simp [execSwitchOver]

@[simp] theorem execHealthStream_life (h : HostCmd) (s : State) :
    lifeAfter (execHealthStream h s) s = s.life := by
  simp [execHealthStream]

@[simp] theorem execFaultInject_life (h : HostCmd) (s : State) :
    lifeAfter (execFaultInject h s) s = s.life := by
  simp [execFaultInject]

@[simp] theorem execConfigEvents_life (h : HostCmd) (s : State) :
    lifeAfter (execConfigEvents h s) s = s.life := by
  simp [execConfigEvents]

@[simp] theorem execEventRead_life (h : HostCmd) (s : State) :
    lifeAfter (execEventRead h s) s = s.life := by
  simp [execEventRead]

@[simp] theorem execEventClear_life (h : HostCmd) (s : State) :
    lifeAfter (execEventClear h s) s = s.life := by
  simp [execEventClear]

@[simp] theorem execPlaceTest_life (h : HostCmd) (s : State) :
    lifeAfter (execPlaceTest h s) s = s.life := by
  simp [execPlaceTest]

@[simp] theorem execFaultStatus_life (h : HostCmd) (s : State) :
    lifeAfter (execFaultStatus h s) s = s.life := by
  simp [execFaultStatus]

@[simp] theorem execPreserveFreeze_life (h : HostCmd) (s : State) :
    lifeAfter (execPreserveFreeze h s) s = s.life := by
  simp [execPreserveFreeze]

@[simp] theorem execPreserveThaw_life (h : HostCmd) (s : State) :
    lifeAfter (execPreserveThaw h s) s = s.life := by
  simp [execPreserveThaw]

@[simp] theorem execPreserveRead_life (h : HostCmd) (s : State) :
    lifeAfter (execPreserveRead h s) s = s.life := by
  simp [execPreserveRead]

@[simp] theorem execConfigStatistics_life (h : HostCmd) (s : State) :
    lifeAfter (execConfigStatistics h s) s = s.life := by
  simp [execConfigStatistics]

@[simp] theorem execStatsRead_life (h : HostCmd) (s : State) :
    lifeAfter (execStatsRead h s) s = s.life := by
  simp [execStatsRead]

@[simp] theorem execCodeLoad_life (h : HostCmd) (s : State) :
    lifeAfter (execCodeLoad h s) s = s.life := by
  simp [execCodeLoad]

@[simp] theorem execConfigProgram_life (h : HostCmd) (s : State) :
    lifeAfter (execConfigProgram h s) s = s.life := by
  simp [execConfigProgram]

@[simp] theorem execProgramRead_life (h : HostCmd) (s : State) :
    lifeAfter (execProgramRead h s) s = s.life := by
  simp [execProgramRead]

@[simp] theorem execTraceOpen_life (h : HostCmd) (s : State) :
    lifeAfter (execTraceOpen h s) s = s.life := by
  simp [execTraceOpen]

@[simp] theorem execTraceClose_life (h : HostCmd) (s : State) :
    lifeAfter (execTraceClose h s) s = s.life := by
  simp [execTraceClose]

@[simp] theorem execDispatchStatus_life (h : HostCmd) (s : State) :
    lifeAfter (execDispatchStatus h s) s = s.life := by
  simp [execDispatchStatus]

@[simp] theorem State.takeToken_life (s : State) (d : DieId) :
    (State.takeToken s d).life = s.life := by
  simp [State.takeToken]

@[simp] theorem execTokenRequest_life (d : DieId) (s : State) :
    lifeAfter (execTokenRequest d s) s = s.life := by
  simp [execTokenRequest]

@[simp] theorem execLatentReady_life (d : DieId) (s : State) :
    lifeAfter (execLatentReady d s) s = s.life := by
  simp [execLatentReady]

@[simp] theorem State.stageRecord_life (s : State) (d : DieId) (bs : List Byte) :
    (State.stageRecord s d bs).1.life = s.life := by
  unfold State.stageRecord
  extract_lets opcode h
  split
  · rename_i f hf
    split
    · simp
    · exact bodyOf_life hf _ _ _
  · simp

@[simp] theorem State.stageAll_life (s : State) (bs : List Byte) :
    (State.stageAll s bs).1.life = s.life := by
  simp [State.stageAll]

@[simp] theorem State.rebuildPreserve_life (s : State) (d : DieId) :
    (State.rebuildPreserve s d).life = s.life := by
  simp [State.rebuildPreserve]

@[simp] theorem State.firstGrant_life (s : State) :
    (State.firstGrant s).life = s.life := by
  simp [State.firstGrant]

@[simp] theorem State.haltInSeed_life (s : State) (d : DieId) :
    (State.haltInSeed s d).life = s.life := by
  simp [State.haltInSeed]

@[simp] theorem State.testSequencer_life (s : State) :
    (State.testSequencer s).life = s.life := by
  simp [State.testSequencer]

@[simp] theorem execVcoreRemoved_life (d : DieId) (s : State) :
    lifeAfter (execVcoreRemoved d s) s = s.life := by
  unfold execVcoreRemoved
  dsimp only
  (repeat' split) <;> simp [*]

@[simp] theorem execVcoreReturn_life (d : DieId) (s : State) :
    lifeAfter (execVcoreReturn d s) s = s.life := by
  simp [execVcoreReturn]

@[simp] theorem State.onDebug_life (s : State) (f : Debug → Debug) :
    (State.onDebug s f).life = s.life := by
  simp [State.onDebug]

@[simp] theorem State.shiftOut_life (s : State) (bs : List Byte) :
    (State.shiftOut s bs).life = s.life := by
  simp [State.shiftOut]

@[simp] theorem State.leaveExtest_life (s : State) :
    (State.leaveExtest s).life = s.life := by
  simp [State.leaveExtest]

@[simp] theorem execIdcode_life (s : State) :
    lifeAfter (execIdcode s) s = s.life := by
  simp [execIdcode]

@[simp] theorem execBypass_life (s : State) :
    lifeAfter (execBypass s) s = s.life := by
  simp [execBypass]

@[simp] theorem execSamplePreload_life (s : State) :
    lifeAfter (execSamplePreload s) s = s.life := by
  simp [execSamplePreload]

@[simp] theorem execDebugChallenge_life (s : State) :
    lifeAfter (execDebugChallenge s) s = s.life := by
  simp [execDebugChallenge]

@[simp] theorem execDebugResponse_life (bytes : List Byte) (s : State) :
    lifeAfter (execDebugResponse bytes s) s = s.life := by
  unfold execDebugResponse
  (repeat' split) <;> simp_all

@[simp] theorem execDebugLock_life (s : State) :
    lifeAfter (execDebugLock s) s = s.life := by
  simp [execDebugLock]

@[simp] theorem State.onPlaceMemory_life (s : State) (p : DebugPlace) (f : Memory → Memory) :
    (State.onPlaceMemory s p f).life = s.life := by
  unfold State.onPlaceMemory
  dsimp only
  (repeat' split) <;> simp [*]

@[simp] theorem execDebugRead_life (where_ : DebugPlace) (address : Nat) (count : Nat) (s : State) :
    lifeAfter (execDebugRead where_ address count s) s = s.life := by
  simp [execDebugRead]

@[simp] theorem State.debugRegister_life (s : State) (d : DieId) (a : Nat) (bs : List Byte) :
    (State.debugRegister s d a bs).life = s.life := by
  have h := execRegisterWrite_life d { offset := BitVec.ofNat 16 a } (BitVec.ofNat 32 (rd bs 0 4)) s
  unfold State.debugRegister
  repeat' split
  all_goals simp_all

@[simp] theorem execDebugWrite_life (where_ : DebugPlace) (address : Nat) (bytes : List Byte) (s : State) :
    lifeAfter (execDebugWrite where_ address bytes s) s = s.life := by
  unfold execDebugWrite
  (repeat' split) <;> simp_all

@[simp] theorem execDebugHalt_life (d : DieId) (core : Fin 4) (s : State) :
    lifeAfter (execDebugHalt d core s) s = s.life := by
  simp [execDebugHalt]

@[simp] theorem execDebugStep_life (d : DieId) (core : Fin 4) (s : State) :
    lifeAfter (execDebugStep d core s) s = s.life := by
  simp [execDebugStep]

@[simp] theorem execDebugFlashRead_life (cs : Fin 2) (address : Nat) (count : Nat) (s : State) :
    lifeAfter (execDebugFlashRead cs address count s) s = s.life := by
  simp [execDebugFlashRead]

@[simp] theorem execDebugFuseProgram_life (d : DieId) (which : FuseHash) (bytes : List Byte) (s : State) :
    lifeAfter (execDebugFuseProgram d which bytes s) s = s.life := by
  simp [execDebugFuseProgram]

end Sys2Proof.Machine
end

