-- ==== Sys2Proof/Laws/LifeMoves.lean ====
section
/-! SUPPORT. How the operations of the image, of Blossom and of Ripe move the life of the package: forward through the phases, keeping the order in which an
image comes to be applied. -/

namespace Sys2Proof.Machine

/-- One state's life moves to another's without a restart: nothing but the phase and the image's progress changes, and these in order. -/
structure Life.Moves (a b : Life) : Prop where
  pending : b.pending = a.pending
  pkgid   : b.pkgid = a.pkgid
  leads   : Phase.Leads a.phase b.phase
  ordered : a.Ordered → b.Ordered
  number  : b.b = a.b
  fired   : b.fired = a.fired
  curtain : a.curtain = true → b.curtain = true

theorem Phase.Leads.trans {a b c : Phase} (h : Phase.Leads a b) (k : Phase.Leads b c) : Phase.Leads a c := by
  cases h <;> cases k <;> constructor

theorem Life.Moves.refl (a : Life) : a.Moves a := ⟨rfl, rfl, .stay _, id, rfl, rfl, id⟩

theorem Life.Moves.trans {a b c : Life} (h : a.Moves b) (k : b.Moves c) : a.Moves c :=
  ⟨k.pending.trans h.pending, k.pkgid.trans h.pkgid, h.leads.trans k.leads, fun o => k.ordered (h.ordered o),
    k.number.trans h.number, k.fired.trans h.fired, fun c => k.curtain (h.curtain c)⟩

theorem Life.Moves.of_eq {a b : Life} (h : b = a) : a.Moves b := h ▸ .refl a

/-- A fold of moves is a move. -/
theorem foldl_moves {α : Type} (l : List α) (f : State → α → State) (s : State) (h : ∀ (s : State) (a : α), s.life.Moves (f s a).life) :
    s.life.Moves (l.foldl f s).life := by
  induction l generalizing s with
  | nil => exact .refl _
  | cons a l ih => exact (h s a).trans (ih _)

/-! ### The operations that do move it -/

/-- The life after CONFIG_FAILED. -/
def Life.failed (l : Life) : Life := { l with phase := .failed, applied := false, bA := none, bR := none }

/-- The life with no image under way, in a phase. -/
def Life.imageless (l : Life) (p : Phase) : Life := { l with phase := p, complete := false, applied := false, bA := none, bR := none }

theorem State.onImage_life (s : State) (f : ImageLoad → ImageLoad) : (s.onImage f).life =
    { s.life with
      complete := (f s.mw.image).complete, applied := (f s.mw.image).applied, bA := (f s.mw.image).bA, bR := (f s.mw.image).bR } := rfl

theorem State.configFailed_life (s : State) : s.configFailed.life = s.life.failed := by
  unfold State.configFailed
  extract_lets old clear s1 s2 s3 s4
  have h1 : s1.life = s.life := foldl_life _ _ _ fun s d => by
    split
    · simp only [clear, State.onDie_life]
      exact foldl_life _ _ _ fun s j => by simp
    · rfl
  have h2 : s2.life = s.life := by simp [s2, h1]
  rw [State.phaseRecords_life]
  have h4 : s4.life = s2.life.failed := rfl
  rw [h4, h2]

theorem State.imageRollback_life (s : State) : s.imageRollback.life = s.life ∨ s.imageRollback.life = s.life.failed := by
  unfold State.imageRollback
  extract_lets s1 s2
  have h1 : s1.life = s.life := by simp [s1]
  have h2 : s2.life = s.life := (State.onMw_life _ _ (by dsimp only; split <;> rfl) rfl rfl rfl).trans h1
  split
  · exact .inl ((State.onMw_life _ _ rfl rfl rfl rfl).trans h1)
  · exact .inr (by rw [State.configFailed_life, h2])

theorem State.blossomApply_life (s : State) : s.blossomApply.life = { s.life with applied := true } := by
  unfold State.blossomApply
  extract_lets go s1 s2
  have g : ∀ s d, (go s d).life = s.life := fun s d => by simp only [go]; split <;> simp
  have h1 : s1.life = s.life := by simp [s1, g]
  rw [foldl_life _ _ _ fun s d => by simp]
  have h2 : s2.life = { s1.life with applied := true } := rfl
  rw [h2, h1]

theorem State.ripeApply_life (s : State) : s.ripeApply.life = { s.life with phase := .ripe } := by
  unfold State.ripeApply
  extract_lets old go s1 s2 home holder was s3 s4 s5 s6 s7
  have g : ∀ s d, (go s d).life = s.life := fun s d => by simp only [go]; split <;> simp
  have h1 : s1.life = s.life := by simp [s1, g]
  have h2 : s2.life = { s.life with phase := .ripe } := by
    have h : ({ s1 with phase := .ripe } : State).life = { s1.life with phase := .ripe } := rfl
    rw [State.phaseRecords_life, h, h1]
  have h3 : s3.life = s2.life := by simp [s3]
  have h4 : s4.life = s3.life := by simp [s4]
  have h5 : s5.life = s4.life := by simp [s5]
  have h6 : s6.life = s5.life := foldl_life _ _ _ fun s d => by simp
  have h7 : s7.life = s6.life := by simp only [s7]; split <;> simp
  rw [foldl_life _ _ _ fun s d => by simp, h7, h6, h5, h4, h3, h2]

theorem State.restart_life (s : State) (strap : BitVec 2) (cause : Nat) (keep : Bool) :
    (s.restart strap cause keep).life =
      { pending := s.pending, pkgid := strap, phase := .seed, complete := false, applied := false, bA := none, bR := none, b := 0, fired := false, curtain := false } := rfl

theorem State.beginBlossom_life (s : State) : s.beginBlossom.life = { s.life with phase := .blossom } := rfl

theorem State.blossomAgain_life (s : State) (d : DieId) : (s.blossomAgain d).life = s.life.imageless .blossom := by
  unfold State.blossomAgain
  extract_lets s1 s2 s3
  have h1 : s1.life = s.life := by simp [s1]
  have h2 : s2.life = s.life := by simp [s2, h1]
  have h3 : ({ s3 with phase := .blossom } : State).life = s2.life.imageless .blossom := rfl
  rw [h3, h2]

theorem State.imageComplete_life (s : State) : ∃ b, s.imageComplete.life = { s.life with complete := true, bA := some b } := by
  unfold State.imageComplete
  extract_lets id s1
  have h1 : s1.life = s.life := State.onLive_life _ _ fun d s => by split <;> simp
  have h2 : (s1.onImage fun m => { m with complete := true, imageId := id, bA := some (s1.mw.b + 2) }).life =
      { s1.life with complete := true, bA := some (s1.mw.b + 2) } := rfl
  exact ⟨_, by rw [h2, h1]⟩

theorem State.imageFail_life (s : State) (cause sect status index : Nat) :
    (s.imageFail cause sect status index).life = s.life.imageless s.phase ∨ (s.imageFail cause sect status index).life = s.life.failed := by
  unfold State.imageFail
  extract_lets s1 s2
  have h1 : s1.life = s.life := State.onMw_life _ _ (by dsimp only; split <;> rfl) rfl rfl rfl
  have h2 : s2.life = s.life := by simp [s2, h1]
  split
  · have h3 : (s2.onImage fun m => m.attempt 1).life = s2.life.imageless s2.life.phase := rfl
    exact .inl (by rw [h3, h2]; rfl)
  · exact .inr (by rw [State.configFailed_life, h2])

theorem State.stageRecords_life (fuel : Nat) (bs : List Byte) (n : Nat) (s : State) : (State.stageRecords fuel bs n s).1.life = s.life := by
  induction fuel generalizing bs n s with
  | zero => rfl
  | succ k ih =>
    simp only [State.stageRecords]
    repeat' split
    all_goals simp [ih]

/-! ### The moves -/

theorem Life.Moves.fails {l : Life} (h : l.phase = .blossom) : l.Moves l.failed where
  pending := rfl
  pkgid := rfl
  leads := by rw [h]; exact .failed
  ordered _ := by constructor <;> simp [Life.failed]
  number := rfl
  fired := rfl
  curtain c := c

theorem Life.Moves.restarts {l : Life} (h : l.phase = .blossom) : l.Moves (l.imageless l.phase) where
  pending := rfl
  pkgid := rfl
  leads := .stay _
  ordered _ := by constructor <;> simp [Life.imageless, h]
  number := rfl
  fired := rfl
  curtain c := c

theorem State.imageFail_moves (s : State) (h : s.phase = .blossom) (cause sect status index : Nat) :
    s.life.Moves (s.imageFail cause sect status index).life := by
  rcases s.imageFail_life cause sect status index with e | e <;> rw [e]
  · exact .restarts h
  · exact .fails h

theorem State.imageRollback_moves (s : State) (h : s.phase = .blossom) : s.life.Moves s.imageRollback.life := by
  rcases s.imageRollback_life with e | e <;> rw [e]
  · exact .refl _
  · exact .fails h

theorem State.blossomApply_moves (s : State) (h : s.mw.image.bA = some s.mw.b) : s.life.Moves s.blossomApply.life := by
  rw [State.blossomApply_life]
  exact ⟨rfl, rfl, .stay _, fun o => ⟨o.staged, fun _ => by simp [State.life, h], fun _ => rfl, o.ripe, o.none⟩, rfl, rfl, id⟩

theorem State.ripeApply_moves (s : State) (h : s.phase = .blossom) (k : s.mw.image.bR = some s.mw.b) : s.life.Moves s.ripeApply.life := by
  rw [State.ripeApply_life]
  exact ⟨rfl, rfl, by simp only [State.life, h]; exact .ripe,
    fun o => ⟨o.staged, o.applied, o.named, fun _ => by simp [State.life, k], fun q => by simp at q⟩, rfl, rfl, id⟩

/-- The image's decisions at B_a − 1 and B_r − 1. -/
theorem State.imageDecision_moves (s : State) : s.life.Moves s.imageDecision.life := by
  unfold State.imageDecision
  dsimp only
  split
  · exact .refl _
  rename_i hp
  have hp : s.phase = .blossom := by simpa using hp
  split
  · rename_i h
    split
    · rename_i hb
      refine (s.imageRollback_moves hp).trans ⟨rfl, rfl, .stay _, fun o => ⟨fun _ => ?_, fun _ => rfl, o.named, fun q => ?_, fun q => ?_⟩, rfl, rfl, id⟩
      · rcases s.imageRollback_life with e | e
        · have e' := congrArg Life.complete e
          have b' := congrArg Life.bA e
          refine o.staged ?_
          rw [show s.imageRollback.life.bA = s.life.bA from b']
          simp [State.life, h.1]
        · have := congrArg Life.phase e
          exact absurd (hb.symm.trans this) (by simp [Life.failed])
      · exact absurd (hb.symm.trans q) (by simp)
      · rcases q with q | q <;> exact absurd (hb.symm.trans q) (by simp)
    · exact s.imageRollback_moves hp
  · split
    · rename_i hr
      split
      · exact s.imageRollback_moves hp
      · have ha : s.mw.image.applied = true := by
          unfold State.ripeNext at hr
          dsimp only at hr
          split at hr <;> simp_all
        refine ⟨rfl, rfl, .stay _, fun o => ⟨o.staged, o.applied, fun _ => ha, fun _ => rfl, fun q => ?_⟩, rfl, rfl, id⟩
        rcases q with q | q <;> exact absurd (hp.symm.trans q) (by simp)
    · exact .refl _

theorem State.settleOpen_moves (s : State) : s.life.Moves s.settleOpen.life := by
  unfold State.settleOpen
  extract_lets s1
  rw [State.mwApply_life]
  simp only [s1]
  split
  · split
    · rename_i h; exact s.blossomApply_moves h.1
    · split
      · rename_i h; exact s.ripeApply_moves h.1 h.2
      · exact .of_eq (by simp)
  · exact .refl _

theorem State.imageComplete_moves (s : State) (h : s.phase = .blossom) : s.life.Moves s.imageComplete.life := by
  obtain ⟨b, e⟩ := s.imageComplete_life
  rw [e]
  refine ⟨rfl, rfl, .stay _, fun o => ⟨fun _ => rfl, fun _ => rfl, o.named, o.ripe, fun q => ?_⟩, rfl, rfl, id⟩
  rcases q with q | q <;> exact absurd (h.symm.trans q) (by simp)

theorem State.headerRead_moves (s : State) (h : s.phase = .blossom) : s.life.Moves s.headerRead.life := by
  unfold State.headerRead
  dsimp only
  repeat' split
  all_goals first
    | exact s.imageFail_moves h _ _ _ _
    | exact .of_eq ((State.onMw_life _ _ rfl rfl rfl rfl).trans (by simp))

theorem State.sectionRead_moves (s : State) (i : Nat) (h : s.phase = .blossom) : s.life.Moves (s.sectionRead i).life := by
  unfold State.sectionRead
  extract_lets e bs r s1
  have hr : r.1.life = s.life := by
    simp only [r]
    split
    · split
      · rfl
      · exact State.onMw_life _ _ rfl rfl rfl rfl
    · exact State.stageRecords_life _ _ _ _
  have hp : r.1.phase = .blossom := (congrArg Life.phase hr).trans h
  have h1 : s1.life = s.life := (State.onMw_life _ _ rfl rfl rfl rfl).trans hr
  split
  · exact s.imageFail_moves h _ _ _ _
  split
  · exact s.imageFail_moves h _ _ _ _
  split
  · exact hr ▸ r.1.imageFail_moves hp _ _ _ _
  · split
    · exact h1 ▸ s1.imageComplete_moves ((congrArg Life.phase h1).trans h)
    · exact .of_eq h1

/-! ### The Curtain -/

/-- The life with the Curtain active. -/
def Life.dark (l : Life) : Life := { l with curtain := true }

theorem Life.Moves.darkens (l : Life) : l.Moves l.dark := ⟨rfl, rfl, .stay _, fun o => ⟨o.staged, o.applied, o.named, o.ripe, o.none⟩, rfl, rfl, fun _ => rfl⟩

theorem State.startCurtain_life (s : State) (cause : Nat) : (s.startCurtain cause).life = s.life.dark := by
  unfold State.startCurtain
  split
  · rename_i h; simp [Life.dark, State.life, h]
  · extract_lets single tStop s1
    have h1 : s1.life = s.life.dark := rfl
    rw [State.onLive_life _ _ fun d s => by simp, h1]

theorem State.startCurtain_moves (s : State) (cause : Nat) : s.life.Moves (s.startCurtain cause).life := s.startCurtain_life cause ▸ .darkens _

theorem State.curtainHeld_moves (s : State) (cause : Nat) : s.life.Moves ((s.startCurtain cause).holdOutputs).life := by
  simpa using s.startCurtain_moves cause

/-- A fold with a result of its own, whose steps are moves, is a move. -/
theorem foldl_moves_fst {α β : Type} (l : List α) (f : State × β → α → State × β) (s : State × β)
    (h : ∀ (s : State × β) (a : α), s.1.life.Moves (f s a).1.life) : s.1.life.Moves (l.foldl f s).1.life := by
  induction l generalizing s with
  | nil => exact .refl _
  | cons a l ih => exact (h s a).trans (ih _)

/-- Nothing but the Curtain moves where MW reads its banks. -/
theorem State.readBanks_moves (s : State) : s.life.Moves s.readBanks.life := by
  unfold State.readBanks
  extract_lets slots words one a unread
  rw [State.onMw_life _ _ rfl rfl rfl rfl]
  refine foldl_moves_fst words one (s, []) fun a w => ?_
  simp only [one]
  split
  · exact (.of_eq (State.readMwArray_life ..) : a.1.life.Moves _).trans (State.curtainHeld_moves _ 1)
  · exact .of_eq (State.readMwArray_life ..)

@[simp] theorem State.closeJournal_life (s : State) : s.closeJournal.life = s.life := by
  unfold State.closeJournal
  (repeat' split) <;> rfl

theorem State.cutOff_moves (s : State) : s.life.Moves s.cutOff.life := by
  unfold State.cutOff
  extract_lets s1 s2 s3 s4 s5 s6 f s7 s8
  have h1 : s1.life = s.life := by simp [s1]
  have h2 : s2.life = s.life := (foldl_life _ _ _ fun s d => by split <;> simp).trans h1
  have h3 : s3.life = s.life := (foldl_life _ _ _ fun s d => by split <;> simp).trans h2
  have h4 : s3.life.Moves s4.life := by
    rw [show s4.life = s3.readBanks.life from foldl_life _ _ _ fun s d => State.cutDie_life s d]
    exact s3.readBanks_moves
  have h5 : s5.life = s4.life := State.actOverruns_life _
  have h6 : s6.life = s4.life := (State.replayMoved_life _ _).trans ((State.handoverCut_life _).trans h5)
  have h7 : s7.life = s4.life := by simp [s7, h6]
  have h8 : s8.life = s4.life := (foldl_life _ _ _ fun s d => by simp).trans h7
  clear_value s8
  rw [State.onMw_life _ _ rfl rfl rfl rfl, h8, ← h3]
  exact h4

/-- The life at a boundary as it fires: the number of the first boundary is 0, and each later one is one more (R33). -/
def Life.atBoundary (l : Life) : Life := { l with b := if l.fired then l.b + 1 else 0, fired := true }

theorem State.fire_moves (s : State) : ∃ l, s.life.Moves l ∧ l.atBoundary.Moves s.fire.life := by
  unfold State.fire
  extract_lets s1 shown s2 s3 s4 s5 b grid s6 s7 s8 close note s9 s10 s11 s12
  have h1 : s.life.Moves s1.life := by
    simp only [s1, State.dueCommit_life]
    exact s.settleOpen_moves
  have h2 : s.life.Moves s2.life := by
    rw [show s2.life = (if s1.mw.fired && !s1.mw.cutDone then s1.cutOff else s1).life from
      foldl_life _ _ _ fun s d => by simp only [shown]; split <;> simp]
    split
    · exact h1.trans s1.cutOff_moves
    · exact h1
  have h3 : s3.life = s2.life := State.abandonNext_life _
  have h4 : s4.life = s2.life := by simp only [s4, State.dueInterval_life, h3]
  have h5 : s5.life = s2.life := (foldl_life _ _ _ fun s d => by split <;> simp).trans h4
  have h6 : s6.life = s5.life.atBoundary := by
    simp only [s6, State.onMw, State.life, State.curtained, Life.atBoundary, b, Option.isSome_map]
    congr
  have h7 : s7.life = s6.life := State.intervalBoundary_life _
  have h8 : s8.life = s6.life := (foldl_life _ _ _ fun s d => by simp).trans h7
  have h9 : s9.life = s6.life := by simp [s9, note, h8]
  have h10 : s10.life = s6.life := by simp [s10, h9]
  have h11 : s11.life = s6.life := by simp only [s11]; split <;> simp [h10]
  have h12 : s12.life = s6.life := (foldl_life _ _ _ fun s d => by simp).trans h11
  have e : s12.life = s2.life.atBoundary := by rw [h12, h6, h5]
  exact ⟨s2.life, h2, e ▸ s12.imageDecision_moves⟩

/-- The image's order does not look at the boundary number. -/
theorem Life.Ordered.atBoundary {l : Life} (h : l.Ordered) : l.atBoundary.Ordered := ⟨h.staged, h.applied, h.named, h.ripe, h.none⟩

/-- A boundary that fires numbers itself and moves the life on; one that does not leaves everything. -/
theorem execBoundary_moves (s : State) : execBoundary s = .next s ∨ ∃ l, s.life.Moves l ∧ l.atBoundary.Moves (lifeAfter (execBoundary s) s) := by
  unfold execBoundary
  split
  · exact .inr s.fire_moves
  · exact .inl rfl

theorem execCutOff_moves (s : State) : s.life.Moves (lifeAfter (execCutOff s) s) := by
  unfold execCutOff
  split
  · exact (s.settleOpen_moves.trans (.of_eq (State.dueCommit_life _))).trans (State.cutOff_moves _)
  · exact .refl _

theorem execBlossomApply_moves (s : State) : s.life.Moves (lifeAfter (execBlossomApply s) s) := by
  unfold execBlossomApply
  split
  · rename_i h; exact s.blossomApply_moves h.1
  · exact .refl _

theorem execRipeBegin_moves (s : State) : s.life.Moves (lifeAfter (execRipeBegin s) s) := by
  unfold execRipeBegin
  split
  · rename_i h; exact s.ripeApply_moves h.1 h.2.1
  · exact .refl _

theorem State.loading_phase {s : State} (h : s.loading = true) : s.phase = .blossom := by
  unfold State.loading at h
  simp_all

theorem execImageSectionRead_moves (part : ImagePart) (s : State) : s.life.Moves (lifeAfter (execImageSectionRead part s) s) := by
  unfold execImageSectionRead
  split
  · exact .refl _
  · rename_i h
    have hp := State.loading_phase (by simpa using h)
    split
    · simp only [lifeAfter_next]
      split
      · exact .refl _
      · exact s.headerRead_moves hp
    · dsimp only [lifeAfter_next]
      split
      · exact s.sectionRead_moves _ hp
      · exact .refl _

theorem execSignatureVerified_moves (s : State) : s.life.Moves (lifeAfter (execSignatureVerified s) s) := by
  unfold execSignatureVerified
  split
  · exact .refl _
  · rename_i h
    dsimp only
    split
    · exact .of_eq (State.onMw_life _ _ rfl rfl rfl rfl)
    · exact s.imageFail_moves (State.loading_phase (by simp_all)) _ _ _ _

theorem execDebugFlashErase_moves (cs : Fin 2) (address count : Nat) (s : State) :
    s.life.Moves (lifeAfter (execDebugFlashErase cs address count s) s) := by
  unfold execDebugFlashErase
  repeat' split
  all_goals first
    | exact .refl _
    | exact .of_eq (State.onMw_life _ _ (by simp only [ImageLoad.onFlash]; split <;> rfl) rfl rfl rfl)

theorem execDebugFlashWrite_moves (cs : Fin 2) (address : Nat) (bytes : List Byte) (s : State) :
    s.life.Moves (lifeAfter (execDebugFlashWrite cs address bytes s) s) := by
  unfold execDebugFlashWrite
  repeat' split
  all_goals first
    | exact .refl _
    | exact .of_eq (State.onMw_life _ _ (by simp only [ImageLoad.onFlash]; split <;> rfl) rfl rfl rfl)

/-- The end of a die's Seed leaves the phase, or enters Blossom, with the image as far as it was or with none under way. -/
theorem execSeedDone_life (d : DieId) (s : State) : lifeAfter (execSeedDone d s) s = s.life ∨
    (s.phase = .seed ∧ lifeAfter (execSeedDone d s) s = { s.life with phase := .blossom }) ∨
    lifeAfter (execSeedDone d s) s = s.life.imageless .blossom := by
  unfold execSeedDone
  split
  · exact .inl rfl
  · extract_lets s0 x s1
    have h1 : s1.life = s.life := by simp [s1, s0]
    split
    · exact .inl (State.testSequencer_life s)
    rw [← h1]
    split
    · rw [lifeAfter_next]
      unfold State.join
      extract_lets old s2 s3 s4
      have h2 : s2.life = s1.life := by simp [s2]
      have hp : s2.phase = s.phase := congrArg Life.phase (h2.trans h1)
      rw [State.phaseRecords_life, ← h2]
      simp only [s4]
      split
      · rename_i h
        refine .inr (.inl ⟨hp.symm.trans h, ?_⟩)
        rw [State.firstGrant_life, State.beginBlossom_life, h2, h1]
      · split
        · exact .inr (.inr (State.blossomAgain_life _ _))
        · exact .inl (State.firstGrant_life _)
      · split
        · exact .inr (.inr (State.blossomAgain_life _ _))
        · exact .inl (State.firstGrant_life _)
      · split
        · exact .inr (.inr (State.blossomAgain_life _ _))
        · split
          · exact .inl (by simp)
          · exact .inl (by split <;> simp [s3])
    · refine .inl ?_
      rw [lifeAfter_next]
      unfold State.haltInSeed
      extract_lets old s2 s3 s4
      have h4 : s4.life = s1.life := by simp only [s4]; split <;> simp [s3, s2]
      rw [State.phaseRecords_life]
      split <;> simp [h4]

/-! ### Detections that ask for the Curtain -/

theorem State.supplyLasting_moves (s : State) (i : Fin 7) : s.life.Moves (s.supplyLasting i).life := by
  unfold State.supplyLasting
  split
  · exact .of_eq (by simp)
  · split
    · exact .of_eq (by simp)
    · exact s.curtainHeld_moves 1

theorem State.tempLasting_moves (s : State) (k : TempSensor) : s.life.Moves (s.tempLasting k).life := by
  cases k
  · exact .of_eq (by simp [State.tempLasting])
  · exact .of_eq (by simp [State.tempLasting])
  · exact s.curtainHeld_moves 1

theorem State.unitLasting_moves (s : State) (u : UnitId) (o : Occur) : s.life.Moves (s.unitLasting u o).life := by
  unfold State.unitLasting
  split
  · exact .of_eq (by simp)
  · exact s.startCurtain_moves 1

theorem State.unitDetected_moves (s : State) (u : UnitId) (det : Nat) (fails injected : Bool) : s.life.Moves (s.unitDetected u det fails injected).life := by
  unfold State.unitDetected
  extract_lets r
  have h : r.1.life = s.life := by simp only [r]; split <;> simp
  split
  · exact h ▸ r.1.unitLasting_moves _ _
  · exact .of_eq h

/-- A detection that asks for the Curtain: nothing but the Curtain moves. -/
theorem moves_after {s s1 : State} {t : State} (h : s1.life = s.life) (m : s1.life.Moves t.life) : s.life.Moves (lifeAfter (.next t) s) := by
  rw [lifeAfter_next, ← h]; exact m

theorem execSupplySample_moves (i : Fin 7) (mv : Nat) (s : State) : s.life.Moves (lifeAfter (execSupplySample i mv s) s) := by
  unfold execSupplySample
  split
  · exact .refl _
  · extract_lets r w out run was since s1
    have h1 : (s1.falseRun 9 i.val out r.2.isSome).1.life = s.life := by simp [s1, r]
    generalize s1.falseRun 9 i.val out r.2.isSome = p at h1
    obtain ⟨s2, injected⟩ := p
    dsimp only at h1 ⊢
    split
    · have hq : (s2.supplyDetect i false injected).1.life = s.life := by simp [h1]
      split
      · exact moves_after hq (State.supplyLasting_moves _ _)
      · exact .of_eq hq
    · exact .of_eq h1

theorem execSupplyFault_moves (i : Fin 7) (s : State) : s.life.Moves (lifeAfter (execSupplyFault i s) s) := by
  unfold execSupplyFault
  split
  · extract_lets s1
    exact moves_after (s1 := (s1.supplyDetect i true _).1) (by simp [s1]) (State.supplyLasting_moves _ _)
  · exact .refl _

theorem execTempSample_moves (k : TempSensor) (d : Int) (s : State) : s.life.Moves (lifeAfter (execTempSample k d s) s) := by
  unfold execTempSample
  extract_lets kk f hit r out run s1
  have h1 : (s1.falseRun 10 kk.val out r.2.isSome).1.life = s.life := by
    have : r.1.life = s.life := by simp only [r]; cases k <;> simp
    simp [s1, this]
  generalize s1.falseRun 10 kk.val out r.2.isSome = p at h1
  obtain ⟨s2, injected⟩ := p
  dsimp -zeta only at h1 ⊢
  extract_lets s3 q
  have h3 : s3.life = s.life := by
    simp only [s3]
    split
    · exact h1
    · cases k
      · simp [h1]
      · simp [h1]
      · exact (State.onLive_life _ _ (fun d s => by simp)).trans h1
  split
  · have hq : q.1.life = s.life := by simp [q, h3]
    split
    · exact moves_after hq (State.tempLasting_moves _ _)
    · exact .of_eq hq
  · exact .of_eq h3

theorem execTempFault_moves (k : TempSensor) (s : State) : s.life.Moves (lifeAfter (execTempFault k s) s) := by
  unfold execTempFault
  extract_lets kk s1
  split
  · refine moves_after (s1 := (s1.tempDetect k true _).1) ?_ (State.tempLasting_moves _ _)
    rw [State.tempDetect_life]
    exact State.onMw_life _ _ rfl rfl rfl rfl
  · exact .refl _

theorem State.referenceLost_moves (s : State) : s.life.Moves s.referenceLost.life := by
  have h1 : (s.onMw fun m => { m with refBackup := true }).life = s.life := State.onMw_life _ _ rfl rfl rfl rfl
  rw [State.referenceLost, State.holdOutputs_life, State.sequencerCounts_life, ← h1]
  exact State.startCurtain_moves _ 1

theorem execCoarseCheckWindow_moves (ppm : Int) (tick : Bool) (s : State) : s.life.Moves (lifeAfter (execCoarseCheckWindow ppm tick s) s) := by
  unfold execCoarseCheckWindow
  extract_lets r bad was s1
  have h1 : (s1.falseRun 8 0 bad r.2.isSome).1.life = s.life := by simp [s1, r]
  generalize s1.falseRun 8 0 bad r.2.isSome = p at h1
  obtain ⟨s2, injected⟩ := p
  dsimp -zeta only at h1 ⊢
  extract_lets s3 q
  split
  · exact moves_after (s1 := s3) (by simp [s3, h1]) (State.referenceLost_moves _)
  · split
    · have hq : q.1.life = s.life := by simp [q, h1]
      split
      · exact moves_after hq (State.referenceLost_moves _)
      · exact .of_eq hq
    · exact .of_eq h1

/-- Nothing but the Curtain moves where MW's copies disagree. -/
theorem State.compareFailed_moves (s : State) (injected : Bool) : s.life.Moves (s.compareFailed injected).life := by
  have h1 : (s.onLive fun d s => s.noteLasting d 14 injected).life = s.life := State.onLive_life _ _ fun d s => by simp
  rw [State.compareFailed, State.holdOutputs_life, State.sequencerCounts_life, ← h1]
  exact State.startCurtain_moves _ 1

theorem execCurtainDemand_moves (s : State) : s.life.Moves (lifeAfter (execCurtainDemand s) s) := by
  unfold execCurtainDemand
  split
  · exact s.curtainHeld_moves 3
  · exact .refl _

theorem execFioWatchdog_moves (s : State) : s.life.Moves (lifeAfter (execFioWatchdog s) s) := by
  unfold execFioWatchdog
  split
  · extract_lets s1 s2
    exact moves_after (s1 := s2) (by simp [s2, s1]) (State.curtainHeld_moves _ _)
  · exact .refl _

theorem execTransientLimit_moves (d : DieId) (u : UnitId) (det : Fin 16) (s : State) : s.life.Moves (lifeAfter (execTransientLimit d u det s) s) := by
  unfold execTransientLimit
  extract_lets key x o data s1 s2
  split
  · exact moves_after (s1 := s2.raise d 204 (s2.unitTarget u) data o) (by simp [s2, s1]) (State.unitLasting_moves _ _ _)
  · exact .refl _

theorem execHandshakeStall_moves (u : UnitId) (fails : Bool) (s : State) : s.life.Moves (lifeAfter (execHandshakeStall u fails s) s) := by
  unfold execHandshakeStall
  split
  · exact .refl _
  · extract_lets hit r0 q0 core
    split
    · exact moves_after (s1 := q0.1) (by simp [q0, r0]) (State.compareFailed_moves _ _)
    · rename_i d _
      extract_lets r k reset
      have hr : r.1.life = s.life := by simp [r]
      split
      · exact .refl _
      · split
        · split
          · exact .of_eq (by simp [hr])
          · exact moves_after hr (State.unitDetected_moves _ _ _ _ _)
        · exact moves_after (s1 := reset r.1) (by simp only [reset]; split <;> simp [hr]) (State.unitDetected_moves _ _ _ _ _)

theorem execCompareFailure_moves (s : State) : s.life.Moves (lifeAfter (execCompareFailure s) s) := by
  unfold execCompareFailure
  extract_lets r
  exact moves_after (s1 := r.1) (by simp [r]) (State.compareFailed_moves _ _)

end Sys2Proof.Machine
end

