-- ==== Sys2Proof/Laws/Memory.lean ====
section
/-! SUPPORT. Byte memories and sparse tables: every operation keeps the canonical form, a read after a write gives the byte written, and a write leaves
every other address alone. -/

namespace Sys2Proof.Machine

theorem Memory.wfFrom_cons (lo : Nat) (c : Nat × Byte) (r : Memory) :
    Memory.wfFrom lo (c :: r) = true ↔ lo ≤ c.1 ∧ c.2 ≠ 0 ∧ Memory.wfFrom (c.1 + 1) r = true := by
  simp [Memory.wfFrom, and_assoc]

theorem Memory.wfFrom_mono {m : Memory} {lo lo' : Nat} (h : Memory.wfFrom lo m = true) (k : lo' ≤ lo) : Memory.wfFrom lo' m = true := by
  cases m with
  | nil => rfl
  | cons c r => rw [Memory.wfFrom_cons] at h ⊢; exact ⟨Nat.le_trans k h.1, h.2⟩

theorem Memory.clear_wfFrom {m : Memory} {lo : Nat} (a : Nat) (h : Memory.wfFrom lo m = true) : Memory.wfFrom lo (m.clear a) = true := by
  induction m generalizing lo with
  | nil => rfl
  | cons c r ih =>
    rw [Memory.wfFrom_cons] at h
    simp only [Memory.clear]
    split
    · exact Memory.wfFrom_mono (ih h.2.2) (by omega)
    · exact (Memory.wfFrom_cons _ _ _).2 ⟨h.1, h.2.1, ih h.2.2⟩

theorem Memory.put_wfFrom {m : Memory} {lo a : Nat} {b : Byte} (hb : b ≠ 0) (h : Memory.wfFrom lo m = true) (k : lo ≤ a) :
    Memory.wfFrom lo (m.put a b) = true := by
  induction m generalizing lo with
  | nil => exact (Memory.wfFrom_cons _ _ _).2 ⟨k, hb, rfl⟩
  | cons c r ih =>
    have h' := (Memory.wfFrom_cons _ _ _).1 h
    simp only [Memory.put]
    split
    · rename_i h1; exact (Memory.wfFrom_cons _ _ _).2 ⟨k, hb, (Memory.wfFrom_cons _ _ _).2 ⟨h1, h'.2⟩⟩
    · split
      · rename_i h1 h2; exact (Memory.wfFrom_cons _ _ _).2 ⟨k, hb, h2 ▸ h'.2.2⟩
      · exact (Memory.wfFrom_cons _ _ _).2 ⟨h'.1, h'.2.1, ih h'.2.2 (by omega)⟩

theorem Memory.write_wfFrom {m : Memory} {lo a : Nat} (b : Byte) (h : Memory.wfFrom lo m = true) (k : lo ≤ a) : Memory.wfFrom lo (m.write a b) = true := by
  unfold Memory.write
  split
  · exact Memory.clear_wfFrom a h
  · rename_i hb; exact Memory.put_wfFrom hb h k

/-- A byte written keeps the canonical form. -/
@[simp] theorem Memory.write_wf {m : Memory} (h : m.wf = true) (a : Nat) (b : Byte) : (m.write a b).wf = true :=
  Memory.write_wfFrom b h (Nat.zero_le a)

/-- A byte string written keeps the canonical form. -/
@[simp] theorem Memory.writeN_wf {m : Memory} (h : m.wf = true) (a : Nat) (bs : List Byte) : (m.writeN a bs).wf = true := by
  induction bs generalizing m a with
  | nil => exact h
  | cons b r ih => exact ih (Memory.write_wf h a b) _

@[simp] theorem Memory.nil_wf : Memory.wf [] = true := rfl

/-- Cells taken out leave a canonical memory. -/
theorem Memory.filter_wfFrom {m : Memory} {lo : Nat} (p : Nat × Byte → Bool) (h : Memory.wfFrom lo m = true) : Memory.wfFrom lo (m.filter p) = true := by
  induction m generalizing lo with
  | nil => rfl
  | cons c r ih =>
    rw [Memory.wfFrom_cons] at h
    simp only [List.filter]
    split
    · exact (Memory.wfFrom_cons _ _ _).2 ⟨h.1, h.2.1, ih h.2.2⟩
    · exact Memory.wfFrom_mono (ih h.2.2) (by omega)

theorem Memory.filter_wf {m : Memory} (p : Nat × Byte → Bool) (h : m.wf = true) : Memory.wf (m.filter p) = true := Memory.filter_wfFrom p h

theorem Memory.read_clear (m : Memory) (a : Nat) : (m.clear a).read a = 0 := by
  induction m with
  | nil => rfl
  | cons c r ih =>
    simp only [Memory.clear]
    split
    · exact ih
    · rename_i h; simp [Memory.read, h, ih]

theorem Memory.read_put (m : Memory) (a : Nat) (b : Byte) : (m.put a b).read a = b := by
  induction m with
  | nil => simp [Memory.put, Memory.read]
  | cons c r ih =>
    simp only [Memory.put]
    split
    · simp [Memory.read]
    · split
      · simp [Memory.read]
      · rename_i h; simp [Memory.read, h, ih]

/-- A read after a write to the same address gives the byte written. -/
theorem Memory.read_write (m : Memory) (a : Nat) (b : Byte) : (m.write a b).read a = b := by
  unfold Memory.write
  split
  · rename_i h; rw [Memory.read_clear, h]
  · exact m.read_put a b

theorem Memory.read_clear_ne (m : Memory) {a k : Nat} (n : k ≠ a) : (m.clear a).read k = m.read k := by
  induction m with
  | nil => rfl
  | cons c r ih =>
    simp only [Memory.clear]
    split
    · rename_i h; simp [Memory.read, ih, n, ← h]
    · simp [Memory.read, ih]

theorem Memory.read_put_ne (m : Memory) {a k : Nat} (b : Byte) (n : k ≠ a) : (m.put a b).read k = m.read k := by
  induction m with
  | nil => simp [Memory.put, Memory.read, n]
  | cons c r ih =>
    simp only [Memory.put]
    split
    · simp [Memory.read, n]
    · split
      · rename_i h; simp [Memory.read, n, ← h]
      · simp [Memory.read, ih]

/-- A write leaves every other address alone. -/
theorem Memory.read_write_ne (m : Memory) {a k : Nat} (b : Byte) (n : k ≠ a) : (m.write a b).read k = m.read k := by
  unfold Memory.write
  split
  · exact m.read_clear_ne n
  · exact m.read_put_ne b n

/-- A byte string written leaves every address outside it alone. -/
theorem Memory.read_writeN_outside (m : Memory) (a k : Nat) (bs : List Byte) (h : k < a ∨ a + bs.length ≤ k) : (m.writeN a bs).read k = m.read k := by
  induction bs generalizing m a with
  | nil => rfl
  | cons b r ih =>
    simp only [List.length_cons] at h
    simp only [Memory.writeN]
    rw [ih _ _ (by omega), Memory.read_write_ne _ _ (by omega)]

/-- A byte string written reads back. -/
theorem Memory.read_writeN_inside (m : Memory) (a i : Nat) (bs : List Byte) (h : i < bs.length) :
    (m.writeN a bs).read (a + i) = bs[i] := by
  induction bs generalizing m a i with
  | nil => simp at h
  | cons b r ih =>
    simp only [Memory.writeN]
    cases i with
    | zero => rw [Memory.read_writeN_outside _ _ _ _ (by omega)]; simpa using Memory.read_write m a b
    | succ j =>
      have := ih (m.write a b) (a + 1) j (by simpa using h)
      simpa [Nat.add_assoc, Nat.add_comm 1 j] using this

/-- Words zeroed one after another read 0 in every byte; every other byte reads as before. -/
theorem Memory.read_zeroWords (ws : List Nat) (m : Memory) (x : Nat) :
    (ws.foldl (fun (m : Memory) w => m.writeN (4 * w) (zeros 4)) m).read x = if ws.contains (x / 4) then 0 else m.read x := by
  induction ws generalizing m with
  | nil => rfl
  | cons w r ih =>
    have len : (zeros 4).length = 4 := rfl
    rw [List.foldl_cons, ih, List.contains_cons]
    by_cases h : x / 4 = w
    · have hx : x = 4 * w + x % 4 := by omega
      have hm : x % 4 < (zeros 4).length := by rw [len]; omega
      have hr : (m.writeN (4 * w) (zeros 4)).read x = 0 := by
        rw [hx, Memory.read_writeN_inside _ _ _ _ hm]
        simp only [zeros, List.getElem_replicate]
      simp [h, hr]
    · rw [Memory.read_writeN_outside _ _ _ _ (by rw [len]; omega)]
      simp [h]

/-- A key set reads back. -/
theorem Sparse.find_set {α : Type} (m : Sparse α) (k : Nat) (v : α) : (m.set k v).find k = some v := by
  induction m with
  | nil => simp [Sparse.set, Sparse.find]
  | cons c r ih =>
    simp only [Sparse.set]
    repeat' split
    all_goals simp_all [Sparse.find]

/-- A key set leaves every other key. -/
theorem Sparse.find_set_ne {α : Type} (m : Sparse α) {k j : Nat} (v : α) (h : j ≠ k) : (m.set k v).find j = m.find j := by
  induction m with
  | nil => simp [Sparse.set, Sparse.find, h]
  | cons c r ih =>
    simp only [Sparse.set]
    repeat' split
    all_goals simp_all [Sparse.find]

end Sys2Proof.Machine
end

