-- ==== Sys2Proof/Laws/State.lean ====
section
/-! SUPPORT. One lemma per field of the package for each of its updates. -/

namespace Sys2Proof.Machine

@[simp] theorem State.die_t0 (s : State) : s.die .t0 = s.t0 := rfl
@[simp] theorem State.die_t1 (s : State) : s.die .t1 = s.t1 := rfl
@[simp] theorem other_other (d : DieId) : d.other.other = d := by cases d <;> rfl
theorem other_ne (d : DieId) : d.other ≠ d := by cases d <;> decide

@[simp] theorem State.setDie_phase (s : State) (d : DieId) (x : Die) : (s.setDie d x).phase = s.phase := by cases d <;> rfl
@[simp] theorem State.setDie_pkgid (s : State) (d : DieId) (x : Die) : (s.setDie d x).pkgid = s.pkgid := by cases d <;> rfl
@[simp] theorem State.setDie_mw (s : State) (d : DieId) (x : Die) : (s.setDie d x).mw = s.mw := by cases d <;> rfl
@[simp] theorem State.setDie_out (s : State) (d : DieId) (x : Die) : (s.setDie d x).out = s.out := by cases d <;> rfl
@[simp] theorem State.setDie_draws (s : State) (d : DieId) (x : Die) : (s.setDie d x).draws = s.draws := by cases d <;> rfl
@[simp] theorem State.setDie_pending (s : State) (d : DieId) (x : Die) : (s.setDie d x).pending = s.pending := by cases d <;> rfl
@[simp] theorem State.setDie_die (s : State) (d : DieId) (x : Die) : (s.setDie d x).die d = x := by cases d <;> rfl
@[simp] theorem State.setDie_other (s : State) (d : DieId) (x : Die) : (s.setDie d x).die d.other = s.die d.other := by cases d <;> rfl
theorem State.setDie_ne (s : State) {d e : DieId} (x : Die) (h : e ≠ d) : (s.setDie d x).die e = s.die e := by
  cases d <;> cases e <;> first | rfl | exact absurd rfl h

@[simp] theorem State.onDie_phase (s : State) (d : DieId) (f : Die → Die) : (s.onDie d f).phase = s.phase := by simp [State.onDie]
@[simp] theorem State.onDie_pkgid (s : State) (d : DieId) (f : Die → Die) : (s.onDie d f).pkgid = s.pkgid := by simp [State.onDie]
@[simp] theorem State.onDie_mw (s : State) (d : DieId) (f : Die → Die) : (s.onDie d f).mw = s.mw := by simp [State.onDie]
@[simp] theorem State.onDie_out (s : State) (d : DieId) (f : Die → Die) : (s.onDie d f).out = s.out := by simp [State.onDie]
@[simp] theorem State.onDie_draws (s : State) (d : DieId) (f : Die → Die) : (s.onDie d f).draws = s.draws := by simp [State.onDie]
@[simp] theorem State.onDie_pending (s : State) (d : DieId) (f : Die → Die) : (s.onDie d f).pending = s.pending := by simp [State.onDie]
@[simp] theorem State.onDie_die (s : State) (d : DieId) (f : Die → Die) : (s.onDie d f).die d = f (s.die d) := by simp [State.onDie]
@[simp] theorem State.onDie_other (s : State) (d : DieId) (f : Die → Die) : (s.onDie d f).die d.other = s.die d.other := by simp [State.onDie]
theorem State.onDie_ne (s : State) {d e : DieId} (f : Die → Die) (h : e ≠ d) : (s.onDie d f).die e = s.die e := s.setDie_ne _ h

@[simp] theorem State.onMw_phase (s : State) (f : Midway → Midway) : (s.onMw f).phase = s.phase := rfl
@[simp] theorem State.onMw_pkgid (s : State) (f : Midway → Midway) : (s.onMw f).pkgid = s.pkgid := rfl
@[simp] theorem State.onMw_t0 (s : State) (f : Midway → Midway) : (s.onMw f).t0 = s.t0 := rfl
@[simp] theorem State.onMw_t1 (s : State) (f : Midway → Midway) : (s.onMw f).t1 = s.t1 := rfl
@[simp] theorem State.onMw_mw (s : State) (f : Midway → Midway) : (s.onMw f).mw = f s.mw := rfl
@[simp] theorem State.onMw_out (s : State) (f : Midway → Midway) : (s.onMw f).out = s.out := rfl
@[simp] theorem State.onMw_draws (s : State) (f : Midway → Midway) : (s.onMw f).draws = s.draws := rfl
@[simp] theorem State.onMw_pending (s : State) (f : Midway → Midway) : (s.onMw f).pending = s.pending := rfl
@[simp] theorem State.onMw_die (s : State) (d : DieId) (f : Midway → Midway) : (s.onMw f).die d = s.die d := by cases d <;> rfl

@[simp] theorem State.emit_phase (s : State) (m : OutMsg) : (s.emit m).phase = s.phase := rfl
@[simp] theorem State.emit_pkgid (s : State) (m : OutMsg) : (s.emit m).pkgid = s.pkgid := rfl
@[simp] theorem State.emit_t0 (s : State) (m : OutMsg) : (s.emit m).t0 = s.t0 := rfl
@[simp] theorem State.emit_t1 (s : State) (m : OutMsg) : (s.emit m).t1 = s.t1 := rfl
@[simp] theorem State.emit_mw (s : State) (m : OutMsg) : (s.emit m).mw = s.mw := rfl
@[simp] theorem State.emit_out (s : State) (m : OutMsg) : (s.emit m).out = m :: s.out := rfl
@[simp] theorem State.emit_draws (s : State) (m : OutMsg) : (s.emit m).draws = s.draws := rfl
@[simp] theorem State.emit_pending (s : State) (m : OutMsg) : (s.emit m).pending = s.pending := rfl
@[simp] theorem State.emit_die (s : State) (d : DieId) (m : OutMsg) : (s.emit m).die d = s.die d := by cases d <;> rfl

@[simp] theorem State.draw_phase (s : State) : s.draw.2.phase = s.phase := rfl
@[simp] theorem State.draw_pkgid (s : State) : s.draw.2.pkgid = s.pkgid := rfl
@[simp] theorem State.draw_t0 (s : State) : s.draw.2.t0 = s.t0 := rfl
@[simp] theorem State.draw_t1 (s : State) : s.draw.2.t1 = s.t1 := rfl
@[simp] theorem State.draw_mw (s : State) : s.draw.2.mw = s.mw := rfl
@[simp] theorem State.draw_out (s : State) : s.draw.2.out = s.out := rfl
@[simp] theorem State.draw_draws (s : State) : s.draw.2.draws = s.draws + 1 := rfl
@[simp] theorem State.draw_pending (s : State) : s.draw.2.pending = s.pending := rfl
@[simp] theorem State.draw_die (s : State) (d : DieId) : s.draw.2.die d = s.die d := by cases d <;> rfl

@[simp] theorem State.onQueue_phase (s : State) (d : DieId) (q : Fin 64) (f : Queue → Queue) : (s.onQueue d q f).phase = s.phase := by simp [State.onQueue]
@[simp] theorem State.onQueue_pkgid (s : State) (d : DieId) (q : Fin 64) (f : Queue → Queue) : (s.onQueue d q f).pkgid = s.pkgid := by simp [State.onQueue]
@[simp] theorem State.onQueue_mw (s : State) (d : DieId) (q : Fin 64) (f : Queue → Queue) : (s.onQueue d q f).mw = s.mw := by simp [State.onQueue]
@[simp] theorem State.onQueue_out (s : State) (d : DieId) (q : Fin 64) (f : Queue → Queue) : (s.onQueue d q f).out = s.out := by simp [State.onQueue]
@[simp] theorem State.onQueue_draws (s : State) (d : DieId) (q : Fin 64) (f : Queue → Queue) : (s.onQueue d q f).draws = s.draws := by simp [State.onQueue]
@[simp] theorem State.onQueue_pending (s : State) (d : DieId) (q : Fin 64) (f : Queue → Queue) : (s.onQueue d q f).pending = s.pending := by simp [State.onQueue]
@[simp] theorem State.onQueue_queue (s : State) (d : DieId) (q : Fin 64) (f : Queue → Queue) : (s.onQueue d q f).queue d q = f (s.queue d q) := by
  simp [State.onQueue, State.queue]
theorem State.onQueue_queue_ne (s : State) (d : DieId) {q r : Fin 64} (f : Queue → Queue) (h : r ≠ q) : (s.onQueue d q f).queue d r = s.queue d r := by
  have k : q.val ≠ r.val := fun e => h (Fin.ext e.symm)
  simp [State.onQueue, State.queue, k]

/-- Taking the front command leaves every other field. -/
@[simp] theorem State.pending_die (s : State) (d : DieId) (p : List Instr) : ({ s with pending := p } : State).die d = s.die d := by cases d <;> rfl

/-- A count at its bound. -/
theorem sat32_le (n : Nat) : sat32 n ≤ 4294967295 := Nat.min_le_right _ _

end Sys2Proof.Machine
end

