-- ==== Sys2Proof/Tests/Slice0.lean ====
section
/-! SUPPORT. Tests: ill-formed commands, the spec's own examples, steps of one command, and for each obligation with hypotheses values that meet the hypotheses of each
of its clauses together (`witness_<name>`; `accB`, `ableB` and `readyB` are the computable forms of `Accepted`, `Able` and `Ready`, proved sound here). -/

/-! ### Small states to test on -/

namespace Sys2Proof.Tests

set_option Elab.async false

open Sys2Proof.Machine

/-- A die that runs, with its port up and command queue 0 running. -/
def running (x : Die) : Die :=
  { x with
    status := .running,
    port := { x.port with linkUp := true, busMaster := true, memSpace := true, msixMask := 0, queues := x.port.queues.set 0 { state := .running, qcfg := 0x80000005, running := true, tail := 4 } } }

/-- A package in Ripe, T0 the Flier. -/
def ripe : State :=
  { State.reset with
    phase := .ripe, t0 := running State.reset.t0, t1 := running State.reset.t1,
    mw := { State.reset.mw with ticks := 100000000000, b := 6, fired := true, trapeze := { State.reset.mw.trapeze with token := some .t0 } } }

/-- A command on queue 0 of T0, for the package, to be executed by both dies. -/
def cmd (plen : Byte) (params : List Byte) (target : Word := 0) : HostCmd :=
  { die := .t0, queue := 0, flags := 4, plen := plen, tag := 7, seq := 0, target := target, epoch := 0, params := params }

/-- A work item whose words are NOP. -/
def item : Item :=
  { entry := 0, inst := 0, b := 6, cls := 0, code := List.replicate 8 0xFC000000, params := [], bound := 1000, stateBytes := 0, stateRead := 0, stateWrite := 0,
    cold := false, lib := .user }

/-- Core 0 of T0. -/
def core0 : CoreRef := ⟨.t0, 0⟩

/-- The package in Ripe with the item running on core 0. -/
def busy : State := ripe.onCore core0 fun k => { k with run := some item }

/-- `Accepted`, as a computation. -/
def accB (s : State) (op : Nat) (h : HostCmd) : Bool :=
  s.canDequeue h && (s.die h.die).works && decide (s.receivers h.die = [h.die]) &&
    decide (entryCheck op h (s.queue h.die (cmdQueue h)).expectedSeq = none) &&
    (match opInfo op with
      | some o => (!s.hasPartner || (dual h && s.isFlier h.die) || (!dual h && o.single)) && decide ((s.dequeue h).check h.die op o h = none)
      | none => false) &&
    !atEpoch h && ((s.dequeue h).die (actingDie h h.die)).works

theorem accB_sound {s : State} {op : Nat} {h : HostCmd} (a : accB s op h = true) : Accepted s op h := by
  unfold accB at a
  cases e : opInfo op with
  | none => simp [e] at a
  | some o =>
    simp [e] at a
    refine ⟨a.1.1.1.1.1.1, a.1.1.1.1.1.2, a.1.1.1.1.2, a.1.1.1.2, ?_, ?_, a.1.2, a.2⟩
    · rcases a.1.1.2.1 with (h1 | h2) | h3
      · exact .inl h1
      · exact .inr (.inl h2)
      · exact .inr (.inr ⟨h3.1, o, e, h3.2⟩)
    · intro o' e'
      rw [e] at e'
      injection e' with e'
      subst e'
      exact a.1.1.2.2

/-- `Able` and `Ready`, as computations. -/
def ableB (s : State) (c : CoreRef) (i : Item) : Bool :=
  decide (s.runningOn c = some i) && s.quiet c.die 0 && (match i.code[(s.core c).pc]? with
    | some w => wordDefined w
    | none => false)

theorem ableB_sound {s : State} {c : CoreRef} {i : Item} (a : ableB s c i = true) : Able s c i := by
  unfold ableB at a
  cases e : i.code[(s.core c).pc]? with
  | none => simp [e] at a
  | some w => simp [e] at a; exact ⟨a.1.1, a.1.2, w, e, a.2⟩

/-- `Reaches`, as a computation. -/
def reachesB (s : State) (c : CoreRef) (i : Item) (op : Instr) : Bool :=
  decide (s.runningOn c = some i) && s.quiet c.die 0 && (match i.code[(s.core c).pc]? with
    | some w => spells w op
    | none => false)

theorem reachesB_sound {s : State} {c : CoreRef} {i : Item} {op : Instr} (a : reachesB s c i op = true) : Reaches s c i op := by
  unfold reachesB at a
  cases e : i.code[(s.core c).pc]? with
  | none => simp [e] at a
  | some w => simp [e] at a; exact ⟨a.1.1, a.1.2, w, e, a.2⟩

def readyB (s : State) (c : CoreRef) (i : Item) (cost : Nat) : Bool :=
  ableB s c i && decide (((s.core c).forward (s.core c) cost).ticks ≤ i.bound)

theorem readyB_sound {s : State} {c : CoreRef} {i : Item} {cost : Nat} (a : readyB s c i cost = true) : Ready s c i cost := by
  unfold readyB at a
  simp at a
  exact ⟨ableB_sound a.1, a.2⟩


/-- The package with the item running on core 0 and that core's state changed. -/
def busyWith (f : Core → Core) : State := ripe.onCore core0 fun k => f { k with run := some item }

/-- `s` with the item of core 0 made of one word. -/
def withWord (s : State) (w : Word) : State :=
  s.onCore core0 fun k => { k with run := k.run.map fun i => { i with code := List.replicate 8 w } }

/-- The fields of a word, each its lowest bit and its value. -/
def fields (l : List (Nat × Nat)) : Nat := l.foldl (fun n x => n + 2 ^ x.1 * x.2) 0

/-- The word of a servo core instruction, written out from Tables 8.11 to 8.13. -/
def wordOf (op : Instr) : Word :=
  let r := fun (fn rd ra rb : Nat) => fields [(26, 0x01), (0, fn), (22, rd), (18, ra), (14, rb)]
  let i := fun (o rd ra imm : Nat) => fields [(26, o), (22, rd), (18, ra), (0, imm)]
  let m := fun (o r p : Nat) (mode : AddrMode) (sz : MemSize) =>
    let f : Nat × Nat := match mode with
      | .disp d => (0, d.toNat)
      | .postInc d => (1, d.toNat)
      | .circular cb inc => (2, 4096 * cb.val + inc.toNat)
      | .indexed dk sh => (3, 1024 * dk.val + 256 * sh.toNat)
    let z : Nat := match sz with
      | .word => 0
      | .shalf => 1
      | .uhalf => 2
      | .ubyte => 3
      | .pair => 4
    fields [(26, o), (22, r), (19, p), (17, f.1), (14, z), (0, f.2)]
  let a := fun (fn acc ra rb : Nat) (mode : MulMode) =>
    let z : Nat := match mode with
      | .ss => 0
      | .us => 1
      | .su => 2
      | .uu => 3
    fields [(26, 0x14), (0, fn), (24, acc), (20, ra), (16, rb), (14, z)]
  let c := fun (fn acc b r sh low : Nat) => fields [(26, 0x15), (0, fn), (24, acc), (22, b), (18, r), (12, sh), (6, low)]
  let p := fun (fn p r q cb : Nat) => fields [(26, 0x1A), (0, fn), (23, p), (19, r), (16, q + cb)]
  let q := fun (fn rd ri p rn : Nat) (uns : Bool) => fields [(26, 0x1C), (0, fn), (22, rd), (18, ri), (15, p), (11, rn), (10, b2n uns)]
  let y := fun (fn rd code : Nat) => fields [(26, 0x3F), (0, fn), (22, rd), (14, code)]
  BitVec.ofNat 32 (match op with
  | .add _ rd ra rb => r 0 rd.val ra.val rb.val
  | .adds _ rd ra rb => r 1 rd.val ra.val rb.val
  | .sub _ rd ra rb => r 2 rd.val ra.val rb.val
  | .subs _ rd ra rb => r 3 rd.val ra.val rb.val
  | .and_ _ rd ra rb => r 4 rd.val ra.val rb.val
  | .or_ _ rd ra rb => r 5 rd.val ra.val rb.val
  | .xor_ _ rd ra rb => r 6 rd.val ra.val rb.val
  | .shl _ rd ra rb => r 7 rd.val ra.val rb.val
  | .shr _ rd ra rb => r 8 rd.val ra.val rb.val
  | .sar _ rd ra rb => r 9 rd.val ra.val rb.val
  | .min_ _ rd ra rb => r 10 rd.val ra.val rb.val
  | .max_ _ rd ra rb => r 11 rd.val ra.val rb.val
  | .minu _ rd ra rb => r 12 rd.val ra.val rb.val
  | .maxu _ rd ra rb => r 13 rd.val ra.val rb.val
  | .mov _ rd ra => r 14 rd.val ra.val 0
  | .abs_ _ rd ra => r 15 rd.val ra.val 0
  | .neg_ _ rd ra => r 16 rd.val ra.val 0
  | .cmp _ ra rb => r 17 0 ra.val rb.val
  | .tst _ ra rb => r 18 0 ra.val rb.val
  | .mul _ rd ra rb _ => r 19 rd.val ra.val rb.val
  | .clz _ rd ra => r 20 rd.val ra.val 0
  | .addi _ rd ra imm => i 0x02 rd.val ra.val imm.toNat
  | .andi _ rd ra imm => i 0x03 rd.val ra.val imm.toNat
  | .ori _ rd ra imm => i 0x04 rd.val ra.val imm.toNat
  | .xori _ rd ra imm => i 0x05 rd.val ra.val imm.toNat
  | .cmpi _ ra imm => i 0x06 0 ra.val imm.toNat
  | .shli _ rd ra n => i 0x07 rd.val ra.val n.toNat
  | .shri _ rd ra n => i 0x07 rd.val ra.val (0x1000 + n.toNat)
  | .sari _ rd ra n => i 0x07 rd.val ra.val (0x2000 + n.toNat)
  | .movi _ rd imm => i 0x08 rd.val 0 imm.toNat
  | .movhi _ rd imm => i 0x09 rd.val 0 imm.toNat
  | .ld _ rd k mode sz _ => m 0x10 rd.val k.val mode sz
  | .st _ rd k mode sz => m 0x11 rd.val k.val mode sz
  | .mpy _ acc ra rb mode _ => a 0 acc.val ra.val rb.val mode
  | .mac _ acc ra rb mode _ => a 1 acc.val ra.val rb.val mode
  | .msu _ acc ra rb mode _ => a 2 acc.val ra.val rb.val mode
  | .aclr _ acc => c 0 acc.val 0 0 0 0
  | .amov _ acc b => c 1 acc.val b.val 0 0 0
  | .aadd _ acc b => c 2 acc.val b.val 0 0 0
  | .asub _ acc b => c 3 acc.val b.val 0 0 0
  | .aneg _ acc => c 4 acc.val 0 0 0 0
  | .ashr _ acc sh => c 5 acc.val 0 0 sh.toNat 0
  | .ashl _ acc sh => c 6 acc.val 0 0 sh.toNat 0
  | .aset _ acc rd sh => c 7 acc.val 0 rd.val sh.toNat 0
  | .asetp _ acc rd sh => c 8 acc.val 0 rd.val sh.toNat 0
  | .sta _ rd acc sh => c 9 acc.val 0 rd.val sh.toNat 0
  | .stal _ rd acc sh => c 10 acc.val 0 rd.val sh.toNat 0
  | .stah _ rd acc sh => c 11 acc.val 0 rd.val sh.toNat 0
  | .diva _ rd acc rb => c 12 acc.val 0 rd.val 0 rb.val
  | .pseti _ k imm => fields [(26, 0x18), (23, k.val), (0, imm.toNat)]
  | .paddi _ k imm => fields [(26, 0x19), (23, k.val), (0, imm.toNat)]
  | .pset _ k rr => p 0 k.val rr.val 0 0
  | .pget _ rr k => p 1 k.val rr.val 0 0
  | .pmov _ k pq => p 2 k.val 0 pq.val 0
  | .padd _ k rr => p 3 k.val rr.val 0 0
  | .cbset _ cb k rr => p 4 k.val rr.val 0 cb.val
  | .mini _ rd ri k rn uns => q 0 rd.val ri.val k.val rn.val uns
  | .maxi _ rd ri k rn uns => q 1 rd.val ri.val k.val rn.val uns
  | .bcc _ cond off => fields [(26, 0x20), (22, cond.toNat), (0, off.toNat)]
  | .call _ target => fields [(26, 0x21), (0, target.toNat)]
  | .loop_ _ fromReg ra count last => fields [(26, 0x22), (25, b2n fromReg), (21, ra.val), (11, count.toNat), (0, last.toNat)]
  | .exit_ _ => y 1 0 0
  | .ret _ => y 2 0 0
  | .faultOp _ code => y 3 0 code.toNat
  | .movf _ rd => y 4 rd.val 0
  | .setf _ rd => y 5 rd.val 0
  | _ => y 0 0 0)

/-- `busyWith` with pointer P0. -/
def busyAt (a : Ptr) : State := busyWith fun k => { k with p := k.p.set 0 a }

/-- The bytes of fields, each a size and a value. -/
def pack (l : List (Nat × Nat)) : List Byte := (l.map fun x => le x.1 x.2).flatten

/-- A command that names unit `index` of a kind, its parameters filled up to whole words. -/
def call (kind index : Nat) (l : List (Nat × Nat)) : HostCmd :=
  let p := pack l
  let n := (p.length + 7) / 8
  cmd (BitVec.ofNat 8 n) (p ++ zeros (8 * n - p.length)) (BitVec.ofNat 32 (kind * 2 ^ 28 + index))

/-- A live configuration of both dies changed. -/
def withCfg (s : State) (f : Cfg → Cfg) : State :=
  (s.onDie .t0 fun x => { x with cfg := f x.cfg, shadow := f x.shadow }).onDie .t1 fun x => { x with cfg := f x.cfg, shadow := f x.shadow }

/-- `ripe` with its Flier changed. -/
def flier (f : Die → Die) : State := ripe.onDie .t0 f

/-- `ripe` with MW changed. -/
def mwWith (f : Midway → Midway) : State := ripe.onMw f

/-- `ripe` with joint 0 of the Flier changed. -/
def jointWith (f : Joint → Joint) : State := ripe.onJoint .t0 0 f

/-- `ripe` with ring 0 changed. -/
def ringWith (f : Ring → Ring) : State := ripe.onRing 0 f

/-- `ripe` with the configuration changed. -/
def cfgWith (f : Cfg → Cfg) : State := withCfg ripe f

/-- Joint limits. -/
def limits0 : CfgLimits :=
  { qMin := -1000, qMax := 1000, vMax := 100, aMax := 100, jMax := 100, aStop := 200, jStop := 200, catchOmega := 0 }

/-- A solve without member joints. -/
def solve0 : Solve :=
  { p := 4, pNs := 0, startNs := 0, deadlineNs := 10000000000, endNs := 20000000000, signature := 0, cold := true, warmRej := false, refShort := false, cfg := {},
    hNs := 1000000, hB := 1, t0B := 4, members := [], rows := [], dropped := 0, rho := 1, cur := {}, key := [] }

/-- A checkpoint of it. -/
def point0 : Checkpoint := { iter := 25, it := {}, rPrim := 0, rDual := 0, epsPrim := 0, epsDual := 0 }

/-- Die `d` of `ripe` with a solve under way. -/
def solving (d : DieId) (z : Solve) : State := ripe.onJug d fun y => { y with solve := some z }

/-- A separation cycle of boundary 6. -/
def cycle0 : SepCycle := { b := 6, tCut := 0, frames := [], sigma := [], sigmaMax := [], lostPeers := [], due := false }

/-- A period program entry. -/
def entry0 : ProgEntry :=
  { codeId := 0, cls := 1, ringReturn := false, offsetNs := 0, rankNs := 0, inst := 0, affinity := 15, ringMask := 0, predBase0 := 0, predMask0 := 0, predBase1 := 0,
    predMask1 := 0, home := none }

/-- An item run of that entry. -/
def inst0 : Inst := { entry := 0, b := 6, state := .waiting, bNs := 1000 }

/-- The Flier with the entry in its program and one run of it. -/
def released (e : ProgEntry) (i : Inst) : State :=
  (cfgWith fun c => { c with program := c.program.set 0 e }).onDie .t0 fun x => { x with disp := { x.disp with insts := [i] } }

/-- A ring frame with `n` bytes after its header, its CRCs in place. -/
def ringFrame (type_ master cycle layout n : Nat) : List Byte :=
  let h := le 1 type_ ++ zeros 1 ++ le 1 master ++ zeros 1 ++ le 4 cycle ++ zeros 20 ++ le 2 layout
  let f := h ++ le 2 (crc16 h).toNat ++ zeros n
  f ++ le 4 (crc32 f).toNat

/-- `ripe` with ring 0 sending and its port A up. -/
def sending (f : Ring → Ring) : State :=
  ringWith fun y => f { y with state := .data, counted := 1, portA := { y.portA with linkUp := true } }

/-- `ripe` with ring 0 in node role and its port A up. -/
def nodeWith (f : AsNode → AsNode) : State :=
  ringWith fun y => { y with state := .node, portA := { y.portA with linkUp := true, loopback := false }, portB := { y.portB with linkUp := true, loopback := false },
                             asNode := f y.asNode }

/-- A message that waits for its acknowledgement. -/
def mail0 : MailOut := { type_ := 16, payload := [], retry := 0 }

/-- `ripe` with cell port 0 in use and its link up. -/
def cellWith (f : CellPort → CellPort) : State :=
  (mwWith fun m => { m with cfg := { m.cfg with ports := m.cfg.ports.set 0 { m.cfg.ports[0] with mode := 2 } } }).onCell 0 f

/-- An untagged Ethernet frame with its FCS. -/
def ethFrame (n : Nat) : List Byte :=
  let f := zeros 5 ++ le 1 2 ++ zeros 5 ++ le 1 4 ++ zeros n
  f ++ le 4 (crc32 f).toNat

/-! ### Ill-formed commands are not well formed -/

theorem test_wf_plen : (Instr.sysNop core0).wf = true ∧ (Instr.nop (cmd 1 (zeros 8))).wf = true ∧ (Instr.nop (cmd 1 (zeros 7))).wf = false := by decide

theorem test_wf_overlong : (Instr.badOpcode 0x7FFF (cmd 31 (zeros 240))).wf = true ∧ (Instr.badOpcode 0x7FFF (cmd 31 (zeros 248))).wf = false := by decide +kernel

theorem test_wf_unit : (Instr.unitReady ⟨.t0, 0, 0, 7⟩).wf = true ∧ (Instr.unitReady ⟨.t0, 0, 0, 8⟩).wf = false ∧ (Instr.handshakeStall ⟨.t0, 1, 6, 31⟩ false).wf = false := by decide

theorem test_wf_section : (Instr.imageSectionRead (.section_ 31)).wf = true ∧ (Instr.imageSectionRead (.section_ 32)).wf = false := by decide

theorem test_wf_pair : (Instr.ld core0 4 6 (.disp 0) .pair .clean).wf = true ∧ (Instr.ld core0 5 6 (.disp 0) .pair .clean).wf = false ∧
    (Instr.st core0 5 6 (.disp 0) .pair).wf = false := by decide

theorem test_wf_lengths : (Instr.debugResponse (zeros 135)).wf = false ∧ (Instr.debugFuseProgram .t0 .keyHash (zeros 31)).wf = false ∧
    (Instr.debugFlashErase 0 16777215 2).wf = false ∧ (Instr.mailboxReceive 0 (zeros 65)).wf = false ∧ (Instr.upLow 0 65536).wf = false ∧
    (Instr.checkpointReport .t0 65536).wf = false := by decide +kernel

/-! ### The spec's own examples, one operation each -/

/-- 00_scope.md, the 10-byte stamp of 1,200 s and 500,000,000 ns. -/
theorem test_stamp : rdStamp [0xB0, 0x04, 0, 0, 0, 0, 0x00, 0x65, 0xCD, 0x1D] 0 = some 1200500000000 := by decide

/-- R28 and R79: the place T1.M.SC2.U5, and joint J17 of the package with PKGID 1. -/
theorem test_target : ripe.target 7 (placeIndex 1 0 2 5) = 0x71114000 ∧ State.target { ripe with pkgid := 1 } 1 17 = 0x14000011 := by decide +kernel

/-- R28: whole cluster and whole region of MW.F.C7. -/
theorem test_place : placeIndex 2 0 7 1 = 0x02384000 ∧ placeIndex 2 0 7 31 = 0x023FC000 := by decide

/-- The core's registers after a command that answers. -/
def coreAfter (c : Instr) (s : State) : Core := match exec c s with
  | .next t => t.core core0
  | _ => {}

/-- 08_servo_cores.md: STA of -1.5 × 2²⁸ with a shift of 28 gives -2, and 2⁶⁰ saturates and sets SAT. -/
theorem test_sta : (coreAfter (.sta core0 9 0 28) (withWord (busyWith fun k => { k with acc := k.acc.set 0 (BitVec.ofInt 72 (-402653184)) }) 0x5425C009)).d[9] = 0xFFFFFFFE ∧
    (coreAfter (.sta core0 9 0 28) (withWord (busyWith fun k => { k with acc := k.acc.set 0 (2 ^ 60) }) 0x5425C009)).d[9] = 0x7FFFFFFF := by decide +kernel

/-- Table 8.15: the words of the biquad are its instructions, and each is an encoding that staging takes; an EXIT with a zero field set is none. -/
theorem test_encoding :
    ([(0x40400014, .ld core0 1 0 (.disp 20) .word .clean), (0x69080000, .pset core0 2 1), (0x41310000, .ld core0 4 6 (.disp 0) .pair .clean),
      (0x41B10008, .ld core0 6 6 (.disp 8) .pair .clean), (0x42020004, .ld core0 8 0 (.postInc 4) .word .clean), (0x50820000, .mpy core0 0 8 2 .ss true),
      (0x50840001, .mac core0 0 8 4 .ss true), (0x50860002, .msu core0 0 8 6 .ss true), (0x5425C009, .sta core0 9 0 28), (0x44B80000, .st core0 2 7 (.disp 0) .word),
      (0x45B8000C, .st core0 6 7 (.disp 12) .word), (0xFC000001, .exit_ core0)] : List (Word × Instr)).all
        (fun x => spells x.1 x.2 && encodingOk 24 8 x.1 && wordOf x.2 == x.1) = true ∧
    wordDefined 0xFC000041 = false := by decide +kernel

/-- 08_servo_cores.md: the residue of 35. -/
theorem test_residue : residue 35 = 2 ∧ residue (-35) = 1 := by decide

/-- 05_profiles.md (E2): the stop profile from 0.8 rev/s is a trapezoid of three parts of 0.1 s, to a nanosecond. -/
theorem test_stop : ((stopProfile (4 / 5) 0 4 40).1.map fun x => decide (99999999 / 1000000000 < x.1) && decide (x.1 < 100000001 / 1000000000)) = [true, true, true] ∧
    (stopProfile (4 / 5) 0 4 40).1.map (·.2) = [-40, 0, 40] := by decide +kernel

/-- 12_field_io.md: a filter of N = 500 that the raw input has led to 250 does not switch, and the sample that takes it to 500 does. -/
theorem test_filter : ((({ c := 249 } : InChan).sample true 500 false 0).c, (({ c := 249 } : InChan).sample true 500 false 0).out) = (250, false) ∧
    (({ c := 499 } : InChan).sample true 500 false 0).out = true := by decide

/-- Table 3.13: a QD432 has four rings. -/
theorem test_rings : (mwWith fun m => { m with fuses := { m.fuses with variant := 2 } }).rings = 4 ∧ ripe.rings = 8 := by decide +kernel

/-! ### Runs of one step -/

/-- Assumption 1: with nothing waiting the block idles. -/
theorem test_idle (s : State) (h : s.pending = []) : step s = .next s := by simp [step, h]

/-- The command at the front runs, and the next one waits. -/
theorem test_front : (match step { withWord busy (wordOf (.movi core0 3 5)) with pending := [.movi core0 3 5, .sysNop core0] } with
    | .next t => ((t.core core0).d[3], t.pending)
    | _ => (0, [])) = (5, [.sysNop core0]) := by decide +kernel

/-! ### What meets the statements that speak of a step's next state -/

/-- The outcome is a next state. -/
def answers (r : Host.Outcome State Fault Refusal) : Bool := match r with
  | .next _ => true
  | _ => false

theorem answers_next {r : Host.Outcome State Fault Refusal} (h : answers r = true) : ∃ t, r = .next t := by
  cases r with
  | next t => exact ⟨t, rfl⟩
  | fault _ => simp [answers] at h
  | refused _ => simp [answers] at h

/-- `ripe` with one command waiting. -/
def waiting (c : Instr) : State := { ripe with pending := [c] }

theorem witness_StepKeepsOrdered : State.reset.life.Ordered ∧ ∃ t, step State.reset = .next t :=
  ⟨⟨by decide +kernel, by decide +kernel, by decide +kernel, by decide +kernel, by decide +kernel⟩, _, test_idle _ rfl⟩

theorem witness_PhasesAdvance :
    (∃ t, step (waiting .bypass) = .next t) ∧ (waiting .bypass).pending = [.bypass] ∧ Instr.bypass.restarts = false ∧ Instr.bypass.joins = false ∧
    (∃ t, step (waiting (.seedDone .t0)) = .next t) ∧ (waiting (.seedDone .t0)).pending = [.seedDone .t0] ∧ (Instr.seedDone .t0).restarts = false ∧
    (Instr.seedDone .t0).joins = true :=
  ⟨answers_next (by decide +kernel), rfl, rfl, rfl, answers_next (by decide +kernel), rfl, rfl, rfl⟩

theorem witness_StepConsumesOne : (∃ t, step (waiting .bypass) = .next t) ∧ ∀ c ∈ (waiting .bypass).pending.head?, c.restarts = false :=
  ⟨answers_next (by decide +kernel), by intro c h; cases h; rfl⟩

theorem witness_BoundaryNumber : (Instr.bypass.restarts = false ∧ Instr.bypass ≠ .boundary ∧ ∃ t, exec .bypass ripe = .next t) ∧ ∃ t, exec .boundary ripe = .next t :=
  ⟨⟨rfl, by simp, answers_next (by decide +kernel)⟩, answers_next (by decide +kernel)⟩

/-- `ripe` under the Curtain. -/
def curtained : State := mwWith fun m => { m with trapeze := { m.trapeze with curtain := some { cause := 1, t0 := 0, t0B := 0, tStopNs := 0 } } }

theorem witness_CurtainStands : curtained.curtained = true ∧ ∃ t, step { curtained with pending := [.bypass] } = .next t :=
  ⟨by decide +kernel, answers_next (by decide +kernel)⟩

/-- Both clauses: a store with one byte listed, and two equal stores. -/
theorem witness_StoreForm : Memory.wf [(3, 1)] = true ∧ Memory.wf (Memory.writeN [] 3 [1]) = true ∧ ∀ a, Memory.read [(3, 1)] a = Memory.read (Memory.writeN [] 3 [1]) a :=
  ⟨by decide, by decide, fun a => by rw [show Memory.writeN [] 3 [1] = [(3, 1)] by decide]⟩

/-! ### A frame closed with its own check passes it -/

theorem leNat_le4 (w : Word) : leNat (le 4 w.toNat) = w.toNat := by
  have := w.isLt
  simp [le, leNat]
  omega

theorem rd_closed (x : List Byte) (w : Word) : rd (x ++ le 4 w.toNat) x.length 4 = w.toNat := by
  rw [rd, List.drop_left, List.take_of_length_le (by simp), leNat_le4]

theorem frameCheck_closed (x : List Byte) (h : 32 ≤ x.length) : frameCheck (x ++ le 4 (crc32 x).toNat) = .good := by
  have e : (x ++ le 4 (crc32 x).toNat).length - 4 = x.length := by simp
  have n : ¬ (x ++ le 4 (crc32 x).toNat).length < 36 := by simp; omega
  simp only [frameCheck, e, List.take_left, rd_closed, n, if_false, if_true]


/-! ### What meets the statements' hypotheses, clause by clause -/

set_option linter.unusedVariables false

theorem witness_DataArithmetic :
    [(let c : CoreRef := core0
     let rd : Fin 16 := 0
     let ra : Fin 16 := 0
     let rb : Fin 16 := 0
     let s : State := withWord (busy) (wordOf (.add c rd ra rb))
     let i : Item := ((s.core core0).run).getD item
     decide (readyB s c i 6 = true) && decide (s.atInstruction c i (.add c rd ra rb) = true)),
     (let c : CoreRef := core0
     let rd : Fin 16 := 0
     let ra : Fin 16 := 0
     let rb : Fin 16 := 0
     let s : State := withWord (busy) (wordOf (.sub c rd ra rb))
     let i : Item := ((s.core core0).run).getD item
     decide (readyB s c i 6 = true) && decide (s.atInstruction c i (.sub c rd ra rb) = true)),
     (let c : CoreRef := core0
     let rd : Fin 16 := 0
     let ra : Fin 16 := 0
     let rb : Fin 16 := 0
     let s : State := withWord (busy) (wordOf (.mul c rd ra rb true))
     let i : Item := ((s.core core0).run).getD item
     decide (readyB s c i 6 = true) && decide (s.quiet c.die 2 = true) && decide (s.atInstruction c i (.mul c rd ra rb true) = true)),
     (let c : CoreRef := core0
     let rd : Fin 16 := 0
     let ra : Fin 16 := 0
     let imm : BitVec 18 := 0
     let s : State := withWord (busy) (wordOf (.addi c rd ra imm))
     let i : Item := ((s.core core0).run).getD item
     decide (readyB s c i 6 = true) && decide (s.atInstruction c i (.addi c rd ra imm) = true)),
     (let c : CoreRef := core0
     let rd : Fin 16 := 0
     let ra : Fin 16 := 0
     let rb : Fin 16 := 0
     let s : State := withWord (busy) (wordOf (.adds c rd ra rb))
     let i : Item := ((s.core core0).run).getD item
     decide (readyB s c i 6 = true) && decide (s.atInstruction c i (.adds c rd ra rb) = true)),
     (let c : CoreRef := core0
     let rd : Fin 16 := 0
     let ra : Fin 16 := 0
     let rb : Fin 16 := 0
     let s : State := withWord (busy) (wordOf (.subs c rd ra rb))
     let i : Item := ((s.core core0).run).getD item
     decide (readyB s c i 6 = true) && decide (s.atInstruction c i (.subs c rd ra rb) = true)),
     (let c : CoreRef := core0
     let rd : Fin 16 := 0
     let ra : Fin 16 := 0
     let s : State := withWord (busy) (wordOf (.abs_ c rd ra))
     let i : Item := ((s.core core0).run).getD item
     decide (readyB s c i 6 = true) && decide (s.atInstruction c i (.abs_ c rd ra) = true)),
     (let c : CoreRef := core0
     let rd : Fin 16 := 0
     let ra : Fin 16 := 0
     let s : State := withWord (busy) (wordOf (.neg_ c rd ra))
     let i : Item := ((s.core core0).run).getD item
     decide (readyB s c i 6 = true) && decide (s.atInstruction c i (.neg_ c rd ra) = true)),
     (let c : CoreRef := core0
     let rd : Fin 16 := 0
     let ra : Fin 16 := 0
     let rb : Fin 16 := 0
     let s : State := withWord (busy) (wordOf (.shl c rd ra rb))
     let i : Item := ((s.core core0).run).getD item
     decide (readyB s c i 6 = true) && decide (s.atInstruction c i (.shl c rd ra rb) = true)),
     (let c : CoreRef := core0
     let rd : Fin 16 := 0
     let ra : Fin 16 := 0
     let rb : Fin 16 := 0
     let s : State := withWord (busy) (wordOf (.shr c rd ra rb))
     let i : Item := ((s.core core0).run).getD item
     decide (readyB s c i 6 = true) && decide (s.atInstruction c i (.shr c rd ra rb) = true)),
     (let c : CoreRef := core0
     let rd : Fin 16 := 0
     let ra : Fin 16 := 0
     let rb : Fin 16 := 0
     let s : State := withWord (busy) (wordOf (.sar c rd ra rb))
     let i : Item := ((s.core core0).run).getD item
     decide (readyB s c i 6 = true) && decide (s.atInstruction c i (.sar c rd ra rb) = true))].all id = true := by decide +kernel

theorem witness_AddSubCompare :
    [(let c : CoreRef := core0
     let rd : Fin 16 := 0
     let ra : Fin 16 := 0
     let rb : Fin 16 := 0
     let s : State := withWord (busy) (wordOf (.add c rd ra rb))
     let i : Item := ((s.core core0).run).getD item
     decide (readyB s c i 4 = true) && decide (s.atInstruction c i (.add c rd ra rb) = true)),
     (let c : CoreRef := core0
     let rd : Fin 16 := 0
     let ra : Fin 16 := 0
     let imm : BitVec 18 := 0
     let s : State := withWord (busy) (wordOf (.addi c rd ra imm))
     let i : Item := ((s.core core0).run).getD item
     decide (readyB s c i 4 = true) && decide (s.atInstruction c i (.addi c rd ra imm) = true)),
     (let c : CoreRef := core0
     let rd : Fin 16 := 0
     let ra : Fin 16 := 0
     let rb : Fin 16 := 0
     let s : State := withWord (busy) (wordOf (.sub c rd ra rb))
     let i : Item := ((s.core core0).run).getD item
     decide (readyB s c i 4 = true) && decide (s.atInstruction c i (.sub c rd ra rb) = true)),
     (let c : CoreRef := core0
     let rd : Fin 16 := 0
     let ra : Fin 16 := 0
     let rb : Fin 16 := 0
     let s : State := withWord (busy) (wordOf (.adds c rd ra rb))
     let i : Item := ((s.core core0).run).getD item
     decide (readyB s c i 4 = true) && decide (s.atInstruction c i (.adds c rd ra rb) = true)),
     (let c : CoreRef := core0
     let rd : Fin 16 := 0
     let ra : Fin 16 := 0
     let rb : Fin 16 := 0
     let s : State := withWord (busy) (wordOf (.subs c rd ra rb))
     let i : Item := ((s.core core0).run).getD item
     decide (readyB s c i 4 = true) && decide (s.atInstruction c i (.subs c rd ra rb) = true)),
     (let c : CoreRef := core0
     let rd : Fin 16 := 0
     let ra : Fin 16 := 0
     let s : State := withWord (busy) (wordOf (.neg_ c rd ra))
     let i : Item := ((s.core core0).run).getD item
     decide (readyB s c i 4 = true) && decide (s.atInstruction c i (.neg_ c rd ra) = true)),
     (let c : CoreRef := core0
     let ra : Fin 16 := 0
     let rb : Fin 16 := 0
     let s : State := withWord (busy) (wordOf (.cmp c ra rb))
     let i : Item := ((s.core core0).run).getD item
     decide (readyB s c i 4 = true) && decide (s.atInstruction c i (.cmp c ra rb) = true)),
     (let c : CoreRef := core0
     let ra : Fin 16 := 0
     let imm : BitVec 18 := 0
     let s : State := withWord (busy) (wordOf (.cmpi c ra imm))
     let i : Item := ((s.core core0).run).getD item
     decide (readyB s c i 4 = true) && decide (s.atInstruction c i (.cmpi c ra imm) = true)),
     (let k := 4
     decide (4 ≤ k))].all id = true := by decide +kernel

theorem witness_LogicShiftExtreme :
    [(let c : CoreRef := core0
     let rd : Fin 16 := 0
     let ra : Fin 16 := 0
     let rb : Fin 16 := 0
     let s : State := withWord (busy) (wordOf (.and_ c rd ra rb))
     let i : Item := ((s.core core0).run).getD item
     decide (readyB s c i 4 = true) && decide (s.atInstruction c i (.and_ c rd ra rb) = true)),
     (let c : CoreRef := core0
     let rd : Fin 16 := 0
     let ra : Fin 16 := 0
     let rb : Fin 16 := 0
     let s : State := withWord (busy) (wordOf (.or_ c rd ra rb))
     let i : Item := ((s.core core0).run).getD item
     decide (readyB s c i 4 = true) && decide (s.atInstruction c i (.or_ c rd ra rb) = true)),
     (let c : CoreRef := core0
     let rd : Fin 16 := 0
     let ra : Fin 16 := 0
     let rb : Fin 16 := 0
     let s : State := withWord (busy) (wordOf (.xor_ c rd ra rb))
     let i : Item := ((s.core core0).run).getD item
     decide (readyB s c i 4 = true) && decide (s.atInstruction c i (.xor_ c rd ra rb) = true)),
     (let c : CoreRef := core0
     let rd : Fin 16 := 0
     let ra : Fin 16 := 0
     let imm : BitVec 18 := 0
     let s : State := withWord (busy) (wordOf (.andi c rd ra imm))
     let i : Item := ((s.core core0).run).getD item
     decide (readyB s c i 4 = true) && decide (s.atInstruction c i (.andi c rd ra imm) = true)),
     (let c : CoreRef := core0
     let rd : Fin 16 := 0
     let ra : Fin 16 := 0
     let imm : BitVec 18 := 0
     let s : State := withWord (busy) (wordOf (.ori c rd ra imm))
     let i : Item := ((s.core core0).run).getD item
     decide (readyB s c i 4 = true) && decide (s.atInstruction c i (.ori c rd ra imm) = true)),
     (let c : CoreRef := core0
     let rd : Fin 16 := 0
     let ra : Fin 16 := 0
     let imm : BitVec 18 := 0
     let s : State := withWord (busy) (wordOf (.xori c rd ra imm))
     let i : Item := ((s.core core0).run).getD item
     decide (readyB s c i 4 = true) && decide (s.atInstruction c i (.xori c rd ra imm) = true)),
     (let c : CoreRef := core0
     let rd : Fin 16 := 0
     let ra : Fin 16 := 0
     let rb : Fin 16 := 0
     let s : State := withWord (busy) (wordOf (.shl c rd ra rb))
     let i : Item := ((s.core core0).run).getD item
     decide (readyB s c i 4 = true) && decide (s.atInstruction c i (.shl c rd ra rb) = true)),
     (let c : CoreRef := core0
     let rd : Fin 16 := 0
     let ra : Fin 16 := 0
     let rb : Fin 16 := 0
     let s : State := withWord (busy) (wordOf (.shr c rd ra rb))
     let i : Item := ((s.core core0).run).getD item
     decide (readyB s c i 4 = true) && decide (s.atInstruction c i (.shr c rd ra rb) = true)),
     (let c : CoreRef := core0
     let rd : Fin 16 := 0
     let ra : Fin 16 := 0
     let rb : Fin 16 := 0
     let s : State := withWord (busy) (wordOf (.sar c rd ra rb))
     let i : Item := ((s.core core0).run).getD item
     decide (readyB s c i 4 = true) && decide (s.atInstruction c i (.sar c rd ra rb) = true)),
     (let c : CoreRef := core0
     let rd : Fin 16 := 0
     let ra : Fin 16 := 0
     let rb : Fin 16 := 0
     let s : State := withWord (busy) (wordOf (.min_ c rd ra rb))
     let i : Item := ((s.core core0).run).getD item
     decide (readyB s c i 4 = true) && decide (s.atInstruction c i (.min_ c rd ra rb) = true)),
     (let c : CoreRef := core0
     let rd : Fin 16 := 0
     let ra : Fin 16 := 0
     let rb : Fin 16 := 0
     let s : State := withWord (busy) (wordOf (.max_ c rd ra rb))
     let i : Item := ((s.core core0).run).getD item
     decide (readyB s c i 4 = true) && decide (s.atInstruction c i (.max_ c rd ra rb) = true)),
     (let c : CoreRef := core0
     let rd : Fin 16 := 0
     let ra : Fin 16 := 0
     let rb : Fin 16 := 0
     let s : State := withWord (busy) (wordOf (.minu c rd ra rb))
     let i : Item := ((s.core core0).run).getD item
     decide (readyB s c i 4 = true) && decide (s.atInstruction c i (.minu c rd ra rb) = true)),
     (let c : CoreRef := core0
     let rd : Fin 16 := 0
     let ra : Fin 16 := 0
     let rb : Fin 16 := 0
     let s : State := withWord (busy) (wordOf (.maxu c rd ra rb))
     let i : Item := ((s.core core0).run).getD item
     decide (readyB s c i 4 = true) && decide (s.atInstruction c i (.maxu c rd ra rb) = true)),
     (let c : CoreRef := core0
     let rd : Fin 16 := 0
     let ra : Fin 16 := 0
     let s : State := withWord (busy) (wordOf (.clz c rd ra))
     let i : Item := ((s.core core0).run).getD item
     decide (readyB s c i 4 = true) && decide (s.atInstruction c i (.clz c rd ra) = true)),
     (let c : CoreRef := core0
     let ra : Fin 16 := 0
     let rb : Fin 16 := 0
     let s : State := withWord (busy) (wordOf (.tst c ra rb))
     let i : Item := ((s.core core0).run).getD item
     decide (readyB s c i 4 = true) && decide (s.atInstruction c i (.tst c ra rb) = true)),
     (let c : CoreRef := core0
     let rd : Fin 16 := 0
     let ra : Fin 16 := 0
     let amount : BitVec 5 := 0
     let s : State := withWord (busy) (wordOf (.shli c rd ra amount))
     let i : Item := ((s.core core0).run).getD item
     decide (readyB s c i 4 = true) && decide (s.atInstruction c i (.shli c rd ra amount) = true)),
     (let c : CoreRef := core0
     let rd : Fin 16 := 0
     let ra : Fin 16 := 0
     let amount : BitVec 5 := 0
     let s : State := withWord (busy) (wordOf (.shri c rd ra amount))
     let i : Item := ((s.core core0).run).getD item
     decide (readyB s c i 4 = true) && decide (s.atInstruction c i (.shri c rd ra amount) = true)),
     (let c : CoreRef := core0
     let rd : Fin 16 := 0
     let ra : Fin 16 := 0
     let amount : BitVec 5 := 0
     let s : State := withWord (busy) (wordOf (.sari c rd ra amount))
     let i : Item := ((s.core core0).run).getD item
     decide (readyB s c i 4 = true) && decide (s.atInstruction c i (.sari c rd ra amount) = true))].all id = true := by decide +kernel

theorem witness_MovesAbsMul :
    [(let c : CoreRef := core0
     let rd : Fin 16 := 0
     let ra : Fin 16 := 0
     let s : State := withWord (busy) (wordOf (.mov c rd ra))
     let i : Item := ((s.core core0).run).getD item
     decide (readyB s c i 4 = true) && decide (s.atInstruction c i (.mov c rd ra) = true)),
     (let c : CoreRef := core0
     let rd : Fin 16 := 0
     let imm : BitVec 16 := 0
     let s : State := withWord (busy) (wordOf (.movi c rd imm))
     let i : Item := ((s.core core0).run).getD item
     decide (readyB s c i 4 = true) && decide (s.atInstruction c i (.movi c rd imm) = true)),
     (let c : CoreRef := core0
     let rd : Fin 16 := 0
     let imm : BitVec 16 := 0
     let s : State := withWord (busy) (wordOf (.movhi c rd imm))
     let i : Item := ((s.core core0).run).getD item
     decide (readyB s c i 4 = true) && decide (s.atInstruction c i (.movhi c rd imm) = true)),
     (let c : CoreRef := core0
     let rd : Fin 16 := 0
     let s : State := withWord (busy) (wordOf (.movf c rd))
     let i : Item := ((s.core core0).run).getD item
     decide (readyB s c i 4 = true) && decide (s.atInstruction c i (.movf c rd) = true)),
     (let c : CoreRef := core0
     let rd : Fin 16 := 0
     let s : State := withWord (busy) (wordOf (.setf c rd))
     let i : Item := ((s.core core0).run).getD item
     decide (readyB s c i 4 = true) && decide (s.atInstruction c i (.setf c rd) = true)),
     (let c : CoreRef := core0
     let s : State := withWord (busy) (wordOf (.sysNop c))
     let i : Item := ((s.core core0).run).getD item
     decide (readyB s c i 4 = true) && decide (s.atInstruction c i (.sysNop c) = true)),
     (let c : CoreRef := core0
     let rd : Fin 16 := 0
     let ra : Fin 16 := 0
     let s : State := withWord (busy) (wordOf (.abs_ c rd ra))
     let i : Item := ((s.core core0).run).getD item
     decide (readyB s c i 6 = true) && decide (s.atInstruction c i (.abs_ c rd ra) = true)),
     (let c : CoreRef := core0
     let rd : Fin 16 := 0
     let ra : Fin 16 := 0
     let rb : Fin 16 := 0
     let s : State := withWord (busy) (wordOf (.mul c rd ra rb true))
     let i : Item := ((s.core core0).run).getD item
     decide (readyB s c i 6 = true) && decide (s.quiet c.die 2 = true) && decide (s.atInstruction c i (.mul c rd ra rb true) = true))].all id = true := by decide +kernel

theorem witness_MultiplyAccumulate :
    [(let c : CoreRef := core0
     let acc : Fin 4 := 0
     let ra : Fin 16 := 0
     let rb : Fin 16 := 0
     let mode : MulMode := .ss
     let s : State := withWord (busy) (wordOf (.mpy c acc ra rb mode true))
     let i : Item := ((s.core core0).run).getD item
     decide (readyB s c i 6 = true) && decide (s.quiet c.die 2 = true) && decide (s.atInstruction c i (.mpy c acc ra rb mode true) = true)),
     (let c : CoreRef := core0
     let acc : Fin 4 := 0
     let ra : Fin 16 := 0
     let rb : Fin 16 := 0
     let mode : MulMode := .ss
     let s : State := withWord (busy) (wordOf (.mac c acc ra rb mode true))
     let i : Item := ((s.core core0).run).getD item
     decide (readyB s c i 6 = true) && decide (s.quiet c.die 2 = true) && decide (s.atInstruction c i (.mac c acc ra rb mode true) = true)),
     (let c : CoreRef := core0
     let acc : Fin 4 := 0
     let ra : Fin 16 := 0
     let rb : Fin 16 := 0
     let mode : MulMode := .ss
     let s : State := withWord (busy) (wordOf (.msu c acc ra rb mode true))
     let i : Item := ((s.core core0).run).getD item
     decide (readyB s c i 6 = true) && decide (s.quiet c.die 2 = true) && decide (s.atInstruction c i (.msu c acc ra rb mode true) = true))].all id = true := by decide +kernel

theorem witness_AccumulatorOperations :
    [(let c : CoreRef := core0
     let acc : Fin 4 := 0
     let s : State := withWord (busy) (wordOf (.aclr c acc))
     let i : Item := ((s.core core0).run).getD item
     decide (readyB s c i 4 = true) && decide (s.atInstruction c i (.aclr c acc) = true)),
     (let c : CoreRef := core0
     let acc : Fin 4 := 0
     let accb : Fin 4 := 0
     let s : State := withWord (busy) (wordOf (.amov c acc accb))
     let i : Item := ((s.core core0).run).getD item
     decide (readyB s c i 4 = true) && decide (s.atInstruction c i (.amov c acc accb) = true)),
     (let c : CoreRef := core0
     let acc : Fin 4 := 0
     let accb : Fin 4 := 0
     let s : State := withWord (busy) (wordOf (.aadd c acc accb))
     let i : Item := ((s.core core0).run).getD item
     decide (readyB s c i 4 = true) && decide (s.atInstruction c i (.aadd c acc accb) = true)),
     (let c : CoreRef := core0
     let acc : Fin 4 := 0
     let accb : Fin 4 := 0
     let s : State := withWord (busy) (wordOf (.asub c acc accb))
     let i : Item := ((s.core core0).run).getD item
     decide (readyB s c i 4 = true) && decide (s.atInstruction c i (.asub c acc accb) = true)),
     (let c : CoreRef := core0
     let acc : Fin 4 := 0
     let s : State := withWord (busy) (wordOf (.aneg c acc))
     let i : Item := ((s.core core0).run).getD item
     decide (readyB s c i 4 = true) && decide (s.atInstruction c i (.aneg c acc) = true)),
     (let c : CoreRef := core0
     let acc : Fin 4 := 0
     let sh : BitVec 6 := 0
     let s : State := withWord (busy) (wordOf (.ashr c acc sh))
     let i : Item := ((s.core core0).run).getD item
     decide (readyB s c i 4 = true) && decide (s.atInstruction c i (.ashr c acc sh) = true)),
     (let c : CoreRef := core0
     let acc : Fin 4 := 0
     let sh : BitVec 6 := 0
     let s : State := withWord (busy) (wordOf (.ashl c acc sh))
     let i : Item := ((s.core core0).run).getD item
     decide (readyB s c i 4 = true) && decide (s.atInstruction c i (.ashl c acc sh) = true)),
     (let c : CoreRef := core0
     let acc : Fin 4 := 0
     let rd : Fin 16 := 0
     let sh : BitVec 6 := 0
     let s : State := withWord (busy) (wordOf (.aset c acc rd sh))
     let i : Item := ((s.core core0).run).getD item
     decide (readyB s c i 4 = true) && decide (s.atInstruction c i (.aset c acc rd sh) = true)),
     (let c : CoreRef := core0
     let acc : Fin 4 := 0
     let rd : Fin 16 := 0
     let sh : BitVec 6 := 0
     let s : State := withWord (busy) (wordOf (.asetp c acc rd sh))
     let i : Item := ((s.core core0).run).getD item
     decide (readyB s c i 4 = true) && decide (rd.val % 2 = 0) && decide (s.atInstruction c i (.asetp c acc rd sh) = true)),
     (let c : CoreRef := core0
     let acc : Fin 4 := 0
     let rd : Fin 16 := 3
     let sh : BitVec 6 := 0
     let s : State := withWord (busy) (wordOf (.asetp c acc rd sh))
     let i : Item := ((s.core core0).run).getD item
     decide (reachesB s c i (.asetp c acc rd sh) = true) && decide (rd.val % 2 = 1)),
     (let c : CoreRef := core0
     let rd : Fin 16 := 0
     let acc : Fin 4 := 0
     let sh : BitVec 6 := 0
     let s : State := withWord (busy) (wordOf (.sta c rd acc sh))
     let i : Item := ((s.core core0).run).getD item
     decide (readyB s c i 44 = true) && decide (s.atInstruction c i (.sta c rd acc sh) = true)),
     (let c : CoreRef := core0
     let rd : Fin 16 := 0
     let acc : Fin 4 := 0
     let sh : BitVec 6 := 0
     let s : State := withWord (busy) (wordOf (.stal c rd acc sh))
     let i : Item := ((s.core core0).run).getD item
     decide (readyB s c i 44 = true) && decide (s.atInstruction c i (.stal c rd acc sh) = true)),
     (let c : CoreRef := core0
     let rd : Fin 16 := 0
     let acc : Fin 4 := 0
     let sh : BitVec 6 := 0
     let s : State := withWord (busy) (wordOf (.stah c rd acc sh))
     let i : Item := ((s.core core0).run).getD item
     decide (readyB s c i 44 = true) && decide (s.atInstruction c i (.stah c rd acc sh) = true)),
     (let c : CoreRef := core0
     let rd : Fin 16 := 0
     let rb : Fin 16 := 1
     let acc : Fin 4 := 0
     let s : State := withWord (busyWith fun k => k.setReg 1 5) (wordOf (.diva c rd acc rb))
     let i : Item := ((s.core core0).run).getD item
     let d := ((s.core c).reg rb).toInt
     decide (readyB s c i 44 = true) && decide (d ≠ 0) && decide (s.atInstruction c i (.diva c rd acc rb) = true)),
     (let c : CoreRef := core0
     let rd : Fin 16 := 0
     let rb : Fin 16 := 1
     let acc : Fin 4 := 0
     let s : State := withWord (busy) (wordOf (.diva c rd acc rb))
     let i : Item := ((s.core core0).run).getD item
     let d := ((s.core c).reg rb).toInt
     decide (readyB s c i 44 = true) && decide (d = 0) && decide (s.atInstruction c i (.diva c rd acc rb) = true))].all id = true := by decide +kernel

theorem witness_Pointers :
    [(let c : CoreRef := core0
     let p : Fin 8 := 0
     let imm : BitVec 23 := 0
     let s : State := withWord (busy) (wordOf (.pseti c p imm))
     let i : Item := ((s.core core0).run).getD item
     decide (readyB s c i 4 = true) && decide (s.atInstruction c i (.pseti c p imm) = true)),
     (let c : CoreRef := core0
     let p : Fin 8 := 0
     let imm : BitVec 23 := 0
     let s : State := withWord (busy) (wordOf (.paddi c p imm))
     let i : Item := ((s.core core0).run).getD item
     decide (readyB s c i 4 = true) && decide (s.atInstruction c i (.paddi c p imm) = true)),
     (let c : CoreRef := core0
     let p : Fin 8 := 0
     let r : Fin 16 := 2
     let s : State := withWord (busy) (wordOf (.pset c p r))
     let i : Item := ((s.core core0).run).getD item
     decide (readyB s c i 4 = true) && decide (s.atInstruction c i (.pset c p r) = true)),
     (let c : CoreRef := core0
     let p : Fin 8 := 0
     let q : Fin 8 := 0
     let s : State := withWord (busy) (wordOf (.pmov c p q))
     let i : Item := ((s.core core0).run).getD item
     decide (readyB s c i 4 = true) && decide (s.atInstruction c i (.pmov c p q) = true)),
     (let c : CoreRef := core0
     let p : Fin 8 := 0
     let r : Fin 16 := 2
     let s : State := withWord (busy) (wordOf (.padd c p r))
     let i : Item := ((s.core core0).run).getD item
     decide (readyB s c i 4 = true) && decide (s.atInstruction c i (.padd c p r) = true)),
     (let c : CoreRef := core0
     let p : Fin 8 := 0
     let r : Fin 16 := 2
     let s : State := withWord (busy) (wordOf (.pget c r p))
     let i : Item := ((s.core core0).run).getD item
     decide (readyB s c i 4 = true) && decide (s.atInstruction c i (.pget c r p) = true)),
     (let c : CoreRef := core0
     let p : Fin 8 := 0
     let r : Fin 16 := 2
     let cb : Fin 4 := 0
     let s : State := withWord (busy) (wordOf (.cbset c cb p r))
     let i : Item := ((s.core core0).run).getD item
     decide (readyB s c i 4 = true) && decide (s.atInstruction c i (.cbset c cb p r) = true))].all id = true := by decide +kernel

theorem witness_Load :
    [(let c : CoreRef := core0
     let r : Fin 16 := 2
     let p : Fin 8 := 0
     let m : AddrMode := .disp 0
     let sz : MemSize := .word
     let s : State := withWord (busyAt 0x400040) (wordOf (.ld c r p m sz .clean))
     let i : Item := ((s.core core0).run).getD item
     let a : Int := 0x400040
     let k' : Core := s.core core0
     let n : Nat := 0x400040
     let sp : Space := .exchange 0x40
     let bs : List Byte := [0, 0, 0, 0]
     decide (ableB s c i = true) && decide (s.atInstruction c i (.ld c r p m sz .clean) = true) && decide (sz = .pair → r.val % 2 = 0) && decide (effective (s.core c) p m = .ok (a, k')) && decide (alignedAt a sz = some n) && decide (spaceOf n = some sp) && decide (loadBytes (s.die c.die) c.core.val (s.core c) i n (memBytes sz) = some bs) && decide (((s.core c).forward (s.core c) (memTicks sp (sz == .pair))).ticks ≤ i.bound))].all id = true := by decide +kernel

theorem witness_StoreLocal :
    [(let c : CoreRef := core0
     let r : Fin 16 := 2
     let p : Fin 8 := 0
     let m : AddrMode := .disp 0
     let sz : MemSize := .word
     let s : State := withWord (busyAt 0x3FFC) (wordOf (.st c r p m sz))
     let i : Item := ((s.core core0).run).getD item
     let a : Int := 0x3FFC
     let k' : Core := s.core core0
     let n : Nat := 0x3FFC
     decide (ableB s c i = true) && decide (s.atInstruction c i (.st c r p m sz) = true) && decide (sz = .pair → r.val % 2 = 0) && decide (effective (s.core c) p m = .ok (a, k')) && decide (alignedAt a sz = some n) && decide (n + memBytes sz ≤ 0x4000) && decide (((s.core c).forward (s.core c) (if sz = .pair then 8 else 6)).ticks ≤ i.bound))].all id = true := by decide +kernel

theorem witness_StoreCluster :
    [(let c : CoreRef := core0
     let r : Fin 16 := 2
     let p : Fin 8 := 0
     let m : AddrMode := .disp 0
     let sz : MemSize := .word
     let s : State := withWord (busyAt 0x100000) (wordOf (.st c r p m sz))
     let i : Item := ((s.core core0).run).getD item
     let a : Int := 0x100000
     let k' : Core := s.core core0
     let n : Nat := 0
     let q : Fin 4 := 0
     decide (ableB s c i = true) && decide (s.atInstruction c i (.st c r p m sz) = true) && decide (sz = .pair → r.val % 2 = 0) && decide (q.val = c.core.val / 8) && decide (effective (s.core c) p m = .ok (a, k')) && decide (alignedAt a sz = some (0x100000 + n)) && decide (n + memBytes sz ≤ 0x40000) && decide (((s.core c).forward (s.core c) (if sz = .pair then 32 else 24)).ticks ≤ i.bound))].all id = true := by decide +kernel

theorem witness_StoreBuffered :
    [(let c : CoreRef := core0
     let r : Fin 16 := 2
     let p : Fin 8 := 0
     let m : AddrMode := .disp 0
     let sz : MemSize := .word
     let s : State := withWord (busyAt 0x400040) (wordOf (.st c r p m sz))
     let i : Item := ((s.core core0).run).getD item
     let a : Int := 0x400040
     let k' : Core := s.core core0
     let n : Nat := 0x400040
     decide (ableB s c i = true) && decide (sz = .pair → r.val % 2 = 0) && decide (effective (s.core c) p m = .ok (a, k')) && decide (alignedAt a sz = some n) && decide ((0x500000 ≤ n ∧ n + memBytes sz ≤ 0x502000) ∨ (0x502000 ≤ n ∧ n + memBytes sz ≤ 0x502100) ∨
      (0x400000 ≤ n ∧ n + memBytes sz ≤ 0x404000 ∧ 0x40 ≤ (n - 0x400000) % 256 ∧ 0x40 ≤ (n - 0x400000 + memBytes sz - 1) % 256)) && decide (((s.core c).forward (s.core c) (if sz = .pair then 8 else 6)).ticks ≤ i.bound) && decide (s.atInstruction c i (.st c r p m sz) = true))].all id = true := by decide +kernel

theorem witness_AddressFaults :
    [(let c : CoreRef := core0
     let r : Fin 16 := 3
     let p : Fin 8 := 0
     let m : AddrMode := .disp 0
     let s : State := withWord (busy) (wordOf (.ld c r p m .pair .clean))
     let i : Item := ((s.core core0).run).getD item
     decide (r.val % 2 = 1) && decide (reachesB s c i (.ld c r p m .pair .clean) = true)),
     (let c : CoreRef := core0
     let r : Fin 16 := 3
     let p : Fin 8 := 0
     let m : AddrMode := .disp 0
     let s : State := withWord (busy) (wordOf (.st c r p m .pair))
     let i : Item := ((s.core core0).run).getD item
     decide (r.val % 2 = 1) && decide (reachesB s c i (.st c r p m .pair) = true)),
     (let c : CoreRef := core0
     let r : Fin 16 := 2
     let p : Fin 8 := 0
     let m : AddrMode := .circular 0 4
     let sz : MemSize := .word
     let s : State := withWord (busy) (wordOf (.ld c r p m sz .clean))
     let i : Item := ((s.core core0).run).getD item
     decide (ableB s c i = true) && decide (sz = .pair → r.val % 2 = 0) && decide (effective (s.core c) p m = .error .circular) && decide (s.atInstruction c i (.ld c r p m sz .clean) = true)),
     (let c : CoreRef := core0
     let r : Fin 16 := 2
     let p : Fin 8 := 0
     let m : AddrMode := .circular 0 4
     let sz : MemSize := .word
     let s : State := withWord (busy) (wordOf (.st c r p m sz))
     let i : Item := ((s.core core0).run).getD item
     decide (ableB s c i = true) && decide (sz = .pair → r.val % 2 = 0) && decide (effective (s.core c) p m = .error .circular) && decide (s.atInstruction c i (.st c r p m sz) = true)),
     (let c : CoreRef := core0
     let r : Fin 16 := 2
     let p : Fin 8 := 0
     let m : AddrMode := .disp 0
     let sz : MemSize := .word
     let s : State := withWord (busyAt 2) (wordOf (.ld c r p m sz .clean))
     let i : Item := ((s.core core0).run).getD item
     let a : Int := 2
     let k' : Core := s.core core0
     decide (ableB s c i = true) && decide (sz = .pair → r.val % 2 = 0) && decide (effective (s.core c) p m = .ok (a, k')) && decide (alignedAt a sz = none) && decide (s.atInstruction c i (.ld c r p m sz .clean) = true)),
     (let c : CoreRef := core0
     let r : Fin 16 := 2
     let p : Fin 8 := 0
     let m : AddrMode := .disp 0
     let sz : MemSize := .word
     let s : State := withWord (busyAt 2) (wordOf (.st c r p m sz))
     let i : Item := ((s.core core0).run).getD item
     let a : Int := 2
     let k' : Core := s.core core0
     decide (ableB s c i = true) && decide (sz = .pair → r.val % 2 = 0) && decide (effective (s.core c) p m = .ok (a, k')) && decide (alignedAt a sz = none) && decide (s.atInstruction c i (.st c r p m sz) = true)),
     (let c : CoreRef := core0
     let r : Fin 16 := 2
     let p : Fin 8 := 0
     let m : AddrMode := .disp 0
     let sz : MemSize := .word
     let s : State := withWord (busyAt 0x4000) (wordOf (.ld c r p m sz .clean))
     let i : Item := ((s.core core0).run).getD item
     let a : Int := 0x4000
     let k' : Core := s.core core0
     let n := 0x4000
     decide (ableB s c i = true) && decide (sz = .pair → r.val % 2 = 0) && decide (effective (s.core c) p m = .ok (a, k')) && decide (alignedAt a sz = some n) && decide (spaceOf n = none) && decide (s.atInstruction c i (.ld c r p m sz .clean) = true)),
     (let c : CoreRef := core0
     let r : Fin 16 := 2
     let p : Fin 8 := 0
     let m : AddrMode := .disp 0
     let sz : MemSize := .word
     let s : State := withWord (busyAt 0x4000) (wordOf (.st c r p m sz))
     let i : Item := ((s.core core0).run).getD item
     let a : Int := 0x4000
     let k' : Core := s.core core0
     let n := 0x4000
     decide (ableB s c i = true) && decide (sz = .pair → r.val % 2 = 0) && decide (effective (s.core c) p m = .ok (a, k')) && decide (alignedAt a sz = some n) && decide (spaceOf n = none) && decide (s.atInstruction c i (.st c r p m sz) = true)),
     (let c : CoreRef := core0
     let r : Fin 16 := 2
     let p : Fin 8 := 0
     let m : AddrMode := .disp 0
     let sz : MemSize := .word
     let s : State := withWord (busyAt 0x440000) (wordOf (.st c r p m sz))
     let i : Item := ((s.core core0).run).getD item
     let a : Int := 0x440000
     let k' : Core := s.core core0
     let n := 0x440000
     decide (ableB s c i = true) && decide (sz = .pair → r.val % 2 = 0) && decide (effective (s.core c) p m = .ok (a, k')) && decide (alignedAt a sz = some n) && decide (0x440000 ≤ n) && decide (n < 0x482000) && decide (s.atInstruction c i (.st c r p m sz) = true)),
     (let c : CoreRef := core0
     let r : Fin 16 := 2
     let p : Fin 8 := 0
     let m : AddrMode := .disp 0
     let sz : MemSize := .word
     let s : State := withWord (busyAt 0x31FFFC) (wordOf (.st c r p m sz))
     let i : Item := ((s.core core0).run).getD item
     let a : Int := 0x31FFFC
     let k' : Core := s.core core0
     let n := 0x31FFFC
     decide (ableB s c i = true) && decide (sz = .pair → r.val % 2 = 0) && decide (effective (s.core c) p m = .ok (a, k')) && decide (alignedAt a sz = some n) && decide (0x200000 ≤ n) && decide (n < 0x320000) && decide (s.atInstruction c i (.st c r p m sz) = true)),
     (let c : CoreRef := core0
     let r : Fin 16 := 2
     let p : Fin 8 := 0
     let m : AddrMode := .disp 0
     let sz : MemSize := .word
     let s : State := withWord (busyAt 0x7F0000) (wordOf (.st c r p m sz))
     let i : Item := ((s.core core0).run).getD item
     let a : Int := 0x7F0000
     let k' : Core := s.core core0
     let n := 0x7F0000
     decide (ableB s c i = true) && decide (sz = .pair → r.val % 2 = 0) && decide (effective (s.core c) p m = .ok (a, k')) && decide (alignedAt a sz = some n) && decide (0x7F0000 ≤ n) && decide (n < 0x7F0020) && decide (s.atInstruction c i (.st c r p m sz) = true)),
     (let c : CoreRef := core0
     let r : Fin 16 := 2
     let p : Fin 8 := 0
     let m : AddrMode := .disp 0
     let sz : MemSize := .word
     let s : State := withWord (busyAt 0x5020FC) (wordOf (.ld c r p m sz .clean))
     let i : Item := ((s.core core0).run).getD item
     let a : Int := 0x5020FC
     let k' : Core := s.core core0
     let n := 0x5020FC
     decide (ableB s c i = true) && decide (sz = .pair → r.val % 2 = 0) && decide (effective (s.core c) p m = .ok (a, k')) && decide (alignedAt a sz = some n) && decide (0x500000 ≤ n) && decide (n < 0x502100) && decide (s.atInstruction c i (.ld c r p m sz .clean) = true))].all id = true := by decide +kernel

theorem witness_MinMaxScan :
    [(let c : CoreRef := core0
     let rd : Fin 16 := 0
     let ri : Fin 16 := 0
     let p : Fin 8 := 0
     let rn : Fin 16 := 0
     let uns : Bool := true
     let s : State := withWord (busy) (wordOf (.mini c rd ri p rn uns))
     let i : Item := ((s.core core0).run).getD item
     let n := ((s.core c).reg rn).toNat
     decide (ableB s c i = true) && decide (n = 0 ∨ 1024 < n) && decide (s.atInstruction c i (.mini c rd ri p rn uns) = true)),
     (let c : CoreRef := core0
     let rd : Fin 16 := 0
     let ri : Fin 16 := 0
     let p : Fin 8 := 0
     let rn : Fin 16 := 0
     let uns : Bool := true
     let s : State := withWord (busy) (wordOf (.maxi c rd ri p rn uns))
     let i : Item := ((s.core core0).run).getD item
     let n := ((s.core c).reg rn).toNat
     decide (ableB s c i = true) && decide (n = 0 ∨ 1024 < n) && decide (s.atInstruction c i (.maxi c rd ri p rn uns) = true)),
     (let c : CoreRef := core0
     let rd : Fin 16 := 0
     let ri : Fin 16 := 0
     let p : Fin 8 := 0
     let rn : Fin 16 := 1
     let uns : Bool := true
     let s : State := withWord (busyWith fun k => { k.setReg 1 2 with p := k.p.set 0 0x400040 }) (wordOf (.mini c rd ri p rn uns))
     let i : Item := ((s.core core0).run).getD item
     let sp : Space := .exchange 0x40
     let ws : List Word := [0, 0]
     let n := ((s.core c).reg rn).toNat
     let at_ := ((s.core c).ptr p).toNat
     decide (ableB s c i = true) && decide (0 < n) && decide (n ≤ 1024) && decide (at_ % 4 = 0) && decide (spaceOf at_ = some sp) && decide (loadBytes (s.die c.die) c.core.val (s.core c) i at_ (4 * n) = some ((ws.map fun w => le 4 w.toNat).flatten)) && decide (((s.core c).forward (s.core c) (12 + n * memTicks sp false)).ticks ≤ i.bound) && decide (s.atInstruction c i (.mini c rd ri p rn uns) = true)),
     (let c : CoreRef := core0
     let rd : Fin 16 := 0
     let ri : Fin 16 := 0
     let p : Fin 8 := 0
     let rn : Fin 16 := 1
     let uns : Bool := true
     let s : State := withWord (busyWith fun k => { k.setReg 1 2 with p := k.p.set 0 0x400040 }) (wordOf (.maxi c rd ri p rn uns))
     let i : Item := ((s.core core0).run).getD item
     let sp : Space := .exchange 0x40
     let ws : List Word := [0, 0]
     let n := ((s.core c).reg rn).toNat
     let at_ := ((s.core c).ptr p).toNat
     decide (ableB s c i = true) && decide (0 < n) && decide (n ≤ 1024) && decide (at_ % 4 = 0) && decide (spaceOf at_ = some sp) && decide (loadBytes (s.die c.die) c.core.val (s.core c) i at_ (4 * n) = some ((ws.map fun w => le 4 w.toNat).flatten)) && decide (((s.core c).forward (s.core c) (12 + n * memTicks sp false)).ticks ≤ i.bound) && decide (s.atInstruction c i (.maxi c rd ri p rn uns) = true))].all id = true := by decide +kernel

theorem witness_Control :
    [(let c : CoreRef := core0
     let cond : BitVec 4 := 15
     let off : BitVec 22 := 0
     let s : State := withWord (busy) (wordOf (.bcc c cond off))
     let i : Item := ((s.core core0).run).getD item
     decide (reachesB s c i (.bcc c cond off) = true) && decide (cond.toNat = 15)),
     (let c : CoreRef := core0
     let cond : BitVec 4 := 0
     let off : BitVec 22 := 0
     let s : State := withWord (busy) (wordOf (.bcc c cond off))
     let i : Item := ((s.core core0).run).getD item
     let k := s.core c
     decide (ableB s c i = true) && decide (condHolds k.flags cond.toNat = some false) && decide (readyB s c i 4 = true) && decide (s.atInstruction c i (.bcc c cond off) = true)),
     (let c : CoreRef := core0
     let cond : BitVec 4 := 14
     let off : BitVec 22 := 7
     let s : State := withWord (busy) (wordOf (.bcc c cond off))
     let i : Item := ((s.core core0).run).getD item
     let k := s.core c
     let len := i.code.length
     decide (ableB s c i = true) && decide (condHolds k.flags cond.toNat = some true) && decide (k.ticks + 8 ≤ i.bound) && decide (0 ≤ k.pc + off.toInt) && decide (k.pc + off.toInt < len) && decide (s.atInstruction c i (.bcc c cond off) = true)),
     (let c : CoreRef := core0
     let cond : BitVec 4 := 14
     let off : BitVec 22 := 8
     let s : State := withWord (busy) (wordOf (.bcc c cond off))
     let i : Item := ((s.core core0).run).getD item
     let k := s.core c
     let len := i.code.length
     decide (ableB s c i = true) && decide (condHolds k.flags cond.toNat = some true) && decide (¬(0 ≤ k.pc + off.toInt ∧ k.pc + off.toInt < len)) && decide (s.atInstruction c i (.bcc c cond off) = true)),
     (let c : CoreRef := core0
     let target : BitVec 10 := 0
     let s : State := withWord (busyWith fun k => { k with calls := [1, 2, 3, 4] }) (wordOf (.call c target))
     let i : Item := ((s.core core0).run).getD item
     let k := s.core c
     decide (ableB s c i = true) && decide (4 ≤ k.calls.length) && decide (s.atInstruction c i (.call c target) = true)),
     (let c : CoreRef := core0
     let target : BitVec 10 := 8
     let s : State := withWord (busy) (wordOf (.call c target))
     let i : Item := ((s.core core0).run).getD item
     let k := s.core c
     let len := i.code.length
     decide (ableB s c i = true) && decide (k.calls.length < 4) && decide (len ≤ target.toNat) && decide (s.atInstruction c i (.call c target) = true)),
     (let c : CoreRef := core0
     let target : BitVec 10 := 0
     let s : State := withWord (busy) (wordOf (.call c target))
     let i : Item := ((s.core core0).run).getD item
     let k := s.core c
     let len := i.code.length
     decide (ableB s c i = true) && decide (k.calls.length < 4) && decide (target.toNat < len) && decide (k.ticks + 8 ≤ i.bound) && decide (s.atInstruction c i (.call c target) = true)),
     (let c : CoreRef := core0
     let s : State := withWord (busy) (wordOf (.ret c))
     let i : Item := ((s.core core0).run).getD item
     let k := s.core c
     decide (ableB s c i = true) && decide (k.calls = []) && decide (s.atInstruction c i (.ret c) = true)),
     (let c : CoreRef := core0
     let t := 1
     let rest := [2]
     let s : State := withWord (busyWith fun k => { k with calls := [1, 2] }) (wordOf (.ret c))
     let i : Item := ((s.core core0).run).getD item
     let k := s.core c
     decide (ableB s c i = true) && decide (k.calls = t :: rest) && decide (k.ticks + 8 ≤ i.bound) && decide (s.atInstruction c i (.ret c) = true)),
     (let c : CoreRef := core0
     let fromReg : Bool := true
     let ra : Fin 16 := 0
     let count : BitVec 10 := 0
     let last : BitVec 11 := 1
     let s : State := withWord (busyWith fun k => { k with loops := [{ first := 0, last := 3, count := 2 }, { first := 0, last := 5, count := 2 }] }) (wordOf (.loop_ c fromReg ra count last))
     let i : Item := ((s.core core0).run).getD item
     let k := s.core c
     decide (ableB s c i = true) && decide (1 ≤ last.toNat) && decide (last.toNat ≤ 1023) && decide (2 ≤ k.loops.length) && decide (s.atInstruction c i (.loop_ c fromReg ra count last) = true)),
     (let c : CoreRef := core0
     let fromReg : Bool := true
     let ra : Fin 16 := 0
     let count : BitVec 10 := 0
     let last : BitVec 11 := 8
     let s : State := withWord (busy) (wordOf (.loop_ c fromReg ra count last))
     let i : Item := ((s.core core0).run).getD item
     let k := s.core c
     let len := i.code.length
     decide (ableB s c i = true) && decide (1 ≤ last.toNat) && decide (last.toNat ≤ 1023) && decide (k.loops.length < 2) && decide (len ≤ k.pc + last.toNat) && decide (s.atInstruction c i (.loop_ c fromReg ra count last) = true)),
     (let c : CoreRef := core0
     let fromReg : Bool := true
     let ra : Fin 16 := 0
     let count : BitVec 10 := 0
     let last : BitVec 11 := 7
     let s : State := withWord (busy) (wordOf (.loop_ c fromReg ra count last))
     let i : Item := ((s.core core0).run).getD item
     let k := s.core c
     let len := i.code.length
     let n := if fromReg then (k.reg ra).toNat else if count = 0 then 1024 else count.toNat
     let past := loopAdvance (k.pc + last.toNat) k.loops
     decide (ableB s c i = true) && decide (1 ≤ last.toNat) && decide (last.toNat ≤ 1023) && decide (k.loops.length < 2) && decide (k.pc + last.toNat < len) && decide (n = 0) && decide (k.ticks + 8 + 8 * past.2.2 ≤ i.bound) && decide (s.atInstruction c i (.loop_ c fromReg ra count last) = true)),
     (let c : CoreRef := core0
     let fromReg : Bool := false
     let ra : Fin 16 := 0
     let count : BitVec 10 := 0
     let last : BitVec 11 := 7
     let s : State := withWord (busy) (wordOf (.loop_ c fromReg ra count last))
     let i : Item := ((s.core core0).run).getD item
     let k := s.core c
     let len := i.code.length
     let n := if fromReg then (k.reg ra).toNat else if count = 0 then 1024 else count.toNat
     decide (ableB s c i = true) && decide (1 ≤ last.toNat) && decide (last.toNat ≤ 1023) && decide (k.loops.length < 2) && decide (k.pc + last.toNat < len) && decide (k.ticks + 8 ≤ i.bound) && decide (0 < n) && decide (s.atInstruction c i (.loop_ c fromReg ra count last) = true)),
     (let pc : Nat := 3
     let f : LoopFrame := { first := 1, last := 2, count := 2 }
     decide (pc ≠ f.last)),
     (let pc : Nat := 2
     let f : LoopFrame := { first := 1, last := 2, count := 2 }
     decide (pc = f.last) && decide (1 < f.count)),
     (let pc : Nat := 2
     let f : LoopFrame := { first := 1, last := 2, count := 1 }
     decide (pc = f.last) && decide (f.count ≤ 1))].all id = true := by decide +kernel

theorem witness_ProgramFaults :
    [(let c : CoreRef := core0
     let code : Byte := 0
     let s : State := withWord (busy) (wordOf (.faultOp c code))
     let i : Item := ((s.core core0).run).getD item
     decide (ableB s c i = true) && decide (s.atInstruction c i (.faultOp c code) = true)),
     (let s : State := busyWith fun k => { k with pc := 8 }
     let c : CoreRef := core0
     let i : Item := item
     let op : Instr := .sysNop c
     decide (s.runningOn c = some i) && decide (op = .sysNop c) && decide (i.code[(s.core c).pc]? = none)),
     (let s : State := ripe.onCore core0 fun k => { k with run := some { item with code := [0] } }
     let c : CoreRef := core0
     let i : Item := { item with code := [0] }
     let op : Instr := .sysNop c
     let w := 0
     decide (s.runningOn c = some i) && decide (op = .sysNop c) && decide (i.code[(s.core c).pc]? = some w) && decide (s.quiet c.die 0 = true) && decide (wordDefined w = false)),
     (let s : State := withWord busy (wordOf (.add core0 0 0 0))
     let c : CoreRef := core0
     let i : Item := ((s.core core0).run).getD item
     let op : Instr := .sysNop c
     let w := wordOf (.add core0 0 0 0)
     decide (s.runningOn c = some i) && decide (op = .sysNop c) && decide (i.code[(s.core c).pc]? = some w) && decide (wordDefined w = true) && decide (spells w op = false)),
     (let c : CoreRef := core0
     let op : Instr := .sysNop ⟨.t0, 0⟩
     let s : State := withWord (busyWith fun k => { k with ticks := 1000 }) (wordOf op)
     let i : Item := ((s.core core0).run).getD item
     decide (s.runningOn c = some i) && decide (op = .sysNop c) && decide (ableB s c i = true) && decide (i.bound < ((s.core c).forward (s.core c) 4).ticks) && decide (s.atInstruction c i op = true)),
     (let s : State := busy
     let c : CoreRef := core0
     decide ((s.core c).next = none ∨ (s.core c).prefetched = false)),
     (let s : State := busy.onDie .t0 fun x => { x with disp := { x.disp with insts := [{ entry := 0, b := 6, state := .running 0 }] } }
     let c : CoreRef := core0
     let i : Item := item
     let cause : Cause := .pc
     let t := { entry := 0, b := 6, state := .faulted }
     decide ((s.core c).next = none ∨ (s.core c).prefetched = false) && decide (t ∈ ((s.programFault c i cause).die c.die).disp.insts)),
     (let w : Word := 0
     decide (w.toNat < 2 ^ 26)),
     (let words : Nat := 8
     let at_ : Nat := 0
     let w : Word := 0xFC000000
     decide (encodingOk words at_ w = true)),
     (let words : Nat := 8
     let at_ : Nat := 0
     let cond : BitVec 4 := 14
     let off : BitVec 22 := 1
     let w : Word := wordOf (.bcc ⟨.t0, 0⟩ cond off)
     decide (spells w (.bcc ⟨.t0, 0⟩ cond off) = true) && decide (encodingOk words at_ w = true)),
     (let words : Nat := 8
     let at_ : Nat := 0
     let r : Fin 16 := 2
     let p : Fin 8 := 0
     let m : AddrMode := .disp 0
     let w : Word := wordOf (.ld ⟨.t0, 0⟩ r p m .pair .clean)
     decide (spells w (.ld ⟨.t0, 0⟩ r p m .pair .clean) = true ∨ spells w (.st ⟨.t0, 0⟩ r p m .pair) = true) && decide (encodingOk words at_ w = true))].all id = true := by decide +kernel

theorem witness_ResidueDetection :
    [(let c : CoreRef := core0
     let op : Instr := .mul c 0 0 0 false
     let s : State := withWord (busy) (wordOf op)
     let i : Item := ((s.core core0).run).getD item
     decide (s.runningOn c = some i) && decide (s.quiet c.die 2 = true) && decide (s.atInstruction c i op = true) && decide (op = .mul c 0 0 0 false))].all id = true := by decide +kernel

theorem witness_ExitSends :
    [(let c : CoreRef := core0
     let s : State := withWord (busy) (wordOf (.exit_ c))
     let i : Item := ((s.core core0).run).getD item
     decide (ableB s c i = true) && decide (s.atInstruction c i (.exit_ c) = true) && decide ((s.core c).ticks + (exitEff (s.die c.die) (s.core c) i).cost ≤ i.bound))].all id = true := by decide +kernel

theorem witness_StageJoint :
    [(let h : HostCmd := call 1 0 [(1, 255), (1, 0), (1, 0), (1, 0), (1, 0), (1, 0), (1, 0), (1, 0), (1, 0), (1, 0), (1, 0), (1, 0), (1, 0), (1, 0), (1, 0), (1, 0), (1, 0), (1, 0), (1, 0), (1, 0), (1, 0), (1, 0), (1, 0), (1, 0), (1, 0), (1, 0), (1, 0), (1, 0), (1, 0), (1, 0), (1, 0), (1, 0)]
     let s : State := ripe
     let p := h.params
     let s1 := s.dequeue h
     let d := actingDie h h.die
     let sh := (s1.die d).shadow
     let j := tJoint h.target
     let onJ : (CfgJointAll → CfgJointAll) → Cfg → Cfg := fun g x => x.onJoint j g
     let c : CfgJoint := (parseJoint p)
     decide (accB s 0x0300 h = true) && decide (tKind h.target = 1) && decide (h.plen = 4) && decide (c.arm < 8 ∨ c.arm = 255) && decide (rd p 1 1 ≤ 1) && decide (rd p 2 1 ≤ 3) && decide (rd p 3 1 ≤ 2) && decide (c.brake = 1 → ∃ k : Fin 16, k.val = c.brakeOut ∧ (sh.outputs[k]).function = 1) && decide (c.brakeReleaseNs ≤ 2000000000) && decide (c.brakeEngageNs ≤ 2000000000) && decide (c.enableTimeoutNs ≤ 4000000000) && decide (10000000 ≤ c.softTimeNs) && decide (c.softTimeNs ≤ 2000000000) && decide (zeroAt p 5 3 = true) && decide (zeroAt p 26 6 = true) && decide (c.arm < 8 → (onJ (fun x => { x with joint := c }) sh).armCount c.arm ≤ 9) && decide ((onJ (fun x => { x with joint := c }) sh).scaleOk j = true) && decide ((s1.die d).committing = false)),
     (let h : HostCmd := call 2 0 [(8, 0), (8, 0)]
     let s : State := ripe
     let p := h.params
     let s1 := s.dequeue h
     let d := actingDie h h.die
     let sh := (s1.die d).shadow
     let c : CfgArm := ({ rateDown := orDefault (rd p 0 4) 1310720, rateUp := orDefault (rd p 4 4) 131072 })
     decide (accB s 0x0300 h = true) && decide (tKind h.target = 2) && decide (h.plen = 2) && decide (6554 ≤ c.rateDown) && decide (c.rateDown ≤ 65536000) && decide (6554 ≤ c.rateUp) && decide (c.rateUp ≤ 65536000) && decide (zeroAt p 8 8 = true) && decide (Cfg.scalesOk { sh with arms := sh.arms.set (tArm h.target) c } = true) && decide ((s1.die d).committing = false)),
     (let h : HostCmd := call 1 0 [(8, 0), (8, 100), (4, 65536), (4, 65536), (4, 65536), (4, 2097152), (4, 65536), (4, 0)]
     let s : State := ripe
     let p := h.params
     let s1 := s.dequeue h
     let d := actingDie h h.die
     let sh := (s1.die d).shadow
     let j := tJoint h.target
     let onJ : (CfgJointAll → CfgJointAll) → Cfg → Cfg := fun g x => x.onJoint j g
     let l : CfgLimits := ({ qMin := rdS p 0 8, qMax := rdS p 8 8, vMax := rdS p 16 4, aMax := rdS p 20 4, jMax := rdS p 24 4, aStop := rdS p 28 4, jStop := rdS p 32 4, catchOmega := orDefault (rd p 36 4) 1966080 })
     decide (accB s 0x0301 h = true) && decide (l.qMin < l.qMax) && decide (0 < l.vMax) && decide (0 < l.aMax) && decide (0 < l.jMax) && decide (l.aMax ≤ l.aStop) && decide (l.jMax ≤ l.jStop) && decide (65536 ≤ l.catchOmega) && decide (l.catchOmega ≤ 131072000) && decide ((onJ (fun x => { x with limits := some l }) sh).scaleOk j = true) && decide ((s1.die d).committing = false)),
     (let h : HostCmd := call 1 0 [(8, 0), (8, 0), (8, 0), (8, 0), (8, 0), (8, 0), (8, 0), (8, 0), (8, 0)]
     let s : State := ripe
     let p := h.params
     let s1 := s.dequeue h
     let d := actingDie h h.die
     let c : CfgHoming := (parseHoming p)
     decide (accB s 0x0308 h = true) && decide (c.method ≤ 5) && decide (c.direction ≤ 1) && decide (switchOk c.homeSrc = true) && decide (switchOk c.limPos = true) && decide (switchOk c.limNeg = true) && decide (2 ≤ c.chatterEdges) && decide (rd p 6 1 ≤ 3) && decide (zeroAt p 7 1 = true) && decide (zeroAt p 68 4 = true) && decide (c.method ∈ ([1, 2, 3] : List Nat) → 0 < c.backoff ∧ 0 < c.maxTravel ∧ 0 < c.vFast ∧ 0 < c.vCreep ∧ c.vCreep ≤ c.vFast ∧ 0 < c.aHome) && decide (0 ≤ c.torqueThreshold) && decide (c.torqueThreshold ≤ c.torqueLimit) && decide ((s1.die d).committing = false)),
     (let h : HostCmd := call 1 0 [(8, 0)]
     let s : State := ripe
     let p := h.params
     let s1 := s.dequeue h
     let d := actingDie h h.die
     decide (accB s 0x0309 h = true) && decide (zeroAt p 6 2 = true) && decide ((s1.die d).committing = false)),
     (let h : HostCmd := call 1 0 [(8, 0), (8, 0), (8, 0)]
     let s : State := ripe
     let p := h.params
     let s1 := s.dequeue h
     let d := actingDie h h.die
     decide (accB s 0x030C h = true) && decide (0 ≤ rdS p 0 8) && decide (0 ≤ rdS p 8 8) && decide (zeroAt p 20 4 = true) && decide ((s1.die d).committing = false)),
     (let h : HostCmd := call 1 0x3ffffff [(8, 0), (8, 0), (4, 100), (4, 0), (8, 0)]
     let s : State := ripe
     let p := h.params
     let s1 := s.dequeue h
     let d := actingDie h h.die
     let c : CfgControl := ({ tq := rd p 0 1 == 1, predict := bit (rd p 1 1) 0, velFromNode := bit (rd p 1 1) 1, kp := rd p 4 4, kv := rd p 8 4, ki := rd p 12 4, torqueMax := rdS p 16 4, limitFraction := orDefault (rd p 20 2) 65535, softLimitStart := orDefault (rd p 22 2) 16383, tauVNs := rd p 24 4 })
     decide (accB s 0x0400 h = true) && decide (rd p 0 1 ≤ 1) && decide (rd p 1 1 ≤ 3) && decide (c.kp ≤ 655360000) && decide (c.kv ≤ 4294901760) && decide (c.ki ≤ 655360000) && decide (0 < c.torqueMax) && decide (c.tauVNs ≤ 100000000) && decide (zeroAt p 2 2 = true) && decide (zeroAt p 28 4 = true) && decide ((s1.die d).committing = false)),
     (let h : HostCmd := call 1 0 [(8, 0), (8, 0), (8, 0), (8, 0), (8, 0)]
     let s : State := ripe
     let p := h.params
     let s1 := s.dequeue h
     let d := actingDie h h.die
     let sh := (s1.die d).shadow
     let f : CfgFilter := (parseFilter p)
     decide (accB s 0x0401 h = true) && decide (rd p 0 1 ≤ 1) && decide (f.type_ ≤ 3) && decide (f.ok sh.periods.tS = true) && decide (f.type_ ≠ 3 → zeroAt p 16 20 = true) && decide (zeroAt p 14 2 = true) && decide (zeroAt p 36 4 = true) && decide ((s1.die d).committing = false)),
     (let h : HostCmd := call 1 0 [(4, 0), (4, 0), (4, 0), (4, 0), (4, 1), (4, 0), (8, 0), (8, 1000), (8, 0), (8, 0)]
     let s : State := ripe
     let p := h.params
     let s1 := s.dequeue h
     let d := actingDie h h.die
     let c : CfgFeedforward := ({ kvff := rd p 0 4, kaff := rd p 4 4, inertia := rd p 8 4, gearNum := rd p 12 4, gearDen := rd p 16 4, cogOffset := rd p 20 4, travelMin := rdS p 24 8, travelMax := rdS p 32 8, vBand := orDefaultI (rdS p 40 4) 655, extFadeNs := orDefault (rd p 44 4) 20000000 })
     decide (accB s 0x0402 h = true) && decide (c.kvff ≤ 131072) && decide (c.kaff ≤ 131072) && decide (c.inertia ≤ 4294901760) && decide (c.gearDen ≠ 0) && decide (c.travelMin < c.travelMax) && decide (0 < c.vBand) && decide (c.extFadeNs ≤ 1000000000) && decide (zeroAt p 48 8 = true) && decide ((s1.die d).committing = false)),
     (let h : HostCmd := call 1 0 [(4, 0), (4, 1), (8, 0), (8, 0), (8, 0)]
     let s : State := ripe
     let p := h.params
     let s1 := s.dequeue h
     let d := actingDie h h.die
     let c : CfgFeedback := ({ encoderPort := rd p 0 1 == 1, port := rd p 1 1, invert := bit (rd p 2 1) 0, holdLimit := if rd p 3 1 = 255 then 2 else rd p 3 1, countsPerUnit := rd p 4 4, offset := rdS p 8 8, freezeV := rdS p 16 4, freezeTorque := rdS p 20 4, freezeTimeNs := orDefault (rd p 24 4) 20000000 })
     decide (accB s 0x0406 h = true) && decide (rd p 0 1 ≤ 1) && decide (rd p 2 1 ≤ 1) && decide (rd p 0 1 = 1 → c.port ≤ 3) && decide (c.holdLimit ≤ 4) && decide (c.countsPerUnit ≠ 0) && decide (0 ≤ c.freezeV) && decide (0 ≤ c.freezeTorque) && decide (c.freezeTimeNs ≤ 1000000000) && decide (zeroAt p 28 4 = true) && decide ((s1.die d).committing = false)),
     (let h : HostCmd := call 6 0x400000 [(1, 0), (1, 4), (6, 0), (2, 1), (2, 2), (2, 3), (2, 4)]
     let s : State := ripe
     let t : Fin 128 := 0
     let p := h.params
     let s1 := s.dequeue h
     let d := actingDie h h.die
     decide (accB s 0x0403 h = true) && decide (tComp h.target = some t) && decide (s1.jointPresent (tInstance h.target) = true) && decide (h.plen.toNat = 1 + (rd p 1 1 + 3) / 4) && decide (1 ≤ rd p 1 1) && decide (rd p 1 1 ≤ 112) && decide (rd p 0 1 + rd p 1 1 ≤ 256) && decide (rd p 2 1 ≤ 15) && decide (rd p 3 1 ≤ 1) && decide (zeroAt p 4 4 = true) && decide (padded h (8 + 2 * rd p 1 1) = true) && decide ((s1.die d).committing = false))].all id = true := by decide +kernel

theorem witness_StagePlanning :
    [(let h : HostCmd := call 0 0 [(8, 0), (1, 0), (1, 1), (1, 8), (5, 0), (8, 0), (8, 0), (8, 0), (8, 0), (8, 0), (8, 0)]
     let s : State := ripe
     let p := h.params
     let v : CfgJuggler := (readJuggler p).getD ripe.t0.cfg.juggler
     let s1 := s.dequeue h
     let d := actingDie h h.die
     let sh := (s1.die d).shadow
     let new : Cfg := ({ sh with juggler := v })
     decide (accB s 0x0500 h = true) && decide (s1.noJuggler = false) && decide (readJuggler p = some v) && decide (∀ k : Fin 64, bit (rd p 0 8) k.val = true → s1.jointPresent k.val = true ∧ (sh.joints[k]).joint.arm ≤ 7) && decide (rd p 8 1 ≤ 1) && decide (rd p 9 1 ∈ ([1, 2, 4, 8, 16] : List Nat)) && decide (1 ≤ rd p 10 1) && decide (rd p 10 1 ≤ 16) && decide (rd p 11 1 = 0 ∨ 50 ≤ rd p 11 1 ∧ rd p 11 1 ≤ 95) && decide (rd p 12 1 ≤ 25) && decide (rd p 13 1 ≤ 3) && decide (rd p 14 2 < 2 ^ rd p 10 1) && decide (rd p 56 1 + rd p 57 1 + rd p 58 1 ≤ 128) && decide (zeroAt p 59 5 = true) && decide (new.jugglerAdmitted (s1.jugglerLanes d) = true) && decide ((s1.die d).committing = false)),
     (let h : HostCmd := call 1 0 [(8, 0), (8, 0), (8, 0)]
     let s : State := ripe
     let p := h.params
     let s1 := s.dequeue h
     let d := actingDie h h.die
     let v : CfgWeights := ({ wq := BitVec.ofNat 32 (rd p 0 4), wv := BitVec.ofNat 32 (rd p 4 4), wa := BitVec.ofNat 32 (rd p 8 4), wqn := BitVec.ofNat 32 (rd p 12 4), wvn := BitVec.ofNat 32 (rd p 16 4) })
     decide (accB s 0x0501 h = true) && decide (s1.noJuggler = false) && decide (v.wq = 0 ∧ v.wv = 0 ∧ v.wa = 0 ∧ v.wqn = 0 ∧ v.wvn = 0) && decide (zeroAt p 20 4 = true) && decide ((s1.die d).committing = false)),
     (let h : HostCmd := call 6 0x500000 [(8, 0), (8, 0), (8, 0), (8, 0), (8, 0), (8, 0), (8, 0), (8, 0), (8, 0), (8, 0), (8, 0), (8, 0), (8, 0), (8, 0), (8, 0)]
     let s : State := withCfg ripe fun c => { c with juggler := { c.juggler with hostRows := 1 } }
     let p := h.params
     let s1 := s.dequeue h
     let d := actingDie h h.die
     let sh := (s1.die d).shadow
     let i := tInstance h.target
     let r : CfgRow := (readRow p)
     let idx : List Nat := ((r.index.take r.nnz).map (fun b => b.toNat))
     let put : Cfg → Cfg := (fun c => if r.nnz = 0 then { c with rows := c.rows.erase i } else { c with rows := c.rows.set i r })
     decide (accB s 0x0503 h = true) && decide (s1.noJuggler = false) && decide (tTable h.target = 0x50) && decide (i < sh.juggler.hostRows) && decide (r.nnz ≤ 20) && decide (zeroAt p 3 5 = true) && decide (zeroAt p 36 4 = true) && decide (boundsOk r.lower r.upper = true) && decide (∀ k ∈ List.range 20, f32Finite (BitVec.ofNat 32 (rd p (40 + 4 * k) 4)) = true) && decide (distinct idx = true) && decide (∀ b ∈ idx, sh.juggler.jointSet.getLsbD (b % 64) = true ∧ b / 64 ≠ 3 ∧ (b / 64 = 2 → r.stepMask.getLsbD (sh.juggler.n - 1) = false)) && decide (r.stepMask &&& ~~~sh.juggler.rowStepMask = 0) && decide ((put sh).jugglerAdmitted (s1.jugglerLanes d) = true) && decide ((s1.die d).committing = false)),
     (let h : HostCmd := call 6 0x600000 [(1, 1), (7, 0), (1, 3), (3, 0), (4, 1073741824), (4, 0), (4, 0), (4, 5), (12, 0)]
     let s : State := cfgWith fun c => { c with periods := { tS := 250000, tP := 1000000, tSep := 1000000, phase := 0 } }
     let p := h.params
     let s1 := s.dequeue h
     let d := actingDie h h.die
     let sh := (s1.die d).shadow
     let i := tInstance h.target
     let n : Nat := (rd p 0 1)
     let es : List (Option (Option GeoEntry)) := ((List.range n).map (fun k => readGeometry ((p.drop (8 + 32 * k)).take 32)))
     let put : Cfg → Cfg := (fun c => ((List.range n).zip es).foldl (fun c x => c.setGeo (i + x.1) (x.2.getD none)) c)
     decide (accB s 0x0600 h = true) && decide (tTable h.target = 0x60) && decide (1 ≤ n) && decide (n ≤ 7) && decide (i + n ≤ 4032) && decide (i < 4032) && decide (h.plen.toNat = 1 + 4 * n) && decide (zeroAt p 1 7 = true) && decide ((es.all fun e => match e with | none => false | some none => true | some (some g) => (put sh).capsuleOk g) = true) && decide ((put sh).geoLimits = true) && decide ((put sh).sepAdmitted (s1.sepLanes d) = true) && decide ((s1.die d).committing = false)),
     (let h : HostCmd := call 6 0x610000 [(1, 1), (15, 0), (12, 0), (2, 32767), (6, 0), (12, 0), (2, 32767), (6, 0), (160, 0)]
     let s : State := withCfg ripe fun c => { c with joints := c.joints.set 0 { c.joints[0] with joint := { c.joints[0].joint with arm := 0 } } }
     let a : Fin 8 := 0
     let p := h.params
     let s1 := s.dequeue h
     let d := actingDie h h.die
     let sh := (s1.die d).shadow
     let i := tInstance h.target
     let n : Nat := (rd p 0 1)
     let frames : List KinFrame := ((List.range (n + 1)).map (readFrame p))
     decide (accB s 0x0601 h = true) && decide (a.val = i) && decide (tTable h.target = 0x61) && decide (1 ≤ n) && decide (n ≤ 9) && decide (n = sh.armCount i) && decide (∀ k ∈ List.range 9, if k < n then bits (rd p (k + 1) 1) 1 0 ≤ 2 ∧ bits (rd p (k + 1) 1) 6 2 = 0 else rd p (k + 1) 1 = 0) && decide (zeroAt p 10 6 = true) && decide (zeroAt p (16 + 20 * (n + 1)) (200 - 20 * (n + 1)) = true) && decide (frames.all KinFrame.unitary = true) && decide ((s1.die d).committing = false)),
     (let h : HostCmd := call 2 0 [(4, 1), (4, 0), (4, 0), (4, 0), (4, 0), (4, 0), (4, 0), (1, 1), (1, 1), (2, 0), (8, 0)]
     let s : State := ripe
     let p := h.params
     let s1 := s.dequeue h
     let d := actingDie h h.die
     let v : CfgSsmArm := ({ vRMax := rd p 0 4, tRAddNs := rd p 4 4, zR := rdS p 8 4, sSlow := rdS p 12 4, armClear := rdS p 16 4, rowWindow := rdS p 20 4, releaseNs := rd p 24 4, personCat := rd p 28 1, machineCat := rd p 29 1, speedTol := rdS p 32 4 })
     decide (accB s 0x0602 h = true) && decide (tKind h.target = 2) && decide (h.plen = 5) && decide (1 ≤ v.vRMax) && decide (v.vRMax ≤ 1310720) && decide (v.tRAddNs ≤ 100000000) && decide (v.releaseNs ≤ 10000000000) && decide (0 ≤ v.zR) && decide (0 ≤ v.sSlow) && decide (0 ≤ v.armClear) && decide (0 ≤ v.rowWindow) && decide (0 ≤ v.speedTol) && decide (1 ≤ v.personCat) && decide (v.personCat ≤ 3) && decide (1 ≤ v.machineCat) && decide (v.machineCat ≤ 3) && decide (zeroAt p 30 2 = true) && decide (zeroAt p 36 4 = true) && decide ((s1.die d).committing = false)),
     (let h : HostCmd := call 6 0x620000 [(8, 0), (8, 0)]
     let s : State := ripe
     let k : Fin 8 := 0
     let p := h.params
     let s1 := s.dequeue h
     let d := actingDie h h.die
     let i := tInstance h.target
     let v : CfgSsmClass := ({ vH := rd p 0 4, c := rdS p 4 4, zD := rdS p 8 4 })
     decide (accB s 0x0602 h = true) && decide (tKind h.target = 6) && decide (tTable h.target = 0x62) && decide (k.val = i) && decide (h.plen = 2) && decide (v.vH ≤ 655360) && decide (0 ≤ v.c) && decide (0 ≤ v.zD) && decide (k = 0 → v.vH = 0 ∧ v.c = 0) && decide (zeroAt p 12 4 = true) && decide ((s1.die d).committing = false)),
     (let h : HostCmd := call 0 0 [(8, 655)]
     let s : State := ripe
     let p := h.params
     let s1 := s.dequeue h
     let d := actingDie h h.die
     decide (accB s 0x0602 h = true) && decide (tKind h.target = 0) && decide (h.plen = 1) && decide (rd p 0 2 ≤ 655) && decide (zeroAt p 2 6 = true) && decide ((s1.die d).committing = false)),
     (let h : HostCmd := call 6 0x630000 [(8, 0), (8, 0), (8, 0), (8, 0)]
     let s : State := ripe
     let n : Fin 32 := 0
     let p := h.params
     let s1 := s.dequeue h
     let d := actingDie h h.die
     let sh := (s1.die d).shadow
     let i := tInstance h.target
     let v : CfgSensor := ({ enable := rd p 0 1 == 1, clsOnTimeout := orDefault (rd p 1 1) 1, sensorId := rd p 2 2, udpPort := orDefault (rd p 4 2) 40117, quota := rd p 6 2, tAgeMaxNs := orDefault (rd p 8 4) 20000000, timeoutNs := orDefault (rd p 12 4) 100000000, coverage := rd p 16 2 })
     let put : Cfg → Cfg := (fun c => { c with sensors := c.sensors.set n v })
     decide (accB s 0x0603 h = true) && decide (tTable h.target = 0x63) && decide (n.val = i) && decide (rd p 0 1 ≤ 1) && decide (rd p 1 1 ≤ 7) && decide (zeroAt p 18 14 = true) && decide (v.enable = true → 1024 ≤ v.udpPort ∧ v.udpPort ≤ 65535 ∧ 1 ≤ v.quota ∧ v.quota ≤ 720 ∧ 1000000 ≤ v.tAgeMaxNs ∧ v.tAgeMaxNs ≤ 1000000000 ∧
        v.timeoutNs ≤ 2000000000 ∧ v.coverage ≤ 4031 ∧ (put sh).sensorsClash = false ∧ (put sh).quota ≤ 1024 ∧ v.tAgeMaxNs ≤ v.timeoutNs ∧
        (put sh).sepAdmitted (s1.sepLanes d) = true) && decide ((s1.die d).committing = false)),
     (let h : HostCmd := call 5 0 [(8, 0), (8, 0), (8, 0), (8, 0)]
     let s : State := ripe
     let e : Option GeoEntry := none
     let p := h.params
     let s1 := s.dequeue h
     let d := actingDie h h.die
     decide (accB s 0x0604 h = true) && decide (readZone p (tIndex h.target % 64) = some e) && decide ((s1.die d).committing = false))].all id = true := by decide +kernel

theorem witness_StageShared :
    [(let h : HostCmd := call 0 0 [(4, 250000), (4, 1000000), (4, 1000000), (4, 0)]
     let s : State := ripe
     let p := h.params
     let s1 := s.dequeue h
     let d := actingDie h h.die
     let x := s1.die d
     let sh := x.shadow
     let new : CfgPeriods := ({ tS := rd p 0 4, tP := rd p 4 4, tSep := rd p 8 4, phase := rd p 12 4 })
     let c : Cfg := ({ sh with periods := new })
     decide (accB s 0x0010 h = true) && decide (new.tS ≠ 0) && decide ((s1.periodsFail d c).1 = 0)),
     (let h : HostCmd := call 0 0 [(8, 0)]
     let s : State := ripe
     let p := h.params
     let s1 := s.dequeue h
     let d := actingDie h h.die
     let x := s1.die d
     let sh := x.shadow
     decide (accB s 0x0011 h = true) && decide (rd p 0 4 ≤ sh.periods.tS) && decide (rd p 4 1 ≤ 14) && decide (zeroAt p 5 3 = true)),
     (let h : HostCmd := call 0 0 [(8, 0), (8, 0), (8, 0), (8, 0)]
     let s : State := ripe
     let p := h.params
     let s1 := s.dequeue h
     let d := actingDie h h.die
     let x := s1.die d
     let sh := x.shadow
     decide (accB s 0x0801 h = true) && decide (s1.noTrapeze = false) && decide (rd p 0 1 ≤ 1) && decide (rd p 1 1 ≤ 1) && decide (rd p 2 1 ≤ 7) && decide (rd p 3 1 ≤ 15) && decide (rd p 4 4 = 0 ∨ 1000 ≤ rd p 4 4 ∧ rd p 4 4 ≤ 3600000) && decide (rd p 8 4 = 0 ∨ 50000 ≤ rd p 8 4 ∧ rd p 8 4 ≤ 10000000) && decide (rd p 12 4 = 0 ∨ 1 ≤ rd p 12 4 ∧ rd p 12 4 ≤ 60000) && decide (rd p 16 4 = 0 ∨ 10000000 ≤ rd p 16 4 ∧ rd p 16 4 ≤ 10000000000) && decide (zeroAt p 20 12 = true) && decide (rd p 1 1 = 1 → sh.latentFits = true)),
     (let h : HostCmd := call 12 1 [(8, 1)]
     let s : State := ripe
     let p := h.params
     decide (accB s 0x0901 h = true) && decide (tKind h.target = 12) && decide (eventDefined (tIndex h.target) = true) && decide (controlOk (rd p 0 4) = true) && decide (zeroAt p 4 4 = true)),
     (let h : HostCmd := call 0 0 [(8, 0)]
     let s : State := ripe
     let p := h.params
     decide (accB s 0x0901 h = true) && decide (tKind h.target = 0) && decide (rd p 1 1 ≤ 1) && decide (zeroAt p 2 2 = true) && decide (controlOk (rd p 4 4) = true)),
     (let h : HostCmd := call 0 0 [(8, 0)]
     let s : State := ripe
     let p := h.params
     decide (accB s 0x0A03 h = true) && decide (pvTarget h.target 1 = true) && decide (rd p 0 1 ≤ 1) && decide (rd p 1 1 = 0 ∨ 4 ≤ rd p 1 1 ∧ rd p 1 1 ≤ 24) && decide (rd p 2 2 ≤ 3600) && decide (zeroAt p 4 4 = true)),
     (let h : HostCmd := call 6 0x710000 [(2, 0), (1, 8), (1, 2), (4, 0), (8, 0)]
     let s : State := ripe
     let b : Bool × Nat := (false, 0)
     let p := h.params
     let off : Nat := (rd p 0 2)
     let len : Nat := (rd p 2 1)
     let flags : Nat := (rd p 3 1)
     decide (accB s 0x0B00 h = true) && decide (tBlock h.target = some b) && decide (h.plen.toNat = 1 + len / 8) && decide (8 ≤ len) && decide (len ≤ 224) && decide (len % 8 = 0) && decide (off % 8 = 0) && decide (off + len ≤ (if b.1 then 4112 else 4096)) && decide (zeroAt p 4 4 = true) && decide (flags = 2) && decide (len = 8)),
     (let h : HostCmd := call 6 0x710000 [(2, 0), (1, 8), (1, 0), (4, 0), (8, 0)]
     let s : State := ripe
     let b : Bool × Nat := (false, 0)
     let p := h.params
     let off : Nat := (rd p 0 2)
     let len : Nat := (rd p 2 1)
     let flags : Nat := (rd p 3 1)
     decide (accB s 0x0B00 h = true) && decide (tBlock h.target = some b) && decide (h.plen.toNat = 1 + len / 8) && decide (8 ≤ len) && decide (len ≤ 224) && decide (len % 8 = 0) && decide (off % 8 = 0) && decide (off + len ≤ (if b.1 then 4112 else 4096)) && decide (zeroAt p 4 4 = true) && decide (flags = 0)),
     (let h : HostCmd := call 6 0x710000 [(2, 0), (1, 8), (1, 1), (4, 0), (8, 0)]
     let s : State := ripe
     let b : Bool × Nat := (false, 0)
     let p := h.params
     let s1 := s.dequeue h
     let d := actingDie h h.die
     let x := s1.die d
     let sh := x.shadow
     let off : Nat := (rd p 0 2)
     let len : Nat := (rd p 2 1)
     let flags : Nat := (rd p 3 1)
     let new : CfgBlock := ((sh.blockOf b).put off ((p.drop 8).take len))
     decide (accB s 0x0B00 h = true) && decide (tBlock h.target = some b) && decide (h.plen.toNat = 1 + len / 8) && decide (8 ≤ len) && decide (len ≤ 224) && decide (len % 8 = 0) && decide (off % 8 = 0) && decide (off + len ≤ (if b.1 then 4112 else 4096)) && decide (zeroAt p 4 4 = true) && decide (flags = 1) && decide (new.filled (if b.1 then 16 else 0) = true) && decide (new.filled (if b.1 then new.size else new.length) = true) && decide (b.1 = true → new.codeOk = true) && decide (((sh.setBlock b (some { new with complete := true })).admission x.admitDie).fail = 0)),
     (let h : HostCmd := call 6 0x720000 [(1, 1), (7, 0), (8, 0), (8, 0), (8, 0), (8, 0)]
     let s : State := ripe
     let first : Nat := 0
     let p := h.params
     let s1 := s.dequeue h
     let d := actingDie h h.die
     let x := s1.die d
     let sh := x.shadow
     let n : Nat := (rd p 0 1)
     let new : Cfg := ((List.range n).foldl (fun c k => c.setEntry (first + k) ((p.drop (8 + 32 * k)).take 32)) sh)
     decide (accB s 0x0B01 h = true) && decide (tProgram h.target = some first) && decide (h.plen.toNat = 1 + 4 * n) && decide (first + n ≤ 1024) && decide (1 ≤ n) && decide (n ≤ 7) && decide (zeroAt p 1 7 = true) && decide (∀ k ∈ List.range n, sh.entryFields ((p.drop (8 + 32 * k)).take 32) = true) && decide (x.cfg.trapeze.latent = true → new.latentFits = true) && decide ((new.admission x.admitDie).fail = 0)),
     (let h : HostCmd := call 3 0 [(8, 0), (8, 0)]
     let s : State := ripe
     let p := h.params
     let s1 := s.dequeue h
     let d := actingDie h h.die
     let sh := (s1.die d).shadow
     let r : Fin 8 := (tRing h.target)
     let new : CfgRing := ({ role := rd p 0 1, ringId := rd p 1 1, nodes := rd p 2 1, stopAction := rd p 3 1, cableM := rd p 4 2, lossLimit := orDefault (rd p 6 1) 3, tStopNs := orDefault (rd p 8 4) 500000000, nodeOutLen := rd p 12 1, nodeInLen := rd p 13 1 })
     let f : Cfg → Cfg := (fun c => { c with rings := c.rings.set r new })
     decide (accB s 0x0200 h = true) && decide (r.val < s1.rings) && decide (new.role ≤ 3) && decide (new.nodes ≤ 16) && decide (new.stopAction ≤ 1) && decide (rd p 6 1 ≤ 14) && decide (zeroAt p 7 1 = true) && decide (rd p 8 4 ≤ 10000000000) && decide (2 ≤ new.role → 4 ≤ new.nodeOutLen ∧ new.nodeOutLen ≤ 64 ∧ 4 ≤ new.nodeInLen ∧ new.nodeInLen ≤ 64) && decide (zeroAt p 14 2 = true) && decide (new.cableM ≤ 30 * (new.nodes + 1)) && decide ((f sh).ringOk r.val = true) && decide ((s1.die d).committing = false)),
     (let h : HostCmd := call 4 0 [(1, 0), (1, 255), (6, 0), (8, 0)]
     let s : State := ripe
     let k : Fin 128 := 0
     let r : Fin 8 := 0
     let p := h.params
     let s1 := s.dequeue h
     let d := actingDie h h.die
     let sh := (s1.die d).shadow
     let new : CfgNode := ({ format := rd p 0 1, joint := rd p 1 1, outLen := if rd p 0 1 = 1 then 24 else if rd p 0 1 = 2 then 12 else if rd p 0 1 = 3 then 8 else rd p 2 1, inLen := if rd p 0 1 = 1 ∨ rd p 0 1 = 2 then 24 else if rd p 0 1 = 3 then 8 else rd p 3 1, hopNs := orDefault (rd p 4 2) 320, velShift := rd p 6 1, checkIdent := bit (rd p 7 1) 0, vendor := rd p 8 2, product := rd p 10 2 })
     let f : Cfg → Cfg := (fun c => { c with nodes := c.nodes.set k new })
     decide (accB s 0x0201 h = true) && decide (k.val = tIndex h.target % 128) && decide (r.val = k.val / 16) && decide (r.val < s1.rings) && decide (rd p 0 1 ≤ 4) && decide ((rd p 0 1 = 1 ∨ rd p 0 1 = 2) → rd p 1 1 ≤ 63 ∧ s1.jointPresent (rd p 1 1) = true) && decide (¬(rd p 0 1 = 1 ∨ rd p 0 1 = 2) → rd p 1 1 = 255) && decide (if rd p 0 1 = 4 then 4 ≤ rd p 2 1 ∧ rd p 2 1 ≤ 64 ∧ 4 ≤ rd p 3 1 ∧ rd p 3 1 ≤ 64 else rd p 2 1 = 0 ∧ rd p 3 1 = 0) && decide (rd p 4 2 ≤ 320) && decide (rd p 6 1 ≤ 16) && decide (rd p 7 1 ≤ 1) && decide (zeroAt p 12 4 = true) && decide ((rd p 0 1 = 1 ∨ rd p 0 1 = 2) → ((f sh).nodes.toList.filter fun n => (n.format == 1 || n.format == 2) && n.joint == rd p 1 1).length ≤ 1) && decide (((f sh).nodes.toList.filter fun n => n.format == 3 || n.format == 4).length ≤ 32) && decide ((f sh).ringOk r.val = true) && decide ((s1.die d).committing = false)),
     (let h : HostCmd := call 0 0 [(8, 15)]
     let s : State := ripe
     let p := h.params
     let s1 := s.dequeue h
     let d := actingDie h h.die
     decide (accB s 0x0700 h = true) && decide (tKind h.target = 0) && decide (rd p 0 1 ≤ 15) && decide (zeroAt p 1 7 = true) && decide ((s1.die d).committing = false)),
     (let h : HostCmd := call 8 0 [(1, 0), (1, 0), (1, 4), (5, 0)]
     let s : State := ripe
     let k : Fin 32 := 0
     let p := h.params
     let s1 := s.dequeue h
     let d := actingDie h h.die
     decide (accB s 0x0700 h = true) && decide (tKind h.target ≠ 0) && decide (k.val = tChannel h.target % 32) && decide (rd p 2 1 ≠ 1) && decide (rd p 3 1 ≤ 3) && decide (rd p 4 4 ≤ 3600000) && decide ((s1.die d).committing = false)),
     (let h : HostCmd := call 0 0 [(8, 0)]
     let s : State := ripe
     let p := h.params
     let s1 := s.dequeue h
     let d := actingDie h h.die
     decide (accB s 0x0701 h = true) && decide (tKind h.target = 0) && decide (rd p 0 2 = 0 ∨ 12000 ≤ rd p 0 2 ∧ rd p 0 2 ≤ 17000) && decide (rd p 2 2 = 0 ∨ 12000 ≤ rd p 2 2 ∧ rd p 2 2 ≤ 17000) && decide (rd p 4 1 ≤ 7) && decide (zeroAt p 5 3 = true) && decide ((s1.die d).committing = false)),
     (let h : HostCmd := call 8 0x20 [(8, 0), (8, 0)]
     let s : State := ripe
     let k : Fin 16 := 0
     let p := h.params
     let s1 := s.dequeue h
     let d := actingDie h h.die
     let sh := (s1.die d).shadow
     let new : CfgOutput := ({ function := rd p 0 1, cls := rd p 1 1, group := rd p 2 1, safe := rd p 3 1, openLoadEnable := bit (rd p 4 1) 0, openLoadMs := orDefault (rd p 8 4) 100 })
     let f : Cfg → Cfg := (fun c => { c with outputs := c.outputs.set k new })
     decide (accB s 0x0701 h = true) && decide (tKind h.target ≠ 0) && decide (k.val = tChannel h.target % 16) && decide (new.function ≤ 2) && decide (new.cls ≤ 1) && decide (new.group ≤ 2) && decide (new.safe ≤ 2) && decide (rd p 4 1 ≤ 1) && decide (zeroAt p 5 3 = true) && decide (rd p 8 4 ≤ 10000) && decide (zeroAt p 12 4 = true) && decide ((f sh).groupsOk = true) && decide (sh.brakeOf k.val = none ∨ new.function = 1) && decide ((s1.die d).committing = false)),
     (let h : HostCmd := call 0 0 [(8, 0)]
     let s : State := ripe
     let p := h.params
     let s1 := s.dequeue h
     let d := actingDie h h.die
     decide (accB s 0x0705 h = true) && decide (rd p 0 4 = 0 ∨ 100000 ≤ rd p 0 4 ∧ rd p 0 4 ≤ 1000000000) && decide (zeroAt p 4 4 = true) && decide ((s1.die d).committing = false)),
     (let h : HostCmd := call 8 0x40 [(6, 0), (1, 32), (1, 32), (8, 0), (8, 0), (8, 0)]
     let s : State := ripe
     let k : Fin 4 := 0
     let p := h.params
     let s1 := s.dequeue h
     let d := actingDie h h.die
     let sh := (s1.die d).shadow
     let new : CfgEncoder := ({ mode := rd p 0 1, mirrorRing := bits (rd p 1 1) 6 4, mirrorNode := bits (rd p 1 1) 3 0, gray := bit (rd p 2 1) 0, zEnable := bit (rd p 2 1) 1, errorBit := rd p 3 1, clockKhz := orDefault (rd p 4 2) 1000, frameBits := rd p 6 1, posBits := rd p 7 1, posLsb := rd p 8 1, parity := rd p 9 1, sampleOffsetNs := rd p 12 4, monoflopNs := orDefault (rd p 16 4) 20000, filterNs := orDefault (rd p 20 2) 40 })
     decide (accB s 0x0706 h = true) && decide (k.val = tChannel h.target % 4) && decide (new.mode ≤ 2) && decide (bit (rd p 1 1) 7 = false) && decide (rd p 2 1 ≤ 3) && decide (new.errorBit ≤ 39 ∨ new.errorBit = 255) && decide (100 ≤ new.clockKhz) && decide (new.clockKhz ≤ 4000) && decide (8 ≤ new.frameBits) && decide (new.frameBits ≤ 40) && decide (8 ≤ new.posBits) && decide (new.posBits ≤ 32) && decide (new.posBits ≤ new.frameBits) && decide (new.posLsb ≤ new.frameBits - new.posBits) && decide (new.parity ≤ 2) && decide (zeroAt p 10 2 = true) && decide (2 * new.sampleOffsetNs ≤ sh.periods.tS) && decide (1000 ≤ new.monoflopNs) && decide (new.monoflopNs ≤ 100000) && decide (40 ≤ new.filterNs) && decide (new.filterNs ≤ 1000) && decide (zeroAt p 22 10 = true) && decide (new.fits sh.periods.tS = true) && decide (new.mirrorRing < s1.rings) && decide ((s1.die d).committing = false)),
     (let h : HostCmd := call 0 0 [(4, 4294967295), (4, 0), (8, 0)]
     let s : State := ripe
     let p := h.params
     let s1 := s.dequeue h
     let d := actingDie h h.die
     let new : CfgSafety := ({ enA := pairInput (rd p 0 1), enB := pairInput (rd p 1 1), cuA := pairInput (rd p 2 1), cuB := pairInput (rd p 3 1), enDiscrepancyMs := orDefault (rd p 4 2) 500, cuDiscrepancyMs := orDefault (rd p 6 2) 100, cuFilterN := orDefault (rd p 8 2) 1000 })
     decide (accB s 0x0707 h = true) && decide (rd p 0 1 = 255 ∧ rd p 1 1 = 255 ∨ rd p 0 1 < 32 ∧ rd p 1 1 < 32 ∧ rd p 0 1 / 8 ≠ rd p 1 1 / 8) && decide (rd p 2 1 = 255 ∧ rd p 3 1 = 255 ∨ rd p 2 1 < 32 ∧ rd p 3 1 < 32 ∧ rd p 2 1 / 8 ≠ rd p 3 1 / 8) && decide (∀ a ∈ [rd p 0 1, rd p 1 1], a = 255 ∨ a ≠ rd p 2 1 ∧ a ≠ rd p 3 1) && decide (10 ≤ new.enDiscrepancyMs) && decide (new.enDiscrepancyMs ≤ 5000) && decide (10 ≤ new.cuDiscrepancyMs) && decide (new.cuDiscrepancyMs ≤ 5000) && decide (1 ≤ new.cuFilterN) && decide (new.cuFilterN ≤ 10000) && decide (zeroAt p 10 6 = true) && decide ((s1.die d).committing = false)),
     (let h : HostCmd := call 0 0 [(6, 2), (2, 0), (4, 0), (2, 1), (2, 1), (2, 0), (1, 0), (1, 1), (4, 0)]
     let s : State := ripe
     let p := h.params
     let s1 := s.dequeue h
     let d := actingDie h h.die
     let new : CfgSwitch := (readSwitch p)
     decide (accB s 0x0130 h = true) && decide (tKind h.target = 0) && decide (p.length = 24) && decide (isGroup new.mac.toNat = false) && decide (1024 ≤ new.peerPort) && decide (1 ≤ new.pkgVid) && decide (new.pkgVid ≤ 4094) && decide (1 ≤ new.ptpVid) && decide (new.ptpVid ≤ 4094) && decide (rd p 16 1 ≤ 1) && decide (new.dupMode ≤ 1) && decide (new.dupPortA ≤ 5) && decide (new.dupPortB ≤ 5) && decide (new.dupPortA ≠ new.dupPortB) && decide (10 ≤ new.ageS) && decide (zeroAt p 22 2 = true) && decide ((s1.die d).committing = false)),
     (let h : HostCmd := call 10 0 [(2, 0), (2, 1), (4, 0)]
     let s : State := ripe
     let k : Fin 6 := 0
     let p := h.params
     let s1 := s.dequeue h
     let d := actingDie h h.die
     let sh := (s1.die d).shadow
     let new : CfgPort := ({ mode := rd p 0 1, anDisable := bit (rd p 1 1) 0, taggedOnly := bit (rd p 1 1) 1, pvid := rd p 2 2, defaultPcp := rd p 4 1 })
     decide (accB s 0x0130 h = true) && decide (tKind h.target = 10) && decide (p.length = 8) && decide (k.val = tIndex h.target % 6) && decide (new.mode ≤ 3) && decide (rd p 1 1 ≤ 3) && decide (1 ≤ new.pvid) && decide (new.pvid ≤ 4094) && decide (new.defaultPcp ≤ 7) && decide (zeroAt p 5 3 = true) && decide (new.mode = 0 → ∀ q ∈ [sh.ptp0, sh.ptp3], ¬(q.enable = true ∧ q.profile = 1 ∧ q.ptpPort = k.val)) && decide ((s1.die d).committing = false)),
     (let h : HostCmd := call 6 0x300000 [(8, 0)]
     let s : State := ripe
     let k : Fin 64 := 0
     let p := h.params
     let s1 := s.dequeue h
     let d := actingDie h h.die
     let new : CfgVlan := ({ vid := rd p 0 2, members := rd p 2 1, untagged := rd p 3 1 })
     decide (accB s 0x0130 h = true) && decide (tKind h.target = 6) && decide (p.length = 8) && decide (tTable h.target = 0x30) && decide (k.val = tInstance h.target) && decide (new.vid ≤ 4094) && decide (new.members ≤ 127) && decide (new.untagged ≤ 127) && decide (zeroAt p 4 4 = true) && decide ((s1.die d).committing = false)),
     (let h : HostCmd := call 0 0 [(8, 0), (8, 0), (8, 0), (8, 0), (8, 0), (8, 0), (8, 0), (8, 0)]
     let s : State := ripe
     let p := h.params
     let s1 := s.dequeue h
     let d := actingDie h h.die
     let new : CfgPeers := ({ hbPeriod := orDefault (rd p 0 4) 1000000, hbMiss := orDefault (rd p 4 1) 4, skewTol := orDefault (rd p 8 4) 10000, entries := Vector.ofFn fun k : Fin 4 => { enable := bit (rd p (16 + 12 * k.val) 1) 0, mac := BitVec.ofNat 48 (beNat ((p.drop (18 + 12 * k.val)).take 6)), ipv4 := BitVec.ofNat 32 (beNat ((p.drop (24 + 12 * k.val)).take 4)) } })
     decide (accB s 0x0140 h = true) && decide (250000 ≤ new.hbPeriod) && decide (new.hbPeriod ≤ 100000000) && decide (2 ≤ new.hbMiss) && decide (new.hbMiss ≤ 16) && decide (zeroAt p 5 3 = true) && decide (zeroAt p 12 4 = true) && decide (∀ k ∈ List.range 4, rd p (16 + 12 * k) 1 ≤ 1 ∧ zeroAt p (17 + 12 * k) 1 = true) && decide (zeroAt p (16 + 12 * s1.pkgid.toNat) 12 = true) && decide ((s1.die d).committing = false)),
     (let h : HostCmd := call 9 2 [(8, 0), (8, 0)]
     let s : State := ripe
     let p := h.params
     let s1 := s.dequeue h
     let d := actingDie h h.die
     decide (accB s 0x0110 h = true) && decide (tBase h.target = 2) && decide (zeroAt p 0 14 = true) && decide (rd p 14 1 ≤ 2) && decide (zeroAt p 15 1 = true) && decide ((s1.die d).committing = false)),
     (let h : HostCmd := call 9 0 [(8, 0), (8, 0)]
     let s : State := ripe
     let n : Fin 4 := 0
     let p := h.params
     let s1 := s.dequeue h
     let d := actingDie h h.die
     let sh := (s1.die d).shadow
     let new : CfgPtp := ({ enable := bit (rd p 0 1) 0, profile := rd p 1 1, role := rd p 2 1, domain := rd p 3 1, priority1 := rd p 4 1, priority2 := rd p 5 1, clockClass := rd p 6 1, servoHost := bit (rd p 7 1) 0, logSync := rdS p 8 1, logAnnounce := rdS p 9 1, logDelay := rdS p 10 1, ptpPort := rd p 11 1, jump := orDefault (rd p 12 2) 1000 })
     let f : Cfg → Cfg := (fun c => if n = 0 then { c with ptp0 := new } else { c with ptp3 := new })
     decide (accB s 0x0110 h = true) && decide (n = tBase h.target) && decide (n = 0 ∨ n = 3) && decide (rd p 0 1 ≤ 1) && decide (new.profile ≤ 1) && decide (new.role ≤ 2) && decide (new.domain ≤ 127) && decide (rd p 7 1 ≤ 1) && decide (-7 ≤ new.logSync) && decide (new.logSync ≤ 1) && decide (-3 ≤ new.logAnnounce) && decide (new.logAnnounce ≤ 3) && decide (-7 ≤ new.logDelay) && decide (new.logDelay ≤ 5) && decide (new.ptpPort ≤ 5) && decide (100 ≤ new.jump) && decide (new.jump ≤ 65000) && decide (zeroAt p 14 2 = true) && decide ((f sh).ptp0.domain ≠ (f sh).ptp3.domain) && decide (new.profile = 1 → (f sh).portMode new.ptpPort ≠ 0) && decide ((s1.die d).committing = false)),
     (let h : HostCmd := call 0 0 [(4, 0), (4, 1000), (4, 0), (4, 100)]
     let s : State := ripe
     let p := h.params
     let s1 := s.dequeue h
     let d := actingDie h h.die
     let new : CfgTpo := ({ mode := rd p 0 1, source := rd p 1 1, polarity := rd p 2 1, period := rd p 4 4, phase := rd p 8 4, width := rd p 12 4 })
     decide (accB s 0x0120 h = true) && decide (new.mode ≤ 2) && decide (new.source ≤ 3) && decide (new.polarity ≤ 1) && decide (zeroAt p 3 1 = true) && decide (1000 ≤ new.period) && decide (new.period ≤ 1000000000) && decide (1000000000 % new.period = 0) && decide (new.phase < new.period) && decide (100 ≤ new.width) && decide (new.width + 100 ≤ new.period) && decide ((s1.die d).committing = false))].all id = true := by decide +kernel

theorem witness_HostTurnedAway :
    [(let op : Nat := 0x0000
     let h : HostCmd := cmd 0 []
     let c : Instr := .nop h
     let s : State := State.reset
     decide (c.hostRow = some (op, h)) && decide (s.canDequeue h = false)),
     (let op : Nat := 0x0000
     let h : HostCmd := cmd 1 (zeros 8)
     let c : Instr := .nop h
     let s : State := ripe
     let d := h.die
     decide (c.hostRow = some (op, h)) && decide (s.canDequeue h = true) && decide ((s.die d).works = true) && decide (s.receivers d = [d]) && decide ((entryCheck op h (s.queue d (cmdQueue h)).expectedSeq).isSome = true)),
     (let op : Nat := 0x0020
     let h : HostCmd := { cmd 2 (zeros 16) with flags := 0 }
     let c : Instr := .commit h
     let s : State := ripe
     let o := (opInfo 0x0020).get (by decide)
     let d := h.die
     decide (c.hostRow = some (op, h)) && decide (s.canDequeue h = true) && decide ((s.die d).works = true) && decide (s.receivers d = [d]) && decide (entryCheck op h (s.queue d (cmdQueue h)).expectedSeq = none) && decide (opInfo op = some o) && decide (s.hasPartner = true) && decide (dual h = false) && decide (o.single = false)),
     (let op : Nat := 0x0000
     let h : HostCmd := cmd 0 [] 0x50000000
     let c : Instr := .nop h
     let s : State := ripe
     let o := (opInfo 0x0000).get (by decide)
     let s1 := s.dequeue h
     let d := h.die
     decide (c.hostRow = some (op, h)) && decide (s.canDequeue h = true) && decide ((s.die d).works = true) && decide (s.receivers d = [d]) && decide (entryCheck op h (s.queue d (cmdQueue h)).expectedSeq = none) && decide (opInfo op = some o) && decide (s.hasPartner = false ∨ (dual h = true ∧ s.isFlier d = true) ∨ (dual h = false ∧ o.single = true)) && decide ((s1.check d op o h).isSome = true)),
     (let op : BitVec 16 := 0x0F00
     let h : HostCmd := cmd 0 []
     let s : State := ripe
     decide (opInfo op.toNat = none) && decide (s.canDequeue h = true) && decide ((s.die h.die).works = true) && decide (s.receivers h.die = [h.die])),
     (let op : Nat := 0x0000
     let o : OpInfo := (opInfo 0x0000).get (by decide)
     let h : HostCmd := { cmd 0 [] with flags := 6, epoch := 8 }
     let c : Instr := .nop h
     let s : State := ripe
     let s1 := s.dequeue h
     let d := h.die
     decide (c.hostRow = some (op, h)) && decide (opInfo op = some o) && decide (s.canDequeue h = true) && decide ((s.die d).works = true) && decide (s.receivers d = [d]) && decide (entryCheck op h (s.queue d (cmdQueue h)).expectedSeq = none) && decide (s.hasPartner = false ∨ (dual h = true ∧ s.isFlier d = true) ∨ (dual h = false ∧ o.single = true)) && decide (s1.check d op o h = none) && decide (atEpoch h = true) && decide ((s.die d).rm.held.length < 64)),
     (let op : Nat := 0x0000
     let o : OpInfo := (opInfo 0x0000).get (by decide)
     let h : HostCmd := { cmd 0 [] with flags := 6, epoch := 8 }
     let c : Instr := .nop h
     let s : State := flier fun x => { x with rm := { x.rm with held := List.replicate 64 { opcode := 0, cmd := { cmd 0 [] with queue := 1 }, b := 8 } } }
     let s1 := s.dequeue h
     let d := h.die
     decide (c.hostRow = some (op, h)) && decide (opInfo op = some o) && decide (s.canDequeue h = true) && decide ((s.die d).works = true) && decide (s.receivers d = [d]) && decide (entryCheck op h (s.queue d (cmdQueue h)).expectedSeq = none) && decide (s.hasPartner = false ∨ (dual h = true ∧ s.isFlier d = true) ∨ (dual h = false ∧ o.single = true)) && decide (s1.check d op o h = none) && decide (atEpoch h = true) && decide (64 ≤ (s.die d).rm.held.length))].all id = true := by decide +kernel

theorem witness_CatcherPairs :
    [(let op : Nat := 0x0000
     let h : HostCmd := { cmd 0 [] with die := .t1 }
     let c : Instr := .nop h
     let s : State := ripe
     let d := h.die
     let seq := (s.queue d (cmdQueue h)).expectedSeq
     decide (c.hostRow = some (op, h)) && decide (s.canDequeue h = true) && decide ((s.die d).works = true) && decide (s.receivers d = [d]) && decide (s.hasPartner = true) && decide (dual h = true) && decide (s.isFlier d = false) && decide (entryCheck op h seq = none) && decide ((s.die d).rm.notices = [])),
     (let op : Nat := 0x0000
     let h : HostCmd := { cmd 0 [] with die := .t1 }
     let c : Instr := .nop h
     let d := h.die
     let s : State := ripe.onDie .t1 fun x => { x with rm := { x.rm with notices := [{ queue := 0, seq := 0, crc := crc32 (cmdBytes 0 { cmd 0 [] with die := .t1 }), atNs := 0, reply := { status := 0 }, arrived := true }] } }
     let n : Notice := { queue := 0, seq := 0, crc := crc32 (cmdBytes 0 { cmd 0 [] with die := .t1 }), atNs := 0, reply := { status := 0 }, arrived := true }
     let s1 := s.dequeue h
     let seq := (s.queue d (cmdQueue h)).expectedSeq
     let copy : Copy := { opcode := op, cmd := h, atNs := s1.now }
     decide (c.hostRow = some (op, h)) && decide (s.canDequeue h = true) && decide ((s.die d).works = true) && decide (s.receivers d = [d]) && decide (s.hasPartner = true) && decide (dual h = true) && decide (s.isFlier d = false) && decide (entryCheck op h seq = none) && decide ((s.die d).rm.notices = [n]) && decide ((s.die d).rm.copies = []) && decide (n.arrived = true) && decide (n.names copy = true) && decide (n.crc = crc32 (cmdBytes op h))),
     (let op : Nat := 0x0000
     let h : HostCmd := { cmd 0 [] with die := .t1 }
     let c : Instr := .nop h
     let d := h.die
     let s : State := ripe.onDie .t1 fun x => { x with rm := { x.rm with notices := [{ queue := 0, seq := 0, crc := 0, atNs := 0, reply := { status := 0 }, arrived := true }] } }
     let n : Notice := { queue := 0, seq := 0, crc := 0, atNs := 0, reply := { status := 0 }, arrived := true }
     let s1 := s.dequeue h
     let seq := (s.queue d (cmdQueue h)).expectedSeq
     let copy : Copy := { opcode := op, cmd := h, atNs := s1.now }
     decide (c.hostRow = some (op, h)) && decide (s.canDequeue h = true) && decide ((s.die d).works = true) && decide (s.receivers d = [d]) && decide (s.hasPartner = true) && decide (dual h = true) && decide (s.isFlier d = false) && decide (entryCheck op h seq = none) && decide ((s.die d).rm.notices = [n]) && decide ((s.die d).rm.copies = []) && decide (n.arrived = true) && decide (n.names copy = true) && decide (n.crc ≠ crc32 (cmdBytes op h))),
     (let op : Nat := 0x0000
     let h : HostCmd := cmd 0 []
     let c : Instr := .nop h
     let s : State := ripe.onPort .t1 fun p => { p with lost := true }
     let d := h.die
     decide (c.hostRow = some (op, h)) && decide (s.canDequeue h = true) && decide (s.hasPartner = true) && decide ((s.die d.other).port.lost = true) && decide (s.linked = true) && decide (s.isFlier d = true)),
     (let op : Nat := 0x0000
     let h : HostCmd := { cmd 0 [] with die := .t1 }
     let c : Instr := .nop h
     let s : State := ripe.onPort .t0 fun p => { p with lost := true }
     let d := h.die
     decide (c.hostRow = some (op, h)) && decide (s.canDequeue h = true) && decide (s.hasPartner = true) && decide ((s.die d.other).port.lost = true) && decide (s.linked = true) && decide (s.isFlier d = false))].all id = true := by decide +kernel

theorem witness_RejectionHasNoEffect :
    [(let op : Nat := 0x0020
     let h : HostCmd := cmd 0 []
     let d : DieId := .t0
     let s : State := ripe
     let f : HostCmd → DieId → State → Answer := fun h d s => bodyCommit h d s
     decide ((bodyOf op).isSome = true) && decide (op = 0x0302 ∨ op = 0x0303 → tKind h.target = 1 ∧ tIndex h.target ≠ tAll) && decide (op ≠ 0x0102) && decide (op ≠ 0x0B00) && decide ((f h d s).2.rejects = true) && decide ((f h d s).2.status ≠ St.later))].all id = true := by decide +kernel

theorem witness_ReadCommands :
    [(let h : HostCmd := cmd 0 []
     let s : State := ripe
     decide (accB s 0x0000 h = true)),
     (let h : HostCmd := cmd 0 []
     let s : State := ripe
     decide (accB s 0x0001 h = true)),
     (let h : HostCmd := cmd 0 []
     let s : State := ripe
     decide (accB s 0x0002 h = true)),
     (let h : HostCmd := cmd 0 []
     let s : State := ripe
     decide (accB s 0x0021 h = true)),
     (let h : HostCmd := cmd 0 []
     let s : State := ripe
     decide (accB s 0x0100 h = true)),
     (let h : HostCmd := call 9 0 []
     let s : State := ripe
     decide (accB s 0x0111 h = true) && decide (tBase h.target = 0 ∨ tBase h.target = 3)),
     (let h : HostCmd := call 10 0 []
     let s : State := ripe
     decide (accB s 0x0131 h = true)),
     (let h : HostCmd := call 3 0 []
     let s : State := ripe
     let s1 := s.dequeue h
     decide (accB s 0x0202 h = true) && decide ((tRing h.target).val < s1.rings)),
     (let h : HostCmd := call 3 0 []
     let s : State := ringWith fun y => { y with state := .listen }
     let s1 := s.dequeue h
     decide (accB s 0x0203 h = true) && decide ((tRing h.target).val < s1.rings) && decide ((s1.ring (tRing h.target)).state ≠ .off) && decide ((s1.ring (tRing h.target)).state ≠ .node) && decide ((s1.ring (tRing h.target)).counted ≤ 16)),
     (let h : HostCmd := call 3 0 []
     let s : State := ripe
     let s1 := s.dequeue h
     decide (accB s 0x0204 h = true) && decide (tKind h.target = 3) && decide ((tRing h.target).val < s1.rings)),
     (let h : HostCmd := call 4 0 []
     let s : State := ringWith fun y => { y with nodes := y.nodes.set 0 { y.nodes[0] with countersB := some 0 } }
     let r : Fin 8 := 0
     let k : Fin 16 := 0
     let b : Nat := 0
     let s1 := s.dequeue h
     decide (accB s 0x0204 h = true) && decide (tKind h.target ≠ 3) && decide (r.val = tIndex h.target % 128 / 16) && decide (k.val = tIndex h.target % 16) && decide (r.val < s1.rings) && decide (((s1.ring r).nodes[k]).countersB = some b)),
     (let h : HostCmd := call 1 0 []
     let s : State := ripe
     decide (accB s 0x030A h = true)),
     (let h : HostCmd := call 1 0 []
     let s : State := ripe
     let s1 := s.dequeue h
     let d := actingDie h h.die
     decide (accB s 0x030A h = true) && decide ((s1.joint d (tJoint h.target)).shown = none)),
     (let h : HostCmd := call 6 0x400000 [(1, 0), (1, 1), (6, 0)]
     let s : State := ripe
     let t : Fin 128 := 0
     let p := h.params
     let s1 := s.dequeue h
     decide (accB s 0x0404 h = true) && decide (tComp h.target = some t) && decide (s1.jointPresent (tInstance h.target) = true) && decide (1 ≤ rd p 1 1) && decide (rd p 1 1 ≤ 108) && decide (rd p 0 1 + rd p 1 1 ≤ 256) && decide (rd p 2 1 ≤ 1) && decide (zeroAt p 3 5 = true)),
     (let h : HostCmd := call 1 0 []
     let s : State := ripe
     decide (accB s 0x0407 h = true)),
     (let h : HostCmd := call 1 0 []
     let s : State := ripe
     let s1 := s.dequeue h
     let d := actingDie h h.die
     decide (accB s 0x0407 h = true) && decide ((s1.joint d (tJoint h.target)).shownCtl = none)),
     (let h : HostCmd := cmd 0 []
     let s : State := ripe
     let s1 := s.dequeue h
     decide (accB s 0x0504 h = true) && decide (s1.noJuggler = false)),
     (let h : HostCmd := call 1 0 [(8, 0)]
     let pl : JointPlan := { hNs := 1000000, b0 := 4, points := [] }
     let p := h.params
     let d := actingDie h h.die
     let s : State := (cfgWith fun c => { c with juggler := { c.juggler with jointSet := 1 } }).onJoint .t0 0 fun x => { x with plan1 := some { hNs := 1000000, b0 := 4, points := [] } }
     let s1 := s.dequeue h
     let x := s1.die d
     decide (accB s 0x0505 h = true) && decide (s1.noJuggler = false) && decide (rd p 1 1 ≤ 16) && decide (zeroAt p 2 6 = true) && decide (x.cfg.juggler.jointSet.getLsbD (tJoint h.target).val = true) && decide ((rd p 0 1 = 0 ∧ (x.joints[tJoint h.target]).plan1 = some pl) ∨ (rd p 0 1 = 1 ∧ (x.joints[tJoint h.target]).plan2 = some pl))),
     (let h : HostCmd := cmd 0 []
     let s : State := ripe
     decide (accB s 0x0607 h = true)),
     (let h : HostCmd := cmd 0 []
     let s : State := ripe
     decide (accB s 0x0703 h = true)),
     (let h : HostCmd := cmd 0 []
     let s : State := ripe
     let s1 := s.dequeue h
     decide (accB s 0x0800 h = true) && decide (s1.noTrapeze = false)),
     (let h : HostCmd := call 12 0x40 []
     let s : State := ripe
     decide (accB s 0x0902 h = true) && decide (tKind h.target = 12) && decide (eventDefined (tIndex h.target) = true)),
     (let h : HostCmd := cmd 0 []
     let s : State := ripe
     decide (accB s 0x0902 h = true) && decide (tKind h.target ≠ 12)),
     (let h : HostCmd := cmd 0 []
     let s : State := ripe
     decide (accB s 0x0905 h = true)),
     (let h : HostCmd := call 0 0 [(2, 0), (1, 1), (5, 0)]
     let s : State := ripe
     let p := h.params
     decide (accB s 0x0A02 h = true) && decide (pvTarget h.target 0 = true) && decide (1 ≤ rd p 2 1) && decide (rd p 2 1 ≤ 3) && decide (zeroAt p 3 5 = true)),
     (let h : HostCmd := call 0 0 [(8, 1)]
     let s : State := ripe
     let p := h.params
     let s1 := s.dequeue h
     decide (accB s 0x0A04 h = true) && decide (pvTarget h.target 1 = true) && decide (s1.mw.interval.due = false) && decide (rd p 2 1 ≤ 2) && decide (zeroAt p 3 5 = true) && decide (s1.statFault (rd p 0 1) (rd p 1 1) = none)),
     (let h : HostCmd := call 6 0x720000 [(1, 1), (1, 0), (6, 0)]
     let first : Nat := 0
     let p := h.params
     let d := actingDie h h.die
     let s : State := flier fun x => { x with disp := { x.disp with rom := false } }
     let s1 := s.dequeue h
     let x := s1.die d
     decide (tProgram h.target = some first) && decide (first + rd p 0 1 ≤ 1024) && decide (1 ≤ rd p 0 1) && decide (rd p 0 1 ≤ 7) && decide (rd p 1 1 ≤ 1) && decide (zeroAt p 2 6 = true) && decide (rd p 1 1 = 0 → x.disp.rom = false) && decide (accB s 0x0B02 h = true)),
     (let h : HostCmd := cmd 0 []
     let s : State := ripe
     decide (accB s 0x0B05 h = true))].all id = true := by decide +kernel

theorem witness_StreamCommands :
    [(let h : HostCmd := call 0 0 [(8, 0)]
     let s : State := ripe
     let p := h.params
     decide (accB s 0x0121 h = true) && decide (zeroAt p 3 5 = true) && decide (rd p 0 1 = 0)),
     (let h : HostCmd := call 0 0 [(1, 1), (1, 1), (6, 0)]
     let s : State := ripe
     let p := h.params
     decide (accB s 0x0121 h = true) && decide (zeroAt p 3 5 = true) && decide (rd p 0 1 = 1) && decide (1 ≤ rd p 1 1) && decide (rd p 1 1 ≤ 3) && decide (rd p 2 1 ≤ 3)),
     (let h : HostCmd := call 3 0 [(8, 0)]
     let s : State := ripe
     let p := h.params
     let s1 := s.dequeue h
     decide (accB s 0x0206 h = true) && decide ((tRing h.target).val < s1.rings) && decide (zeroAt p 1 7 = true) && decide (rd p 0 1 = 0)),
     (let h : HostCmd := call 3 0 [(8, 1)]
     let s : State := ringWith fun y => { y with state := .listen }
     let p := h.params
     let s1 := s.dequeue h
     decide (accB s 0x0206 h = true) && decide ((tRing h.target).val < s1.rings) && decide (zeroAt p 1 7 = true) && decide (rd p 0 1 = 1) && decide ((s1.ring (tRing h.target)).state ≠ .node) && decide ((s1.ring (tRing h.target)).state ≠ .off)),
     (let h : HostCmd := call 0 0 [(8, 0)]
     let s : State := ripe
     let p := h.params
     let s1 := s.dequeue h
     decide (accB s 0x0506 h = true) && decide (s1.noJuggler = false) && decide (zeroAt p 2 6 = true) && decide (rd p 0 1 = 0)),
     (let h : HostCmd := call 0 0 [(8, 1)]
     let s : State := ripe
     let p := h.params
     let s1 := s.dequeue h
     decide (accB s 0x0506 h = true) && decide (s1.noJuggler = false) && decide (zeroAt p 2 6 = true) && decide (rd p 0 1 = 1)),
     (let h : HostCmd := call 0 0 [(8, 0)]
     let s : State := ripe
     let p := h.params
     decide (accB s 0x0608 h = true) && decide (zeroAt p 2 6 = true) && decide (rd p 0 1 = 0)),
     (let h : HostCmd := call 0 0 [(8, 1)]
     let s : State := ripe
     let p := h.params
     decide (accB s 0x0608 h = true) && decide (zeroAt p 2 6 = true) && decide (rd p 0 1 = 1)),
     (let h : HostCmd := call 0 0 [(8, 0)]
     let s : State := ripe
     let p := h.params
     let s1 := s.dequeue h
     decide (accB s 0x0804 h = true) && decide (s1.noTrapeze = false) && decide (zeroAt p 1 7 = true) && decide (rd p 0 1 = 0)),
     (let h : HostCmd := call 0 0 [(8, 1)]
     let s : State := ripe
     let p := h.params
     let s1 := s.dequeue h
     decide (accB s 0x0804 h = true) && decide (s1.noTrapeze = false) && decide (zeroAt p 1 7 = true) && decide (rd p 0 1 = 1)),
     (let h : HostCmd := call 0 0 [(8, 15)]
     let s : State := ripe
     let t : Trace := { queue := 0, tag := 7, target := 0, classMask := 15, kindMask := 0, coreMask := 0 }
     let p := h.params
     let s1 := s.dequeue h
     let d := actingDie h h.die
     decide (accB s 0x0B03 h = true) && decide (rd p 0 1 ≤ 15) && decide (rd p 1 1 ≤ 31) && decide (zeroAt p 2 2 = true) && decide ((s1.die d).disp.trace = none) && decide (t = { queue := h.queue.val, tag := h.tag.toNat, target := h.target.toNat, classMask := rd p 0 1, kindMask := rd p 1 1, coreMask := BitVec.ofNat 32 (rd p 4 4) })),
     (let h : HostCmd := call 0 0 [(8, 15)]
     let s : State := flier fun x => { x with disp := { x.disp with trace := some { queue := 0, tag := 7, target := 0, classMask := 15, kindMask := 31, coreMask := 0 } } }
     let t : Trace := { queue := 0, tag := 7, target := 0, classMask := 15, kindMask := 31, coreMask := 0 }
     let p := h.params
     let s1 := s.dequeue h
     let d := actingDie h h.die
     decide (accB s 0x0B03 h = true) && decide (rd p 0 1 ≤ 15) && decide (rd p 1 1 ≤ 31) && decide (zeroAt p 2 2 = true) && decide ((s1.die d).disp.trace = some t) && decide (t.queue = h.queue.val)),
     (let h : HostCmd := call 0 0 []
     let s : State := flier fun x => { x with disp := { x.disp with trace := some { queue := 0, tag := 7, target := 0, classMask := 15, kindMask := 31, coreMask := 0 } } }
     let t : Trace := { queue := 0, tag := 7, target := 0, classMask := 15, kindMask := 31, coreMask := 0 }
     let s1 := s.dequeue h
     let d := actingDie h h.die
     decide (accB s 0x0B04 h = true) && decide ((s1.die d).disp.trace = some t))].all id = true := by decide +kernel

theorem witness_MotionCommands :
    [(let h : HostCmd := call 1 0 [(8, 1)]
     let s : State := ripe
     let p := h.params
     decide (accB s 0x0302 h = true) && decide (rd p 0 1 ≤ 1) && decide (zeroAt p 1 7 = true) && decide (tKind h.target = 1) && decide (tIndex h.target ≠ tAll)),
     (let h : HostCmd := call 1 0 []
     let s : State := ripe
     let s1 := s.dequeue h
     decide (accB s 0x0303 h = true) && decide (s1.phase = .ripe)),
     (let h : HostCmd := call 1 0 []
     let s : State := ripe
     decide (accB s 0x0303 h = true) && decide (tKind h.target = 1) && decide (tIndex h.target ≠ tAll)),
     (let h : HostCmd := call 1 0 [(8, 1)]
     let s : State := ripe
     let p := h.params
     decide (accB s 0x030B h = true) && decide (1 ≤ rd p 0 1) && decide (rd p 0 1 ≤ 3) && decide (zeroAt p 1 7 = true) && decide (tIndex h.target ≠ tAll) && decide (tKind h.target = 1)),
     (let h : HostCmd := call 2 0 [(8, 1)]
     let s : State := ripe
     let p := h.params
     decide (accB s 0x030B h = true) && decide (1 ≤ rd p 0 1) && decide (rd p 0 1 ≤ 3) && decide (zeroAt p 1 7 = true) && decide (tIndex h.target ≠ tAll) && decide (tKind h.target = 2)),
     (let h : HostCmd := call 1 0 [(8, 5), (4, 10), (4, 10), (4, 10), (4, 0)]
     let l : CfgLimits := limits0
     let qT : Int := 5
     let p := h.params
     let d := actingDie h h.die
     let j := tJoint h.target
     let s : State := (cfgWith fun c => c.onJoint 0 fun g => { g with limits := some limits0 }).onJoint .t0 0 fun x => { x with state := .enabled, homed := true }
     let s1 := s.dequeue h
     let x := s1.joint d j
     let cfg := (s1.die d).jointCfg j
     decide (accB s 0x0304 h = true) && decide (cfg.limits = some l) && decide (x.state = .enabled) && decide (x.homed = true) && decide (0 ≤ rdS p 8 4) && decide (0 ≤ rdS p 12 4) && decide (0 ≤ rdS p 16 4) && decide (rd p 20 1 ≤ 1) && decide (zeroAt p 21 3 = true) && decide (qT = rdS p 0 8 + (if rd p 20 1 = 1 then (if x.mode = .point then x.qT else x.q) else 0)) && decide (l.holds qT = true)),
     (let h : HostCmd := call 1 0 [(4, 5), (4, 10), (4, 10), (4, 0)]
     let l : CfgLimits := limits0
     let p := h.params
     let d := actingDie h h.die
     let j := tJoint h.target
     let s : State := (cfgWith fun c => c.onJoint 0 fun g => { g with limits := some limits0 }).onJoint .t0 0 fun x => { x with state := .enabled, homed := true }
     let s1 := s.dequeue h
     let x := s1.joint d j
     let cfg := (s1.die d).jointCfg j
     decide (accB s 0x0305 h = true) && decide (cfg.limits = some l) && decide (x.state = .enabled) && decide (s1.jogOk d j = true) && decide (0 ≤ rdS p 4 4) && decide (0 ≤ rdS p 8 4) && decide (zeroAt p 12 4 = true)),
     (let h : HostCmd := call 1 0 [(2, 257), (6, 0), (8, 0), (8, 0), (8, 0)]
     let p := h.params
     let d := actingDie h h.die
     let j := tJoint h.target
     let n : Nat := (rd p 1 1)
     let pts : List HostPoint := (streamPoints p n)
     let s : State := jointWith fun x => { x with state := .enabled, homed := true }
     let s1 := s.dequeue h
     let x := s1.joint d j
     let cfg := (s1.die d).jointCfg j
     decide (accB s 0x0306 h = true) && decide (x.state = .enabled) && decide (x.homed = true) && decide (rd p 0 1 = 1) && decide (n ≤ 9) && decide (zeroAt p 2 6 = true) && decide (h.plen.toNat = 1 + 3 * n) && decide (∀ i ∈ List.range n, zeroAt p (8 + 24 * i + 4) 4 = true) && decide (keysRise (pts.map fun q => q.key) = true) && decide (∀ q ∈ pts.take 1, q.key = 0) && decide (cfg.limits = none)),
     (let h : HostCmd := call 1 0 [(2, 256), (6, 0), (8, 5), (8, 0), (8, 0)]
     let p := h.params
     let d := actingDie h h.die
     let j := tJoint h.target
     let n : Nat := (rd p 1 1)
     let pts : List HostPoint := (streamPoints p n)
     let s : State := jointWith fun x => { x with state := .enabled, mode := .stream, source := .host }
     let s1 := s.dequeue h
     let x := s1.joint d j
     let cfg := (s1.die d).jointCfg j
     decide (accB s 0x0306 h = true) && decide (x.state = .enabled) && decide (x.mode = .stream) && decide (x.source = .host) && decide (rd p 0 1 = 0) && decide (n ≤ 9) && decide (zeroAt p 2 6 = true) && decide (h.plen.toNat = 1 + 3 * n) && decide (∀ i ∈ List.range n, zeroAt p (8 + 24 * i + 4) 4 = true) && decide (keysRise (pts.map fun q => q.key) = true) && decide (x.points = []) && decide (cfg.limits = none) && decide (x.points.length + n ≤ 32)),
     (let h : HostCmd := call 1 0 []
     let d := actingDie h h.die
     let j := tJoint h.target
     let s : State := (cfgWith fun c => c.onJoint 0 fun g => { g with homing := { g.homing with method := 1 } }).onJoint .t0 0 fun x => { x with state := .enabled }
     let s1 := s.dequeue h
     let x := s1.joint d j
     let cfg := (s1.die d).jointCfg j
     decide (accB s 0x0307 h = true) && decide (x.state = .enabled) && decide (x.v = 0) && decide (cfg.homing.method ≠ 0))].all id = true := by decide +kernel

theorem witness_HandedValues :
    [(let h : HostCmd := call 1 0 [(8, 1), (8, 0)]
     let s : State := ripe
     let p := h.params
     let s1 := s.dequeue h
     let d := actingDie h h.die
     let js : List (Fin 64) := (if tKind h.target = 1 then [tJoint h.target] else (s1.die d).armJoints (tArm h.target))
     decide (accB s 0x0405 h = true) && decide (rd p 0 1 = js.length) && decide (1 ≤ js.length) && decide (js.length ≤ 9) && decide (h.plen.toNat = 1 + (js.length + 1) / 2) && decide (rd p 4 4 ≤ 10000000000) && decide (zeroAt p 1 3 = true) && decide (padded h (8 + 4 * js.length) = true) && decide (cmdAtEpoch h = false)),
     (let h : HostCmd := call 2 0 [(8, 0), (4, 1), (1, 1), (1, 1), (1, 0), (1, 0), (4, 0), (4, 0), (4, 0)]
     let s : State := cfgWith fun c => c.onJoint 0 fun g => { g with joint := { g.joint with arm := 0 } }
     let p := h.params
     let s1 := s.dequeue h
     let d := actingDie h h.die
     let a : Fin 8 := (tArm h.target)
     let nj : Nat := (rd p 13 1)
     let count : Nat := (rd p 12 1)
     let mode : Nat := (rd p 14 1)
     let held : List RefPoint := ((s1.die d).jug.refs[a])
     let kept : List RefPoint := (if mode = 0 then held else if mode = 1 then held.filter fun x => decide (x.key < rd p 0 8) else [])
     decide (accB s 0x0502 h = true) && decide (s1.noJuggler = false) && decide (mode ≤ 2) && decide (h.plen.toNat = (16 + 12 * nj * count + 7) / 8) && decide (zeroAt p 15 1 = true) && decide (padded h (16 + 12 * nj * count) = true) && decide (nj = ((s1.die d).armJoints a).length) && decide (if mode = 2 then count = 0 else 1 ≤ count ∧ count ≤ 224 / (12 * max nj 1)) && decide (1 ≤ rd p 8 4) && decide (rd p 8 4 ≤ 1048576) && decide (held = []) && decide (kept.length + count ≤ 64)),
     (let h : HostCmd := call 4 0 [(1, 16), (7, 0)]
     let s : State := ringWith fun y => { y with state := .data, nodes := y.nodes.set 0 { y.nodes[0] with state := some 4 } }
     let r : Fin 8 := 0
     let k : Fin 16 := 0
     let n : Nat := 4
     let p := h.params
     let s1 := s.dequeue h
     let d := actingDie h h.die
     decide (accB s 0x0205 h = true) && decide (r.val = tIndex h.target % 128 / 16) && decide (k.val = tIndex h.target % 16) && decide (r.val < s1.rings) && decide (rd p 1 1 ≤ 56) && decide (p.length = 8 * (1 + (rd p 1 1 + 7) / 8)) && decide (zeroAt p 3 5 = true) && decide (padded h (8 + rd p 1 1) = true) && decide ((s1.ring r).state = .data) && decide (((s1.ring r).nodes[k]).state = some n) && decide (2 ≤ n) && decide (n ≤ 4) && decide ((((s1.ring r).nodes[k]).mail.filter fun m => m.report.isSome).length < 4) && decide (rd p 0 1 = 16 ∨ (rd p 0 1 = 3 ∧ (((s1.die d).cfg.ringJoints r.val).all fun j => (s1.joint d j).state == .disabled) = true))),
     (let h : HostCmd := call 3 0 [(8, 1)]
     let s : State := (mwWith fun m => { m with cfg := { m.cfg with rings := m.cfg.rings.set 0 { m.cfg.rings[0] with role := 1 } } })
     let p := h.params
     let s1 := s.dequeue h
     let rs : List (Fin 8) := (if tIndex h.target = tAll then (List.finRange 8).filter fun r => decide (r.val < s1.rings) && (s1.mw.cfg.ring r.val).role == 1 else [tRing h.target])
     let code : Nat := (rd p 0 1)
     decide (accB s 0x0207 h = true) && decide (code ≤ 2) && decide (tIndex h.target ≠ tAll → (tRing h.target).val < s1.rings) && decide (zeroAt p 1 7 = true) && decide (∀ r ∈ rs, (s1.mw.cfg.ring r.val).role = 1) && decide (code ≠ 0)),
     (let h : HostCmd := call 5 0 [(6, 0), (6, 0), (4, 0)]
     let s : State := cfgWith fun c => c.setGeo 4032 (some (.zone 0 [0] false false 0 0))
     let z : Fin 64 := 0
     let e : Nat := 0
     let p := h.params
     let s1 := s.dequeue h
     let d := actingDie h h.die
     decide (accB s 0x0605 h = true) && decide (z.val = tIndex h.target % 64) && decide (rdStamp p 6 = some e) && decide (rd p 0 1 ≤ 7) && decide (zeroAt p 1 5 = true) && decide (((s1.die d).cfg.zoneDef z.val).isSome = true)),
     (let h : HostCmd := call 5 0 [(8, 0)]
     let s : State := (cfgWith fun c => c.setGeo 4032 (some (.zone 0 [0] false false 0 0))).onDie .t0 fun x => { x with sep := { x.sep with zones := x.sep.zones.set 0 { x.sep.zones[0] with holder := some (0, 0) } } }
     let z : Fin 64 := 0
     let v : List Nat := [0]
     let u : Bool × Bool × BitVec 4 × Int := (false, false, 0, 0)
     let p := h.params
     let s1 := s.dequeue h
     let d := actingDie h h.die
     decide (accB s 0x0606 h = true) && decide (z.val = tIndex h.target % 64) && decide (rd p 0 1 ≤ 7) && decide (zeroAt p 1 7 = true) && decide ((s1.die d).cfg.zoneDef z.val = some (v, u)) && decide (((s1.die d).sep.zones[z]).holder = some (s1.pkgid.toNat, rd p 0 1))),
     (let h : HostCmd := call 5 0 [(8, 0)]
     let s : State := (cfgWith fun c => c.setGeo 4032 (some (.zone 0 [0] false false 0 0))).onDie .t0 fun x => { x with sep := { x.sep with zones := x.sep.zones.set 0 { x.sep.zones[0] with holder := none, requests := [(0, 0)] } } }
     let z : Fin 64 := 0
     let v : List Nat := [0]
     let u : Bool × Bool × BitVec 4 × Int := (false, false, 0, 0)
     let p := h.params
     let s1 := s.dequeue h
     let d := actingDie h h.die
     decide (accB s 0x0606 h = true) && decide (z.val = tIndex h.target % 64) && decide (rd p 0 1 ≤ 7) && decide (zeroAt p 1 7 = true) && decide ((s1.die d).cfg.zoneDef z.val = some (v, u)) && decide (((s1.die d).sep.zones[z]).holder ≠ some (s1.pkgid.toNat, rd p 0 1)) && decide ((((s1.die d).sep.zones[z]).requests.any fun r => r.1 == rd p 0 1) = true)),
     (let h : HostCmd := call 0 0 [(8, 0)]
     let s : State := ripe
     let p := h.params
     let s1 := s.dequeue h
     let chs : List (Fin 16) := ((List.finRange 16).filter fun i => bit (rd p 2 2) i.val)
     decide (accB s 0x0702 h = true) && decide (zeroAt p 4 4 = true) && decide (∀ i ∈ chs, s1.mw.cfg.leader i = i) && decide (∀ i ∈ chs, (s1.mw.cfg.outputs[i]).function = 1 ∧ s1.mw.cfg.brakeOf i.val = none)),
     (let h : HostCmd := call 0 0 [(8, 0)]
     let s : State := ripe
     let up : Fin 2 → Bool := fun _ => false
     let p := h.params
     let s1 := s.dequeue h
     let d := actingDie h h.die
     decide (accB s 0x0704 h = true) && decide (rd p 0 1 ≤ 7) && decide (zeroAt p 1 1 = true) && decide (rd p 4 1 ≤ 15) && decide (zeroAt p 5 3 = true) && decide (s1.isFlier d = true) && decide (∀ u : Fin 2, up u = false)),
     (let h : HostCmd := call 9 2 [(8, 171798691840)]
     let s : State := ripe
     let p := h.params
     let s1 := s.dequeue h
     let n := tBase h.target
     let lim := if n.val = 2 then ppm100 else ppm500
     decide (accB s 0x0101 h = true) && decide (s1.tbFixed n = false) && decide (n.val = 0 → s1.firmwareServo 0 = false) && decide (n.val = 3 → s1.firmwareServo 1 = false) && decide (nominalInc - lim ≤ rd p 0 8) && decide (rd p 0 8 ≤ nominalInc + lim)),
     (let h : HostCmd := call 9 2 [(8, 0)]
     let s : State := ripe
     let p := h.params
     let s1 := s.dequeue h
     let n := tBase h.target
     decide (accB s 0x0102 h = true) && decide (s1.tbFixed n = false) && decide ((s1.offset n 0 (rdS p 0 8)).2 = true)),
     (let h : HostCmd := call 9 2 [(8, 4611686018427387904)]
     let s : State := ripe
     let p := h.params
     let s1 := s.dequeue h
     let n := tBase h.target
     decide (accB s 0x0102 h = true) && decide (s1.tbFixed n = false) && decide ((s1.offset n 0 (rdS p 0 8)).2 = false)),
     (let h : HostCmd := call 9 2 [(8, 0), (8, 0), (8, 0)]
     let s : State := ripe
     let p := h.params
     let s1 := s.dequeue h
     let n := tBase h.target
     decide (accB s 0x0103 h = true) && decide (s1.tbFixed n = false) && decide (n.val = 2 → (s1.die s1.lead).anyEnabled = false) && decide (zeroAt p 1 5 = true) && decide (rd p 0 1 = 0) && decide ((rdStamp p 6).isSome = true) && decide (0 ≤ ((s1.mw.tb[n]).ns : Int) + (s1.mw.tb[n]).step + rdS p 16 8)),
     (let h : HostCmd := call 9 2 [(8, 1), (8, 0), (8, 0)]
     let s : State := ripe
     let t : Nat := 0
     let p := h.params
     let s1 := s.dequeue h
     let n := tBase h.target
     decide (accB s 0x0103 h = true) && decide (s1.tbFixed n = false) && decide (n.val = 2 → (s1.die s1.lead).anyEnabled = false) && decide (zeroAt p 1 5 = true) && decide (rd p 0 1 = 1) && decide (rdStamp p 6 = some t))].all id = true := by decide +kernel

theorem witness_PackageCommands :
    [(let h : HostCmd := call 0 0 [(8, 8), (8, 0)]
     let p := h.params
     let d := actingDie h h.die
     let bc : Nat := (rd p 0 8)
     let n : Nat := (rd p 8 4)
     let s : State := flier fun x => { x with staging := { x.staging with count := 1 } }
     let s1 := s.dequeue h
     let x := s1.die d
     decide (accB s 0x0020 h = true) && decide (s1.mw.b + 2 ≤ bc) && decide (bc ≤ s1.mw.b + 2 ^ 20) && decide (zeroAt p 12 4 = true) && decide (bit h.flags.toNat 1 = false) && decide (x.changesPeriods = true → bc % max 1 x.shadow.rP = 0 ∧ bc % max 1 x.shadow.rSep = 0) && decide (0 < x.staging.count) && decide (n = 0 ∨ n = x.staging.count) && decide (x.committing = false)),
     (let h : HostCmd := cmd 0 []
     let s : State := ripe
     let s1 := s.dequeue h
     let d := actingDie h h.die
     let x := s1.die d
     decide (accB s 0x0018 h = true) && decide (x.committing = false)),
     (let h : HostCmd := cmd 0 []
     let s : State := ripe
     let s1 := s.dequeue h
     let d := actingDie h h.die
     decide (accB s 0x0802 h = true) && decide (s1.noTrapeze = false) && decide (s1.mw.trapeze.sync = none) && decide ((s1.die d.other).partner.eligible = false) && decide ((s1.die d.other).present = true) && decide ((s1.die d.other).status = .running) && decide (s1.mw.trapeze.directUp = true) && decide (s1.curtained = false) && decide (s1.isFlier d = true)),
     (let h : HostCmd := call 0 0 [(8, 0)]
     let s : State := ripe
     let p := h.params
     let s1 := s.dequeue h
     let to_ : DieId := if rd p 0 1 = 1 then .t1 else .t0
     decide (accB s 0x0803 h = true) && decide (s1.noTrapeze = false) && decide (rd p 0 1 ≤ 1) && decide (zeroAt p 1 7 = true) && decide (s1.isFlier to_ = true)),
     (let h : HostCmd := call 0 0 [(8, 1)]
     let s : State := ripe.onPartner .t1 fun q => { q with eligible := true }
     let p := h.params
     let s1 := s.dequeue h
     let d := actingDie h h.die
     let x := s1.die d
     let to_ : DieId := if rd p 0 1 = 1 then .t1 else .t0
     decide (accB s 0x0803 h = true) && decide (s1.noTrapeze = false) && decide (rd p 0 1 ≤ 1) && decide (zeroAt p 1 7 = true) && decide (s1.isFlier to_ = false) && decide (x.cfg.trapeze.latent = false) && decide (s1.curtained = false) && decide ((s1.die to_).partner.eligible = true) && decide (s1.isFlier d = true)),
     (let h : HostCmd := call 7 0 [(1, 1), (7, 0), (8, 0)]
     let p := h.params
     let d := actingDie h h.die
     let det : Nat := (rd p 0 1)
     let w : Word := (hpTarget (ownPlace h.target d) det)
     let mw : Bool := (!(tKind w == 7 && decide (bits w.toNat 25 24 < 2)))
     let s : State := (mwWith fun m => { m with image := { m.image with test := true } }).onDie .t0 fun x => { x with fuses := { x.fuses with inject := true } }
     let s1 := s.dequeue h
     let x := s1.die d
     decide (accB s 0x0900 h = true) && decide (det ≤ 14) && decide (rd p 1 1 ≤ 1) && decide (if det = 0 then 1 ≤ rd p 2 1 ∧ rd p 2 1 ≤ 2 else rd p 2 1 = 0) && decide (if det = 13 then rd p 3 1 ≤ 3 else rd p 3 1 = 0) && decide (rd p 4 4 ≤ 1000000000) && decide (rd p 8 4 ≤ injectArg det) && decide (zeroAt p 12 4 = true) && decide (injectTarget h.target det = true) && decide (s1.heldInjections d < 4) && decide (mw = false)),
     (let h : HostCmd := call 0 0 [(1, 8), (7, 0), (8, 0)]
     let p := h.params
     let d := actingDie h h.die
     let det : Nat := (rd p 0 1)
     let w : Word := (hpTarget (ownPlace h.target d) det)
     let mw : Bool := (!(tKind w == 7 && decide (bits w.toNat 25 24 < 2)))
     let s : State := (mwWith fun m => { m with image := { m.image with test := true } }).onDie .t0 fun x => { x with fuses := { x.fuses with inject := true } }
     let s1 := s.dequeue h
     let x := s1.die d
     decide (accB s 0x0900 h = true) && decide (det ≤ 14) && decide (rd p 1 1 ≤ 1) && decide (if det = 0 then 1 ≤ rd p 2 1 ∧ rd p 2 1 ≤ 2 else rd p 2 1 = 0) && decide (if det = 13 then rd p 3 1 ≤ 3 else rd p 3 1 = 0) && decide (rd p 4 4 ≤ 1000000000) && decide (rd p 8 4 ≤ injectArg det) && decide (zeroAt p 12 4 = true) && decide (injectTarget h.target det = true) && decide (s1.heldInjections d < 4) && decide (mw = true) && decide (s1.isFlier d = true)),
     (let h : HostCmd := call 0 0 [(1, 8), (7, 0), (8, 0)]
     let p := h.params
     let d := actingDie h h.die
     let s : State := (mwWith fun m => { m with image := { m.image with test := true } }).onDie .t0 fun x => { x with fuses := { x.fuses with inject := true }, det := { x.det with injections := List.replicate 4 { target := 0, detector := 0, mode := 0, bits := 0, path := 0, delayNs := 0, arg := 0, armedNs := 0 } } }
     let s1 := s.dequeue h
     let x := s1.die d
     decide (accB s 0x0900 h = true) && decide (rd p 1 1 ≠ 2) && decide (4 ≤ s1.heldInjections d) && decide (s1.isFlier d = true)),
     (let h : HostCmd := call 0 0 [(8, 0), (8, 0), (8, 0), (8, 0)]
     let s : State := ripe
     decide (accB s 0x0903 h = true)),
     (let h : HostCmd := call 7 0 []
     let s : State := ripe
     let r : Nat := 0
     let c : Nat := 0
     let u : Nat := 0
     let both : Bool := false
     let s1 := s.dequeue h
     let d := actingDie h h.die
     let x := s1.die d
     decide (accB s 0x0904 h = true) && decide (x.test = none) && decide (placeScope (tIndex h.target) = some (bits h.target.toNat 25 24, .unit r c u)) && decide (bits h.target.toNat 25 24 ≠ 2) && decide (r = 0 ∧ c < 4 ∨ r = 1) && decide ((s1.setDie d (x.without (r, c, u))).readmitOk d = true) && decide (both = decide (bits h.target.toNat 25 24 = 3))),
     (let h : HostCmd := call 0 0 [(8, 0)]
     let s : State := ripe
     let p := h.params
     decide (accB s 0x0A00 h = true) && decide (pvTarget h.target 0 = true) && decide (rd p 0 4 ≤ 3600000) && decide (zeroAt p 4 4 = true)),
     (let h : HostCmd := call 0 0 []
     let d := actingDie h h.die
     let s : State := flier fun x => { x with preserve := { x.preserve with frozen := true } }
     let s1 := s.dequeue h
     let x := s1.die d
     decide (accB s 0x0A01 h = true) && decide (pvTarget h.target 0 = true) && decide (x.preserve.frozen = true)),
     (let h : HostCmd := cmd 0 []
     let s : State := ripe
     let s1 := s.dequeue h
     let d := actingDie h h.die
     let x := s1.die d
     decide (accB s 0x0A01 h = true) && decide (pvTarget h.target 0 = true) && decide (x.preserve.frozen = false))].all id = true := by decide +kernel

theorem witness_ResetsAndSeed :
    [(let d : DieId := .t0
     let s : State := (State.reset.onMw fun m => { m with ticks := 10000000, supplyMv := #v[750, 750, 800, 900, 1800, 1800, 3300], coarseOk := 2, trapeze := { m.trapeze with seqTest := some false } })
     let t : State := (s.testSequencer)
     decide (s.seedReady d = true) && decide (t.mw.trapeze.seqTest ≠ some true)),
     (let d : DieId := .t0
     let s : State := (State.reset.onMw fun m => { m with ticks := 10000000, supplyMv := #v[750, 750, 800, 900, 1800, 1800, 3300], coarseOk := 2, trapeze := { m.trapeze with seqTest := some true } })
     let t : State := (s.testSequencer)
     decide (s.seedReady d = true) && decide (t.mw.trapeze.seqTest = some true) && decide ((s.die d).fuses = (s.die d).fuses2)),
     (let d : DieId := .t0
     let s : State := (State.reset.onMw fun m => { m with ticks := 10000000, supplyMv := #v[750, 750, 800, 900, 1800, 1800, 3300], coarseOk := 2, trapeze := { m.trapeze with seqTest := some true } }).onDie .t0 fun x => { x with fuses2 := { x.fuses with tempWarn := 0 } }
     let t : State := (s.testSequencer)
     decide (s.seedReady d = true) && decide (t.mw.trapeze.seqTest = some true) && decide ((s.die d).fuses ≠ (s.die d).fuses2)),
     (let s : State := (State.reset.onMw fun m => { m with ticks := 10000000, supplyMv := #v[750, 750, 800, 900, 1800, 1800, 3300], coarseOk := 2, trapeze := { m.trapeze with seqTest := some true } })
     let b := true
     decide (s.mw.trapeze.seqTest = some b)),
     (let d : DieId := .t0
     let s : State := ripe
     decide (s.seedReady d = false)),
     (let d : DieId := .t0
     let s : State := flier fun x => { x with status := .halted, cfg := { x.cfg with trapeze := { x.cfg.trapeze with resetLimit := 3 } } }
     decide ((s.die d).status = .halted) && decide ((s.die d).cfg.trapeze.noAutoReset = false) && decide ((s.die d).partner.haltedNs + 10000000 ≤ s.now) && decide ((s.die d).partner.stuck = false)),
     (let d : DieId := .t0
     let s : State := flier fun x => { x with status := .halted, cfg := { x.cfg with trapeze := { x.cfg.trapeze with noAutoReset := true } } }
     decide ((s.die d).status = .halted) && decide ((s.die d).cfg.trapeze.noAutoReset = true ∨ (s.die d).partner.stuck = true)),
     (let d : DieId := .t0
     let s : State := ripe
     decide ((s.die d).present = true) && decide ((s.die d).status ≠ .off) && decide (s.mw.trapeze.sync = none) && decide (s.phase ≠ .blossom)),
     (let d : DieId := .t0
     let s : State := flier fun x => { x with status := .off }
     decide ((s.die d).present = true) && decide ((s.die d).status = .off))].all id = true := by decide +kernel

theorem witness_ImageEvents :
    [(let s : State := ripe
     decide (s.loading = false)),
     (let s : State := { mwWith fun m => { m with image := { m.image with headerOk := false } } with phase := .blossom }
     decide (s.loading = true) && decide (s.mw.image.headerOk = false)),
     (let s : State := { mwWith fun m => { m with image := { m.image with headerOk := true, signed := true, sections := 1 } } with phase := .blossom }
     let i := (s.mw.image.nextSection)
     decide (s.loading = true) && decide (s.mw.image.headerOk = true) && decide (s.mw.image.signed = true) && decide (i < s.mw.image.sections)),
     (let s : State := { mwWith fun m => { m with image := { m.image with headerOk := true, flash0 := Memory.writeN [] 32 ((le 32 p256G.1 ++ le 32 p256G.2 ++ le 32 p256G.1 ++ le 32 0xd10d6288c7130efa81eadb8c053097a11df429ea0c53826475308e78bf7a31a3).map fun b => ~~~b) } } with phase := .blossom }
     let bs : List Byte := (s.imageBytes 0 256)
     decide (s.loading = true) && decide (s.mw.image.headerOk = true) && decide (s.mw.image.signed = false) && decide (ecdsaOk (rd bs 32 32) (rd bs 64 32) (rd bs 96 32) (rd bs 128 32) s.signedBytes = true)),
     (let s : State := { mwWith fun m => { m with image := { m.image with headerOk := true } } with phase := .blossom }
     let bs : List Byte := (s.imageBytes 0 256)
     decide (s.loading = true) && decide (s.mw.image.headerOk = true) && decide (s.mw.image.signed = false) && decide (ecdsaOk (rd bs 32 32) (rd bs 64 32) (rd bs 96 32) (rd bs 128 32) s.signedBytes = false)),
     (let s : State := (mwWith fun m => { m with image := { m.image with bA := some 6 } }).onDie .t0 fun x => { x with opening := true }
     decide (s.mw.image.bA = some s.mw.b) && decide (s.mw.image.applied = false) && decide (s.t0.opening = true ∨ s.t1.opening = true)),
     (let s : State := ripe
     decide (s.mw.image.bA ≠ some s.mw.b)),
     (let s : State := { (mwWith fun m => { m with image := { m.image with bR := some 6 } }).onDie .t0 fun x => { x with opening := true } with phase := .blossom }
     decide (s.phase = .blossom) && decide (s.mw.image.bR = some s.mw.b) && decide (s.t0.opening = true ∨ s.t1.opening = true)),
     (let s : State := ripe
     decide (s.mw.image.bR ≠ some s.mw.b))].all id = true := by decide +kernel

theorem witness_DebugPort :
    [(let s : State := mwWith fun m => { m with fuses := { m.fuses with debugState := 2 } }
     decide (2 ≤ s.debugState)),
     (let s : State := mwWith fun m => { m with dbgPort := { m.dbgPort with failed := 3 } }
     decide (s.debugState < 2) && decide (3 ≤ s.mw.dbgPort.failed)),
     (let s : State := ripe
     decide (s.debugState < 2) && decide (s.mw.dbgPort.failed < 3)),
     (let s : State := mwWith fun m => { m with ticks := 0, dbgPort := { m.dbgPort with nonce := some [] }, fuses := { m.fuses with debugKeyHash := sha256 (le 32 0x662d37bf85023f3bb1e3923a296ae94729ad7af9ea50461082b9fa29986d6c53 ++ le 32 0x2b69672bd38ef8614490987f29534d79a192ad35f6d3c6710820c1242f9012cf) } }
     let bs : List Byte := le 8 1 ++ le 32 0x662d37bf85023f3bb1e3923a296ae94729ad7af9ea50461082b9fa29986d6c53 ++ le 32 0x2b69672bd38ef8614490987f29534d79a192ad35f6d3c6710820c1242f9012cf ++ le 32 0x86d2b876b216e382feadf428053b67a5f94d7b34a416ea91dee138bfd71ff031 ++ le 32 0x86d2b876b216e382feadf428053b67a5f94d7b34a416ea91dee138bfd71ff031
     let n : List Byte := []
     decide (s.mw.dbgPort.nonce = some n) && decide (s.responseOk n bs = true)),
     (let s : State := mwWith fun m => { m with dbgPort := { m.dbgPort with nonce := some [] } }
     let bs : List Byte := []
     let n : List Byte := []
     decide (s.mw.dbgPort.nonce = some n) && decide (s.responseOk n bs = false)),
     (let s : State := mwWith fun m => { m with fuses := { m.fuses with debugState := 0 } }
     let w : DebugPlace := .preserve .t0
     let a : Nat := 0
     let n : Nat := 0
     decide (s.debugReads = true) && decide (a + n ≤ placeSize w)),
     (let s : State := mwWith fun m => { m with fuses := { m.fuses with debugState := 0 } }
     let w : DebugPlace := .preserve .t0
     let a : Nat := 524288
     let n : Nat := 1
     decide (s.debugReads = true) && decide (placeSize w < a + n)),
     (let s : State := ripe
     decide (s.debugReads = false)),
     (let s : State := mwWith fun m => { m with fuses := { m.fuses with debugState := 0 } }
     let d : DieId := .t0
     let a : Nat := 0
     let bs : List Byte := []
     decide (s.debugFull = true) && decide (a + bs.length ≤ placeSize (.preserve d))),
     (let s : State := mwWith fun m => { m with fuses := { m.fuses with debugState := 0 } }
     let d : DieId := .t0
     let a : Nat := 0
     let bs : List Byte := []
     decide (s.debugFull = true) && decide (a + bs.length ≤ placeSize (.registers d))),
     (let s : State := mwWith fun m => { m with fuses := { m.fuses with debugState := 0 } }
     let w : DebugPlace := .dataStore .t0
     let a : Nat := 0
     let bs : List Byte := []
     decide (s.debugFull = true) && decide (w = .dataStore .t0) && decide (a + bs.length ≤ placeSize w)),
     (let s : State := mwWith fun m => { m with fuses := { m.fuses with debugState := 0 } }
     let w : DebugPlace := .preserve .t0
     let a : Nat := 524288
     let bs : List Byte := [0]
     decide (s.debugFull = true) && decide (placeSize w < a + bs.length)),
     (let s : State := mwWith fun m => { m with fuses := { m.fuses with debugState := 0 } }
     decide (s.debugFull = true)),
     (let s : State := (mwWith fun m => { m with fuses := { m.fuses with debugState := 0 } }).onDie .t0 fun x => { x with rm := { x.rm with halted := 1 } }
     let d : DieId := .t0
     let k : Fin 4 := 0
     decide (s.debugFull = true) && decide ((s.die d).rm.halted.getLsbD k.val = true)),
     (let s : State := mwWith fun m => { m with fuses := { m.fuses with debugState := 0 } }
     let a : Nat := 0
     let n : Nat := 0
     decide (s.debugFull = true) && decide (a + n ≤ flashSize)),
     (let s : State := mwWith fun m => { m with fuses := { m.fuses with debugState := 0 } }
     let a : Nat := flashSize
     let n : Nat := 1
     decide (s.debugFull = true) && decide (flashSize < a + n)),
     (let s : State := mwWith fun m => { m with fuses := { m.fuses with debugState := 0 } }
     let a : Nat := 0
     let bs : List Byte := []
     decide (s.debugFull = true) && decide (a + bs.length ≤ flashSize)),
     (let s : State := mwWith fun m => { m with fuses := { m.fuses with debugState := 0 } }
     let d : DieId := .t0
     let bs : List Byte := List.replicate 32 0
     decide (s.debugFull = true) && decide ((s.die d).present = true) && decide (bs.length = 32)),
     (let s : State := ripe
     decide (s.debugFull = false))].all id = true := by decide +kernel

theorem witness_PeriodEvents :
    [(let s : State := ripe
     decide (s.phase ≠ .seed) && decide (s.boundaryDue 0 = true)),
     (let s : State := { ripe with phase := .seed }
     decide (s.phase = .seed)),
     (let s : State := ripe
     decide (s.phase ≠ .seed) && decide (s.mw.fired = true) && decide (s.mw.cutDone = false) && decide (s.boundaryDue 1000 = true)),
     (let s : State := mwWith fun m => { m with cutDone := true }
     decide (s.mw.cutDone = true)),
     (let s : State := ripe
     let d : DieId := .t0
     decide ((s.die d).works = true)),
     (let s : State := flier fun x => { x with ungating := [.sc 0] }
     let d : DieId := .t0
     let k : ClusterId := .sc 0
     decide ((s.die d).works = true) && decide ((s.die d).ungating.contains k = true)),
     (let s : State := flier fun x => { x with commit := some { bc := 8, count := 1, cmd := cmd 0 [], affected := [⟨.t0, 1, 0, 0⟩], ready := [] } }
     let u : UnitId := ⟨.t0, 1, 0, 0⟩
     let d : DieId := .t0
     let c : Pending := { bc := 8, count := 1, cmd := cmd 0 [], affected := [⟨.t0, 1, 0, 0⟩], ready := [] }
     decide (trapezeDie u.die = some d) && decide ((s.die d).works = true) && decide ((s.die d).ungating = []) && decide ((s.die d).removed = []) && decide ((s.die d).fenced = []) && decide ((s.die d).commit = some c) && decide (c.affected.contains u = true) && decide (c.ready.contains u = false) && decide (c.closed = false)),
     (let s : State := (cfgWith fun c => { c with juggler := { c.juggler with jointSet := 1 } }).onDie .t0 fun x => { x with readmit := true, removed := [(1, 0), (1, 1), (1, 2), (1, 3)], readmitFenced := [(1, 0)] }
     let d : DieId := .t0
     let ks : List (Nat × Nat) := (s.escalated d)
     decide ((s.die d).works = true) && decide ((s.die d).readmit = true) && decide (s.readmitOk d = false) && decide (ks ≠ [])),
     (let s : State := (cfgWith fun c => { c with juggler := { c.juggler with jointSet := 1 } }).onDie .t0 fun x => { x with readmit := true, removed := [(1, 0), (1, 1), (1, 2), (1, 3)] }
     let d : DieId := .t0
     let ks : List (Nat × Nat) := (s.escalated d)
     decide ((s.die d).works = true) && decide ((s.die d).readmit = true) && decide (s.readmitOk d = false) && decide (ks = [])),
     (let s : State := flier fun x => { x with readmit := true }
     let d : DieId := .t0
     decide ((s.die d).works = true) && decide ((s.die d).readmit = true) && decide (s.readmitOk d = true)),
     (let s : State := ripe
     let d : DieId := .t0
     decide ((s.die d).readmit = false))].all id = true := by decide +kernel

theorem witness_QueueEvents :
    [(let d : DieId := .t0
     let s : State := ripe
     decide (s.reachable d = true)),
     (let d : DieId := .t0
     let q : Fin 64 := 32
     let s : State := ripe
     decide (s.reachable d = true) && decide (32 ≤ q.val)),
     (let d : DieId := .t0
     let s : State := ripe
     let v : Fin 32 := 0
     let w : Word := 0
     let k : Nat := 0
     let f : Word × Word × Word := (0, 0, 0)
     let e : Word × Word × Word := (((s.die d).port.msixTable)[v])
     decide (s.reachable d = true) && decide (k = 0 ∧ f = (w, e.2) ∨ k = 4 ∧ f = (e.1, w, e.2.2) ∨ k = 8 ∧ f = (e.1, e.2.1, w))),
     (let d : DieId := .t0
     let s : State := ripe
     let w : Word := 1
     decide (s.reachable d = true) && decide (bit w.toNat 0 = true)),
     (let d : DieId := .t0
     let s : State := flier fun x => { x with port := { x.port with msixPending := 1 } }
     let v : Fin 32 := 0
     let w : Word := 0
     decide (s.reachable d = true) && decide (bit w.toNat 0 = false) && decide (((s.die d).port.msixPending).getLsbD v.val = true)),
     (let d : DieId := .t0
     let q : Fin 64 := 0
     let s : State := ripe
     decide (s.visible d = true) && decide ((s.queue d q).state = .running ∨ (s.queue d q).state = .stalled)),
     (let d : DieId := .t0
     let s : State := ripe
     decide (s.visible d = true)),
     (let d : DieId := .t0
     let q : Fin 64 := 0
     let s : State := ripe
     decide (s.visible d = true) && decide ((s.die d).port.busMaster = true) && decide ((s.queue d (recordQueue q.val)).waiting = [])),
     (let d : DieId := .t0
     let s : State := flier fun x => { x with port := { x.port with memSpace := false } }
     decide (s.reachable d = false)),
     (let d : DieId := .t0
     let s : State := flier fun x => { x with port := { x.port with linkUp := false } }
     decide (s.visible d = false)),
     (let d : DieId := .t0
     let q : Fin 64 := 0
     let s : State := flier fun x => { x with port := { x.port with queues := x.port.queues.set 0 { x.port.queues[0] with draining := true } } }
     decide ((s.queue d q).draining = true) && decide (∀ c ∈ (s.die d).rm.copies, c.cmd.queue.val ≠ q.val) && decide (∀ k ∈ (s.die d).rm.held, k.cmd.queue.val ≠ q.val) && decide (∀ w ∈ (s.die d).rm.awaiting, w.executes = true → w.cmd.queue.val ≠ q.val)),
     (let d : DieId := .t0
     let q : Fin 64 := 32
     let s : State := flier fun x => { x with port := { x.port with queues := x.port.queues.set 32 { x.port.queues[32] with state := .running, qcfg := 0x800, unsignalled := 1 } } }
     decide (32 ≤ q.val) && decide ((s.queue d q).state = .running) && decide ((s.queue d q).vectorEn = true) && decide (0 < (s.queue d q).unsignalled))].all id = true := by decide +kernel

theorem witness_LinkEvents :
    [(let d : DieId := .t0
     let s : State := ripe
     decide (s.visible d = true)),
     (let d : DieId := .t0
     let s : State := flier fun x => { x with port := { x.port with linkUp := false } }
     decide ((s.die d).present = true) && decide ((s.die d).status ≠ .off) && decide ((s.die d).status ≠ .seed) && decide ((s.die d).port.linkUp = false)),
     (let d : DieId := .t0
     let s : State := flier fun x => { x with port := { x.port with lost := true, queues := x.port.queues.set 0 { x.port.queues[0] with qcfg := 0, draining := false } } }
     let q : Fin 64 := 0
     let w : Word := 0xA
     let b : Queue := ({ s.queue d q with qcfg := qcfgStored (w ||| 0x80000000) })
     decide (q.val < 32) && decide (s.reachable d = true) && decide ((s.die d).port.lost = true) && decide ((s.queue d q).enable = false) && decide ((s.queue d q).draining = false) && decide (4 ≤ b.log2) && decide (b.log2 ≤ 12) && decide (b.baseLo.toNat % 4096 = 0)),
     (let d : DieId := .t0
     let s : State := ripe
     decide ((s.die d).port.linkUp = true) && decide (s.quiet d 6 = true)),
     (let s : State := mwWith fun m => { m with trapeze := { m.trapeze with directUp := false } }
     decide (s.hasPartner = true) && decide (s.mw.trapeze.directUp = false)),
     (let s : State := ripe
     let l : LinkId := .direct
     decide (s.linkUp l = true)),
     (let s : State := mwWith fun m => { m with trapeze := { m.trapeze with directUp := false } }
     let l : LinkId := .direct
     decide (s.linkUp l = false)),
     (let d : DieId := .t1
     let s : State := ripe.onDie .t1 fun x => { x with rm := { x.rm with notices := [{ queue := 0, seq := 0, crc := 0, atNs := 0, reply := { status := 0 } }] } }
     let n : Notice := { queue := 0, seq := 0, crc := 0, atNs := 0, reply := { status := 0 } }
     let r : List Notice := []
     decide ((s.die d).rm.notices = n :: r) && decide (n.arrived = false) && decide ((s.die d).rm.expired.contains (n.queue, n.seq) = false)),
     (let d : DieId := .t1
     let s : State := ripe.onDie .t1 fun x => { x with rm := { x.rm with notices := [{ queue := 0, seq := 0, crc := 0, atNs := 0, reply := { status := 0 } }], expired := [(0, 0)] } }
     let n : Notice := { queue := 0, seq := 0, crc := 0, atNs := 0, reply := { status := 0 } }
     let r : List Notice := []
     decide ((s.die d).rm.notices = n :: r) && decide (n.arrived = false) && decide ((s.die d).rm.expired.contains (n.queue, n.seq) = true)),
     (let d : DieId := .t1
     let s : State := ripe.onDie .t1 fun x => { x with rm := { x.rm with copies := [{ opcode := 0, cmd := cmd 0 [], atNs := 0 }] } }
     let c : Copy := { opcode := 0, cmd := cmd 0 [], atNs := 0 }
     decide (s.isFlier d = false) && decide (s.mw.trapeze.token ≠ none) && decide (s.hasPartner = true) && decide ((s.die d).works = true) && decide ((s.die d).rm.notices = []) && decide ((s.die d).rm.copies = [c]) && decide (c.atNs + (s.die d).cfg.trapeze.pairingNs ≤ s.now))].all id = true := by decide +kernel

theorem witness_JointEvents :
    [(let d : DieId := .t0
     let j : Fin 64 := 0
     let s : State := ripe
     let x := s.joint d j
     let u : State := (s.useArray d 0 (4 + j.val / 32))
     decide (s.computes d = true) && decide (s.jointPresent j.val = true) && decide (x.advB ≠ some s.mw.b) && decide (u.mw.cutDone = false) && decide (u.computes d = true)),
     (let d : DieId := .t0
     let j : Fin 64 := 0
     let s : State := mwWith fun m => { m with cutDone := true }
     let x := s.joint d j
     let u : State := (s.useArray d 0 (4 + j.val / 32))
     decide (s.computes d = true) && decide (s.jointPresent j.val = true) && decide (x.advB ≠ some s.mw.b) && decide (u.mw.cutDone = true)),
     (let d : DieId := .t0
     let j : Fin 64 := 0
     let s : State := jointWith fun x => { x with advB := some 6 }
     let x := s.joint d j
     decide (x.advB = some s.mw.b)),
     (let d : DieId := .t0
     let j : Fin 64 := 0
     let s : State := (jointWith fun x => { x with state := .enabling }).onDie .t0 fun x => { x with stores := { x.stores with exchange := Memory.writeN [] 0x51 [0x20] } }
     let x := s.joint d j
     decide ((s.die d).works = true) && decide (x.state = .enabling) && decide (x.brakeRelease = false) && decide (bit ((s.die d).stores.exchange.read (256 * j.val + 0x51)).toNat 5 = true)),
     (let d : DieId := .t0
     let j : Fin 64 := 0
     let s : State := jointWith fun x => { x with state := .enabling }
     let x := s.joint d j
     let g := (s.die d).jointCfg j
     decide ((s.die d).works = true) && decide (x.state = .enabling) && decide (x.brakeRelease = false) && decide (x.timerNs + g.joint.enableTimeoutNs ≤ s.now)),
     (let d : DieId := .t0
     let j : Fin 64 := 0
     let s : State := jointWith fun x => { x with state := .enabling, brakeRelease := true, ctl := { x.ctl with rawValid := true, holding := false } }
     let x := s.joint d j
     let g := (s.die d).jointCfg j
     decide ((s.die d).works = true) && decide (x.state = .enabling) && decide (x.brakeRelease = true) && decide (x.timerNs + g.joint.brakeReleaseNs ≤ s.now) && decide (x.feedbackFresh = true)),
     (let d : DieId := .t0
     let j : Fin 64 := 0
     let s : State := jointWith fun x => { x with state := .enabling, brakeRelease := true }
     let x := s.joint d j
     let g := (s.die d).jointCfg j
     decide ((s.die d).works = true) && decide (x.state = .enabling) && decide (x.brakeRelease = true) && decide (x.timerNs + g.joint.brakeReleaseNs ≤ s.now) && decide (x.feedbackFresh = false)),
     (let d : DieId := .t0
     let j : Fin 64 := 0
     let s : State := jointWith fun x => { x with state := .soft }
     let x := s.joint d j
     let g := (s.die d).jointCfg j
     decide ((s.die d).works = true) && decide (x.state = .soft) && decide (x.timerNs + g.joint.softTimeNs ≤ s.now) && decide ((planNs x.plan : Rat) ≤ ns32 x.pt)),
     (let d : DieId := .t0
     let j : Fin 64 := 0
     let s : State := jointWith fun x => { x with state := .stopping, real := true, toDisabled := true }
     let x := s.joint d j
     decide ((s.die d).works = true) && decide (x.state = .stopping) && decide (x.real = true) && decide ((planNs x.plan : Rat) ≤ ns32 x.pt) && decide (x.toDisabled = true)),
     (let d : DieId := .t0
     let j : Fin 64 := 0
     let s : State := jointWith fun x => { x with state := .stopping, real := true }
     let x := s.joint d j
     decide ((s.die d).works = true) && decide (x.state = .stopping) && decide (x.real = true) && decide ((planNs x.plan : Rat) ≤ ns32 x.pt) && decide (x.toDisabled = false)),
     (let d : DieId := .t0
     let j : Fin 64 := 0
     let s : State := jointWith fun x => { x with state := .braking }
     let x := s.joint d j
     let g := (s.die d).jointCfg j
     decide ((s.die d).works = true) && decide (x.state = .braking) && decide (x.timerNs + g.joint.brakeEngageNs ≤ s.now)),
     (let d : DieId := .t0
     let j : Fin 64 := 0
     let tag : Nat := 7
     let b : Nat := 5
     let clear : Bool := false
     let s : State := (cfgWith fun c => c.onJoint 0 fun g => { g with limits := some limits0, control := { g.control with torqueMax := 1 } }).onJoint .t0 0 fun x => { x with deferred := some (7, false), deferredB := some 5 }
     let x := s.joint d j
     let g := (s.die d).jointCfg j
     decide ((s.die d).works = true) && decide (x.deferred = some (tag, clear)) && decide (x.deferredB = some b) && decide (b < s.mw.b) && decide (x.state = .disabled) && decide (s.enableRefused d j clear (s.jogOk d j) = none)),
     (let d : DieId := .t0
     let j : Fin 64 := 0
     let tag : Nat := 7
     let b : Nat := 5
     let clear : Bool := false
     let s : State := jointWith fun x => { x with deferred := some (7, false), deferredB := some 5 }
     let x := s.joint d j
     decide ((s.die d).works = true) && decide (x.deferred = some (tag, clear)) && decide (x.deferredB = some b) && decide (b < s.mw.b) && decide (x.state = .disabled) && decide ((s.enableRefused d j clear (s.jogOk d j)).isSome = true)),
     (let d : DieId := .t0
     let j : Fin 64 := 0
     let s : State := { jointWith fun x => { x with state := .enabled } with phase := .blossom }
     let x := s.joint d j
     decide ((s.die d).works = true) && decide (s.phase = .blossom) && decide (x.state = .enabled) && decide (x.jogNs + 1000000 * s.mw.image.jogTimeoutMs ≤ s.now)),
     (let d : DieId := .t0
     let j : Fin 64 := 0
     let a : Fin 8 := 0
     let s : State := flier fun x => { x with arms := x.arms.set 0 { x.arms[0] with sigma := 0, hostStop := some 1 } }
     let x := s.joint d j
     let y : Arm := ((s.die d).arms[a])
     decide ((s.die d).works = true) && decide (y.sigma = 0) && decide (y.hostStop ≠ none ∨ y.sepStop ≠ none ∨ y.stopping = true) && decide (y.hostStop ≠ some 2)),
     (let d : DieId := .t0
     let j : Fin 64 := 0
     let a : Fin 8 := 0
     let s : State := flier fun x => { x with arms := x.arms.set 0 { x.arms[0] with sigma := 0, hostStop := some 2 } }
     let x := s.joint d j
     let y : Arm := ((s.die d).arms[a])
     decide ((s.die d).works = true) && decide (y.sigma = 0) && decide (y.hostStop ≠ none ∨ y.sepStop ≠ none ∨ y.stopping = true) && decide (y.hostStop = some 2)),
     (let d : DieId := .t0
     let j : Fin 64 := 0
     let s : State := ripe
     let x := s.joint d j
     decide (x.state ≠ .enabling)),
     (let d : DieId := .t0
     let j : Fin 64 := 0
     let s : State := ripe
     let x := s.joint d j
     decide (x.state = .disabled))].all id = true := by decide +kernel

theorem witness_SupervisionEvents :
    [(let d : DieId := .t0
     let j : Fin 64 := 0
     let s : State := ripe
     let x := s.joint d j
     decide (x.homing = none)),
     (let d : DieId := .t0
     let j : Fin 64 := 0
     let h : Homing := { phase := .fast, up := true, startQ := 0, startNs := 0 }
     let s : State := (cfgWith fun c => c.onJoint 0 fun g => { g with homing := { g.homing with method := 1, homeSrc := 64 } }).onJoint .t0 0 fun x => { x with homing := some { phase := .fast, up := true, startQ := 0, startNs := 0 } }
     let x := s.joint d j
     let g := (s.die d).jointCfg j
     decide (x.homing = some h) && decide ((s.die d).works = true) && decide (h.phase ≠ .retreat) && decide (h.startNs + 1000000 * g.homing.timeoutMs ≤ s.now)),
     (let d : DieId := .t0
     let j : Fin 64 := 0
     let h : Homing := { phase := .fast, up := true, startQ := 0, startNs := 0 }
     let s : State := ((cfgWith fun c => c.onJoint 0 fun g => { g with homing := { g.homing with method := 1, homeSrc := 64 } }).onJoint .t0 0 fun x => { x with homing := some { phase := .fast, up := true, startQ := 0, startNs := 0 }, switches := x.switches.set 0 { level := true, since := 0 } }).onMw fun m => { m with field := { m.field with latched := 1 } }
     let x := s.joint d j
     let g := (s.die d).jointCfg j
     let s1 : State := (s.sampleSwitches d j)
     decide ((s1.joint d j).homing = some h) && decide ((s1.die d).works = true) && decide (((s1.die d).jointCfg j).homing.method ≤ 2) && decide (((s1.joint d j).switches[(0 : Fin 3)]).settled s1.now ((s1.die d).jointCfg j).homing.settleNs = true) && decide (((s1.joint d j).switches[(0 : Fin 3)]).level = true) && decide (h.phase = .fast)),
     (let d : DieId := .t0
     let j : Fin 64 := 0
     let h : Homing := { phase := .event, up := true, startQ := 0, startNs := 0 }
     let s : State := ((cfgWith fun c => c.onJoint 0 fun g => { g with homing := { g.homing with method := 1, homeSrc := 64 } }).onJoint .t0 0 fun x => { x with homing := some { phase := .event, up := true, startQ := 0, startNs := 0 }, ctl := { x.ctl with rawValid := true, holding := false } }).onDie .t0 fun x => { x with stores := { x.stores with exchange := Memory.writeN [] 0x51 [1] } }
     let x := s.joint d j
     let g := (s.die d).jointCfg j
     decide (x.homing = some h) && decide (s.computes d = true) && decide (h.phase = .event) && decide (bit ((s.die d).stores.exchange.read (256 * j.val + 0x51)).toNat 0 = true) && decide (bit ((s.die d).stores.exchange.read (256 * j.val + 0x51)).toNat 1 = false) && decide (x.ctl.holding = false) && decide (x.ctl.rawValid = true)),
     (let d : DieId := .t0
     let j : Fin 64 := 0
     let h : Homing := { phase := .index, up := true, startQ := 0, startNs := 0, latch0 := 1 }
     let s : State := (cfgWith fun c => c.onJoint 0 fun g => { g with feedback := { g.feedback with encoderPort := true } }).onJoint .t0 0 fun x => { x with homing := some { phase := .index, up := true, startQ := 0, startNs := 0, latch0 := 1 } }
     let x := s.joint d j
     let g := (s.die d).jointCfg j
     decide (x.homing = some h) && decide (s.computes d = true) && decide (h.phase = .index) && decide (g.feedback.encoderPort = true) && decide ((s.die d).indexSeq j ≠ h.latch0)),
     (let d : DieId := .t0
     let j : Fin 64 := 0
     let t : Nat := 0
     let s : State := jointWith fun x => { x with stillNs := some 0 }
     let x := s.joint d j
     let g := (s.die d).jointCfg j
     decide (x.stillNs = some t) && decide ((s.die d).works = true) && decide (x.reducedHold = false) && decide (t + g.standstill.delayNs ≤ s.now)),
     (let d : DieId := .t0
     let j : Fin 64 := 0
     let t : Nat := 0
     let s : State := jointWith fun x => { x with errNs := some 0 }
     let x := s.joint d j
     let g := (s.die d).jointCfg j
     decide (x.errNs = some t) && decide ((s.die d).works = true) && decide (t + g.following.timeNs ≤ s.now)),
     (let d : DieId := .t0
     let j : Fin 64 := 0
     let s : State := jointWith fun x => { x with state := .enabled, ctl := { x.ctl with holdCount := 300 } }
     let x := s.joint d j
     let g := (s.die d).jointCfg j
     decide (s.computes d = true) && decide (x.ctl.lost = false) && decide (x.state ≠ .disabled ∧ x.state ≠ .enabling ∧ g.feedback.holdLimit < x.ctl.holdCount)),
     (let d : DieId := .t0
     let j : Fin 64 := 0
     let s : State := (cfgWith fun c => c.onJoint 0 fun g => { g with feedback := { g.feedback with freezeV := 1 } }).onJoint .t0 0 fun x => { x with ctl := { x.ctl with freeze := 2 ^ 40 } }
     let x := s.joint d j
     let g := (s.die d).jointCfg j
     decide (s.computes d = true) && decide (x.ctl.frozen = false) && decide (g.feedback.freezeV ≠ 0) && decide (g.feedback.freezeTimeNs ≤ x.ctl.freeze)),
     (let d : DieId := .t0
     let j : Fin 64 := 0
     let s : State := jointWith fun x => { x with ext := { tau := 0, bS := 0, validNs := 1 } }
     let x := s.joint d j
     let y : Joint := (x.settleExt s.mw.b)
     decide (s.computes d = true) && decide (y.ext.validNs ≠ 0) && decide (y.extStale = false) && decide ((s.die d).staleB y.ext ≤ s.mw.b)),
     (let d : DieId := .t0
     let j : Fin 64 := 0
     let s : State := (cfgWith fun c => c.onJoint 0 fun g => { g with ff := { g.ff with extFadeNs := 0 } }).onJoint .t0 0 fun x => { x with ext := { tau := 0, bS := 0, validNs := 1 }, extStale := true }
     let x := s.joint d j
     let g := (s.die d).jointCfg j
     let y : Joint := (x.settleExt s.mw.b)
     decide (s.computes d = true) && decide (y.ext.validNs ≠ 0) && decide (y.extStale = true) && decide ((s.die d).staleB y.ext + periodsOf g.ff.extFadeNs (s.die d).cfg.periods.tS ≤ s.mw.b)),
     (let d : DieId := .t0
     let j : Fin 64 := 0
     let fr : Bool := false
     let t : Nat := (2 * j.val + b2n fr)
     let s : State := flier fun x => { x with redirect := [0] }
     let x := s.joint d j
     decide ((s.die d).works = true) && decide ((s.die d).redirect.contains t = true)),
     (let d : DieId := .t0
     let j : Fin 64 := 0
     let s : State := ripe
     let x := s.joint d j
     decide (x.errNs = none)),
     (let d : DieId := .t0
     let j : Fin 64 := 0
     let s : State := ripe
     let x := s.joint d j
     decide (x.stillNs = none)),
     (let d : DieId := .t0
     let j : Fin 64 := 0
     let s : State := ripe
     let x := s.joint d j
     decide (x.state = .disabled))].all id = true := by decide +kernel

theorem witness_JugglerEvents :
    [(let d : DieId := .t0
     let s : State := ripe
     decide ((s.die d).jug.solve = none)),
     (let d : DieId := .t0
     let s : State := solving .t0 { solve0 with p := 4 }
     let sol : Solve := ((s.die d).jug.solve).getD solve0
     let c := (s.die d).cfg
     let n : Nat × Nat × Nat := (({ c with juggler := sol.cfg } : Cfg).jugglerTimes (s.jugglerLanes d))
     decide ((s.die d).jug.solve = some sol) && decide (s.computes d = true) && decide (sol.phase = .factor) && decide (s.quiet d 0 = true) && decide (s.quiet d 3 = true) && decide (sol.abft = none) && decide (s.tb2 + n.1 + 25 * n.2.1 ≤ sol.deadlineNs)),
     (let d : DieId := .t0
     let s : State := solving .t0 { solve0 with abft := some (0, false) }
     let sol : Solve := ((s.die d).jug.solve).getD solve0
     decide ((s.die d).jug.solve = some sol) && decide (s.computes d = true) && decide (sol.phase = .factor) && decide (s.quiet d 0 = true) && decide (s.quiet d 3 = true) && decide (sol.abft ≠ none)),
     (let d : DieId := .t0
     let s : State := solving .t0 { solve0 with nonfinite := true }
     let sol : Solve := ((s.die d).jug.solve).getD solve0
     decide ((s.die d).jug.solve = some sol) && decide (s.computes d = true) && decide (sol.phase = .factor) && decide (s.quiet d 0 = true) && decide (s.quiet d 3 = true) && decide (sol.abft = none) && decide (sol.nonfinite = true)),
     (let d : DieId := .t0
     let s : State := solving .t0 { solve0 with p := 4 }
     let sol : Solve := ((s.die d).jug.solve).getD solve0
     let stages : List Stage := (sol.factorise.getD ([], [])).1
     let rep : List (Nat × Nat) := (sol.factorise.getD ([], [])).2
     decide ((s.die d).jug.solve = some sol) && decide (s.computes d = true) && decide (sol.phase = .factor) && decide (s.quiet d 0 = true) && decide (s.quiet d 3 = true) && decide (sol.abft = none) && decide (sol.nonfinite = false) && decide (sol.factorise = some (stages, rep))),
     (let d : DieId := .t0
     let s : State := solving .t0 { solve0 with phase := .iterate, iters := 25, rows := [{ source := .boxQ, index := 0, step := 1, terms := [], lower := none, upper := none }], cur := { y := [2 ^ 200] } }
     let sol : Solve := ((s.die d).jug.solve).getD solve0
     let n : Nat := (sol.iters + max 1 sol.cfg.checkEvery)
     let o : Option Checkpoint := ((sol.iterates (max 1 sol.cfg.checkEvery) sol.cur).bind (sol.checkpoint n))
     decide ((s.die d).jug.solve = some sol) && decide (s.computes d = true) && decide (sol.phase = .iterate) && decide (s.quiet d 0 = true) && decide (s.follows d = false) && decide (25 ≤ sol.iters) && decide (o = none)),
     (let d : DieId := .t0
     let s : State := solving .t0 { solve0 with phase := .iterate, iters := 25, stages := (solve0.factorise.getD ([], [])).1 }
     let sol : Solve := ((s.die d).jug.solve).getD solve0
     let n : Nat := (sol.iters + max 1 sol.cfg.checkEvery)
     let o : Option Checkpoint := ((sol.iterates (max 1 sol.cfg.checkEvery) sol.cur).bind (sol.checkpoint n))
     let k : Checkpoint := o.getD point0
     let z : Solve := { sol with iters := n, cur := k.it, points := sol.points ++ [k] }
     decide ((s.die d).jug.solve = some sol) && decide (s.computes d = true) && decide (sol.phase = .iterate) && decide (s.quiet d 0 = true) && decide (s.follows d = false) && decide (25 ≤ sol.iters) && decide (o = some k) && decide (z = { sol with iters := n, cur := k.it, points := sol.points ++ [k] }) && decide (k.converged sol.cfg = true)),
     (let d : DieId := .t0
     let s : State := solving .t0 { solve0 with phase := .iterate, iters := 25, stages := (solve0.factorise.getD ([], [])).1, timeLimit := true, cfg := { solve0.cfg with epsAbs := 0xBF800000, epsRel := 0 } }
     let sol : Solve := ((s.die d).jug.solve).getD solve0
     let n : Nat := (sol.iters + max 1 sol.cfg.checkEvery)
     let o : Option Checkpoint := ((sol.iterates (max 1 sol.cfg.checkEvery) sol.cur).bind (sol.checkpoint n))
     let k : Checkpoint := o.getD point0
     let z : Solve := { sol with iters := n, cur := k.it, points := sol.points ++ [k] }
     decide ((s.die d).jug.solve = some sol) && decide (s.computes d = true) && decide (sol.phase = .iterate) && decide (s.quiet d 0 = true) && decide (s.follows d = false) && decide (25 ≤ sol.iters) && decide (o = some k) && decide (z = { sol with iters := n, cur := k.it, points := sol.points ++ [k] }) && decide (k.converged sol.cfg = false) && decide (sol.timeLimit = true)),
     (let d : DieId := .t0
     let s : State := solving .t0 { solve0 with phase := .iterate, iters := 25, stages := (solve0.factorise.getD ([], [])).1, cfg := { solve0.cfg with epsAbs := 0xBF800000, epsRel := 0 } }
     let sol : Solve := ((s.die d).jug.solve).getD solve0
     let n : Nat := (sol.iters + max 1 sol.cfg.checkEvery)
     let o : Option Checkpoint := ((sol.iterates (max 1 sol.cfg.checkEvery) sol.cur).bind (sol.checkpoint n))
     let k : Checkpoint := o.getD point0
     let z : Solve := { sol with iters := n, cur := k.it, points := sol.points ++ [k] }
     decide ((s.die d).jug.solve = some sol) && decide (s.computes d = true) && decide (sol.phase = .iterate) && decide (s.quiet d 0 = true) && decide (s.follows d = false) && decide (25 ≤ sol.iters) && decide (o = some k) && decide (z = { sol with iters := n, cur := k.it, points := sol.points ++ [k] }) && decide (k.converged sol.cfg = false) && decide (sol.timeLimit = false)),
     (let d : DieId := .t0
     let s : State := solving .t0 { solve0 with deadlineNs := 0 }
     let sol : Solve := ((s.die d).jug.solve).getD solve0
     decide ((s.die d).jug.solve = some sol) && decide (s.computes d = true) && decide (sol.deadlineNs ≤ s.tb2) && decide (s.follows d = false)),
     (let d : DieId := .t1
     let s : State := solving .t1 { solve0 with deadlineNs := 0 }
     let sol : Solve := ((s.die d).jug.solve).getD solve0
     decide ((s.die d).jug.solve = some sol) && decide (s.computes d = true) && decide (sol.deadlineNs ≤ s.tb2) && decide (s.follows d = true) && decide (sol.timeLimit = false) && decide (sol.iters < 25)),
     (let d : DieId := .t1
     let s : State := solving .t1 { solve0 with deadlineNs := 0, iters := 25 }
     let sol : Solve := ((s.die d).jug.solve).getD solve0
     decide ((s.die d).jug.solve = some sol) && decide (s.computes d = true) && decide (sol.deadlineNs ≤ s.tb2) && decide (s.follows d = true) && decide (sol.timeLimit = false) && decide (25 ≤ sol.iters)),
     (let d : DieId := .t0
     let s : State := (solving .t0 { solve0 with p := 4 }).onJug .t1 fun y => { y with solve := some { solve0 with points := [point0] } }
     let sol : Solve := ((s.die d).jug.solve).getD solve0
     let k : Nat := 25
     let z : Solve := ((s.die d.other).jug.solve).getD solve0
     decide ((s.die d).jug.solve = some sol) && decide ((s.die d).live = true) && decide ((s.die d.other).live = true) && decide ((s.die d.other).jug.solve = some z) && decide (z.p = sol.p) && decide (∃ q ∈ z.points, q.iter = k)),
     (let d : DieId := .t1
     let s : State := (solving .t1 { solve0 with iters := 25 }).onJug .t0 fun y => { y with lastP := 4, lastIter := 0 }
     let sol : Solve := ((s.die d).jug.solve).getD solve0
     let k : Nat := 0
     decide ((s.die d).jug.solve = some sol) && decide (s.follows d = true) && decide (s.computes d = true) && decide ((s.die d.other).jug.solve = none) && decide ((s.die d.other).jug.lastP = sol.p) && decide ((s.die d.other).jug.lastIter = k) && decide (k = 0)),
     (let d : DieId := .t1
     let s : State := (solving .t1 { solve0 with iters := 25 }).onJug .t0 fun y => { y with lastP := 4, lastIter := 25 }
     let sol : Solve := ((s.die d).jug.solve).getD solve0
     let k : Nat := 25
     decide ((s.die d).jug.solve = some sol) && decide (s.follows d = true) && decide (s.computes d = true) && decide ((s.die d.other).jug.solve = none) && decide ((s.die d.other).jug.lastP = sol.p) && decide ((s.die d.other).jug.lastIter = k) && decide (0 < k) && decide (k ≤ sol.iters)),
     (let d : DieId := .t1
     let s : State := (solving .t1 { solve0 with iters := 25 }).onJug .t0 fun y => { y with lastP := 4, lastIter := 30 }
     let sol : Solve := ((s.die d).jug.solve).getD solve0
     let k : Nat := 30
     decide ((s.die d).jug.solve = some sol) && decide (s.follows d = true) && decide (s.computes d = true) && decide ((s.die d.other).jug.solve = none) && decide ((s.die d.other).jug.lastP = sol.p) && decide ((s.die d.other).jug.lastIter = k) && decide (sol.iters < k)),
     (let d : DieId := .t1
     let s : State := (solving .t1 { solve0 with iters := 25, want := some 30, endNs := 0 }).onJug .t0 fun y => { y with lastP := 4 }
     let sol : Solve := ((s.die d).jug.solve).getD solve0
     let w : Nat := 30
     decide ((s.die d).jug.solve = some sol) && decide (sol.want = some w) && decide (s.follows d = true) && decide (s.computes d = true) && decide (sol.iters < w) && decide ((s.die d.other).jug.lastP = sol.p) && decide (sol.endNs ≤ s.tb2 + 10000))].all id = true := by decide +kernel

theorem witness_SeparationEvents :
    [(let d : DieId := .t0
     let s : State := ripe
     decide ((s.die d).sep.cycle = none)),
     (let d : DieId := .t0
     let s : State := ripe.onDie .t0 fun x => { x with sep := { x.sep with cycle := some { cycle0 with computed := true } } }
     let cy : SepCycle := ((s.die d).sep.cycle).getD cycle0
     decide ((s.die d).sep.cycle.isSome = true) && decide (cy.computed = true)),
     (let d : DieId := .t0
     let s : State := ripe.onDie .t0 fun x => { x with sep := { x.sep with cycle := some cycle0 } }
     let cy : SepCycle := ((s.die d).sep.cycle).getD cycle0
     decide ((s.die d).sep.cycle.isSome = true) && decide (s.computes d = true) && decide (cy.computed = false) && decide (cy.due = false) && decide ((s.die d).noSepPower = false) && decide (s.placementsReady d cy = true)),
     (let d : DieId := .t0
     let s : State := ((ripe.onPartner .t1 fun q => { q with eligible := true }).onDie .t0 fun x => { x with sep := { x.sep with cycle := some cycle0, raw := some [] } }).onDie .t1 fun x => { x with sep := { x.sep with cycle := some cycle0, raw := some [] } }
     let cf : SepCycle := ((s.die d).sep.cycle).getD cycle0
     let cc : SepCycle := ((s.die d.other).sep.cycle).getD cycle0
     let rf : List SepOut := []
     let rc : List SepOut := []
     decide ((s.die d).sep.cycle.isSome = true) && decide ((s.die d.other).sep.cycle.isSome = true) && decide ((s.die d).sep.raw = some rf) && decide ((s.die d.other).sep.raw = some rc) && decide (s.isFlier d = true) && decide (s.dualSep = true) && decide (s.linked = true) && decide ((s.die d).sep.combined = none) && decide (cf.b = cc.b)),
     (let d : DieId := .t1
     let s : State := ((ripe.onPartner .t1 fun q => { q with eligible := true }).onDie .t0 fun x => { x with sep := { x.sep with cycle := some cycle0, combined := some [] } }).onDie .t1 fun x => { x with sep := { x.sep with cycle := some cycle0 } }
     let cf : SepCycle := ((s.die d).sep.cycle).getD cycle0
     let cc : SepCycle := ((s.die d.other).sep.cycle).getD cycle0
     let both : List SepOut := []
     decide ((s.die d).sep.cycle.isSome = true) && decide ((s.die d.other).sep.cycle.isSome = true) && decide ((s.die d.other).sep.combined = some both) && decide (s.isFlier d.other = true) && decide (s.dualSep = true) && decide (s.linked = true) && decide ((s.die d).sep.combined = none) && decide (cf.b = cc.b)),
     (let d : DieId := .t0
     let s : State := ripe.onDie .t0 fun x => { x with sep := { x.sep with arms := x.sep.arms.set 0 { x.sep.arms[0] with reqs := [{ cat := 1, cause := 1, lastFail := 0 }], passNs := some 0 } } }
     let a : Fin 8 := 0
     let t : Nat := 0
     decide (s.computes d = true) && decide (((s.die d).sep.arms[a]).reqs ≠ []) && decide (((s.die d).sep.arms[a]).passNs = some t) && decide (t + ((s.die d).cfg.ssm a.val).releaseNs ≤ s.now)),
     (let s : State := ripe
     let port : BitVec 16 := 0
     decide (∀ n : Fin 32, ¬((s.mw.cfg.sensors[n]).enable = true ∧ (s.mw.cfg.sensors[n]).udpPort = port.toNat))),
     (let s : State := mwWith fun m => { m with cfg := { m.cfg with sensors := m.cfg.sensors.set 0 { m.cfg.sensors[0] with enable := true } } }
     let port : BitVec 16 := 40117
     let p : List Byte := le 4 0x53475448 ++ le 1 1 ++ zeros 1 ++ le 2 0 ++ zeros 4 ++ zeros 10 ++ le 1 0 ++ le 1 0 ++ le 4 (crc32 (le 4 0x53475448 ++ le 1 1 ++ zeros 1 ++ le 2 0 ++ zeros 4 ++ zeros 10 ++ le 1 0 ++ le 1 0 ++ zeros 8)).toNat ++ zeros 4
     let n : Fin 32 := 0
     let t : Nat := 0
     decide ((s.mw.cfg.sensors[n]).enable = true) && decide ((s.mw.cfg.sensors[n]).udpPort = port.toNat) && decide ((s.mw.cfg.sensors[n]).sensorId = rd p 6 2) && decide (∀ k : Fin 32, (s.mw.cfg.sensors[k]).enable = true → (s.mw.cfg.sensors[k]).udpPort = port.toNat → (s.mw.cfg.sensors[k]).sensorId = rd p 6 2 → k = n) && decide (rd p 0 4 = 0x53475448) && decide (rd p 4 1 = 1) && decide (rd p 23 1 ≤ 45) && decide (p.length = 32 + 32 * rd p 23 1) && decide (rd p 24 4 = (crc32 (p.take 24 ++ zeros 4 ++ p.drop 28)).toNat) && decide (bits (rd p 22 1) 3 0 ≤ bits (rd p 22 1) 7 4) && decide (rdStamp p 12 = some t) && decide (t ≤ s.tb0 + 1000000)),
     (let s : State := ripe
     let bytes : List Byte := []
     decide (s.peerAccept 2 bytes = none)),
     (let s : State := mwWith fun m => { m with cfg := { m.cfg with peers := { m.cfg.peers with entries := m.cfg.peers.entries.set 1 { m.cfg.peers.entries[1] with enable := true } } }, net := { m.net with peersOn := true } }
     let bytes : List Byte := le 4 0x51504B31 ++ le 1 1 ++ le 1 2 ++ le 1 1 ++ le 1 0 ++ le 4 1 ++ le 2 24 ++ zeros 2 ++ le 1 1 ++ le 1 1 ++ zeros 22
     let body : List Byte := le 1 1 ++ le 1 1 ++ zeros 22
     let k : Fin 4 := 1
     decide (s.peerAccept 2 bytes = some (k, body)) && decide (rd body 0 1 = 1) && decide (rd body 1 1 = k.val) && decide (rd body 2 1 ≤ 64) && decide (body.length = 24 + 16 * rd body 2 1))].all id = true := by decide +kernel

theorem witness_DispatchEvents :
    [(let d : DieId := .t0
     let k : Fin 32 := 0
     let s : State := ripe.onCore core0 fun k => { k with next := some item }
     let i : Item := item
     let u : State := (s.useArray d 0 (clusterOf k))
     let n : Item := (u.die d).prefetch k i
     decide (s.computes d = true) && decide ((s.die d).cores[k].next ≠ none) && decide ((s.die d).cores[k].prefetched = false) && decide ((u.die d).cores[k].next = some i) && decide (n = (u.die d).prefetch k i)),
     (let d : DieId := .t0
     let k : Fin 32 := 0
     let s : State := ripe
     decide ((s.die d).cores[k].next = none)),
     (let d : DieId := .t0
     let n : Fin 1024 := 0
     let s : State := released entry0 inst0
     let e : ProgEntry := entry0
     let i : Inst := inst0
     let at_ : Nat := 1000
     let u : State := (s.ringsSettle)
     decide ((u.die d).entryOf i = some e) && decide ((u.die d).disp.insts.find? (fun i => i.entry == n.val && !i.released && !i.state.ended) = some i) && decide (u.computes d = true) && decide (u.reference d i e = some at_) && decide (at_ + e.offsetNs ≤ u.now) && decide (e.cls ≠ 0) && decide ((u.die d).disp.repair = [])),
     (let d : DieId := .t0
     let n : Fin 1024 := 0
     let s : State := released { entry0 with offsetNs := 10 ^ 15 } inst0
     let e : ProgEntry := { entry0 with offsetNs := 10 ^ 15 }
     let i : Inst := inst0
     let at_ : Nat := 1000
     let u : State := (s.ringsSettle)
     decide ((u.die d).entryOf i = some e) && decide ((u.die d).disp.insts.find? (fun i => i.entry == n.val && !i.released && !i.state.ended) = some i) && decide (u.reference d i e = some at_) && decide (u.now < at_ + e.offsetNs)),
     (let d : DieId := .t0
     let n : Fin 1024 := 0
     let s : State := released entry0 { inst0 with b := 0 }
     let e : ProgEntry := entry0
     let i : Inst := { inst0 with b := 0 }
     decide ((s.die d).entryOf i = some e) && decide (s.computes d = true) && decide ((s.die d).disp.insts = [i]) && decide (i.entry = n.val) && decide (i.state = .waiting) && decide (s.inTime d i e = false)),
     (let d : DieId := .t0
     let k : Fin 32 := 0
     let s : State := ripe
     decide ((s.die d).cores[k].run = none)),
     (let d : DieId := .t0
     let k : Fin 32 := 0
     let s : State := (released entry0 { inst0 with state := .exited 0 }).onCore core0 fun k => { k with run := some { item with cls := 1 } }
     let i : Item := { item with cls := 1 }
     let n : Inst := { inst0 with state := .exited 0 }
     decide (s.computes d = true) && decide ((s.die d).cores[k].run = some i) && decide (i.retried = false) && decide ((s.die d).disp.insts.find? (fun n => n.state == .exited k.val) = some n) && decide (s.beforeDeadline d n.b i.cls = true) && decide (n.frozen = none) && decide (0 < i.cls)),
     (let d : DieId := .t1
     let n : Fin 1024 := 0
     let s : State := (cfgWith fun c => { c with program := c.program.set 0 entry0 }).onDie .t1 fun x => { x with disp := { x.disp with repair := [(0, true)] } }
     let e : ProgEntry := entry0
     decide (s.computes d = true) && decide (s.isFlier d = false) && decide ((s.die d).disp.repair = [(n.val, true)]) && decide ((s.die d).cfg.program.find n.val = some e)),
     (let d : DieId := .t0
     let s : State := ripe
     decide ((s.die d).disp.repair = [])),
     (let u : UnitId := ⟨.t0, 1, 0, 0⟩
     let s : State := ripe
     let d : DieId := .t0
     decide (s.unitExists u = true) && decide (trapezeDie u.die = some d) && decide ((s.die d).works = true) && decide ((s.die d).fenced.contains (u.region.val, u.cluster.val, u.unit.val) = false) && decide (s.quiet d 1 = true) && decide (u.region ≠ 0)),
     (let u : UnitId := ⟨.mw, 0, 0, 0⟩
     let s : State := ripe
     decide (s.unitExists u = true) && decide (trapezeDie u.die = none) && decide (s.quietMw 1 = true)),
     (let u : UnitId := ⟨.t0, 0, 7, 0⟩
     let s : State := ripe
     decide (s.unitExists u = false))].all id = true := by decide +kernel

theorem witness_RingMasterEvents :
    [(let r : Fin 8 := 0
     let p : RingPort := .a
     let s : State := ripe
     let x := s.ring r
     decide (r.val < s.rings) && decide ((x.port p).linkUp = false) && decide (¬(x.state = .node ∧ x.asNode.state = .init))),
     (let r : Fin 8 := 7
     let s : State := mwWith fun m => { m with fuses := { m.fuses with variant := 2 } }
     decide (s.rings ≤ r.val)),
     (let r : Fin 8 := 0
     let p : RingPort := .a
     let s : State := ringWith fun y => { y with portA := { y.portA with linkUp := true } }
     let x := s.ring r
     decide ((x.port p).linkUp = true)),
     (let r : Fin 8 := 0
     let p : RingPort := .a
     let s : State := ripe
     let x := s.ring r
     decide ((x.port p).linkUp = false)),
     (let r : Fin 8 := 0
     let p : RingPort := .a
     let s : State := ringWith fun y => { y with portA := { y.portA with linkUp := true } }
     let x := s.ring r
     decide ((x.port p).loopback = true) && decide ((x.port p).linkUp = true) && decide ((x.port p).isolated = false) && decide ((x.port p).upNs + 1000000 ≤ s.now)),
     (let r : Fin 8 := 0
     let p : RingPort := .a
     let s : State := ringWith fun y => { y with portA := { y.portA with loopback := false } }
     let x := s.ring r
     decide ((x.port p).loopback = false)),
     (let r : Fin 8 := 0
     let p : RingPort := .a
     let s : State := ripe
     let x := s.ring r
     decide (x.state = .off ∨ x.state = .node ∨ (x.port p).linkUp = false)),
     (let r : Fin 8 := 0
     let p : RingPort := .a
     let s : State := sending id
     let f : List Byte := []
     let codes : BitVec 8 := 0
     let elastic : Bool := false
     let ok : Bool := (((s.ringReceive r p codes elastic).ringSettle r).ringCount r p f).2.2
     let x := s.ring r
     decide (x.state ≠ .off) && decide (x.state ≠ .node) && decide ((x.port p).linkUp = true) && decide (ok = false)),
     (let r : Fin 8 := 0
     let p : RingPort := .a
     let s : State := sending id
     let f : List Byte := ringFrame 2 1 0 0 0
     let codes : BitVec 8 := 0
     let elastic : Bool := false
     let v : State := (((s.ringReceive r p codes elastic).ringSettle r).ringCount r p f).1
     let u : State := (v.readMwArray 0 r.val true).1
     let ok : Bool := (((s.ringReceive r p codes elastic).ringSettle r).ringCount r p f).2.2
     let lost : Bool := (v.readMwArray 0 r.val true).2.1
     let x := s.ring r
     decide (x.state ≠ .off) && decide (x.state ≠ .node) && decide ((x.port p).linkUp = true) && decide (ok = true) && decide (lost = false) && decide (rd f 2 1 ≠ u.masterId r.val)),
     (let r : Fin 8 := 0
     let p : RingPort := .a
     let s : State := sending fun y => { y with state := .listen }
     let f : List Byte := ringFrame 2 0 0 0 0
     let codes : BitVec 8 := 0
     let elastic : Bool := false
     let v : State := (((s.ringReceive r p codes elastic).ringSettle r).ringCount r p f).1
     let u : State := (v.readMwArray 0 r.val true).1
     let ok : Bool := (((s.ringReceive r p codes elastic).ringSettle r).ringCount r p f).2.2
     let lost : Bool := (v.readMwArray 0 r.val true).2.1
     let x := s.ring r
     decide (x.state ≠ .off) && decide (x.state ≠ .node) && decide ((x.port p).linkUp = true) && decide (ok = true) && decide (lost = false) && decide (rd f 2 1 = u.masterId r.val) && decide (x.sends = false)),
     (let r : Fin 8 := 0
     let p : RingPort := .a
     let s : State := sending id
     let f : List Byte := ringFrame 2 0 0 0 0
     let codes : BitVec 8 := 0
     let elastic : Bool := false
     let v : State := (((s.ringReceive r p codes elastic).ringSettle r).ringCount r p f).1
     let u : State := (v.readMwArray 0 r.val true).1
     let ok : Bool := (((s.ringReceive r p codes elastic).ringSettle r).ringCount r p f).2.2
     let lost : Bool := (v.readMwArray 0 r.val true).2.1
     let x := s.ring r
     decide (x.state ≠ .off) && decide (x.state ≠ .node) && decide ((x.port p).linkUp = true) && decide (ok = true) && decide (lost = false) && decide (rd f 2 1 = u.masterId r.val) && decide (x.sends = true) && decide (x.sentFrom = none)),
     (let r : Fin 8 := 0
     let p : RingPort := .a
     let s : State := sending fun y => { y with sentFrom := some 0, sentCycle := 6 }
     let f : List Byte := ringFrame 1 0 6 0 0
     let codes : BitVec 8 := 0
     let elastic : Bool := false
     let v : State := (((s.ringReceive r p codes elastic).ringSettle r).ringCount r p f).1
     let u : State := (v.readMwArray 0 r.val true).1
     let ok : Bool := (((s.ringReceive r p codes elastic).ringSettle r).ringCount r p f).2.2
     let lost : Bool := (v.readMwArray 0 r.val true).2.1
     let b0 := 0
     let x := s.ring r
     decide (x.state ≠ .off) && decide (x.state ≠ .node) && decide ((x.port p).linkUp = true) && decide (ok = true) && decide (lost = false) && decide (rd f 2 1 = u.masterId r.val) && decide (x.sends = true) && decide (x.sentFrom = some b0) && decide (b0 ≤ x.sentCycle) && decide (rd f 4 4 = x.sentCycle % 2 ^ 32) && decide (rd f 0 1 ≠ 2)),
     (let r : Fin 8 := 0
     let s : State := (sending fun y => { y with mailTaken := false }).onMw fun m => { m with b := 7 }
     let box : List Byte := le 1 0 ++ le 1 255 ++ le 1 0 ++ zeros 59 ++ le 2 (crc16 (le 1 0 ++ le 1 255 ++ le 1 0 ++ zeros 59)).toNat
     let n : Fin 16 := 0
     let u : State := (s.onRing r fun y => { y with mailTaken := true }).mailAck r n (rd box 5 1)
     let x := s.ring r
     decide (x.sends = true) && decide (x.mailTaken = false) && decide (s.mw.b % 2 ^ 32 % 2 = 1) && decide (x.counted ≠ 0) && decide (box.length = 64) && decide (crcEnds box = true) && decide (rd box 0 1 = n.val) && decide (n.val = (s.mw.b % 2 ^ 32 - 1) / 2 % x.counted) && decide (rd box 1 1 = 255) && decide (rd box 3 1 ≤ 56) && decide (rd box 2 1 = 0 ∨ ((u.ring r).nodes[n]).rxSeq = some (rd box 4 1))),
     (let r : Fin 8 := 0
     let s : State := (sending fun y => { y with mailTaken := false }).onMw fun m => { m with b := 7 }
     let box : List Byte := le 1 0 ++ le 1 255 ++ le 1 1 ++ zeros 59 ++ le 2 (crc16 (le 1 0 ++ le 1 255 ++ le 1 1 ++ zeros 59)).toNat
     let n : Fin 16 := 0
     let u : State := (s.onRing r fun y => { y with mailTaken := true }).mailAck r n (rd box 5 1)
     let x := s.ring r
     decide (x.sends = true) && decide (x.mailTaken = false) && decide (s.mw.b % 2 ^ 32 % 2 = 1) && decide (x.counted ≠ 0) && decide (box.length = 64) && decide (crcEnds box = true) && decide (rd box 0 1 = n.val) && decide (n.val = (s.mw.b % 2 ^ 32 - 1) / 2 % x.counted) && decide (rd box 1 1 = 255) && decide (rd box 3 1 ≤ 56) && decide (rd box 2 1 ≠ 0) && decide (((u.ring r).nodes[n]).rxSeq ≠ some (rd box 4 1))),
     (let r : Fin 8 := 0
     let s : State := ripe
     let x := s.ring r
     decide (x.sends = false ∨ x.mailTaken = true ∨ s.mw.b % 2 ^ 32 % 2 = 0)),
     (let r : Fin 8 := 0
     let s : State := ringWith fun y => { y with nodes := y.nodes.set 0 { y.nodes[0] with mail := [mail0] } }
     let n : Fin 16 := 0
     let m : MailOut := mail0
     let rest : List MailOut := []
     let x := s.ring r
     decide ((x.nodes[n]).mail = m :: rest) && decide (m.turns < m.limit)),
     (let r : Fin 8 := 0
     let s : State := ringWith fun y => { y with nodes := y.nodes.set 0 { y.nodes[0] with mail := [{ mail0 with turns := 16 }] } }
     let n : Fin 16 := 0
     let m : MailOut := { mail0 with turns := 16 }
     let rest : List MailOut := []
     let x := s.ring r
     decide ((x.nodes[n]).mail = m :: rest) && decide (m.limit ≤ m.turns) && decide (m.report = none)),
     (let r : Fin 8 := 0
     let s : State := ringWith fun y => { y with nodes := y.nodes.set 0 { y.nodes[0] with mail := [{ mail0 with turns := 16, report := some 7 }] } }
     let n : Fin 16 := 0
     let m : MailOut := { mail0 with turns := 16, report := some 7 }
     let rest : List MailOut := []
     let tag := 7
     let x := s.ring r
     decide ((x.nodes[n]).mail = m :: rest) && decide (m.limit ≤ m.turns) && decide (m.report = some tag)),
     (let r : Fin 8 := 0
     let s : State := ringWith fun y => { y with state := .listen }
     let x := s.ring r
     decide (x.state = .listen) && decide (x.left = 0)),
     (let r : Fin 8 := 0
     let s : State := ringWith fun y => { y with state := .backoff }
     let x := s.ring r
     decide (x.state = .backoff) && decide (x.left = 0)),
     (let r : Fin 8 := 0
     let s : State := (ringWith fun y => { y with state := .discover, broken := true, countMade := true }).onMw fun m => { m with image := { m.image with applied := true } }
     let x := s.ring r
     decide (x.state = .discover) && decide (s.imageApplied = true) && decide (x.countMade = true) && decide (x.mismatched = false) && decide (x.delayed = false) && decide (s.countOk r = true) && decide (s.identFail r = none) && decide (s.delayOk r = true) && decide (x.dMeas ≠ 0 ∨ x.broken = true) && decide (∀ n ∈ s.mw.cfg.windows r.val, (x.nodes[n]).acked = true)),
     (let r : Fin 8 := 0
     let s : State := ringWith fun y => { y with left := 5 }
     let x := s.ring r
     decide (x.left ≠ 0)),
     (let r : Fin 8 := 0
     let s : State := ripe
     let x := s.ring r
     decide (x.state ≠ .discover))].all id = true := by decide +kernel

theorem witness_RingNodeEvents :
    [(let r : Fin 8 := 0
     let s : State := ripe
     let x := s.ring r
     decide (x.state ≠ .node)),
     (let r : Fin 8 := 0
     let p : RingPort := .a
     let f : List Byte := zeros 36
     let codes : BitVec 8 := 0
     let elastic : Bool := false
     let s : State := nodeWith fun n => { n with state := .listen }
     let u : State := ((s.ringReceive r p codes elastic).ringCount r p f).1
     let x := s.ring r
     let n := x.asNode
     decide (x.state = .node) && decide ((x.port p).linkUp = true) && decide ((x.port p).isolated = false) && decide (36 ≤ f.length) && decide (n.state ≠ .init) && decide (s.quietMw 4 = true) && decide (((s.ringReceive r p codes elastic).ringCount r p f).2.2 = false) && decide ((u.ring r).portB.closed = false)),
     (let r : Fin 8 := 0
     let p : RingPort := .a
     let f : List Byte := ringFrame 2 1 6 0 0
     let c : Nat := 5
     let s : State := nodeWith fun n => { n with state := .listen, lastSeen := some (1, 0, 5) }
     let x := s.ring r
     let n := x.asNode
     decide (x.state = .node) && decide ((x.port p).linkUp = true) && decide ((x.port p).isolated = false) && decide (36 ≤ f.length) && decide (n.state ≠ .init) && decide (s.quietMw 4 = true) && decide (n.state = .listen) && decide (n.master = none) && decide (headerOk f = true) && decide (frameCheck f = .good) && decide (n.lastSeen = some (rd f 2 1, rd f 3 1, c)) && decide ((c + 1) % 2 ^ 32 = rd f 4 4)),
     (let r : Fin 8 := 0
     let t : Nat := 0
     let b : List Byte := [0x10]
     let s : State := nodeWith fun n => { n with state := .operational, timer := some 0, outPart := some [0x10] }
     let x := s.ring r
     let n := x.asNode
     decide (x.state = .node) && decide (n.timer = some t) && decide (t ≤ s.now) && decide (n.state = .operational) && decide (n.outPart = some b) && decide (bit (rd b 0 1) 4 = true) && decide (rd b 0 1 % 16 ≠ 15)),
     (let r : Fin 8 := 0
     let t : Nat := 0
     let s : State := nodeWith fun n => { n with state := .operational, timer := some 0 }
     let x := s.ring r
     let n := x.asNode
     decide (x.state = .node) && decide (n.timer = some t) && decide (t ≤ s.now) && decide (n.state = .operational) && decide (n.outPart = none)),
     (let r : Fin 8 := 0
     let t : Nat := 0
     let s : State := nodeWith fun n => { n with state := .joined, timer := some 0 }
     let x := s.ring r
     let n := x.asNode
     decide (x.state = .node) && decide (n.timer = some t) && decide (t ≤ s.now) && decide (n.state ≠ .operational)),
     (let r : Fin 8 := 0
     let s : State := nodeWith fun n => { n with state := .operational, missing := 3 }
     let x := s.ring r
     let n := x.asNode
     decide (x.state = .node) && decide (n.state = .operational) && decide (n.lossLimit ≤ n.missing)),
     (let r : Fin 8 := 0
     let t := 0
     let s : State := nodeWith fun n => { n with isolateNs := some 0 }
     let x := s.ring r
     let n := x.asNode
     decide (n.isolateNs = some t) && decide (t ≤ s.now)),
     (let r : Fin 8 := 0
     let s : State := ripe
     let x := s.ring r
     let n := x.asNode
     decide (n.isolateNs = none))].all id = true := by decide +kernel

theorem witness_CellNetworkEvents :
    [(let p : Fin 6 := 0
     let s : State := cellWith fun q => { q with raw := true }
     let sync : Bool := true
     let partner : Bool := true
     let x := s.mw.net.ports[p]
     let up : Bool := ((s.mw.cfg.ports[p]).linkUp sync partner)
     decide ((s.mw.cfg.ports[p]).mode ≠ 0) && decide (x.raw = up)),
     (let p : Fin 6 := 0
     let s : State := cellWith id
     let sync : Bool := true
     let partner : Bool := true
     let x := s.mw.net.ports[p]
     let up : Bool := ((s.mw.cfg.ports[p]).linkUp sync partner)
     decide ((s.mw.cfg.ports[p]).mode ≠ 0) && decide (x.raw = false) && decide (up = true)),
     (let p : Fin 6 := 0
     let s : State := cellWith fun q => { q with raw := true }
     let sync : Bool := false
     let partner : Bool := true
     let x := s.mw.net.ports[p]
     let up : Bool := ((s.mw.cfg.ports[p]).linkUp sync partner)
     decide ((s.mw.cfg.ports[p]).mode ≠ 0) && decide (x.raw = true) && decide (up = false)),
     (let p : Fin 6 := 0
     let s : State := cellWith fun q => { q with been := true }
     let x := s.mw.net.ports[p]
     decide (s.mw.cfg.portMode p.val ≠ 0) && decide (x.been = true) && decide (x.raw = false) && decide (x.rawNs + 1000000 ≤ s.now)),
     (let p : Fin 6 := 0
     let s : State := cellWith fun q => { q with raw := true }
     let x := s.mw.net.ports[p]
     decide (s.mw.cfg.portMode p.val ≠ 0) && decide (x.reported = false) && decide (x.raw = true) && decide (x.rawNs + 10000000 ≤ s.now)),
     (let p : Fin 6 := 0
     let s : State := ripe
     decide (s.mw.cfg.portMode p.val = 0)),
     (let p : Fin 6 := 0
     let s : State := ripe
     decide ((s.mw.cfg.ports[p]).mode = 0)),
     (let p : Fin 6 := 0
     let s : State := cellWith fun q => { q with raw := true }
     let f : List Byte := []
     let x := s.mw.net.ports[p]
     decide (s.mw.cfg.portMode p.val ≠ 0) && decide (x.raw = true) && decide (s.quietMw 5 = true) && decide (s.quietMw 0 = true) && decide (fcsOk f = false) && decide (f.length ≤ 1528)),
     (let p : Fin 6 := 0
     let s : State := cellWith fun q => { q with raw := true }
     let f : List Byte := ethFrame 1600
     let x := s.mw.net.ports[p]
     decide (s.mw.cfg.portMode p.val ≠ 0) && decide (x.raw = true) && decide (s.quietMw 5 = true) && decide (s.quietMw 0 = true) && decide (1528 < f.length)),
     (let p : Fin 6 := 0
     let s : State := cellWith fun q => { q with raw := true }
     let f : List Byte := ethFrame 10
     let x := s.mw.net.ports[p]
     decide (s.mw.cfg.portMode p.val ≠ 0) && decide (x.raw = true) && decide (s.quietMw 5 = true) && decide (s.quietMw 0 = true) && decide (fcsOk f = true) && decide (f.length < 64)),
     (let p : Fin 6 := 0
     let s : State := (cellWith fun q => { q with raw := true }).onMw fun m => { m with cfg := { m.cfg with ports := m.cfg.ports.set 0 { m.cfg.ports[0] with taggedOnly := true } } }
     let f : List Byte := ethFrame 50
     let x := s.mw.net.ports[p]
     let i : Option EthFrame := ((s.mw.cfg.ports[p]).ingress (f.take (f.length - 4)))
     decide (s.mw.cfg.portMode p.val ≠ 0) && decide (x.raw = true) && decide (s.quietMw 5 = true) && decide (s.quietMw 0 = true) && decide (fcsOk f = true) && decide (64 ≤ f.length) && decide (f.length ≤ 1528) && decide (i = none)),
     (let p : Fin 6 := 0
     let s : State := (cellWith fun q => { q with raw := true }).onMw fun m => { m with cfg := { m.cfg with vlans := Vector.replicate 64 {} } }
     let f : List Byte := ethFrame 50
     let x := s.mw.net.ports[p]
     let i : Option EthFrame := ((s.mw.cfg.ports[p]).ingress (f.take (f.length - 4)))
     let g : EthFrame := i.getD { dst := 0, src := 0, vid := 0, pcp := 0, rest := [] }
     decide (s.mw.cfg.portMode p.val ≠ 0) && decide (x.raw = true) && decide (s.quietMw 5 = true) && decide (s.quietMw 0 = true) && decide (fcsOk f = true) && decide (64 ≤ f.length) && decide (f.length ≤ 1528) && decide (i = some g) && decide (s.mw.cfg.vlan g.vid = none)),
     (let p : Fin 6 := 0
     let s : State := (cellWith fun q => { q with raw := true }).onMw fun m => { m with cfg := { m.cfg with vlans := m.cfg.vlans.set 0 { vid := 1, members := 0 } } }
     let f : List Byte := ethFrame 50
     let v : CfgVlan := { vid := 1, members := 0 }
     let x := s.mw.net.ports[p]
     let i : Option EthFrame := ((s.mw.cfg.ports[p]).ingress (f.take (f.length - 4)))
     let g : EthFrame := i.getD { dst := 0, src := 0, vid := 0, pcp := 0, rest := [] }
     decide (s.mw.cfg.portMode p.val ≠ 0) && decide (x.raw = true) && decide (s.quietMw 5 = true) && decide (s.quietMw 0 = true) && decide (fcsOk f = true) && decide (64 ≤ f.length) && decide (f.length ≤ 1528) && decide (i = some g) && decide (s.mw.cfg.vlan g.vid = some v) && decide (bit v.members p.val = false)),
     (let p : Fin 6 := 0
     let s : State := (cellWith fun q => { q with raw := true }).onMw fun m => { m with cfg := { m.cfg with vlans := m.cfg.vlans.set 0 { vid := 1, members := 3 } } }
     let f : List Byte := ethFrame 50
     let v : CfgVlan := { vid := 1, members := 3 }
     let x := s.mw.net.ports[p]
     let u : State := (s.onCell p (fun q => { q with rx := sat32 (q.rx + 1) }))
     let i : Option EthFrame := ((s.mw.cfg.ports[p]).ingress (f.take (f.length - 4)))
     let g : EthFrame := i.getD { dst := 0, src := 0, vid := 0, pcp := 0, rest := [] }
     let w : State := (u.onNet (fun y => y.learn g.vid g.src p.val s.now))
     decide (s.mw.cfg.portMode p.val ≠ 0) && decide (x.raw = true) && decide (s.quietMw 5 = true) && decide (s.quietMw 0 = true) && decide (fcsOk f = true) && decide (64 ≤ f.length) && decide (f.length ≤ 1528) && decide (i = some g) && decide (s.mw.cfg.vlan g.vid = some v) && decide (bit v.members p.val = true) && decide ((w.forward v p.val g).contains 6 = false)),
     (let s : State := mwWith fun m => { m with cfg := { m.cfg with switch := { m.cfg.switch with ipv4 := 0x0A000001 } } }
     let f : List Byte := zeros 6 ++ le 1 0 ++ le 1 1 ++ zeros 16 ++ be 4 0x0A000001
     decide (28 ≤ f.length) && decide (beNat ((f.drop 6).take 2) = 1) && decide ((f.drop 24).take 4 = be 4 s.mw.cfg.switch.ipv4.toNat) && decide (s.mw.cfg.switch.ipv4 ≠ 0)),
     (let s : State := ripe
     decide (s.mw.cfg.switch.ipv4 = 0))].all id = true := by decide +kernel

theorem witness_PeerEvents :
    [(let s : State := mwWith fun m => { m with net := { m.net with peersOn := true } }
     decide (s.mw.net.peersOn = true) && decide (s.mw.net.hbNs + s.mw.cfg.peers.hbPeriod ≤ s.now)),
     (let s : State := ripe
     decide (s.mw.net.peersOn = false)),
     (let s : State := mwWith fun m => { m with net := { m.net with peers := m.net.peers.set 1 { m.net.peers[1] with live := true } } }
     let p : Fin 4 := 1
     decide ((s.mw.net.peers[p]).live = true) && decide ((s.mw.net.peers[p]).lastNs + s.mw.cfg.peers.hbMiss * s.mw.cfg.peers.hbPeriod ≤ s.now)),
     (let s : State := mwWith fun m => { m with net := { m.net with peers := m.net.peers.set 1 { m.net.peers[1] with live := true, lastNs := 5000000000000 } } }
     let p : Fin 4 := 1
     decide ((s.mw.net.peers[p]).live = true) && decide (s.now < (s.mw.net.peers[p]).lastNs + s.mw.cfg.peers.hbMiss * s.mw.cfg.peers.hbPeriod)),
     (let s : State := ripe
     let f : List Byte := []
     decide (s.peerAccept 1 f = none) && decide (rd f 5 1 ≠ 2)),
     (let s : State := ripe
     let f : List Byte := zeros 5 ++ le 1 2
     decide (s.peerAccept 1 f = none) && decide (rd f 5 1 = 2)),
     (let s : State := (mwWith fun m => { m with cfg := { m.cfg with peers := { m.cfg.peers with entries := m.cfg.peers.entries.set 1 { m.cfg.peers.entries[1] with enable := true } } }, net := { m.net with peersOn := true } }).onMw fun m => { m with net := { m.net with peers := m.net.peers.set 1 { m.net.peers[1] with live := true } } }
     let f : List Byte := le 4 0x51504B31 ++ le 1 1 ++ le 1 1 ++ le 1 1 ++ le 1 0 ++ le 4 1 ++ le 2 48 ++ zeros 2 ++ (le 1 2 ++ zeros 15 ++ zeros 10 ++ zeros 10 ++ zeros 10 ++ zeros 2)
     let body : List Byte := le 1 2 ++ zeros 15 ++ zeros 10 ++ zeros 10 ++ zeros 10 ++ zeros 2
     let p : Fin 4 := 1
     let tx : Nat := 0
     let eTx : Nat := 0
     let eRx : Nat := 0
     decide (s.peerAccept 1 f = some (p, body)) && decide (body.length = 48) && decide (rdStamp body 16 = some tx) && decide (rdStamp body 26 = some eTx) && decide (rdStamp body 36 = some eRx) && decide (rd body 0 1 = 2) && decide (bit (rd body 1 1) 0 = false) && decide ((s.mw.net.peers[p]).live = true) && decide (eTx = 0)),
     (let s : State := (mwWith fun m => { m with cfg := { m.cfg with peers := { m.cfg.peers with entries := m.cfg.peers.entries.set 1 { m.cfg.peers.entries[1] with enable := true } } }, net := { m.net with peersOn := true } }).onMw fun m => { m with net := { m.net with peers := m.net.peers.set 1 { m.net.peers[1] with live := true } } }
     let f : List Byte := le 4 0x51504B31 ++ le 1 1 ++ le 1 1 ++ le 1 1 ++ le 1 0 ++ le 4 1 ++ le 2 48 ++ zeros 2 ++ (le 1 2 ++ zeros 15 ++ zeros 10 ++ (le 6 1 ++ zeros 4) ++ zeros 10 ++ zeros 2)
     let body : List Byte := le 1 2 ++ zeros 15 ++ zeros 10 ++ (le 6 1 ++ zeros 4) ++ zeros 10 ++ zeros 2
     let p : Fin 4 := 1
     let tx : Nat := 0
     let eTx : Nat := 1000000000
     let eRx : Nat := 0
     decide (s.peerAccept 1 f = some (p, body)) && decide (body.length = 48) && decide (rdStamp body 16 = some tx) && decide (rdStamp body 26 = some eTx) && decide (rdStamp body 36 = some eRx) && decide (rd body 0 1 = 2) && decide (bit (rd body 1 1) 0 = false) && decide ((s.mw.net.peers[p]).live = true) && decide (eTx ≠ 0)),
     (let s : State := (mwWith fun m => { m with cfg := { m.cfg with peers := { m.cfg.peers with entries := m.cfg.peers.entries.set 1 { m.cfg.peers.entries[1] with enable := true } } }, net := { m.net with peersOn := true } }).onMw fun m => { m with net := { m.net with peers := m.net.peers.set 1 { m.net.peers[1] with live := false } } }
     let f : List Byte := le 4 0x51504B31 ++ le 1 1 ++ le 1 1 ++ le 1 1 ++ le 1 0 ++ le 4 1 ++ le 2 48 ++ zeros 2 ++ (le 1 2 ++ zeros 15 ++ zeros 10 ++ zeros 10 ++ zeros 10 ++ zeros 2)
     let body : List Byte := le 1 2 ++ zeros 15 ++ zeros 10 ++ zeros 10 ++ zeros 10 ++ zeros 2
     let p : Fin 4 := 1
     let tx : Nat := 0
     let eTx : Nat := 0
     let eRx : Nat := 0
     decide (s.peerAccept 1 f = some (p, body)) && decide (body.length = 48) && decide (rdStamp body 16 = some tx) && decide (rdStamp body 26 = some eTx) && decide (rdStamp body 36 = some eRx) && decide (rd body 0 1 = 2) && decide (bit (rd body 1 1) 0 = false) && decide ((s.mw.net.peers[p]).live = false) && decide ((s.mw.net.peers[p]).everLost = false) && decide (eTx = 0))].all id = true := by decide +kernel

theorem witness_TimeEvents :
    [(let i : Fin 2 := 0
     let s : State := ripe
     let m : PtpMsg := { port := 0, bytes := le 1 0 ++ zeros 5 ++ le 1 0 ++ zeros 37, sub := 0 }
     let c := s.mw.cfg.ptp i
     let linked := (s.mw.net.ports[m.port]).raw = true ∧ s.mw.cfg.portMode m.port.val ≠ 0
     let b : List Byte := (m.bytes)
     let own := c.enable = true ∧ 44 ≤ b.length ∧ rd b 0 1 / 16 = c.sdo ∧ rd b 4 1 = c.domain ∧ (c.profile = 1 → c.ptpPort = m.port.val)
     decide (¬linked ∨ ¬own)),
     (let i : Fin 2 := 0
     let m : PtpMsg := { port := 0, bytes := le 1 12 ++ zeros 5 ++ le 1 0 ++ zeros 37, sub := 0 }
     let s : State := (cellWith fun q => { q with raw := true }).onMw fun m => { m with cfg := { m.cfg with ptp0 := { m.cfg.ptp0 with enable := true }, ports := m.cfg.ports.set 0 { m.cfg.ports[0] with mode := 1 } } }
     let c := s.mw.cfg.ptp i
     let linked := (s.mw.net.ports[m.port]).raw = true ∧ s.mw.cfg.portMode m.port.val ≠ 0
     let b : List Byte := (m.bytes)
     let own := c.enable = true ∧ 44 ≤ b.length ∧ rd b 0 1 / 16 = c.sdo ∧ rd b 4 1 = c.domain ∧ (c.profile = 1 → c.ptpPort = m.port.val)
     decide (linked) && decide (own) && decide (ptpUnsupported b = true)),
     (let i : Fin 2 := 0
     let m : PtpMsg := { port := 0, bytes := le 1 0 ++ zeros 5 ++ le 1 0 ++ zeros 37, sub := 0 }
     let s : State := (cellWith fun q => { q with raw := true }).onMw fun m => { m with cfg := { m.cfg with ptp0 := { m.cfg.ptp0 with enable := true }, ports := m.cfg.ports.set 0 { m.cfg.ports[0] with mode := 1 } }, ptp := m.ptp.set 0 { m.ptp[0] with best := some { priority1 := 0, cls := 0, accuracy := 0, variance := 0, priority2 := 0, identity := 0, steps := 0, port := 0 } } }
     let k : PtpClock := { priority1 := 0, cls := 0, accuracy := 0, variance := 0, priority2 := 0, identity := 0, steps := 0, port := 0 }
     let c := s.mw.cfg.ptp i
     let p := s.mw.ptp[i]
     let linked := (s.mw.net.ports[m.port]).raw = true ∧ s.mw.cfg.portMode m.port.val ≠ 0
     let b : List Byte := (m.bytes)
     let own := c.enable = true ∧ 44 ≤ b.length ∧ rd b 0 1 / 16 = c.sdo ∧ rd b 4 1 = c.domain ∧ (c.profile = 1 → c.ptpPort = m.port.val)
     decide (linked) && decide (own) && decide (ptpUnsupported b = false) && decide (s.receives i = true) && decide (p.best = some k) && decide (k.port = ptpSource b) && decide (ptpKind b = 0) && decide (ptpTwoStep b = false)),
     (let i : Fin 2 := 0
     let m : PtpMsg := { port := 0, bytes := le 1 0 ++ zeros 5 ++ le 1 2 ++ zeros 37, sub := 0 }
     let s : State := (cellWith fun q => { q with raw := true }).onMw fun m => { m with cfg := { m.cfg with ptp0 := { m.cfg.ptp0 with enable := true }, ports := m.cfg.ports.set 0 { m.cfg.ports[0] with mode := 1 } }, ptp := m.ptp.set 0 { m.ptp[0] with best := some { priority1 := 0, cls := 0, accuracy := 0, variance := 0, priority2 := 0, identity := 0, steps := 0, port := 0 } } }
     let k : PtpClock := { priority1 := 0, cls := 0, accuracy := 0, variance := 0, priority2 := 0, identity := 0, steps := 0, port := 0 }
     let c := s.mw.cfg.ptp i
     let p := s.mw.ptp[i]
     let linked := (s.mw.net.ports[m.port]).raw = true ∧ s.mw.cfg.portMode m.port.val ≠ 0
     let b : List Byte := (m.bytes)
     let own := c.enable = true ∧ 44 ≤ b.length ∧ rd b 0 1 / 16 = c.sdo ∧ rd b 4 1 = c.domain ∧ (c.profile = 1 → c.ptpPort = m.port.val)
     decide (linked) && decide (own) && decide (ptpUnsupported b = false) && decide (s.receives i = true) && decide (p.best = some k) && decide (k.port = ptpSource b) && decide (ptpKind b = 0) && decide (ptpTwoStep b = true)),
     (let i : Fin 2 := 0
     let m : PtpMsg := { port := 0, bytes := le 1 8 ++ zeros 5 ++ le 1 0 ++ zeros 37, sub := 0 }
     let s : State := (cellWith fun q => { q with raw := true }).onMw fun m => { m with cfg := { m.cfg with ptp0 := { m.cfg.ptp0 with enable := true }, ports := m.cfg.ports.set 0 { m.cfg.ports[0] with mode := 1 } }, ptp := m.ptp.set 0 { m.ptp[0] with best := some { priority1 := 0, cls := 0, accuracy := 0, variance := 0, priority2 := 0, identity := 0, steps := 0, port := 0 }, syncPend := some (0, 0, 0) } }
     let k : PtpClock := { priority1 := 0, cls := 0, accuracy := 0, variance := 0, priority2 := 0, identity := 0, steps := 0, port := 0 }
     let t2 : Nat := 0
     let k2 : Int := 0
     let c := s.mw.cfg.ptp i
     let p := s.mw.ptp[i]
     let linked := (s.mw.net.ports[m.port]).raw = true ∧ s.mw.cfg.portMode m.port.val ≠ 0
     let b : List Byte := (m.bytes)
     let own := c.enable = true ∧ 44 ≤ b.length ∧ rd b 0 1 / 16 = c.sdo ∧ rd b 4 1 = c.domain ∧ (c.profile = 1 → c.ptpPort = m.port.val)
     decide (linked) && decide (own) && decide (ptpUnsupported b = false) && decide (s.receives i = true) && decide (p.best = some k) && decide (k.port = ptpSource b) && decide (ptpKind b = 8) && decide (p.syncPend = some (ptpSeq b, t2, k2))),
     (let i : Fin 2 := 0
     let m : PtpMsg := { port := 0, bytes := le 1 1 ++ zeros 5 ++ le 1 0 ++ zeros 37, sub := 0 }
     let s : State := (cellWith fun q => { q with raw := true }).onMw fun m => { m with cfg := { m.cfg with ptp0 := { m.cfg.ptp0 with enable := true }, ports := m.cfg.ports.set 0 { m.cfg.ports[0] with mode := 1 } }, ptp := m.ptp.set 0 { m.ptp[0] with portState := 6 } }
     let c := s.mw.cfg.ptp i
     let p := s.mw.ptp[i]
     let linked := (s.mw.net.ports[m.port]).raw = true ∧ s.mw.cfg.portMode m.port.val ≠ 0
     let b : List Byte := (m.bytes)
     let own := c.enable = true ∧ 44 ≤ b.length ∧ rd b 0 1 / 16 = c.sdo ∧ rd b 4 1 = c.domain ∧ (c.profile = 1 → c.ptpPort = m.port.val)
     decide (linked) && decide (own) && decide (ptpUnsupported b = false) && decide (ptpKind b = 1) && decide (p.portState = 6) && decide (c.profile = 0)),
     (let i : Fin 2 := 0
     let m : PtpMsg := { port := 0, bytes := le 1 11 ++ zeros 5 ++ le 1 0 ++ zeros 57, sub := 0 }
     let s : State := (cellWith fun q => { q with raw := true }).onMw fun m => { m with cfg := { m.cfg with ptp0 := { m.cfg.ptp0 with enable := true }, ports := m.cfg.ports.set 0 { m.cfg.ports[0] with mode := 1 } } }
     let c := s.mw.cfg.ptp i
     let p := s.mw.ptp[i]
     let linked := (s.mw.net.ports[m.port]).raw = true ∧ s.mw.cfg.portMode m.port.val ≠ 0
     let b : List Byte := (m.bytes)
     let own := c.enable = true ∧ 44 ≤ b.length ∧ rd b 0 1 / 16 = c.sdo ∧ rd b 4 1 = c.domain ∧ (c.profile = 1 → c.ptpPort = m.port.val)
     decide (linked) && decide (own) && decide (ptpUnsupported b = false) && decide (ptpKind b = 11) && decide (c.role ≠ 2) && decide (p.best = none)),
     (let i : Fin 2 := 0
     let s : State := ripe
     let c := s.mw.cfg.ptp i
     decide (c.enable = false)),
     (let i : Fin 2 := 0
     let s : State := (cellWith fun q => { q with raw := true }).onMw fun m => { m with cfg := { m.cfg with ptp0 := { m.cfg.ptp0 with enable := true, role := 1 }, ports := m.cfg.ports.set 0 { m.cfg.ports[0] with mode := 1 } }, ptp := m.ptp.set 0 { m.ptp[0] with announceNs := 4000000000000, delayNs := 4000000000000, syncNs := 0 } }
     let c := s.mw.cfg.ptp i
     let p := s.mw.ptp[i]
     decide (c.enable = true) && decide (p.best = none) && decide (ptpStateOf c none (s.ownClock i) = 6) && decide (s.now < p.announceNs + logNs c.logAnnounce) && decide (s.now < p.delayNs + logNs c.logDelay) && decide (p.syncNs + logNs c.logSync ≤ s.now)),
     (let i : Fin 2 := 0
     let s : State := (cellWith fun q => { q with raw := true }).onMw fun m => { m with cfg := { m.cfg with ptp0 := { m.cfg.ptp0 with enable := true, role := 1 }, ports := m.cfg.ports.set 0 { m.cfg.ports[0] with mode := 1 } }, ptp := m.ptp.set 0 { m.ptp[0] with announceNs := 4000000000000, delayNs := 4000000000000, syncNs := 4000000000000 } }
     let c := s.mw.cfg.ptp i
     let p := s.mw.ptp[i]
     decide (c.enable = true) && decide (p.best = none) && decide (ptpStateOf c none (s.ownClock i) = 6) && decide (s.now < p.announceNs + logNs c.logAnnounce) && decide (s.now < p.delayNs + logNs c.logDelay) && decide (s.now < p.syncNs + logNs c.logSync)),
     (let s : State := ripe
     decide (∀ d ∈ allDies, (s.die d).rm.streams.find? (fun t => t.opcode == 0x0121) = none)),
     (let e : PinEdge := { rising := true, sub := 0 }
     let s : State := (flier fun x => { x with rm := { x.rm with streams := [{ opcode := 0x0121, queue := 0, tag := 0, target := 0, seq := 0, args := [3] }] } }).onMw fun m => { m with tpi := { m.tpi with second := 9 } }
     let d : DieId := .t0
     let z : Stream := { opcode := 0x0121, queue := 0, tag := 0, target := 0, seq := 0, args := [3] }
     decide ((s.die d).rm.streams.find? (fun t => t.opcode == 0x0121) = some z) && decide (bit (z.args.getD 0 0) (if e.rising then 0 else 1) = true) && decide (s.mw.tpi.second ≠ (s.mw.tb[1]).ns / 1000000000)),
     (let s : State := mwWith fun m => { m with cfg := { m.cfg with tpo := { m.cfg.tpo with mode := 1 } } }
     decide (s.mw.cfg.tpo.mode = 1) && decide (s.tpoDue = true) && decide (s.mw.tpo.pulse = false) && decide (s.mw.tpo.lastEdge ≠ some s.tpoIndex)),
     (let s : State := ripe
     decide (s.mw.cfg.tpo.mode ≠ 1 ∨ s.tpoDue = false)),
     (let s : State := mwWith fun m => { m with tpo := { m.tpo with pulse := true } }
     decide (s.mw.tpo.pulse = true) && decide (s.mw.tpo.endNs ≤ s.now)),
     (let s : State := ripe
     decide (s.mw.tpo.pulse = false))].all id = true := by decide +kernel

theorem witness_FieldInputEvents :
    [(let s : State := mwWith fun m => { m with field := { m.field with ins := m.field.ins.set 0 { m.field.ins[0] with chatter := false, edges := 70000 } }, cfg := { m.cfg with inputs := m.cfg.inputs.set 0 { m.cfg.inputs[0] with chatterLimit := 65535 } } }
     let ch : Fin 32 := 0
     let x := s.mw.field.ins[ch]
     let g := s.mw.cfg.inputs[ch]
     decide (x.chatter = false) && decide (g.chatterLimit < x.edges)),
     (let s : State := ripe
     let ch : Fin 32 := 0
     let x := s.mw.field.ins[ch]
     let g := s.mw.cfg.inputs[ch]
     decide (x.chatter = true ∨ x.edges ≤ g.chatterLimit)),
     (let s : State := mwWith fun m => { m with field := { m.field with ins := m.field.ins.set 0 { m.field.ins[0] with c := 40, out := true, raw := true, since := 0 } }, cfg := { m.cfg with inputs := m.cfg.inputs.set 0 { m.cfg.inputs[0] with stuckEnable := true, stuckMs := 10 } } }
     let ch : Fin 32 := 0
     let x := s.mw.field.ins[ch]
     let g := s.mw.cfg.inputs[ch]
     decide (g.stuckEnable = true) && decide (x.active = true) && decide (x.stuck = false) && decide (x.since + 1000000 * g.stuckMs ≤ s.now)),
     (let s : State := ripe
     let ch : Fin 32 := 0
     let g := s.mw.cfg.inputs[ch]
     decide (g.stuckEnable = false)),
     (let s : State := mwWith fun m => { m with field := { m.field with ins := m.field.ins.set 0 { m.field.ins[0] with valid := false } } }
     let ch : Fin 32 := 0
     let x := s.mw.field.ins[ch]
     decide (x.valid = false)),
     (let s : State := mwWith fun m => { m with field := { m.field with ins := m.field.ins.set 0 { m.field.ins[0] with valid := false } } }
     let ch : Fin 32 := 0
     let x := s.mw.field.ins[ch]
     let v := s.mw.field.supplies[inSupply ch]
     decide (x.valid = false) && decide (s.mw.cfg.field.upOffMv[inSupply ch] + 1000 ≤ v.mv) && decide (v.mv ≤ 32000)),
     (let s : State := ripe
     let ch : Fin 32 := 0
     let x := s.mw.field.ins[ch]
     decide (x.valid = true)),
     (let s : State := ripe
     let k : Fin 2 := 0
     let mv : Nat := 0
     let x := s.mw.field.supplies[k]
     decide (mv < 18000) && decide (x.low = false)),
     (let s : State := ripe
     let k : Fin 2 := 0
     let mv : Nat := 20000
     let x := s.mw.field.supplies[k]
     decide (18000 ≤ mv ∨ x.low = true)),
     (let s : State := ripe
     let k : Fin 2 := 0
     let mv : Nat := 0
     let x := s.mw.field.supplies[k]
     let off := s.mw.cfg.field.upOffMv[k]
     decide (mv < off) && decide (x.lost = false)),
     (let s : State := mwWith fun m => { m with field := { m.field with supplies := m.field.supplies.set 0 { m.field.supplies[0] with lost := true } } }
     let k : Fin 2 := 0
     let mv : Nat := 0
     let x := s.mw.field.supplies[k]
     let off := s.mw.cfg.field.upOffMv[k]
     decide (mv < off) && decide (x.lost = true)),
     (let s : State := ripe
     let k : Fin 2 := 0
     let mv : Nat := 20000
     let off := s.mw.cfg.field.upOffMv[k]
     decide (off ≤ mv)),
     (let s : State := ripe
     let k : Fin 2 := 0
     let mv : Nat := 33000
     let x := s.mw.field.supplies[k]
     decide (32000 < mv) && decide (x.high = false)),
     (let s : State := mwWith fun m => { m with field := { m.field with supplies := m.field.supplies.set 0 { m.field.supplies[0] with high := true } } }
     let k : Fin 2 := 0
     let mv : Nat := 33000
     let x := s.mw.field.supplies[k]
     decide (32000 < mv) && decide (x.high = true)),
     (let mv : Nat := 20000
     decide (mv ≤ 32000)),
     (let s : State := mwWith fun m => { m with field := { m.field with supplies := m.field.supplies.set 0 { m.field.supplies[0] with low := true } } }
     let k : Fin 2 := 0
     let x := s.mw.field.supplies[k]
     decide (x.low = true ∨ x.high = true)),
     (let s : State := ripe
     let k : Fin 2 := 0
     let x := s.mw.field.supplies[k]
     decide (x.low = false) && decide (x.high = false)),
     (let s : State := mwWith fun m => { m with field := { m.field with supplies := m.field.supplies.set 0 { m.field.supplies[0] with lost := true } } }
     let k : Fin 2 := 0
     let x := s.mw.field.supplies[k]
     decide (x.lost = true) && decide (x.recovered = false)),
     (let s : State := ripe
     let k : Fin 2 := 0
     let x := s.mw.field.supplies[k]
     decide (x.lost = false ∨ x.recovered = true))].all id = true := by decide +kernel

theorem witness_OutputEncoderEvents :
    [(let s : State := mwWith fun m => { m with field := { m.field with outs := m.field.outs.set 0 { m.field.outs[0] with fault := false } }, cfg := { m.cfg with outputs := m.cfg.outputs.set 0 { m.cfg.outputs[0] with function := 1 } } }
     let ch : Fin 16 := 0
     let l : Fin 16 := 0
     let cause : OutCause := .overload
     let code : Nat := 1
     decide (l = s.mw.cfg.leader ch) && decide ((s.mw.cfg.outputs[l]).function ≠ 0) && decide ((s.mw.field.outs[l]).fault = false) && decide ((cause = .overload ∧ code = 1) ∨ (cause = .thermal ∧ code = 2))),
     (let s : State := mwWith fun m => { m with field := { m.field with outs := m.field.outs.set 0 { m.field.outs[0] with fault := false } }, cfg := { m.cfg with outputs := m.cfg.outputs.set 0 { m.cfg.outputs[0] with function := 1 } } }
     let ch : Fin 16 := 0
     let l : Fin 16 := 0
     let cause : OutCause := .readback
     let u : State := ((s.onOut l fun o => { o with fault := true, cause := 3, rearm := false }).holdOutputs)
     decide (l = s.mw.cfg.leader ch) && decide ((s.mw.cfg.outputs[l]).function ≠ 0) && decide ((s.mw.field.outs[l]).fault = false) && decide (cause = .readback) && decide (u.quietMw 11 = true)),
     (let s : State := ripe
     let ch : Fin 16 := 0
     let l : Fin 16 := (s.mw.cfg.leader ch)
     decide ((s.mw.cfg.outputs[l]).function = 0 ∨ (s.mw.field.outs[l]).fault = true)),
     (let s : State := mwWith fun m => { m with field := { m.field with outs := m.field.outs.set 0 { m.field.outs[0] with cmd := true } }, cfg := { m.cfg with outputs := m.cfg.outputs.set 0 { m.cfg.outputs[0] with function := 1, openLoadEnable := true } } }
     let ch : Fin 16 := 0
     let l : Fin 16 := 0
     decide (l = s.mw.cfg.leader ch) && decide ((s.mw.cfg.outputs[l]).openLoadEnable = true) && decide (s.driven l = true)),
     (let s : State := ripe
     let ch : Fin 16 := 0
     let l : Fin 16 := (s.mw.cfg.leader ch)
     decide ((s.mw.cfg.outputs[l]).openLoadEnable = false)),
     (let s : State := mwWith fun m => { m with field := { m.field with encoders := m.field.encoders.set 0 { m.field.encoders[0] with sampled := true } }, cfg := { m.cfg with encoders := m.cfg.encoders.set 0 { m.cfg.encoders[0] with mode := 2 } } }
     let n : Fin 4 := 0
     let e := s.mw.cfg.encoders[n]
     let x := s.mw.field.encoders[n]
     decide (x.sampled = true ∨ s.now < s.mw.bNs + e.sampleOffsetNs)),
     (let s : State := mwWith fun m => { m with field := { m.field with encoders := m.field.encoders.set 0 { m.field.encoders[0] with sampled := false } }, cfg := { m.cfg with encoders := m.cfg.encoders.set 0 { m.cfg.encoders[0] with mode := 2 } } }
     let n : Fin 4 := 0
     let e := s.mw.cfg.encoders[n]
     let x := s.mw.field.encoders[n]
     decide (x.sampled = false) && decide (s.mw.bNs + e.sampleOffsetNs ≤ s.now) && decide (e.mode = 2)),
     (let s : State := mwWith fun m => { m with field := { m.field with encoders := m.field.encoders.set 0 { m.field.encoders[0] with sampled := false } }, cfg := { m.cfg with encoders := m.cfg.encoders.set 0 { m.cfg.encoders[0] with mode := 1 } } }
     let n : Fin 4 := 0
     let frame : BitVec 40 := 0
     let e := s.mw.cfg.encoders[n]
     let x := s.mw.field.encoders[n]
     decide (x.sampled = false) && decide (s.mw.bNs + e.sampleOffsetNs ≤ s.now) && decide (e.mode = 1) && decide ((e.readFrame frame.toNat).2.2 = false) && decide (x.prevPos = none)),
     (let s : State := mwWith fun m => { m with field := { m.field with encoders := m.field.encoders.set 0 { m.field.encoders[0] with sampled := false } }, cfg := { m.cfg with encoders := m.cfg.encoders.set 0 { m.cfg.encoders[0] with mode := 2 } } }
     let n : Fin 4 := 0
     let e := s.mw.cfg.encoders[n]
     decide (e.mode = 2)),
     (let s : State := mwWith fun m => { m with field := { m.field with encoders := m.field.encoders.set 0 { m.field.encoders[0] with sampled := false } }, cfg := { m.cfg with encoders := m.cfg.encoders.set 0 { m.cfg.encoders[0] with mode := 2, zEnable := true } } }
     let n : Fin 4 := 0
     let e := s.mw.cfg.encoders[n]
     decide (e.mode = 2) && decide (e.zEnable = true)),
     (let s : State := mwWith fun m => { m with field := { m.field with encoders := m.field.encoders.set 0 { m.field.encoders[0] with sampled := false } }, cfg := { m.cfg with encoders := m.cfg.encoders.set 0 { m.cfg.encoders[0] with mode := 2, zEnable := false } } }
     let n : Fin 4 := 0
     let e := s.mw.cfg.encoders[n]
     decide (e.mode = 2) && decide (e.zEnable = false)),
     (let s : State := ripe
     let n : Fin 4 := 0
     let e := s.mw.cfg.encoders[n]
     decide (e.mode ≠ 2))].all id = true := by decide +kernel

theorem witness_FieldSafetyEvents :
    [(let s : State := ripe
     decide (s.phase ≠ .seed) && decide (s.mw.trapeze.token ≠ none ∨ s.mw.trapeze.relinquished = true) && decide (s.mw.field.wdLatched = false) && decide (s.mw.field.lastRefresh + s.mw.cfg.field.watchdogNs ≤ s.now)),
     (let s : State := mwWith fun m => { m with field := { m.field with wdLatched := true } }
     decide (s.phase = .seed ∨ (s.mw.trapeze.token = none ∧ s.mw.trapeze.relinquished = false) ∨ s.mw.field.wdLatched = true ∨ s.now < s.mw.field.lastRefresh + s.mw.cfg.field.watchdogNs)),
     (let s : State := mwWith fun m => { m with field := { m.field with refreshFrom := some 3900000000000, wdLatched := true, lastRefresh := 3999999999000 }, cfg := { m.cfg with field := { m.cfg.field with autoRestoreWd := true } } }
     let t := 3900000000000
     decide (s.mw.field.refreshFrom = some t) && decide (s.mw.field.wdLatched = true) && decide (s.refreshing = true) && decide (t + 10000000 ≤ s.now) && decide (s.mw.cfg.field.autoRestoreWd = true)),
     (let s : State := mwWith fun m => { m with field := { m.field with refreshFrom := some 3900000000000, wdLatched := true, lastRefresh := 3999999999000 }, cfg := { m.cfg with field := { m.cfg.field with autoRestoreWd := false } } }
     let t := 3900000000000
     decide (s.mw.field.refreshFrom = some t) && decide (s.mw.field.wdLatched = true) && decide (s.refreshing = true) && decide (t + 10000000 ≤ s.now) && decide (s.mw.cfg.field.autoRestoreWd = false)),
     (let s : State := mwWith fun m => { m with field := { m.field with enDiff := some 0 } }
     let t := 0
     decide (s.mw.field.enDiff = some t) && decide (s.mw.field.enFault = false) && decide (t + 1000000 * s.mw.cfg.safety.enDiscrepancyMs < s.now)),
     (let s : State := ripe
     decide (s.mw.field.enDiff = none)),
     (let s : State := mwWith fun m => { m with field := { m.field with cuDiff := some 0 } }
     let t := 0
     decide (s.mw.field.cuDiff = some t) && decide (s.mw.field.cuFault = false) && decide (t + 1000000 * s.mw.cfg.safety.cuDiscrepancyMs < s.now)),
     (let s : State := ripe
     decide (s.mw.field.cuDiff = none)),
     (let s : State := mwWith fun m => { m with field := { m.field with cuFault := false }, cfg := { m.cfg with safety := { m.cfg.safety with cuA := some 0, cuB := some 1 } } }
     decide (s.mw.cfg.safety.cuA ≠ none) && decide (s.curtainPairOk = false) && decide (s.curtained = false)),
     (let s : State := mwWith fun m => { m with field := { m.field with cuFault := false }, trapeze := { m.trapeze with curtain := some { cause := 1, t0 := 0, t0B := 0, tStopNs := 0 } } }
     decide (s.curtainPairOk = true ∨ s.curtained = true)),
     (let s : State := mwWith fun m => { m with field := { m.field with cuFault := false }, trapeze := { m.trapeze with curtain := some { cause := 1, t0 := 0, t0B := 0, tStopNs := 0 } } }
     let c : Curtain := { cause := 1, t0 := 0, t0B := 0, tStopNs := 0 }
     decide (s.mw.trapeze.curtain = some c) && decide (c.torqueOff = false) && decide (c.t0 + c.tStopNs ≤ s.now)),
     (let s : State := mwWith fun m => { m with field := { m.field with cuFault := false }, trapeze := { m.trapeze with curtain := some { cause := 1, t0 := 0, t0B := 0, tStopNs := 5000000000000 } } }
     let c : Curtain := { cause := 1, t0 := 0, t0B := 0, tStopNs := 5000000000000 }
     decide (s.mw.trapeze.curtain = some c) && decide (c.torqueOff = false) && decide (s.now < c.t0 + c.tStopNs)),
     (let s : State := ripe
     decide (s.quietMw 14 = true))].all id = true := by decide +kernel

theorem witness_PartnerEvents :
    [(let d : DieId := .t0
     let s : State := ripe
     let p := (s.die d).partner
     decide ((s.die d).beats = true) && decide (p.hbSentNs + 5000 ≤ s.now) && decide (s.hasPartner = false ∨ (p.hbSentNs ≤ p.heard1Ns ∧ p.hbSentNs ≤ p.heard2Ns)) && decide (s.quiet d 13 = true)),
     (let d : DieId := .t0
     let s : State := ((mwWith fun m => { m with trapeze := { m.trapeze with refused := 0 } }).onPartner .t0 fun q => { q with hbSentNs := 3999999999000 })
     let p := (s.die d).partner
     decide (s.now < p.hbSentNs + 5000)),
     (let d : DieId := .t0
     let s : State := ((mwWith fun m => { m with trapeze := { m.trapeze with refused := 0 } }).onPartner .t0 fun q => { q with hbOn1 := true })
     let p := (s.die d).partner
     decide (p.hbOn1 = true) && decide (s.mw.trapeze.directUp = true)),
     (let d : DieId := .t0
     let s : State := ((mwWith fun m => { m with trapeze := { m.trapeze with refused := 0 } }).onPartner .t0 fun q => { q with hbOn2 := true }).onPartner .t1 fun q => { q with mwLinkUp := false }
     let p := (s.die d).partner
     let o := (s.die d.other).partner
     decide (p.hbOn2 = true) && decide (p.mwLinkUp = true) && decide (s.isFlier d = true) && decide (o.mwLinkUp = false)),
     (let d : DieId := .t1
     let s : State := ((mwWith fun m => { m with trapeze := { m.trapeze with refused := 0 } }).onPartner .t1 fun q => { q with hbOn2 := true })
     let p := (s.die d).partner
     let o := (s.die d.other).partner
     decide (p.hbOn2 = true) && decide (p.mwLinkUp = true) && decide (s.isFlier d = false) && decide (o.mwLinkUp = true)),
     (let d : DieId := .t0
     let s : State := ripe
     let p := (s.die d).partner
     decide (p.hbOn1 = false)),
     (let d : DieId := .t0
     let s : State := ripe
     let p := (s.die d).partner
     decide (p.hbOn2 = false)),
     (let d : DieId := .t0
     let s : State := ((mwWith fun m => { m with trapeze := { m.trapeze with refused := 0 } }).onPartner .t1 fun q => { q with eligible := true })
     let o := (s.die d.other).partner
     decide ((s.die d).works = true) && decide (s.hasPartner = true) && decide (s.silent d = true) && decide (s.isFlier d = true) && decide (o.eligible = true)),
     (let d : DieId := .t1
     let s : State := ripe
     let p := (s.die d).partner
     decide ((s.die d).works = true) && decide (s.hasPartner = true) && decide (s.silent d = true) && decide (s.isFlier d = false) && decide (s.isFlier d.other = true) && decide (p.requested = false)),
     (let d : DieId := .t0
     let s : State := ((mwWith fun m => { m with trapeze := { m.trapeze with refused := 0 } }).onPartner .t0 fun q => { q with heard1Ns := 4000000000000 })
     decide (s.silent d = false)),
     (let d : DieId := .t1
     let s : State := ((ripe.onDie .t1 fun x => { x with condemned := true }).onPartner .t1 fun q => { q with mwLinkUp := true })
     decide ((s.die d).works = true) && decide ((s.die d).condemned = true) && decide (s.isFlier d = false)),
     (let d : DieId := .t0
     let s : State := ((ripe.onDie .t0 fun x => { x with condemned := true }).onPartner .t0 fun q => { q with mwLinkUp := true })
     let u : State := (s.endHandover)
     decide ((s.die d).works = true) && decide ((s.die d).condemned = true) && decide (s.isFlier d = true) && decide ((u.die d).partner.mwLinkUp = true)),
     (let d : DieId := .t0
     let s : State := ((ripe.onDie .t0 fun x => { x with condemned := true }).onPartner .t0 fun q => { q with mwLinkUp := false })
     let u : State := (s.endHandover)
     decide ((s.die d).works = true) && decide ((s.die d).condemned = true) && decide (s.isFlier d = true) && decide ((u.die d).partner.mwLinkUp = false)),
     (let d : DieId := .t0
     let s : State := ripe
     decide ((s.die d).condemned = false)),
     (let d : DieId := .t1
     let s : State := ((mwWith fun m => { m with trapeze := { m.trapeze with refused := 0 } }).onPartner .t1 fun q => { q with requested := true, eligible := true })
     let p := (s.die d).partner
     decide (s.hasPartner = true) && decide ((s.die d).works = true) && decide (s.isFlier d = false) && decide (p.requested = true ∨ s.mw.trapeze.relinquished = true) && decide (s.grantable d = true)),
     (let d : DieId := .t1
     let s : State := ((mwWith fun m => { m with trapeze := { m.trapeze with refused := 0 } }).onPartner .t1 fun q => { q with requested := true })
     let p := (s.die d).partner
     decide (s.hasPartner = true) && decide ((s.die d).works = true) && decide (s.isFlier d = false) && decide (p.requested = true ∨ s.mw.trapeze.relinquished = true) && decide (s.grantable d = false)),
     (let d : DieId := .t0
     let s : State := ripe
     decide (s.isFlier d = true)),
     (let d : DieId := .t0
     let s : State := (((ripe.onPartner .t0 fun q => { q with compared := false, digest := zeros 176 }).onPartner .t1 fun q => { q with compared := false, eligible := true, digest := le 8 1 ++ zeros 168 }))
     let p := (s.die d).partner
     let o := (s.die d.other).partner
     decide (s.isFlier d = true) && decide (s.hasPartner = true) && decide (s.linked = true) && decide (s.inCompare d.other = true) && decide (s.computes d = true) && decide (p.compared = false) && decide (o.compared = false) && decide (p.digestB = o.digestB) && decide (digestsMatch p.digest o.digest = false ∨ p.digestBad = true ∨ o.digestBad = true)),
     (let d : DieId := .t0
     let s : State := (((ripe.onPartner .t0 fun q => { q with compared := false, digest := zeros 176 }).onPartner .t1 fun q => { q with compared := false, eligible := true, digest := zeros 176 }))
     let p := (s.die d).partner
     let o := (s.die d.other).partner
     let u : State := (((((s.onPartner d fun q => { q with compared := true }).onPartner d.other fun q => { q with compared := true }).count d 9 0 0).count d.other 9 0 0).markRepairs d d.other)
     decide (s.isFlier d = true) && decide (s.hasPartner = true) && decide (s.linked = true) && decide (s.inCompare d.other = true) && decide (s.computes d = true) && decide (p.compared = false) && decide (o.compared = false) && decide (p.digestB = o.digestB) && decide (digestsMatch p.digest o.digest = true) && decide (p.digestBad = false) && decide (o.digestBad = false) && decide (o.eligible = true) && decide (u.mw.trapeze.warmUp = false)),
     (let d : DieId := .t0
     let s : State := ripe
     let p := (s.die d).partner
     decide (p.compared = true)),
     (let d : DieId := .t1
     let s : State := { ((mwWith fun m => { m with trapeze := { m.trapeze with refused := 0 } }).onPartner .t1 fun q => { q with latentGated := true, eligible := true, journalBad := true }) with journal := some { b := 5, flier := ripe.t0, upTo := 0 } }
     let epoch : Nat := 5
     let j : Journal := { b := 5, flier := ripe.t0, upTo := 0 }
     let p := (s.die d).partner
     decide (s.journal = some j) && decide (j.b = epoch) && decide (s.hasPartner = true) && decide ((s.die d).works = true) && decide (p.latentGated = true) && decide (s.isFlier d.other = true) && decide (s.linked = true) && decide (p.eligible = true ∨ p.synced = true) && decide (s.closedB = some epoch) && decide (p.journalB ≠ some epoch) && decide (p.journalBad = true)),
     (let d : DieId := .t1
     let s : State := { ((mwWith fun m => { m with trapeze := { m.trapeze with refused := 0 } }).onPartner .t1 fun q => { q with latentGated := true, eligible := true }) with journal := some { b := 5, flier := ripe.t0, upTo := 0 } }
     let epoch : Nat := 5
     let j : Journal := { b := 5, flier := ripe.t0, upTo := 0 }
     let p := (s.die d).partner
     decide (s.journal = some j) && decide (j.b = epoch) && decide (s.hasPartner = true) && decide ((s.die d).works = true) && decide (p.latentGated = true) && decide (s.isFlier d.other = true) && decide (s.linked = true) && decide (p.eligible = true ∨ p.synced = true) && decide (s.closedB = some epoch) && decide (p.journalB ≠ some epoch) && decide (p.journalBad = false)),
     (let d : DieId := .t1
     let s : State := { ((mwWith fun m => { m with trapeze := { m.trapeze with refused := 0 } }).onPartner .t1 fun q => { q with latentGated := true, eligible := true, journalB := some 3 }) with journal := some { b := 5, flier := ripe.t0, upTo := 0 } }
     let epoch : Nat := 5
     let j : Journal := { b := 5, flier := ripe.t0, upTo := 0 }
     let e := 3
     let p := (s.die d).partner
     decide (s.journal = some j) && decide (j.b = epoch) && decide (s.hasPartner = true) && decide ((s.die d).works = true) && decide (p.latentGated = true) && decide (s.isFlier d.other = true) && decide (s.linked = true) && decide (p.eligible = true ∨ p.synced = true) && decide (s.closedB = some epoch) && decide (p.journalB ≠ some epoch) && decide (p.journalB = some e) && decide (epoch ≠ e + 1)),
     (let d : DieId := .t1
     let s : State := { ((mwWith fun m => { m with trapeze := { m.trapeze with refused := 0 } }).onPartner .t1 fun q => { q with latentGated := true, eligible := true }) with journal := some { b := 5, flier := ripe.t0, upTo := 0 } }
     let epoch : Nat := 5
     let j : Journal := { b := 5, flier := ripe.t0, upTo := 0 }
     let p := (s.die d).partner
     decide (s.journal = some j) && decide (j.b = epoch) && decide (s.hasPartner = true) && decide ((s.die d).works = true) && decide (p.latentGated = true) && decide (s.isFlier d.other = true) && decide (s.linked = true) && decide (p.eligible = true ∨ p.synced = true) && decide (s.closedB = some epoch) && decide (p.journalB ≠ some epoch) && decide (p.journalB = none)),
     (let d : DieId := .t0
     let s : State := ripe
     let p := (s.die d).partner
     decide (p.latentGated = false)),
     (let d : DieId := .t0
     let s : State := ((mwWith fun m => { m with trapeze := { m.trapeze with refused := 0 } }).onPartner .t0 fun q => { q with latentGated := true, latentWake := some 0 })
     let p := (s.die d).partner
     decide (s.isFlier d = true) && decide ((s.die d).works = true) && decide (p.latentGated = true) && decide (p.latentWake ≠ none) && decide (p.ready = false)),
     (let t : Nat := 1000000
     let c : DieId := .t1
     let s : State := ((cfgWith fun c => { c with trapeze := { c.trapeze with homeFlier := .t1, noRevert := false, holdoffMs := 1, latent := true } }).onPartner .t1 fun q => { q with eligible := true })
     decide (s.holdoffEnd = some t) && decide (s.catcher = some c) && decide (t ≤ s.now) && decide (s.mw.trapeze.handover = none) && decide (s.mw.trapeze.warmUp = false) && decide (s.phase = .ripe) && decide ((s.die c).cfg.trapeze.latent = true)),
     (let t : Nat := 1000000
     let c : DieId := .t1
     let s : State := ((cfgWith fun c => { c with trapeze := { c.trapeze with homeFlier := .t1, noRevert := false, holdoffMs := 1, latent := false } }).onPartner .t1 fun q => { q with eligible := true })
     decide (s.holdoffEnd = some t) && decide (s.catcher = some c) && decide (t ≤ s.now) && decide (s.mw.trapeze.handover = none) && decide (s.mw.trapeze.warmUp = false) && decide (s.phase = .ripe) && decide ((s.die c).cfg.trapeze.latent = false)),
     (let s : State := ripe
     decide (s.holdoffEnd = none))].all id = true := by decide +kernel

theorem witness_SyncEvents :
    [(let s : State := ripe
     decide (s.mw.trapeze.sync = none)),
     (let s : State := ((mwWith fun m => { m with trapeze := { m.trapeze with sync := some { target := .t1, startNs := 0 } } }).onDie .t1 fun x => { x with status := .sync })
     let y : Sync := { target := .t1, startNs := 0 }
     decide (s.mw.trapeze.sync = some y) && decide (y.startNs + 100000000 ≤ s.now)),
     (let s : State := ((mwWith fun m => { m with trapeze := { m.trapeze with sync := some { target := .t1, startNs := 3999999999999 } } }).onDie .t1 fun x => { x with status := .sync })
     let y : Sync := { target := .t1, startNs := 3999999999999 }
     decide (s.mw.trapeze.sync = some y) && decide (s.now < y.startNs + 100000000)),
     (let s : State := ((mwWith fun m => { m with trapeze := { m.trapeze with sync := some { target := .t1, startNs := 3999999999999, pass := 1 } } }).onDie .t1 fun x => { x with status := .sync })
     let y : Sync := { target := .t1, startNs := 3999999999999, pass := 1 }
     let dirty : Nat := 0
     decide (s.mw.trapeze.sync = some y) && decide (y.syncB = none) && decide (s.mw.trapeze.directUp = true) && decide ((s.die y.target).status = .sync) && decide (y.pass ≠ 0) && decide (dirty ≤ 65536)),
     (let s : State := ((mwWith fun m => { m with trapeze := { m.trapeze with sync := some { target := .t1, startNs := 3999999999999, pass := 8 } } }).onDie .t1 fun x => { x with status := .sync })
     let y : Sync := { target := .t1, startNs := 3999999999999, pass := 8 }
     let dirty : Nat := 70000
     decide (s.mw.trapeze.sync = some y) && decide (y.syncB = none) && decide (s.mw.trapeze.directUp = true) && decide ((s.die y.target).status = .sync) && decide (65536 < dirty) && decide (8 ≤ y.pass)),
     (let s : State := ((mwWith fun m => { m with trapeze := { m.trapeze with sync := some { target := .t1, startNs := 3999999999999, pass := 0 } } }).onDie .t1 fun x => { x with status := .sync })
     let y : Sync := { target := .t1, startNs := 3999999999999, pass := 0 }
     let dirty : Nat := 0
     decide (s.mw.trapeze.sync = some y) && decide (y.syncB = none) && decide (s.mw.trapeze.directUp = true) && decide ((s.die y.target).status = .sync) && decide (y.pass = 0 ∨ (65536 < dirty ∧ y.pass < 8))),
     (let s : State := ((mwWith fun m => { m with trapeze := { m.trapeze with syncWaitNs := some 0 } }).onDie .t1 fun x => { x with status := .sync })
     let t : Nat := 0
     let c : DieId := .t1
     decide (s.mw.trapeze.syncWaitNs = some t) && decide (s.catcher = some c) && decide (s.phase = .ripe) && decide (s.mw.trapeze.sync = none) && decide ((s.die c.other).cfg.trapeze.noAutoSync = false) && decide (s.mw.trapeze.syncFails < 3) && decide (t + 1000000 * (s.die c.other).cfg.trapeze.syncDelayMs ≤ s.now) && decide ((s.die c).status = .running ∨ (s.die c).status = .sync) && decide ((s.die c).partner.eligible = false)),
     (let s : State := ripe
     decide (s.mw.trapeze.syncWaitNs = none))].all id = true := by decide +kernel

theorem witness_MonitorEvents :
    [(let s : State := ripe
     let i : Fin 7 := 0
     let mv : Nat := 0
     let out : Bool := (!within mv (s.supplyWindow i).1 (s.supplyWindow i).2)
     decide (s.supplyWatched i = true) && decide (s.quietMw 9 = true) && decide (s.mw.falsified.contains (9, i.val) = false) && decide (out = true ∨ s.mw.supplyRun[i] = 0 ∨ 3 < s.mw.supplyRun[i])),
     (let s : State := ripe.onDie .t1 fun x => { x with present := false }
     let i : Fin 7 := 1
     decide (s.supplyWatched i = false)),
     (let s : State := mwWith fun m => { m with supplyRun := m.supplyRun.set 0 4, trapeze := { m.trapeze with token := none } }
     let i : Fin 7 := 0
     decide (s.mw.supplyRun[i] = 4) && decide (s.phase ≠ .seed) && decide (s.supplyWatched i = true) && decide (s.mw.trapeze.token = none)),
     (let s : State := ripe
     let i : Fin 7 := 0
     decide (s.mw.supplyRun[i] ≠ 4)),
     (let s : State := ripe
     let z : TempSensor := .t0
     let deci : Int := 0
     let k : Fin 3 := (sensorCode z)
     decide (s.quiet .t0 10 = true) && decide (s.quiet .t1 10 = true) && decide (s.quietMw 10 = true) && decide (deci ≤ (s.tempFuses z).tempWarn) && decide (deci ≤ (s.tempFuses z).tempFault) && decide (s.mw.tempRun[k] = 0) && decide (s.mw.falsified.contains (10, k.val) = false)),
     (let s : State := mwWith fun m => { m with tempRun := m.tempRun.set 0 4 }
     let z : TempSensor := .t0
     let k : Fin 3 := 0
     decide (k = sensorCode z) && decide (s.mw.tempRun[k] = 4) && decide (s.quiet .t0 10 = true) && decide (s.quiet .t1 10 = true)),
     (let s : State := ripe
     let z : TempSensor := .t0
     let k : Fin 3 := (sensorCode z)
     decide (s.mw.tempRun[k] ≠ 4)),
     (let s : State := mwWith fun m => { m with refRun := 1 }
     let ppm : Int := 60000
     let tick : Bool := true
     decide (s.quietMw 8 = true) && decide (ppm < -50000 ∨ 50000 < ppm ∨ tick = false) && decide (1 ≤ s.mw.refRun)),
     (let s : State := ripe
     let ppm : Int := 60000
     let tick : Bool := true
     decide (s.quietMw 8 = true) && decide (ppm < -50000 ∨ 50000 < ppm ∨ tick = false) && decide (s.mw.refRun = 0)),
     (let s : State := ripe
     let ppm : Int := 0
     decide (s.quietMw 8 = true) && decide (-50000 ≤ ppm) && decide (ppm ≤ 50000) && decide (s.mw.refRun ≠ 1) && decide (s.mw.falsified.contains (8, 0) = false)),
     (let s : State := ripe
     let ppm : Int := 0
     decide (s.quietMw 8 = true) && decide (-1000 ≤ ppm) && decide (ppm ≤ 1000)),
     (let s : State := ripe
     let ppm : Int := 2000
     decide (s.quietMw 8 = true) && decide (ppm < -1000 ∨ 1000 < ppm))].all id = true := by decide +kernel

theorem witness_FaultEvents :
    [(let d : DieId := .t0
     let s : State := ((cfgWith fun c => { c with events := { c.events with transientLimit := 4 } }).onDie .t0 fun x => { x with det := { x.det with interval := [(16 * placeNumber ⟨.t0, 0, 0, 0⟩, 5)], promoted := [] } })
     let u : UnitId := ⟨.t0, 0, 0, 0⟩
     let k : Fin 16 := 0
     let n : Nat := ((s.die d).det.interval.getD (16 * placeNumber u + k.val) 0)
     decide ((s.die d).works = true) && decide (k.val ≠ 4) && decide (k.val ≠ 5) && decide ((s.die d).cfg.events.transientLimit ≤ n) && decide (0 < n) && decide ((s.die d).det.promoted.contains (16 * placeNumber u + k.val) = false) && decide (s.unitExists u = true) && decide (trapezeDie u.die = some d)),
     (let d : DieId := .t0
     let s : State := ((cfgWith fun c => { c with events := { c.events with transientLimit := 4 } }).onDie .t0 fun x => { x with det := { x.det with interval := [(16 * placeNumber ⟨.t0, 0, 0, 0⟩, 5)], promoted := [16 * placeNumber ⟨.t0, 0, 0, 0⟩] } })
     let u : UnitId := ⟨.t0, 0, 0, 0⟩
     let k : Fin 16 := 0
     decide ((s.die d).det.promoted.contains (16 * placeNumber u + k.val) = true ∨
      (s.die d).det.interval.getD (16 * placeNumber u + k.val) 0 < (s.die d).cfg.events.transientLimit)),
     (let d : DieId := .t0
     let s : State := flier fun x => { x with det := { x.det with injections := [{ target := 0, detector := 0, mode := 0, bits := 0, path := 0, delayNs := 0, arg := 0, armedNs := 0 }] } }
     let n : Fin 4 := 0
     let i : Injection := { target := 0, detector := 0, mode := 0, bits := 0, path := 0, delayNs := 0, arg := 0, armedNs := 0 }
     decide ((s.die d).det.injections[n.val]? = some i) && decide (i.fired = false) && decide (i.armedNs + i.delayNs + 1000000000 ≤ s.now)),
     (let d : DieId := .t0
     let s : State := flier fun x => { x with det := { x.det with injections := [{ target := 0, detector := 0, mode := 0, bits := 0, path := 0, delayNs := 0, arg := 0, armedNs := 4000000000000 }] } }
     let n : Fin 4 := 0
     let i : Injection := { target := 0, detector := 0, mode := 0, bits := 0, path := 0, delayNs := 0, arg := 0, armedNs := 4000000000000 }
     decide ((s.die d).det.injections[n.val]? = some i) && decide (i.fired = false) && decide (s.now < i.armedNs + i.delayNs + 1000000000)),
     (let d : DieId := .t1
     let s : State := ripe
     let n : Fin 4 := 0
     decide ((s.die d).det.injections[n.val]? = none) && decide (s.isFlier d = false)),
     (let d : DieId := .t0
     let s : State := mwWith fun m => { m with trapeze := { m.trapeze with injections := [{ target := 0, detector := 0, mode := 0, bits := 0, path := 0, delayNs := 0, arg := 0, armedNs := 0 }] } }
     let n : Fin 4 := 0
     let k : Nat := 0
     let i : Injection := { target := 0, detector := 0, mode := 0, bits := 0, path := 0, delayNs := 0, arg := 0, armedNs := 0 }
     decide ((s.die d).det.injections[n.val]? = none) && decide (k = n.val - (s.die d).det.injections.length) && decide (s.isFlier d = true) && decide (s.mw.trapeze.injections[k]? = some i) && decide (i.fired = false) && decide (i.armedNs + i.delayNs + 1000000000 ≤ s.now)),
     (let d : DieId := .t0
     let s : State := mwWith fun m => { m with trapeze := { m.trapeze with injections := [{ target := 0, detector := 0, mode := 0, bits := 0, path := 0, delayNs := 0, arg := 0, armedNs := 4000000000000 }] } }
     let n : Fin 4 := 0
     let k : Nat := 0
     let i : Injection := { target := 0, detector := 0, mode := 0, bits := 0, path := 0, delayNs := 0, arg := 0, armedNs := 4000000000000 }
     decide ((s.die d).det.injections[n.val]? = none) && decide (k = n.val - (s.die d).det.injections.length) && decide (s.isFlier d = true) && decide (s.mw.trapeze.injections[k]? = some i) && decide (i.fired = false) && decide (s.now < i.armedNs + i.delayNs + 1000000000)),
     (let d : DieId := .t0
     let s : State := ripe
     decide ((s.die d).test = none)),
     (let d : DieId := .t0
     let s : State := flier fun x => { x with test := some { region := 0, cluster := 0, unit := 0, both := false, cmd := cmd 1 [], startNs := some 5, lost := false } }
     let t : PlaceTest := { region := 0, cluster := 0, unit := 0, both := false, cmd := cmd 1 [], startNs := some 5, lost := false }
     let ns : Nat := 5
     decide ((s.die d).test = some t) && decide (t.startNs = some ns) && decide (t.passed = false) && decide (t.lost = false) && decide (t.unit ≠ 31) && decide (t.both = false)),
     (let d : DieId := .t0
     let s : State := flier fun x => { x with test := some { region := 0, cluster := 0, unit := 0, both := false, cmd := cmd 1 [], startNs := some 5, lost := true } }
     let t : PlaceTest := { region := 0, cluster := 0, unit := 0, both := false, cmd := cmd 1 [], startNs := some 5, lost := true }
     let ns : Nat := 5
     decide ((s.die d).test = some t) && decide (t.startNs = some ns) && decide (t.passed = false) && decide (t.lost = true)),
     (let d : DieId := .t0
     let s : State := flier fun x => { x with preserve := { x.preserve with frozen := true } }
     decide ((s.die d).preserve.frozen = true) && decide ((s.die d).preserve.countNs + 1000000 * (s.die d).preserve.maxMs ≤ s.now)),
     (let d : DieId := .t0
     let s : State := ripe
     decide ((s.die d).preserve.frozen = false)),
     (let s : State := mwWith fun m => { m with interval := { m.interval with due := true } }
     decide (s.mw.interval.due = true)),
     (let s : State := ripe
     decide (s.mw.interval.due = false))].all id = true := by decide +kernel

theorem witness_StepTakesFront :
    [(let c : Instr := .sysNop ⟨.t0, 0⟩
     let rest : List Instr := []
     let s : State := { ripe with pending := [.sysNop ⟨.t0, 0⟩] }
     decide (s.pending = c :: rest)),
     (let s : State := ripe
     decide (s.pending = []))].all id = true := by decide +kernel

/-- Its clause of a whole DATA frame. -/
theorem witness_RingMasterEvents_data :
    (let r : Fin 8 := 0
     let p : RingPort := .a
     let s : State := (sending fun y => { y with sentFrom := some 0, sentCycle := 6, settled := false }).onMw fun m => { m with bNs := 4000000000000 }
     let f : List Byte := ringFrame 2 0 6 0 65
     let codes : BitVec 8 := 0
     let elastic : Bool := false
     let v : State := (((s.ringReceive r p codes elastic).ringSettle r).ringCount r p f).1
     let u : State := (v.readMwArray 0 r.val true).1
     let ok : Bool := (((s.ringReceive r p codes elastic).ringSettle r).ringCount r p f).2.2
     let lost : Bool := (v.readMwArray 0 r.val true).2.1
     let b0 := 0
     let x := s.ring r
     let t : State := ((u.countMw 7 r.val (match p with
             | .a => 1
             | .b => 2)).ringTopology r p f)
     decide (x.state ≠ .off) && decide (x.state ≠ .node) && decide ((x.port p).linkUp = true) && decide (ok = true) && decide (lost = false) && decide (rd f 2 1 = u.masterId r.val) && decide (x.sends = true) && decide (x.sentFrom = some b0) && decide (b0 ≤ x.sentCycle) && decide (rd f 4 4 = x.sentCycle % 2 ^ 32) && decide (rd f 0 1 = 2) && decide (rd f 28 2 = x.layout) && decide (f.length = t.mw.cfg.frameLen r.val) && decide ((t.ring r).state = .data) && decide ((t.ring r).settled = false)) = true := by
  have h : frameCheck (ringFrame 2 0 6 0 65) = .good := frameCheck_closed _ (by decide +kernel)
  simp only [State.ringCount, h]
  decide +kernel

end Sys2Proof.Tests
end

/-! SUPPORT. What a core does with an instruction that computes on its registers and has the budget for it (R241, R242, R258), and the statements about data
arithmetic and about multiplication into an accumulator. -/

namespace Sys2Proof.Machine

/-! ### Retiring an instruction that does not jump -/

section Retiring

variable {s : State} {c : CoreRef} {i : Item} {op : Instr}

theorem State.draw_core (s : State) (c : CoreRef) : s.draw.2.core c = s.core c := by simp [State.core]

theorem Ready.of_le {m n : Nat} (h : Ready s c i m) (le : n ≤ m) : Ready s c i n where
  toAble := h.toAble
  budget := by
    have := h.budget
    simp only [Core.forward] at this ⊢
    omega

/-- Counting a free value leaves what readiness reads. -/
theorem Ready.draw {n : Nat} (h : Ready s c i n) : Ready s.draw.2 c i n where
  runs := by simpa [State.runningOn, State.computes] using h.runs
  clean := by simpa [State.quiet] using h.clean
  coded := by simpa [State.draw_core] using h.coded
  budget := by simpa [State.draw_core] using h.budget

theorem State.onCore_congr {f g : Core → Core} (h : f (s.core c) = g (s.core c)) : s.onCore c f = s.onCore c g := by
  show s.setDie c.die { s.die c.die with cores := (s.die c.die).cores.set c.core (f (s.core c)) } = _
  rw [h]
  rfl

theorem State.retire_ready {cost : Nat} (h : Ready s c i cost) (f : Core → Core) (loops : (f (s.core c)).loops = (s.core c).loops) :
    s.retire c i { core := f (s.core c), cost := cost } = s.retires c cost f := by
  have advance : s.retire c i { core := f (s.core c), cost := cost } =
      if i.bound < ((s.core c).forward (s.core c) cost).ticks then s.programFault c i .budget
      else s.onCore c fun _ => (s.core c).forward (f (s.core c)) cost := by
    simp only [State.retire, loops, Core.forward]
    rfl
  rw [advance, if_neg (Nat.not_lt.mpr h.budget)]
  exact State.onCore_congr rfl

/-- An instruction that computes a new core and has the budget for it retires with that core (R258). -/
theorem State.coreStep_ready {cost : Nat} {g : Die → Core → Item → Except Cause Eff} {f : Core → Core} (h : Ready s c i cost)
    (n : s.atInstruction c i op = true) (computes : g (s.die c.die) (s.core c) i = .ok { core := f (s.core c), cost := cost })
    (loops : (f (s.core c)).loops = (s.core c).loops) : s.coreStep c op g = s.retires c cost f := by
  rw [State.coreStep_able h.toAble n, computes]
  exact State.retire_ready h f loops

/-- Without a mismatch and without an injection the residue check lets the instruction through (R256). -/
theorem State.coreStepChecked_quiet (h : Able s c i) (n : s.atInstruction c i op = true) (q : s.quiet c.die 2 = true)
    (g : Die → Core → Item → Except Cause Eff) : s.coreStepChecked c op true g = s.coreStep c op g := by
  simp [State.coreStepChecked, h.runs, n, State.checkInjected_quiet q]

/-- An instruction of class A writes its register and FLAGS. -/
theorem State.gives_aluOut {g : Die → Core → Item → Except Cause Eff} {rd : Fin 16} {v fl : Word} (h : Ready s c i 4)
    (steps : exec op s = .next (s.coreStep c op g)) (computes : g (s.die c.die) (s.core c) i = aluOut (s.core c) rd v fl) :
    s.gives c i op (.next (s.retires c 4 fun k => k.result rd v fl)) := fun n => by
  rw [steps, State.coreStep_ready (f := fun k => k.result rd v fl) h n computes rfl]

/-- As `State.gives_aluOut`, for an instruction that takes a free value. -/
theorem State.gives_aluOut_drawn {g : Die → Core → Item → Except Cause Eff} {rd : Fin 16} {v fl : Word} (h : Ready s c i 4)
    (steps : exec op s = .next (s.draw.2.coreStep c op g)) (computes : g (s.draw.2.die c.die) (s.draw.2.core c) i = aluOut (s.draw.2.core c) rd v fl) :
    s.gives c i op (.next (s.draw.2.retires c 4 fun k => k.result rd v fl)) := fun n => by
  have n' : s.draw.2.atInstruction c i op = true := by simpa [State.atInstruction] using n
  rw [steps, State.coreStep_ready (f := fun k => k.result rd v fl) h.draw n' computes rfl]

theorem State.gives_mul (rd ra rb : Fin 16) (h : Ready s c i 6) (q : s.quiet c.die 2 = true) :
    s.gives c i (.mul c rd ra rb true) (.next (s.draw.2.retires c 6 fun k => k.result rd ((s.core c).reg ra * (s.core c).reg rb)
      (flagsMul k.flags ((s.core c).reg ra) ((s.core c).reg rb) ((s.core c).reg ra * (s.core c).reg rb) (Config.freeBool s.draws)))) := fun n => by
  have n' : s.draw.2.atInstruction c i (.mul c rd ra rb true) = true := by simpa [State.atInstruction] using n
  have q' : s.draw.2.quiet c.die 2 = true := by simpa [State.quiet] using q
  show Host.Outcome.next (s.draw.2.coreStepChecked c _ true _) = _
  rw [State.coreStepChecked_quiet h.draw.toAble n' q']
  exact congrArg _ (State.coreStep_ready h.draw n' (by rw [State.draw_core]; rfl) rfl)

/-- An instruction that the residue check covers and that writes an accumulator saturates it, with AOV (R242). -/
theorem State.gives_accOut {g : Die → Core → Item → Except Cause Eff} {acc : Fin 4} {v : Int} (h : Ready s c i 6) (q : s.quiet c.die 2 = true)
    (steps : exec op s = .next (s.coreStepChecked c op true g)) (computes : g (s.die c.die) (s.core c) i = accOut (s.core c) acc v 6) :
    s.gives c i op (.next (s.retires c 6 fun k => (k.setAcc acc (sat72i v).1).withFlags (setAov k.flags (sat72i v).2))) := fun n => by
  rw [steps, State.coreStepChecked_quiet h.toAble n q]
  exact congrArg _ (State.coreStep_ready h n computes rfl)

end Retiring

/-! ### Reading the core after its result is written -/

@[simp] theorem State.retires_core (s : State) (c : CoreRef) (cost : Nat) (f : Core → Core) :
    (s.retires c cost f).core c = (s.core c).forward (f (s.core c)) cost := by
  simp [State.retires, State.onCore, State.core]

@[simp] theorem Core.forward_reg (k after : Core) (cost : Nat) (r : Fin 16) : (k.forward after cost).reg r = after.reg r := rfl
@[simp] theorem Core.forward_flags (k after : Core) (cost : Nat) : (k.forward after cost).flags = after.flags := rfl
@[simp] theorem Core.result_flags (k : Core) (rd : Fin 16) (v f : Word) : (k.result rd v f).flags = f := rfl
@[simp] theorem Core.result_reg (k : Core) (rd : Fin 16) (v f : Word) : (k.result rd v f).reg rd = v := by simp [Core.result, Core.reg]

theorem Core.result_reg_ne (k : Core) {rd r : Fin 16} (v f : Word) (h : r ≠ rd) : (k.result rd v f).reg r = k.reg r := by
  have : rd.val ≠ r.val := fun e => h (Fin.ext e.symm)
  simp [Core.result, Core.reg, this]

/-- What stands in the registers and in FLAGS after an instruction that wrote one register. -/
theorem State.gives_result_reads {s u : State} {c : CoreRef} {i : Item} {op : Instr} {cost : Nat} {rd : Fin 16} {v fl : Word}
    (h : s.gives c i op (.next (u.retires c cost fun k => k.result rd v fl))) (same : u.core c = s.core c) (n : s.atInstruction c i op = true) :
    ∃ t, exec op s = .next t ∧ (t.core c).reg rd = v ∧ (t.core c).flags = fl ∧ ∀ r, r ≠ rd → (t.core c).reg r = (s.core c).reg r := by
  refine ⟨_, h n, by simp, by simp, fun r hr => ?_⟩
  rw [State.retires_core, Core.forward_reg, Core.result_reg_ne _ _ _ hr, same]

theorem State.gives_result_reg {s u : State} {c : CoreRef} {i : Item} {op : Instr} {cost : Nat} {rd : Fin 16} {v fl : Word} {p : Word → Prop}
    (h : s.gives c i op (.next (u.retires c cost fun k => k.result rd v fl))) (same : u.core c = s.core c) (holds : p v)
    (n : s.atInstruction c i op = true) :
    ∃ t, exec op s = .next t ∧ p ((t.core c).reg rd) ∧ ∀ r, r ≠ rd → (t.core c).reg r = (s.core c).reg r := by
  obtain ⟨t, next, reg, -, others⟩ := State.gives_result_reads h same n
  exact ⟨t, next, reg ▸ holds, others⟩

/-! ### Saturation -/

/-- The value of a range nearest to an integer. -/
def clampTo (lo hi v : Int) : Int := if v < lo then lo else if hi < v then hi else v

theorem clampTo_eq_max_min {lo hi : Int} (h : lo ≤ hi) (v : Int) : clampTo lo hi v = max lo (min v hi) := by
  unfold clampTo
  split_ifs <;> omega

theorem clampTo_mem {lo hi : Int} (h : lo ≤ hi) (v : Int) : lo ≤ clampTo lo hi v ∧ clampTo lo hi v ≤ hi := by
  rw [clampTo_eq_max_min h]
  omega

theorem sat32i_eq (v : Int) :
    sat32i v = (BitVec.ofInt 32 (clampTo (-2147483648) 2147483647 v), decide (clampTo (-2147483648) 2147483647 v ≠ v)) := by
  rw [clampTo_eq_max_min (by decide)]
  rfl

theorem sat72i_eq (v : Int) :
    sat72i v = (BitVec.ofInt 72 (clampTo (-(2 ^ 71)) (2 ^ 71 - 1) v), decide (clampTo (-(2 ^ 71)) (2 ^ 71 - 1) v ≠ v)) := by
  rw [clampTo_eq_max_min (by decide)]
  rfl

theorem sat32i_toInt (v : Int) : (sat32i v).1.toInt = clampTo (-2147483648) 2147483647 v := by
  obtain ⟨low, high⟩ := clampTo_mem (lo := -2147483648) (hi := 2147483647) (by decide) v
  rw [sat32i_eq]
  exact BitVec.toInt_ofInt_eq_self (by decide) low (Int.lt_add_one_of_le high)

theorem sat72i_toInt (v : Int) : (sat72i v).1.toInt = clampTo (-(2 ^ 71)) (2 ^ 71 - 1) v := by
  obtain ⟨low, high⟩ := clampTo_mem (lo := -(2 ^ 71)) (hi := 2 ^ 71 - 1) (by decide) v
  rw [sat72i_eq]
  exact BitVec.toInt_ofInt_eq_self (by decide) low (Int.lt_add_one_of_le high)

/-- N, Z, C and V stand below SAT. -/
theorem putNZCV_sat (f : Word) (n z c v : Bool) : (putNZCV f n z c v).getLsbD 4 = f.getLsbD 4 := by
  have below : (BitVec.ofNat 32 (packBits [n, z, c, v])).getLsbD 4 = false := by revert n z c v; decide
  have kept : (0xFFFFFFF0#32).getLsbD 4 = true := by decide
  rw [putNZCV, BitVec.getLsbD_or, BitVec.getLsbD_and, below, kept, Bool.and_true, Bool.or_false]

theorem setSat_sat (f : Word) (on : Bool) : (setSat f on).getLsbD 4 = (f.getLsbD 4 || on) := by
  cases on <;> simp [setSat]

/-- A saturating instruction writes the nearest value of 32 bits and sets SAT where that is another value (R241). -/
theorem State.gives_sat32i_reads {s u : State} {c : CoreRef} {i : Item} {op : Instr} {cost : Nat} {rd : Fin 16} {x : Int} {N Z C V : Bool}
    (h : s.gives c i op (.next (u.retires c cost fun k => k.result rd (sat32i x).1 (setSat (putNZCV (s.core c).flags N Z C V) (sat32i x).2))))
    (same : u.core c = s.core c) (n : s.atInstruction c i op = true) :
    ∃ t, exec op s = .next t ∧ ((t.core c).reg rd).toInt = clampTo (-2147483648) 2147483647 x ∧
      (t.core c).flags.getLsbD 4 = ((s.core c).flags.getLsbD 4 || decide (clampTo (-2147483648) 2147483647 x ≠ x)) ∧
      ∀ r, r ≠ rd → (t.core c).reg r = (s.core c).reg r := by
  obtain ⟨t, next, reg, flags, others⟩ := State.gives_result_reads h same n
  refine ⟨t, next, by rw [reg, sat32i_toInt], ?_, others⟩
  rw [flags, setSat_sat, putNZCV_sat, sat32i_eq]

/-! ### Data arithmetic (R241) -/

theorem toNat_sub_word (a b : Word) : (a - b).toNat = (a.toNat + 4294967296 - b.toNat) % 4294967296 := by
  bv_omega

theorem toNat_add_signExtend (a : Word) (imm : BitVec 18) : ((a + imm.signExtend 32).toNat : Int) = (a.toNat + imm.toInt) % 4294967296 := by
  have sign : imm.signExtend 32 = BitVec.ofInt 32 imm.toInt := rfl
  have word : ((BitVec.ofInt 32 imm.toInt).toNat : Int) = imm.toInt % 4294967296 := by
    rw [BitVec.toNat_ofInt]
    omega
  rw [sign, BitVec.toNat_add]
  omega

theorem toInt_sarBy (a : Word) (n : Nat) :
    (sarBy a n).toInt = if 32 ≤ n then (if a.toInt < 0 then -1 else 0) else a.toInt / 2 ^ n := by
  unfold sarBy
  split
  · by_cases neg : a.toInt < 0 <;> simp [BitVec.msb_eq_toInt, neg]
  · rw [BitVec.toInt_sshiftRight, Int.shiftRight_eq_div_pow]
    norm_cast

/-- Settles O1: each instruction writes one register; what it writes is R241's. -/
theorem dataArithmetic : Obligations.DataArithmetic := by
  intro s c i rd ra rb h6 a b n top clamp sat gives saturates
  have h : Ready s c i 4 := h6.of_le (by decide)
  have drawn : s.draw.2.core c = s.core c := s.draw_core c
  have writes {u : State} {op : Instr} {cost : Nat} {v fl : Word} {p : Word → Prop} (same : u.core c = s.core c)
      (result : s.gives c i op (.next (u.retires c cost fun k => k.result rd v fl))) (holds : p v) : gives op p :=
    State.gives_result_reg result same holds
  clear_value gives
  refine ⟨?add, ?sub, ?mul, ?addi, ?adds, ?subs, ?abs, ?neg, ?shl, ?shr, ?sar⟩
  case add => exact writes rfl (State.gives_aluOut h rfl rfl) (BitVec.toNat_add a b)
  case sub => exact writes rfl (State.gives_aluOut h rfl rfl) (toNat_sub_word a b)
  case mul => exact fun q => writes drawn (State.gives_mul rd ra rb h6 q) (BitVec.toNat_mul a b)
  case addi => exact fun imm => writes rfl (State.gives_aluOut h rfl rfl) (toNat_add_signExtend a imm)
  case adds => exact State.gives_sat32i_reads (State.gives_aluOut h rfl rfl) rfl
  case subs => exact State.gives_sat32i_reads (State.gives_aluOut h rfl rfl) rfl
  case abs => exact State.gives_sat32i_reads (State.gives_aluOut_drawn h rfl rfl) drawn
  case neg =>
    have zero : -a.toInt = (0 : Word).toInt - a.toInt := by simp
    rw [zero]
    exact State.gives_sat32i_reads (State.gives_aluOut h rfl rfl) rfl
  case shl => exact writes rfl (State.gives_aluOut h rfl rfl) rfl
  case shr => exact writes rfl (State.gives_aluOut h rfl rfl) rfl
  case sar => exact writes rfl (State.gives_aluOut h rfl rfl) (toInt_sarBy a n)

/-! ### Multiplication into an accumulator (R242) -/

theorem setAov_eq_ite (f : Word) (p : Prop) [Decidable p] : setAov f (decide ¬p) = if p then f else f ||| 0x20#32 := by
  by_cases h : p <;> simp [setAov, h]

/-- What a covered instruction leaves that writes an accumulator, said with the value and with AOV where it is another one (R242). -/
theorem State.gives_accOut_clamped {s : State} {c : CoreRef} {i : Item} {op : Instr} {g : Die → Core → Item → Except Cause Eff} {acc : Fin 4} {v : Int}
    (h : Ready s c i 6) (q : s.quiet c.die 2 = true) (steps : exec op s = .next (s.coreStepChecked c op true g))
    (computes : g (s.die c.die) (s.core c) i = accOut (s.core c) acc v 6) (n : s.atInstruction c i op = true) :
    ∃ t w, exec op s = .next t ∧ w.toInt = clampTo (-(2 ^ 71)) (2 ^ 71 - 1) v ∧
      t = s.retires c 6 fun k => (k.setAcc acc w).withFlags (if clampTo (-(2 ^ 71)) (2 ^ 71 - 1) v = v then k.flags else k.flags ||| 0x20#32) := by
  refine ⟨_, (sat72i v).1, State.gives_accOut h q steps computes n, sat72i_toInt v, ?_⟩
  simp only [sat72i_eq, ne_eq, setAov_eq_ite]

/-- Settles O5: each of the three writes the accumulator from an exact value, under a residue check that finds nothing. -/
theorem multiplyAccumulate : Obligations.MultiplyAccumulate := by
  intro s c i acc ra rb mode h q a b x y top clamp old gives
  have product : productOf mode a b = x * y := by cases mode <;> rfl
  rw [← product]
  refine ⟨?mpy, ?mac, ?msu⟩
  case mpy => exact State.gives_accOut_clamped h q rfl rfl
  case mac => exact State.gives_accOut_clamped h q rfl rfl
  case msu => exact State.gives_accOut_clamped h q rfl rfl

end Sys2Proof.Machine

/-! SUPPORT. What one command can do to the life of the package, said once, and the statements about every step that follow from it: the order of the
image's stages, the phases, the queue, the boundary number and the Curtain. -/

namespace Sys2Proof.Machine

/-- The life right after a restart (R33, R415, R458). -/
def Life.reborn (l : Life) (strap : BitVec 2) : Life :=
  { pending := l.pending, pkgid := strap, phase := .seed, complete := false, applied := false, bA := none, bR := none, b := 0, fired := false, curtain := false }

/-- A command that neither restarts the package, ends a die's Seed nor is the boundary moves the life of the package. -/
theorem exec_moves (c : Instr) (s : State) (restarts : c.restarts = false) (joins : c.joins = false) (later : c ≠ .boundary) :
    s.life.Moves (lifeAfter (exec c s) s) := by
  cases c with
  | powerUp | packageReset | extest => cases restarts
  | seedDone => cases joins
  | boundary => exact absurd rfl later
  | blossomApply => exact execBlossomApply_moves s
  | ripeBegin => exact execRipeBegin_moves s
  | imageSectionRead => exact execImageSectionRead_moves _ s
  | signatureVerified => exact execSignatureVerified_moves s
  | debugFlashErase => exact execDebugFlashErase_moves _ _ _ s
  | debugFlashWrite => exact execDebugFlashWrite_moves _ _ _ s
  | cutOff => exact execCutOff_moves s
  | supplySample => exact execSupplySample_moves _ _ s
  | supplyFault => exact execSupplyFault_moves _ s
  | tempSample => exact execTempSample_moves _ _ s
  | tempFault => exact execTempFault_moves _ s
  | coarseCheckWindow => exact execCoarseCheckWindow_moves _ _ s
  | compareFailure => exact execCompareFailure_moves s
  | curtainDemand => exact execCurtainDemand_moves s
  | fioWatchdog => exact execFioWatchdog_moves s
  | transientLimit => exact execTransientLimit_moves _ _ _ s
  | handshakeStall => exact execHandshakeStall_moves _ _ s
  | _ => exact .of_eq (by simp only [exec]; simp)

/-- What a command that answers with `t` has done to the life of the package. -/
inductive LifeStep (c : Instr) (s t : State) : Prop where
  | restarts (row : c.restarts = true) (strap : BitVec 2) (life : t.life = s.life.reborn strap)
  | joins (row : c.joins = true) (kept : t.life = s.life ∨ (s.phase = .seed ∧ t.life = { s.life with phase := .blossom }) ∨ t.life = s.life.imageless .blossom)
  | idles (same : t = s)
  | fires (row : c = .boundary) (l : Life) (before : s.life.Moves l) (after : l.atBoundary.Moves t.life)
  | moves (restarts : c.restarts = false) (joins : c.joins = false) (row : c ≠ .boundary) (move : s.life.Moves t.life)

theorem exec_lifeStep {c : Instr} {s t : State} (h : exec c s = .next t) : LifeStep c s t := by
  have after : lifeAfter (exec c s) s = t.life := by rw [h, lifeAfter_next]
  cases restarts : c.restarts with
  | true =>
    cases c with
    | powerUp strap | packageReset strap | extest => cases h; exact .restarts rfl _ rfl
    | _ => cases restarts
  | false =>
  cases joins : c.joins with
  | true =>
    cases c with
    | seedDone d => exact .joins rfl (after ▸ execSeedDone_life d s)
    | _ => cases joins
  | false =>
  by_cases later : c = .boundary
  · subst later
    rcases execBoundary_moves s with idle | ⟨l, before, moved⟩
    · exact .idles (Host.Outcome.next.inj (h.symm.trans idle))
    · exact .fires rfl l before (after ▸ moved)
  · exact .moves restarts joins later (after ▸ exec_moves c s restarts joins later)

/-- A step runs a command, or idles. -/
theorem step_cases {s t : State} (h : step s = .next t) :
    (s.pending = [] ∧ t = s) ∨ ∃ c rest, s.pending = c :: rest ∧ LifeStep c { s with pending := rest } t := by
  unfold step at h
  split at h
  · next empty => cases h; exact .inl ⟨empty, rfl⟩
  · next c rest front => exact .inr ⟨c, rest, front, exec_lifeStep h⟩

/-! ### The order of the image's stages -/

theorem Life.reborn_ordered (l : Life) (strap : BitVec 2) : (l.reborn strap).Ordered := by constructor <;> simp [Life.reborn]

theorem Life.imageless_ordered (l : Life) : (l.imageless .blossom).Ordered := by constructor <;> simp [Life.imageless]

/-- Where Seed ends, no image is under way, and none is in Blossom. -/
theorem Life.Ordered.blossom {l : Life} (h : l.Ordered) (seed : l.phase = .seed) : ({ l with phase := .blossom } : Life).Ordered where
  staged := h.staged
  applied := h.applied
  named := h.named
  ripe q := by cases q
  none q := h.none (.inl seed)

theorem LifeStep.ordered {c : Instr} {s t : State} (h : LifeStep c s t) (o : s.life.Ordered) : t.life.Ordered := by
  cases h with
  | restarts _ strap life => exact life ▸ Life.reborn_ordered _ _
  | joins _ kept =>
    rcases kept with e | ⟨seed, e⟩ | e <;> rw [e]
    · exact o
    · exact o.blossom seed
    · exact Life.imageless_ordered _
  | idles same => exact same ▸ o
  | fires _ l before after => exact after.ordered (before.ordered o).atBoundary
  | moves _ _ _ move => exact move.ordered o

/-- Settles O54. -/
theorem stepKeepsOrdered : Obligations.StepKeepsOrdered := by
  intro s t o h
  rcases step_cases h with ⟨-, same⟩ | ⟨c, rest, -, run⟩
  · exact same ▸ o
  · exact run.ordered ⟨o.staged, o.applied, o.named, o.ripe, o.none⟩

/-! ### The phases -/

theorem LifeStep.leads {c : Instr} {s t : State} (h : LifeStep c s t) (restarts : c.restarts = false) (joins : c.joins = false) :
    Phase.Leads s.phase t.phase := by
  cases h with
  | restarts row => exact absurd (row.symm.trans restarts) (by decide)
  | joins row => exact absurd (row.symm.trans joins) (by decide)
  | idles same => exact same ▸ .stay _
  | fires _ l before after => exact before.leads.trans after.leads
  | moves _ _ _ move => exact move.leads

theorem LifeStep.joined {c : Instr} {s t : State} (h : LifeStep c s t) (joins : c.joins = true) : t.phase = s.phase ∨ t.phase = .blossom := by
  cases h with
  | restarts row => cases c <;> cases row <;> cases joins
  | joins _ kept =>
    rcases kept with e | ⟨-, e⟩ | e
    · exact .inl (congrArg Life.phase e)
    · exact .inr (congrArg Life.phase e)
    · exact .inr (congrArg Life.phase e)
  | idles same => exact .inl (same ▸ rfl)
  | fires row => subst row; cases joins
  | moves _ none => exact absurd (joins.symm.trans none) (by decide)

/-- Settles O55. -/
theorem phasesAdvance : Obligations.PhasesAdvance := by
  intro s t c rest front restarts h
  rcases step_cases h with ⟨empty, -⟩ | ⟨c', rest', front', run⟩
  · cases empty.symm.trans front
  · cases front'.symm.trans front
    exact ⟨run.leads restarts, run.joined⟩

/-! ### The queue and the strap -/

theorem LifeStep.pending {c : Instr} {s t : State} (h : LifeStep c s t) : t.pending = s.pending := by
  cases h with
  | restarts _ strap life => exact congrArg Life.pending life
  | joins _ kept => rcases kept with e | ⟨-, e⟩ | e <;> exact congrArg Life.pending e
  | idles same => exact same ▸ rfl
  | fires _ l before after => exact after.pending.trans before.pending
  | moves _ _ _ move => exact move.pending

theorem LifeStep.pkgid {c : Instr} {s t : State} (h : LifeStep c s t) (restarts : c.restarts = false) : t.pkgid = s.pkgid := by
  cases h with
  | restarts row => exact absurd (row.symm.trans restarts) (by decide)
  | joins _ kept => rcases kept with e | ⟨-, e⟩ | e <;> exact congrArg Life.pkgid e
  | idles same => exact same ▸ rfl
  | fires _ l before after => exact after.pkgid.trans before.pkgid
  | moves _ _ _ move => exact move.pkgid

/-- Settles O56. -/
theorem stepConsumesOne : Obligations.StepConsumesOne := by
  intro s t h
  rcases step_cases h with ⟨empty, rfl⟩ | ⟨c, rest, front, run⟩
  · exact ⟨by rw [empty, List.tail_nil], fun _ => rfl⟩
  · refine ⟨by rw [front]; exact run.pending, fun none => run.pkgid (none c ?_)⟩
    rw [front]
    rfl

/-! ### The boundary number -/

/-- Nothing but the boundary and a restart numbers a boundary (R33). -/
theorem LifeStep.number {c : Instr} {s t : State} (h : LifeStep c s t) (restarts : c.restarts = false) (later : c ≠ .boundary) :
    t.mw.b = s.mw.b ∧ t.mw.fired = s.mw.fired := by
  cases h with
  | restarts row => exact absurd (row.symm.trans restarts) (by decide)
  | joins _ kept => rcases kept with e | ⟨-, e⟩ | e <;> exact ⟨congrArg Life.b e, congrArg Life.fired e⟩
  | idles same => exact same ▸ ⟨rfl, rfl⟩
  | fires row => exact absurd row later
  | moves _ _ _ move => exact ⟨move.number, move.fired⟩

/-- Settles O57. -/
theorem boundaryNumber : Obligations.BoundaryNumber := by
  refine ⟨fun c s t restarts later h => (exec_lifeStep h).number restarts later, fun s t h => ?fires,
    fun s strap => ⟨_, _, rfl, rfl, rfl, rfl, rfl, rfl⟩⟩
  cases exec_lifeStep h with
  | restarts row => cases row
  | joins row => cases row
  | idles same => exact .inl same
  | fires _ l before after =>
    have fired : l.fired = s.mw.fired := before.fired
    have number : l.b = s.mw.b := before.number
    exact .inr ⟨after.fired, by rw [← fired, ← number]; exact after.number⟩
  | moves _ _ later => exact absurd rfl later

/-! ### The Curtain -/

theorem LifeStep.curtained {c : Instr} {s t : State} (h : LifeStep c s t) (restarts : c.restarts = false) (dark : s.curtained = true) : t.curtained = true := by
  cases h with
  | restarts row => exact absurd (row.symm.trans restarts) (by decide)
  | joins _ kept => rcases kept with e | ⟨-, e⟩ | e <;> exact (congrArg Life.curtain e).trans dark
  | idles same => exact same ▸ dark
  | fires _ l before after => exact after.curtain (before.curtain dark)
  | moves _ _ _ move => exact move.curtain dark

/-- Settles O58. -/
theorem curtainStands : Obligations.CurtainStands := by
  refine ⟨fun s t dark none h => ?stands, fun s strap => ⟨_, _, rfl, rfl, rfl, rfl⟩⟩
  rcases step_cases h with ⟨-, same⟩ | ⟨c, rest, front, run⟩
  · exact same ▸ dark
  · refine run.curtained (none c ?_) dark
    rw [front]
    rfl

end Sys2Proof.Machine

/-! SUPPORT. Byte memories hold one canonical form for each contents, and the statement about the byte stores. -/

namespace Sys2Proof.Machine

@[simp] theorem Memory.readN_length (m : Memory) (a n : Nat) : (m.readN a n).length = n := by
  induction n generalizing a with
  | zero => rfl
  | succ n ih => simp [Memory.readN, ih]

theorem Memory.readN_getElem (m : Memory) (a n i : Nat) (h : i < (m.readN a n).length) : (m.readN a n)[i] = m.read (a + i) := by
  induction n generalizing a i with
  | zero => simp at h
  | succ n ih =>
    cases i with
    | zero => rfl
    | succ j =>
      have := ih (a + 1) j (by simpa using h)
      simpa [Memory.readN, Nat.add_assoc, Nat.add_comm 1 j] using this

theorem Memory.readN_writeN (m : Memory) (a : Nat) (bs : List Byte) : (m.writeN a bs).readN a bs.length = bs := by
  refine List.ext_getElem (by simp) fun i h h' => ?_
  rw [Memory.readN_getElem, Memory.read_writeN_inside _ _ _ _ h']

/-- Below its first address a canonical memory reads 0. -/
theorem Memory.read_below {m : Memory} {lo a : Nat} (h : Memory.wfFrom lo m = true) (k : a < lo) : m.read a = 0 := by
  induction m generalizing lo with
  | nil => rfl
  | cons c r ih =>
    obtain ⟨low, -, rest⟩ := (Memory.wfFrom_cons _ _ _).1 h
    rw [Memory.read, if_neg (by omega)]
    exact ih rest (by omega)

theorem Memory.read_head (k : Nat) (v : Byte) (r : Memory) : Memory.read ((k, v) :: r) k = v := by simp [Memory.read]

/-- Past its first cell a memory reads as its rest. -/
theorem Memory.read_tail {k a : Nat} (v : Byte) (r : Memory) (h : k < a) : Memory.read ((k, v) :: r) a = r.read a := by
  rw [Memory.read, if_neg (by omega)]

/-- Two canonical memories that read alike begin at the same address: else the lower one reads 0 where it holds a cell. -/
theorem Memory.wfFrom_head_le {lo k l : Nat} {v w : Byte} {r q : Memory} (h : Memory.wfFrom lo ((k, v) :: r) = true) (g : Memory.wfFrom lo ((l, w) :: q) = true)
    (same : ∀ a, Memory.read ((k, v) :: r) a = Memory.read ((l, w) :: q) a) : l ≤ k := by
  by_contra later
  obtain ⟨-, cell, -⟩ := (Memory.wfFrom_cons _ _ _).1 h
  obtain ⟨-, cell', rest⟩ := (Memory.wfFrom_cons _ _ _).1 g
  have above : Memory.wfFrom l ((l, w) :: q) = true := (Memory.wfFrom_cons _ _ _).2 ⟨Nat.le_refl l, cell', rest⟩
  exact cell (by rw [← Memory.read_head k v r, same, Memory.read_below above (by omega)])

/-- Canonical memories that read alike are equal. -/
theorem Memory.ext_wfFrom {m n : Memory} {lo : Nat} (h : Memory.wfFrom lo m = true) (g : Memory.wfFrom lo n = true) (same : ∀ a, m.read a = n.read a) : m = n := by
  induction m generalizing n lo with
  | nil =>
    cases n with
    | nil => rfl
    | cons c q =>
      obtain ⟨-, cell, -⟩ := (Memory.wfFrom_cons _ _ _).1 g
      exact absurd ((Memory.read_head c.1 c.2 q).symm.trans (same c.1).symm) cell
  | cons c r ih =>
    obtain ⟨-, cell, rest⟩ := (Memory.wfFrom_cons _ _ _).1 h
    cases n with
    | nil => exact absurd ((Memory.read_head c.1 c.2 r).symm.trans (same c.1)) cell
    | cons e q =>
      obtain ⟨k, v⟩ := c
      obtain ⟨l, w⟩ := e
      obtain ⟨-, -, rest'⟩ := (Memory.wfFrom_cons _ _ _).1 g
      have key : k = l := Nat.le_antisymm (Memory.wfFrom_head_le g h fun a => (same a).symm) (Memory.wfFrom_head_le h g same)
      subst key
      have byte : v = w := by simpa only [Memory.read_head] using same k
      have tail : r = q := ih rest rest' fun a => by
        by_cases above : k < a
        · simpa only [Memory.read_tail _ _ above] using same a
        · rw [Memory.read_below rest (by omega), Memory.read_below rest' (by omega)]
      rw [byte, tail]

/-- Settles O59. -/
theorem storeForm : Obligations.StoreForm :=
  ⟨fun m a bs h => ⟨Memory.writeN_wf h a bs, fun k => Memory.read_writeN_outside m a k bs, fun k => Memory.read_writeN_inside m a k bs, m.readN_writeN a bs⟩,
    fun _ _ h g same => Memory.ext_wfFrom h g same⟩

end Sys2Proof.Machine

/-! SUPPORT. Every command answers with a state, but for the debug port's accesses outside an array, and the statement that says so. -/

namespace Sys2Proof.Machine

/-- A command's meaning answers with a state. -/
def Answers (r : Result) : Prop := ∃ t, r = .next t

theorem answers_next (t : State) : Answers (.next t) := ⟨t, rfl⟩

theorem answers_ite {p : Prop} [Decidable p] {a b : Result} (yes : Answers a) (no : Answers b) : Answers (if p then a else b) := by
  split
  · exact yes
  · exact no

theorem hostCommand_answers (opcode : Nat) (h : HostCmd) (s : State) : Answers (hostCommand opcode h s) := answers_ite (answers_next _) (answers_next _)

/-! ### The rows whose meaning branches more than twice, or on a value -/

@[simp] theorem execSeedDone_answers (d : DieId) (s : State) : Answers (execSeedDone d s) := by
  unfold execSeedDone
  extract_lets
  (repeat' split) <;> exact answers_next _

@[simp] theorem execImageSectionRead_answers (part : ImagePart) (s : State) : Answers (execImageSectionRead part s) := by
  unfold execImageSectionRead
  (repeat' split) <;> exact answers_next _

@[simp] theorem execDebugResponse_answers (bytes : List Byte) (s : State) : Answers (execDebugResponse bytes s) := by
  unfold execDebugResponse
  (repeat' split) <;> exact answers_next _

@[simp] theorem execReadmission_answers (d : DieId) (s : State) : Answers (execReadmission d s) := by
  unfold execReadmission
  extract_lets
  (repeat' split) <;> exact answers_next _

@[simp] theorem execRegisterWrite_answers (d : DieId) (at_ : BarOffset) (value : Word) (s : State) : Answers (execRegisterWrite d at_ value s) := by
  unfold execRegisterWrite
  extract_lets
  (repeat' split) <;> exact answers_next _

@[simp] theorem execDequeueNotice_answers (d : DieId) (s : State) : Answers (execDequeueNotice d s) := by
  unfold execDequeueNotice
  (repeat' split) <;> exact answers_next _

@[simp] theorem execPlaceTestEnd_answers (d : DieId) (pass : Bool) (s : State) : Answers (execPlaceTestEnd d pass s) := by
  unfold execPlaceTestEnd
  (repeat' split) <;> exact answers_next _

@[simp] theorem execFactorisationDone_answers (d : DieId) (mismatch : Option (Fin 4)) (s : State) : Answers (execFactorisationDone d mismatch s) := by
  unfold execFactorisationDone
  split
  · exact answers_next _
  refine answers_ite (answers_next _) (answers_ite (answers_next _) ?_)
  dsimp only
  split
  · exact answers_ite (answers_next _) (answers_next _)
  · (repeat' split) <;> exact answers_next _

@[simp] theorem execCheckpoint_answers (d : DieId) (s : State) : Answers (execCheckpoint d s) := by
  unfold execCheckpoint
  repeat' first | split | extract_lets
  all_goals exact answers_next _

@[simp] theorem execJugglerDeadline_answers (d : DieId) (s : State) : Answers (execJugglerDeadline d s) := by
  unfold execJugglerDeadline
  extract_lets
  (repeat' split) <;> exact answers_next _

@[simp] theorem execCheckpointReport_answers (d : DieId) (k : Nat) (s : State) : Answers (execCheckpointReport d k s) := by
  unfold execCheckpointReport
  repeat' first | split | extract_lets
  all_goals exact answers_next _

@[simp] theorem execChosenCheckpoint_answers (d : DieId) (k : Nat) (s : State) : Answers (execChosenCheckpoint d k s) := by
  unfold execChosenCheckpoint
  extract_lets
  (repeat' split) <;> exact answers_next _

@[simp] theorem execGeneratorAdvance_answers (d : DieId) (j : Fin 64) (s : State) : Answers (execGeneratorAdvance d j s) := by
  unfold execGeneratorAdvance
  extract_lets
  (repeat' split) <;> exact answers_next _

@[simp] theorem execBrakeReleaseDone_answers (d : DieId) (j : Fin 64) (s : State) : Answers (execBrakeReleaseDone d j s) := by
  unfold execBrakeReleaseDone
  extract_lets
  (repeat' split) <;> exact answers_next _

@[simp] theorem execStopRampEnd_answers (d : DieId) (j : Fin 64) (s : State) : Answers (execStopRampEnd d j s) := by
  unfold execStopRampEnd
  extract_lets
  (repeat' split) <;> exact answers_next _

@[simp] theorem execDeferredEnable_answers (d : DieId) (j : Fin 64) (s : State) : Answers (execDeferredEnable d j s) := by
  unfold execDeferredEnable
  extract_lets
  (repeat' split) <;> exact answers_next _

@[simp] theorem execSwitchSettled_answers (d : DieId) (j : Fin 64) (s : State) : Answers (execSwitchSettled d j s) := by
  unfold execSwitchSettled
  repeat' first | split | extract_lets
  all_goals exact answers_next _

@[simp] theorem execHomeEvent_answers (d : DieId) (j : Fin 64) (s : State) : Answers (execHomeEvent d j s) := by
  unfold execHomeEvent
  repeat' first | split | extract_lets
  all_goals exact answers_next _

@[simp] theorem execHomingTimeout_answers (d : DieId) (j : Fin 64) (s : State) : Answers (execHomingTimeout d j s) := by
  unfold execHomingTimeout
  (repeat' split) <;> exact answers_next _

@[simp] theorem execReducedHold_answers (d : DieId) (j : Fin 64) (s : State) : Answers (execReducedHold d j s) := by
  unfold execReducedHold
  extract_lets
  (repeat' split) <;> exact answers_next _

@[simp] theorem execStall_answers (d : DieId) (j : Fin 64) (s : State) : Answers (execStall d j s) := by
  unfold execStall
  extract_lets
  (repeat' split) <;> exact answers_next _

@[simp] theorem execSepCycleCompute_answers (d : DieId) (s : State) : Answers (execSepCycleCompute d s) := by
  unfold execSepCycleCompute
  (repeat' split) <;> exact answers_next _

@[simp] theorem execSepResultExchange_answers (d : DieId) (s : State) : Answers (execSepResultExchange d s) := by
  unfold execSepResultExchange
  extract_lets
  (repeat' split) <;> exact answers_next _

@[simp] theorem execSepCombinedResult_answers (d : DieId) (s : State) : Answers (execSepCombinedResult d s) := by
  unfold execSepCombinedResult
  extract_lets
  (repeat' split) <;> exact answers_next _

@[simp] theorem execItemRelease_answers (d : DieId) (entry : Fin 1024) (s : State) : Answers (execItemRelease d entry s) := by
  unfold execItemRelease
  repeat' first | split | extract_lets
  all_goals exact answers_next _

@[simp] theorem execItemComplete_answers (d : DieId) (core : Fin 32) (s : State) : Answers (execItemComplete d core s) := by
  unfold execItemComplete
  extract_lets
  (repeat' split) <;> exact answers_next _

@[simp] theorem execItemDrop_answers (d : DieId) (entry : Fin 1024) (s : State) : Answers (execItemDrop d entry s) := by
  unfold execItemDrop
  extract_lets
  (repeat' split) <;> exact answers_next _

@[simp] theorem execStateRepair_answers (d : DieId) (entry : Fin 1024) (s : State) : Answers (execStateRepair d entry s) := by
  unfold execStateRepair
  extract_lets
  (repeat' split) <;> exact answers_next _

@[simp] theorem execHandshakeStall_answers (place : UnitId) (retryFails : Bool) (s : State) : Answers (execHandshakeStall place retryFails s) := by
  unfold execHandshakeStall
  repeat' first | split | extract_lets
  all_goals exact answers_next _

@[simp] theorem execLd_answers (c : CoreRef) (r : Fin 16) (p : Fin 8) (m : AddrMode) (sz : MemSize) (check : ReadCheck) (s : State) : Answers (execLd c r p m sz check s) := by
  unfold execLd
  extract_lets
  (repeat' split) <;> exact answers_next _

@[simp] theorem execRingFrameReturn_answers (ring : Fin 8) (port : RingPort) (frame : RxFrame) (s : State) : Answers (execRingFrameReturn ring port frame s) := by
  unfold execRingFrameReturn
  repeat' first | split | extract_lets
  all_goals exact answers_next _

@[simp] theorem execMailboxRetryExhausted_answers (ring : Fin 8) (pos : Fin 16) (s : State) : Answers (execMailboxRetryExhausted ring pos s) := by
  unfold execMailboxRetryExhausted
  (repeat' split) <;> exact answers_next _

@[simp] theorem execRingNodeFrame_answers (ring : Fin 8) (port : RingPort) (frame : RxFrame) (s : State) : Answers (execRingNodeFrame ring port frame s) := by
  unfold execRingNodeFrame
  repeat' first | split | extract_lets
  all_goals exact answers_next _

@[simp] theorem execNodeApplyInstant_answers (ring : Fin 8) (s : State) : Answers (execNodeApplyInstant ring s) := by
  unfold execNodeApplyInstant
  extract_lets
  (repeat' split) <;> exact answers_next _

@[simp] theorem execIsolateEnd_answers (ring : Fin 8) (s : State) : Answers (execIsolateEnd ring s) := by
  unfold execIsolateEnd
  (repeat' split) <;> exact answers_next _

@[simp] theorem execCellFrameReceive_answers (port : Fin 6) (bytes : List Byte) (s : State) : Answers (execCellFrameReceive port bytes s) := by
  unfold execCellFrameReceive
  repeat' first | split | extract_lets
  all_goals exact answers_next _

@[simp] theorem execHeartbeat_answers (sender : DieId) (path : HbPath) (s : State) : Answers (execHeartbeat sender path s) := by
  unfold execHeartbeat
  extract_lets
  (repeat' split) <;> exact answers_next _

@[simp] theorem execWatchdogAutoRestore_answers (s : State) : Answers (execWatchdogAutoRestore s) := by
  unfold execWatchdogAutoRestore
  (repeat' split) <;> exact answers_next _

@[simp] theorem execEnablePairFault_answers (s : State) : Answers (execEnablePairFault s) := by
  unfold execEnablePairFault
  (repeat' split) <;> exact answers_next _

@[simp] theorem execCurtainPairFault_answers (s : State) : Answers (execCurtainPairFault s) := by
  unfold execCurtainPairFault
  (repeat' split) <;> exact answers_next _

@[simp] theorem execCurtainStopCode_answers (s : State) : Answers (execCurtainStopCode s) := by
  unfold execCurtainStopCode
  (repeat' split) <;> exact answers_next _

@[simp] theorem execEncoderSample_answers (n : Fin 4) (sample : EncSample) (s : State) : Answers (execEncoderSample n sample s) := by
  unfold execEncoderSample
  extract_lets
  (repeat' split) <;> exact answers_next _

@[simp] theorem execHeartbeatSilence_answers (d : DieId) (s : State) : Answers (execHeartbeatSilence d s) := by
  unfold execHeartbeatSilence
  extract_lets
  (repeat' split) <;> exact answers_next _

@[simp] theorem execDigestReceive_answers (d : DieId) (s : State) : Answers (execDigestReceive d s) := by
  unfold execDigestReceive
  extract_lets
  (repeat' split) <;> exact answers_next _

@[simp] theorem execSyncPassDone_answers (copied dirty : Nat) (s : State) : Answers (execSyncPassDone copied dirty s) := by
  unfold execSyncPassDone
  (repeat' split) <;> exact answers_next _

@[simp] theorem execSyncTimeout_answers (s : State) : Answers (execSyncTimeout s) := by
  unfold execSyncTimeout
  (repeat' split) <;> exact answers_next _

@[simp] theorem execAutoSync_answers (s : State) : Answers (execAutoSync s) := by
  unfold execAutoSync
  repeat' first | split | extract_lets
  all_goals exact answers_next _

@[simp] theorem execJournalEpoch_answers (d : DieId) (epoch : Nat) (crcOk : Bool) (s : State) : Answers (execJournalEpoch d epoch crcOk s) := by
  unfold execJournalEpoch
  extract_lets
  (repeat' split) <;> exact answers_next _

@[simp] theorem execRevertHoldoff_answers (s : State) : Answers (execRevertHoldoff s) := by
  unfold execRevertHoldoff
  (repeat' split) <;> exact answers_next _

@[simp] theorem execInjectionExpiry_answers (d : DieId) (slot : Fin 4) (s : State) : Answers (execInjectionExpiry d slot s) := by
  unfold execInjectionExpiry
  extract_lets
  (repeat' split) <;> exact answers_next _

@[simp] theorem execCatcherBehind_answers (d : DieId) (s : State) : Answers (execCatcherBehind d s) := by
  unfold execCatcherBehind
  extract_lets
  (repeat' split) <;> exact answers_next _

/-! ### All rows, by the shape of their meaning -/

theorem exec_answers (c : Instr) (s : State) (row : c.addresses = false) : Answers (exec c s) := by
  cases c with
  | debugRead | debugWrite | debugFlashRead | debugFlashErase | debugFlashWrite => cases row
  | badOpcode => exact answers_ite (answers_next _) (hostCommand_answers _ _ _)
  | nop | identify | getStatus | configPeriods | configDeadline | configDiscard | commit | getBoundary | timeGet | timeSetIncrement | timeOffset
  | timeForceStep | configPtp | ptpStatus | configTpo | tpiStream | configSwitch | cellPortStatus | configCellPeers | configRing | configNode
  | ringStatus | ringScan | ringCounters | mailboxSend | mailboxStream | ringStop | configJoint | configLimits | jointEnable | jointDisable
  | movePoint | moveVelocity | streamPoints | home | configHoming | configStandstill | jointStatus | jointStop | configFollowing | configControl
  | configFilter | configFeedforward | tableWrite | tableRead | extTorque | configFeedback | controlStatus | configJuggler | configWeights
  | referenceLoad | configRows | jugglerStatus | planRead | planStream | configGeometry | configKinematics | configSsmParams | configSensor
  | configZone | zoneRequest | zoneRelease | sepStatus | sepStream | configInputs | configOutputs | fioWrite | fioRead | fioRearm | configWatchdog
  | configEncoder | configSafetyInputs | trapezeStatus | configTrapeze | syncStart | switchOver | healthStream | faultInject | configEvents
  | eventRead | eventClear | placeTest | faultStatus | preserveFreeze | preserveThaw | preserveRead | configStatistics | statsRead | codeLoad
  | configProgram | programRead | traceOpen | traceClose | dispatchStatus => exact hostCommand_answers _ _ _
  | dieReset | pcieLinkUp | blossomApply | ripeBegin | jogTimeout | debugHalt | debugStep | debugFuseProgram | boundary | cutOff | atEpochExecute
  | clusterUngated | queueDrained | queueDmaError | msixBoundarySignal | pcieLcrcError | pairingWindowExpiry | preserveAutoThaw | driveReady
  | enableTimeout | softEnd | armStopRest | brakeEngageDone | feedbackLost | feedbackFrozen | extTorqueStale | extTorqueFaded | tableCopyDone
  | stopRequestRelease | prefetchDone | exit_ | ringLinkDown | loopbackEnd | ringListenEnd | ringBackoffEnd | ringDataStart | nodeLossStop
  | flitReceive | flitAckTimeout | cellLinkChange | cellLinkDown | cellLinkUp | ptpMessage | tpoEdge | tpoPulseEnd | peerHeartbeatSend | peerLost
  | chatter | stuckActive | inputValid | upLow | upLost | upHigh | upFlagClear | upRecovered | openLoad | heartbeatSend | fioWatchdog | curtainDemand
  | indexEdge | countError | latentReady | supplyFault | tempSample | tempFault | fineCheckWindow | transientLimit | quadratureEdge | vcoreRemoved
  | vcoreReturn | directLinkRestored => exact answers_ite (answers_next _) (answers_next _)
  | signatureVerified | debugChallenge | replyResume | ringLinkUp | mailboxReceive | ptpSyncInterval | tpiEdge | outputFault | tokenRelinquish
  | tokenRequest | supplySample | coarseCheckWindow =>
    exact answers_ite (answers_next _) (answers_ite (answers_next _) (answers_next _))
  | seedDone | imageSectionRead | debugResponse | readmission | registerWrite | dequeueNotice | placeTestEnd | factorisationDone | checkpoint
  | jugglerDeadline | checkpointReport | chosenCheckpoint | generatorAdvance | brakeReleaseDone | stopRampEnd | deferredEnable | switchSettled
  | homeEvent | homingTimeout | reducedHold | stall | sepCycleCompute | sepResultExchange | sepCombinedResult | itemRelease | itemComplete | itemDrop
  | stateRepair | handshakeStall | ld | ringFrameReturn | mailboxRetryExhausted | ringNodeFrame | nodeApplyInstant | isolateEnd | cellFrameReceive
  | heartbeat | watchdogAutoRestore | enablePairFault | curtainPairFault | curtainStopCode | encoderSample | heartbeatSilence | digestReceive
  | syncPassDone | syncTimeout | autoSync | journalEpoch | revertHoldoff | injectionExpiry | catcherBehind => simp only [exec]; simp
  | _ => exact answers_next _

/-- An access of the debug port without a session that allows it, outside its array, or inside it (R463, R480). -/
theorem debugAccess_answers {off : Bool} {p : Prop} [Decidable p] {s : State} {r : Result} (inside : Answers r) :
    Answers (if off = true then .next s else if p then .fault .noSuchAddress else r) ∨
      (if off = true then .next s else if p then .fault .noSuchAddress else r : Result) = .fault .noSuchAddress := by
  by_cases session : off = true
  · exact .inl (by rw [if_pos session]; exact answers_next s)
  by_cases outside : p
  · exact .inr (by rw [if_neg session, if_pos outside])
  · exact .inl (by rw [if_neg session, if_neg outside]; exact inside)

/-- Settles O60. -/
theorem everyCommandAnswers : Obligations.EveryCommandAnswers := by
  intro c s
  cases row : c.addresses with
  | false => exact .inl (exec_answers c s row)
  | true =>
    rw [and_iff_right rfl]
    cases c with
    | debugRead | debugFlashRead | debugFlashErase | debugFlashWrite => exact debugAccess_answers (answers_next _)
    | debugWrite where_ => exact debugAccess_answers (by cases where_ <;> exact answers_next _)
    | _ => cases row

end Sys2Proof.Machine

/-! SUPPORT. The arithmetic of a servo core beside R241's and R242's: flags, logic, moves, accumulators and pointers (R243, R245, Tables 8.2, 8.12, 8.13), and the
statements about them. -/

namespace Sys2Proof.Machine

section Giving

variable {s : State} {c : CoreRef} {i : Item} {op : Instr} {g : Die → Core → Item → Except Cause Eff}

/-- An instruction that computes a new core retires with it. -/
theorem State.gives_core {cost : Nat} {f : Core → Core} (h : Ready s c i cost) (steps : exec op s = .next (s.coreStep c op g))
    (computes : g (s.die c.die) (s.core c) i = .ok { core := f (s.core c), cost := cost }) (loops : (f (s.core c)).loops = (s.core c).loops) :
    s.gives c i op (.next (s.retires c cost f)) := fun n => by
  rw [steps, State.coreStep_ready h n computes loops]

/-- An instruction that computes a program fault faults. -/
theorem State.gives_fault {cause : Cause} (h : Able s c i) (steps : exec op s = .next (s.coreStep c op g))
    (computes : g (s.die c.die) (s.core c) i = .error cause) : s.gives c i op (.next (s.programFault c i cause)) := fun n => by
  rw [steps, State.coreStep_able h n, computes]

end Giving

theorem State.onCore_core (s : State) (c : CoreRef) (f : Core → Core) : (s.onCore c f).core c = f (s.core c) := by
  simp [State.onCore, State.core]

/-- Two ways of saying what a retiring core holds agree where they agree on the core before. -/
theorem State.retires_congr {s : State} {c : CoreRef} {cost : Nat} {f g : Core → Core} (h : f (s.core c) = g (s.core c)) :
    s.retires c cost f = s.retires c cost g := State.onCore_congr (by rw [h])

/-! ### Addition, subtraction and comparison -/

/-- A 32-bit result differs from the exact one where that lies outside the range of a word. -/
theorem ne_bmod_word_iff (v : Int) : v ≠ v.bmod (2 ^ 32) ↔ v < -2147483648 ∨ 2147483647 < v := by
  rw [Int.bmod_def]
  split <;> omega

/-- A value lies outside the range of a word. -/
def outOfWord (v : Int) : Bool := decide (v < -2147483648 ∨ 2147483647 < v)

theorem flagsAdd_eq (f a b r : Word) :
    flagsAdd f a b r = putNZCV f r.msb (r == 0) (decide (4294967296 ≤ a.toNat + b.toNat)) (outOfWord (a.toInt + b.toInt)) := by
  rw [flagsAdd, BitVec.toInt_add, outOfWord, decide_eq_decide.2 (ne_bmod_word_iff _)]

theorem flagsSub_eq (f a b r : Word) :
    flagsSub f a b r = putNZCV f r.msb (r == 0) (decide (b.toNat ≤ a.toNat)) (outOfWord (a.toInt - b.toInt)) := by
  rw [flagsSub, BitVec.toInt_sub, outOfWord, decide_eq_decide.2 (ne_bmod_word_iff _)]

theorem flagsMul_eq (f a b r : Word) (c : Bool) : flagsMul f a b r c = putNZCV f r.msb (r == 0) c (outOfWord (a.toInt * b.toInt)) := by
  rw [flagsMul, BitVec.toInt_mul, outOfWord, decide_eq_decide.2 (ne_bmod_word_iff _)]

theorem sat32i_snd (v : Int) : (sat32i v).2 = outOfWord v := by
  rw [outOfWord, sat32i, decide_eq_decide]
  omega

theorem sat32i_pair (v : Int) : sat32i v = (BitVec.ofInt 32 (max (-2147483648) (min v 2147483647)), outOfWord v) :=
  Prod.ext rfl (sat32i_snd v)

/-! ### The layout of FLAGS (Table 8.2) -/

theorem putNZCV_bit (f : Word) (n z c v : Bool) (k : Nat) :
    (putNZCV f n z c v).getLsbD k = if k = 0 then n else if k = 1 then z else if k = 2 then c else if k = 3 then v else f.getLsbD k := by
  have low : ∀ j : Fin 4, (BitVec.ofNat 32 (packBits [n, z, c, v])).getLsbD j = [n, z, c, v][j] := by revert n z c v; decide
  have high : ∀ j : Fin 28, (BitVec.ofNat 32 (packBits [n, z, c, v])).getLsbD (j + 4) = false := by revert n z c v; decide
  have kept : ∀ j : Fin 28, (0xFFFFFFF0#32).getLsbD (j + 4) = true := by decide
  have cleared : ∀ j : Fin 4, (0xFFFFFFF0#32).getLsbD j = false := by decide
  rw [putNZCV, BitVec.getLsbD_or, BitVec.getLsbD_and]
  by_cases below : k < 4
  · rw [show k = (⟨k, below⟩ : Fin 4).val from rfl, low, cleared, Bool.and_false, Bool.false_or]
    generalize (⟨k, below⟩ : Fin 4) = j
    fin_cases j <;> rfl
  · rw [if_neg (by omega), if_neg (by omega), if_neg (by omega), if_neg (by omega)]
    by_cases inside : k < 32
    · have e : k = (⟨k - 4, by omega⟩ : Fin 28).val + 4 := by simp only; omega
      rw [e, high, kept, Bool.and_true, Bool.or_false]
    · simp [BitVec.getLsbD_of_ge _ _ (not_lt.1 inside)]

theorem or_twoPow_bit (f : Word) (m : Fin 32) (k : Nat) : (f ||| BitVec.twoPow 32 m).getLsbD k = (f.getLsbD k || k == m) := by
  rw [BitVec.getLsbD_or, BitVec.getLsbD_twoPow]
  have := m.isLt
  by_cases e : m.val = k
  · subst e; simp
  · simp [e, Ne.symm e]

/-- Settles O2: the sum or difference is computed exactly, its flags follow, and nothing else changes. -/
theorem addSubCompare : Obligations.AddSubCompare := by
  refine ⟨fun s c i rd ra rb imm h => ?gives, fun f n z c v => ?layout⟩
  case layout =>
    refine ⟨?_, ?_, ?_, ?_, fun k high => ?_, fun k => or_twoPow_bit f 4 k, rfl, fun k => or_twoPow_bit f 5 k, rfl⟩
    · rw [flagN, putNZCV_bit]; rfl
    · rw [flagZ, putNZCV_bit]; rfl
    · rw [flagC, putNZCV_bit]; rfl
    · rw [flagV, putNZCV_bit]; rfl
    · rw [putNZCV_bit, if_neg (by omega), if_neg (by omega), if_neg (by omega), if_neg (by omega)]
  case gives =>
    intro a b m f carry keeps over_ flags put sat
    have added (x y r : Word) : flags r (carry x y) (over_ (x.toInt + y.toInt)) = flagsAdd f x y r := (flagsAdd_eq f x y r).symm
    have subtracted (x y r : Word) : flags r (keeps x y) (over_ (x.toInt - y.toInt)) = flagsSub f x y r := (flagsSub_eq f x y r).symm
    have writes {op : Instr} {g : Die → Core → Item → Except Cause Eff} {r fl : Word} (steps : exec op s = .next (s.coreStep c op g))
        (computes : g (s.die c.die) (s.core c) i = aluOut (s.core c) rd r fl) : s.gives c i op (put r fl) := State.gives_aluOut h steps computes
    have compares {op : Instr} {g : Die → Core → Item → Except Cause Eff} {fl : Word} (steps : exec op s = .next (s.coreStep c op g))
        (computes : g (s.die c.die) (s.core c) i = flagsOut (s.core c) fl) : s.gives c i op (.next (s.retires c 4 fun k => k.withFlags fl)) :=
      State.gives_core h steps computes rfl
    refine ⟨?add, ?addi, ?sub, ?adds, ?subs, ?neg, ?cmp, ?cmpi⟩
    case add => rw [added]; exact writes rfl rfl
    case addi => rw [added]; exact writes rfl rfl
    case sub => rw [subtracted]; exact writes rfl rfl
    case adds =>
      refine writes rfl ?_
      show addsOut _ _ _ _ = _
      rw [addsOut, sat32i_pair, added]
      rfl
    case subs =>
      refine writes rfl ?_
      show subsOut _ _ _ _ = _
      rw [subsOut, sat32i_pair, subtracted]
      rfl
    case neg =>
      have zero : -a.toInt = (0 : Word).toInt - a.toInt := by simp
      rw [zero]
      refine writes rfl ?_
      show subsOut _ _ _ _ = _
      rw [subsOut, sat32i_pair, subtracted]
      rfl
    case cmp => rw [subtracted]; exact compares rfl rfl
    case cmpi => rw [subtracted]; exact compares rfl rfl

/-! ### Logic, shifts and extremes -/

theorem min_word (a b : Word) : (if b.slt a then b else a) = BitVec.ofInt 32 (min a.toInt b.toInt) := by
  by_cases less : b.toInt < a.toInt
  · rw [if_pos (BitVec.slt_iff_toInt_lt.2 less), Int.min_eq_right less.le, BitVec.ofInt_toInt]
  · rw [if_neg (mt BitVec.slt_iff_toInt_lt.1 less), Int.min_eq_left (by omega), BitVec.ofInt_toInt]

theorem max_word (a b : Word) : (if a.slt b then b else a) = BitVec.ofInt 32 (max a.toInt b.toInt) := by
  by_cases less : a.toInt < b.toInt
  · rw [if_pos (BitVec.slt_iff_toInt_lt.2 less), Int.max_eq_right less.le, BitVec.ofInt_toInt]
  · rw [if_neg (mt BitVec.slt_iff_toInt_lt.1 less), Int.max_eq_left (by omega), BitVec.ofInt_toInt]

theorem minu_word (a b : Word) : (if b.ult a then b else a) = BitVec.ofNat 32 (min a.toNat b.toNat) := by
  by_cases less : b.toNat < a.toNat
  · rw [if_pos (BitVec.ult_iff_lt.2 less), Nat.min_eq_right less.le, BitVec.ofNat_toNat, BitVec.setWidth_eq]
  · rw [if_neg (mt BitVec.ult_iff_lt.1 less), Nat.min_eq_left (by omega), BitVec.ofNat_toNat, BitVec.setWidth_eq]

theorem maxu_word (a b : Word) : (if a.ult b then b else a) = BitVec.ofNat 32 (max a.toNat b.toNat) := by
  by_cases less : a.toNat < b.toNat
  · rw [if_pos (BitVec.ult_iff_lt.2 less), Nat.max_eq_right less.le, BitVec.ofNat_toNat, BitVec.setWidth_eq]
  · rw [if_neg (mt BitVec.ult_iff_lt.1 less), Nat.max_eq_left (by omega), BitVec.ofNat_toNat, BitVec.setWidth_eq]

/-- An immediate amount stays below 32, so the shift is the plain one. -/
theorem not_le_amount (n : BitVec 5) : ¬32 ≤ n.toNat := Nat.not_le.2 n.isLt

/-- Settles O3: each row of the logic group writes its result with N and Z of it. -/
theorem logicShiftExtreme : Obligations.LogicShiftExtreme := by
  intro s c i rd ra rb imm amount h a b m n f put keep
  have logic {op : Instr} {g : Die → Core → Item → Except Cause Eff} (r : Word) (steps : exec op s = .next (s.coreStep c op g))
      (computes : g (s.die c.die) (s.core c) i = logicOut (s.core c) rd r) : s.gives c i op (put r) := State.gives_aluOut h steps computes
  have shift {op : Instr} {g : Die → Core → Item → Except Cause Eff} (r : Word) (steps : exec op s = .next (s.coreStep c op g))
      (computes : g (s.die c.die) (s.core c) i = shiftOut (s.core c) rd r) : s.gives c i op (keep r) := State.gives_aluOut h steps computes
  refine ⟨logic _ rfl rfl, logic _ rfl rfl, logic _ rfl rfl, logic _ rfl rfl, logic _ rfl rfl, logic _ rfl rfl, logic _ rfl rfl, logic _ rfl rfl,
    logic _ rfl rfl, ?min, ?max, ?minu, ?maxu, logic _ rfl rfl, ?tst, ?shli, ?shri, ?sari⟩
  case min => rw [← min_word]; exact logic _ rfl rfl
  case max => rw [← max_word]; exact logic _ rfl rfl
  case minu => rw [← minu_word]; exact logic _ rfl rfl
  case maxu => rw [← maxu_word]; exact logic _ rfl rfl
  case tst => exact State.gives_core h rfl rfl rfl
  case shli => exact shift _ rfl (congrArg (shiftOut (s.core c) rd) (if_neg (not_le_amount amount)))
  case shri => exact shift _ rfl (congrArg (shiftOut (s.core c) rd) (if_neg (not_le_amount amount)))
  case sari => exact shift _ rfl (congrArg (shiftOut (s.core c) rd) (if_neg (not_le_amount amount)))

/-! ### Moves, ABS and MUL -/

theorem movhi_word (imm : BitVec 16) (old : Word) : imm ++ old.setWidth 16 = BitVec.ofNat 32 (imm.toNat * 65536 + old.toNat % 65536) := by
  refine BitVec.eq_of_toNat_eq ?_
  rw [BitVec.toNat_append, ← Nat.shiftLeft_add_eq_or_of_lt (BitVec.isLt _), BitVec.toNat_setWidth, BitVec.toNat_ofNat]
  have := imm.isLt
  omega

theorem and_63_word (w : Word) : w &&& 0x3F#32 = BitVec.ofNat 32 (w.toNat % 64) := by
  refine BitVec.eq_of_toNat_eq ?_
  have mask : w.toNat &&& 63 = w.toNat % 64 := Nat.and_two_pow_sub_one_eq_mod w.toNat 6
  rw [BitVec.toNat_and, BitVec.toNat_ofNat, show 63 % 2 ^ 32 = 63 from rfl, mask, BitVec.toNat_ofNat]
  omega

/-- ABS saturates only the least word. -/
theorem abs_word (a : Word) : sat32i (a.toInt.natAbs : Int) =
    (if decide (a.toInt = -2147483648) then 0x7FFFFFFF else if a.msb then -a else a, decide (a.toInt = -2147483648)) := by
  have low : -2147483648 ≤ a.toInt := a.le_toInt
  have high : a.toInt < 2147483648 := a.toInt_lt
  refine Prod.ext ?_ ?_
  · simp only [sat32i_pair, decide_eq_true_eq, BitVec.msb_eq_toInt]
    split_ifs with least negative
    · rw [least]; rfl
    · rw [show max (-2147483648) (min (a.toInt.natAbs : Int) 2147483647) = -a.toInt by omega, BitVec.ofInt_neg, BitVec.ofInt_toInt]
    · rw [show max (-2147483648) (min (a.toInt.natAbs : Int) 2147483647) = a.toInt by omega, BitVec.ofInt_toInt]
  · rw [sat32i_snd, outOfWord, decide_eq_decide]
    omega

/-- Settles O4. -/
theorem movesAbsMul : Obligations.MovesAbsMul := by
  refine ⟨fun s c i rd ra imm h => ?moves, fun s c i rd ra rb h6 => ?products⟩
  case moves =>
    intro old put
    have moves {op : Instr} {g : Die → Core → Item → Except Cause Eff} (r : Word) (steps : exec op s = .next (s.coreStep c op g))
        (computes : g (s.die c.die) (s.core c) i = aluOut (s.core c) rd r (s.core c).flags) : s.gives c i op (put r) :=
      State.gives_core h steps computes rfl
    refine ⟨moves _ rfl rfl, moves _ rfl rfl, ?movhi, moves _ rfl rfl, ?setf, State.gives_core h rfl rfl rfl⟩
    case movhi => rw [← movhi_word]; exact moves _ rfl rfl
    case setf => rw [← and_63_word]; exact State.gives_core h rfl rfl rfl
  case products =>
    intro a b f drawn free most r p
    have drew : s.draw.2.core c = s.core c := s.draw_core c
    refine ⟨?abs, fun quiet => ?mul⟩
    case abs =>
      refine State.gives_aluOut_drawn (h6.of_le (by decide)) rfl ?_
      rw [drew]
      show aluOut _ _ (sat32i _).1 (setSat (putNZCV _ (sat32i _).1.msb ((sat32i _).1 == 0) _ (sat32i _).2) (sat32i _).2) = _
      rw [abs_word]
    case mul =>
      have multiplies := State.gives_mul rd ra rb h6 quiet
      rw [State.retires_congr (g := fun k => k.result rd (a * b) (putNZCV f (a * b).msb (a * b == 0) free p))] at multiplies
      · exact multiplies
      · rw [drew, flagsMul_eq]
        rfl

/-! ### Accumulators (R243) -/

theorem sat64i_eq (v : Int) : sat64i v = (BitVec.ofInt 64 (clampTo (-(2 ^ 63)) (2 ^ 63 - 1) v), decide (clampTo (-(2 ^ 63)) (2 ^ 63 - 1) v ≠ v)) := by
  rw [clampTo_eq_max_min (by decide)]
  rfl

theorem accShift_eq (k : Core) (acc : Fin 4) (sh : BitVec 6) : accShift k acc sh = (k.accOf acc).toInt / 2 ^ sh.toNat :=
  Int.fdiv_eq_ediv_of_nonneg _ (by positivity)

/-- The low and the high word of a 64-bit number. -/
theorem low_word (v : Int) : (BitVec.ofInt 64 v).setWidth 32 = BitVec.ofInt 32 (v % 2 ^ 32) := by
  refine BitVec.eq_of_toNat_eq ?_
  rw [BitVec.toNat_setWidth, BitVec.toNat_ofInt, BitVec.toNat_ofInt]
  omega

theorem high_word {v : Int} (low : -(2 ^ 63) ≤ v) (high : v ≤ 2 ^ 63 - 1) :
    ((BitVec.ofInt 64 v) >>> 32).setWidth 32 = BitVec.ofInt 32 (v / 2 ^ 32) := by
  refine BitVec.eq_of_toNat_eq ?_
  rw [BitVec.toNat_setWidth, BitVec.toNat_ushiftRight, BitVec.toNat_ofInt, BitVec.toNat_ofInt, Nat.shiftRight_eq_div_pow]
  omega

section Accumulators

variable {s : State} {c : CoreRef} {i : Item} {op : Instr} {g : Die → Core → Item → Except Cause Eff}

/-- An instruction that writes an accumulator from an exact value leaves the nearest value of 72 bits, and AOV where it is another one (R242). -/
theorem State.gives_accOut_clamp {acc : Fin 4} {v : Int} (h : Ready s c i 4) (steps : exec op s = .next (s.coreStep c op g))
    (computes : g (s.die c.die) (s.core c) i = accOut (s.core c) acc v 4) :
    ∃ w : Acc, w.toInt = clampTo (-(2 ^ 71)) (2 ^ 71 - 1) v ∧ s.gives c i op (.next (s.retires c 4 fun k =>
      (k.setAcc acc w).withFlags (if clampTo (-(2 ^ 71)) (2 ^ 71 - 1) v = v then k.flags else k.flags ||| 0x20#32))) := by
  refine ⟨(sat72i v).1, sat72i_toInt v, State.gives_core h steps ?_ rfl⟩
  rw [computes, accOut, sat72i_eq, setAov_eq_ite]

/-- A narrowing instruction writes its register, and sets SAT where it saturated (R243). -/
theorem State.gives_narrow {cost : Nat} {rd : Fin 16} {v : Word} {sat : Bool} (h : Ready s c i cost) (steps : exec op s = .next (s.coreStep c op g))
    (computes : g (s.die c.die) (s.core c) i = narrowOut (s.core c) rd v sat cost) :
    s.gives c i op (.next (s.retires c cost fun k => k.result rd v (setSat k.flags sat))) := State.gives_core h steps computes rfl

end Accumulators

theorem Reaches.exec_fault {s : State} {c : CoreRef} {i : Item} {op : Instr} {g : Die → Core → Item → Except Cause Eff} (h : Reaches s c i op)
    (steps : exec op s = .next (s.coreStep c op g)) (faults : g (s.die c.die) (s.core c) i = .error .illegal) :
    exec op s = .next (s.programFault c i .illegal) := by
  obtain ⟨w, word, spelled⟩ := h.word
  rw [steps]
  congr 1
  cases defined : wordDefined w with
  | false => exact State.coreStep_undefined h.runs h.clean word defined op g
  | true =>
    have able : Able s c i := ⟨h.runs, h.clean, w, word, defined⟩
    have n : s.atInstruction c i op = true := by
      simp only [State.atInstruction, show ((s.die c.die).cores[c.core]).pc = (s.core c).pc from rfl, word, defined, spelled, Bool.and_true]
    rw [State.coreStep_able able n, faults]

/-- Settles O6. -/
theorem accumulatorOperations : Obligations.AccumulatorOperations := by
  refine ⟨fun s c i acc accb rd sh h => ?exact, fun s c i acc rd sh h odd => ?odd, fun s c i rd rb acc sh h44 => ?narrow⟩
  case exact =>
    intro a b top clamp gives wraps pair
    have saturates {op : Instr} {g : Die → Core → Item → Except Cause Eff} (v : Int) (steps : exec op s = .next (s.coreStep c op g))
        (computes : g (s.die c.die) (s.core c) i = accOut (s.core c) acc v 4) : gives op v := State.gives_accOut_clamp h steps computes
    refine ⟨saturates _ rfl rfl, saturates _ rfl rfl, saturates _ rfl rfl, saturates _ rfl rfl, saturates _ rfl rfl, ?ashr, saturates _ rfl rfl,
      State.gives_core h rfl rfl rfl, fun even => ?asetp⟩
    case ashr => exact saturates _ rfl (by rw [← accShift_eq])
    case asetp => exact State.gives_core h rfl (if_neg (by omega)) rfl
  case odd => exact h.exec_fault rfl (if_pos odd)
  case narrow =>
    intro v d q clamp put
    have h6 : Ready s c i 6 := h44.of_le (by decide)
    have shifted : accShift (s.core c) acc sh = v := accShift_eq _ _ _
    obtain ⟨low, high⟩ := clampTo_mem (lo := -(2 ^ 63)) (hi := 2 ^ 63 - 1) (by decide) v
    refine ⟨?sta, ?stal, ?stah, fun divides => ?diva, fun zero => ?fault⟩
    case sta =>
      refine State.gives_narrow h6 rfl ?_
      show narrowOut _ _ (sat32i _).1 (sat32i _).2 _ = _
      rw [shifted, sat32i_eq]
      rfl
    case stal =>
      refine State.gives_narrow h6 rfl ?_
      show narrowOut _ _ ((sat64i _).1.setWidth 32) (sat64i _).2 _ = _
      rw [shifted, sat64i_eq, low_word]
      rfl
    case stah =>
      refine State.gives_narrow h6 rfl ?_
      show narrowOut _ _ (((sat64i _).1 >>> 32).setWidth 32) (sat64i _).2 _ = _
      rw [shifted, sat64i_eq, high_word low high]
      rfl
    case diva =>
      refine State.gives_narrow h44 rfl ((if_neg fun zero => divides ?_).trans ?_)
      · show ((s.core c).reg rb).toInt = 0
        rw [zero]; rfl
      · show narrowOut _ _ (sat32i _).1 (sat32i _).2 _ = _
        rw [sat32i_eq]
        rfl
    case fault => exact State.gives_fault h44.toAble rfl (if_pos (BitVec.toInt_inj.1 zero))

/-! ### Pointers (R245) -/

/-- A pointer written is its value modulo 2²³. -/
theorem Core.setPtr_eq (k : Core) (p : Fin 8) {n : Nat} {v : Int} (h : (n : Int) % 8388608 = v % 8388608) :
    k.setPtr p n = { k with p := k.p.set p (BitVec.ofInt 24 (v % 8388608)) } := by
  have value : v % 8388608 = ((n % 8388608 : Nat) : Int) := by omega
  rw [Core.setPtr, value, BitVec.ofInt_natCast]

/-- Settles O7. -/
theorem pointers : Obligations.Pointers := by
  intro s c i p q r cb imm h at_ w point
  have points {op : Instr} {g : Die → Core → Item → Except Cause Eff} {n : Nat} {v : Int} (steps : exec op s = .next (s.coreStep c op g))
      (computes : g (s.die c.die) (s.core c) i = coreOut ((s.core c).setPtr p n)) (value : (n : Int) % 8388608 = v % 8388608) : s.gives c i op (point v) :=
    State.gives_core (f := fun k => { k with p := k.p.set p (BitVec.ofInt 24 (v % 8388608)) }) h steps (by rw [computes, Core.setPtr_eq _ _ value]; rfl) rfl
  refine ⟨points rfl rfl rfl, points rfl rfl (by omega), points rfl rfl rfl, points rfl rfl rfl, points rfl rfl ?padd, ?pget, ?cbset⟩
  case padd =>
    show (((((s.core c).ptr p).toNat + ((s.core c).reg r).toNat : Nat) : Int)) % 8388608 = ((((s.core c).ptr p).toNat : Int) + ((s.core c).reg r).toInt) % 8388608
    rw [BitVec.toInt_eq_toNat_cond]
    split <;> omega
  case pget =>
    show s.gives c i _ (.next (s.retires c 4 fun k => k.setReg r (BitVec.ofNat 32 ((s.core c).ptr p).toNat)))
    rw [BitVec.ofNat_toNat]
    exact State.gives_core h rfl rfl rfl
  case cbset =>
    have length : BitVec.ofNat 15 (w.toNat % 32768) = w.setWidth 15 := BitVec.eq_of_toNat_eq (by simp)
    rw [length]
    exact State.gives_core h rfl rfl rfl

end Sys2Proof.Machine

/-! SUPPORT. Loads and stores of a servo core (R244 to R248): what an address mode changes, what a load reads, and what a store leaves in each space of Table 8.4;
and the statements about them. -/

namespace Sys2Proof.Machine

/-! ### Addresses -/

/-- An address mode changes no more than its pointer. -/
theorem effective_frame {k k' : Core} {p : Fin 8} {m : AddrMode} {a : Int} (h : effective k p m = .ok (a, k')) : ∃ v, k' = { k with p := v } := by
  cases m with
  | disp d => cases h; exact ⟨_, rfl⟩
  | postInc d => cases h; exact ⟨_, rfl⟩
  | circular cb inc =>
    simp only [effective] at h
    split at h
    · cases h; exact ⟨_, rfl⟩
    · cases h
  | indexed dk sh => cases h; exact ⟨_, rfl⟩

theorem alignedAt_some {a : Int} {sz : MemSize} {n : Nat} (h : alignedAt a sz = some n) : n < 8388608 ∧ n % min (memBytes sz) 4 = 0 := by
  unfold alignedAt at h
  split at h
  · next inside =>
    obtain ⟨low, high, aligned⟩ := inside
    obtain ⟨n, rfl⟩ := Int.eq_ofNat_of_zero_le low
    cases h
    exact ⟨by omega, by rw [Int.toNat_natCast]; exact_mod_cast aligned⟩
  · cases h

theorem memBytes_pos (sz : MemSize) : 0 < memBytes sz := by cases sz <;> decide

theorem pairOk_of {r : Fin 16} {sz : MemSize} (h : sz = .pair → r.val % 2 = 0) : (!pairOk r sz) = false := by
  cases sz with
  | pair => simp [pairOk, h rfl]
  | _ => rfl

/-- The words an aligned access of a row's size touches. -/
theorem mem_wordsAt {sz : MemSize} {n : Nat} (aligned : n % min (memBytes sz) 4 = 0) (w : Nat) :
    w ∈ wordsAt n (memBytes sz) ↔ n / 4 ≤ w ∧ w < (n + memBytes sz + 3) / 4 := by
  have last : (n + memBytes sz + 3) / 4 = n / 4 + (memBytes sz + 3) / 4 := by cases sz <;> simp [memBytes] at aligned ⊢ <;> omega
  rw [wordsAt, List.mem_map, last]
  constructor
  · rintro ⟨k, inside, rfl⟩
    have := List.mem_range.1 inside
    omega
  · rintro ⟨low, high⟩
    exact ⟨w - n / 4, List.mem_range.2 (by omega), by omega⟩

/-! ### Bytes -/

theorem leNat_lt (bs : List Byte) : leNat bs < 256 ^ bs.length := by
  induction bs with
  | nil => decide
  | cons b r ih =>
    have := b.isLt
    rw [leNat, List.length_cons, Nat.pow_succ]
    omega

theorem le_getElem {m v j : Nat} (h : j < (le m v).length) : (le m v)[j] = BitVec.ofNat 8 (v / 256 ^ j) := by
  induction m generalizing v j with
  | zero => simp at h
  | succ m ih =>
    cases j with
    | zero => simp [le]
    | succ j =>
      have inner : j < (le m (v / 256)).length := by simpa [le] using h
      rw [show (le (m + 1) v)[j + 1] = (le m (v / 256))[j] from rfl, ih inner, Nat.div_div_eq_div_mul, Nat.pow_succ']

@[simp] theorem storeData_length (k : Core) (r : Fin 16) (sz : MemSize) : (storeData k r sz).length = memBytes sz := by
  cases sz <;> simp [storeData, memBytes]

/-- The bytes of a store: the register's, and for a pair then its partner's. -/
theorem storeData_getElem (k : Core) (r : Fin 16) (sz : MemSize) {j : Nat} (h : j < (storeData k r sz).length) : (storeData k r sz)[j] =
    if j < 4 then BitVec.ofNat 8 ((k.reg r).toNat / 256 ^ j) else BitVec.ofNat 8 ((k.reg (partner r)).toNat / 256 ^ (j - 4)) := by
  have inside : j < memBytes sz := by simpa using h
  cases sz with
  | pair =>
    simp only [storeData, List.getElem_append, le_length, le_getElem]
    split <;> rfl
  | _ =>
    rw [if_pos (by simp only [memBytes] at inside; omega)]
    exact le_getElem h

theorem loadBytes_length {x : Die} {k : Nat} {c : Core} {i : Item} {a n : Nat} {bs : List Byte} (h : loadBytes x k c i a n = some bs) : bs.length = n := by
  induction n generalizing a bs with
  | zero => cases h; rfl
  | succ n ih =>
    simp only [loadBytes] at h
    split at h
    · next b r _ rest => cases h; rw [List.length_cons, ih rest]
    · cases h

/-- A load from an address that may not be read reads nothing. -/
theorem loadBytes_none {x : Die} {k : Nat} {c : Core} {i : Item} {a n : Nat} (h : loadByte x k c i a = none) (pos : 0 < n) : loadBytes x k c i a n = none := by
  cases n with
  | zero => cases pos
  | succ n => simp [loadBytes, h]

/-! ### LD -/

section Loading

variable {s : State} {c : CoreRef} {i : Item} {r : Fin 16} {p : Fin 8} {m : AddrMode} {sz : MemSize}

/-- A load of an able core whose words read clean is one instruction like another (R13). -/
theorem State.exec_ld (h : Able s c i) (n : s.atInstruction c i (.ld c r p m sz .clean) = true) :
    exec (.ld c r p m sz .clean) s = .next (s.coreStep c (.ld c r p m sz .clean) (loadEff c.core.val r p m sz)) := by
  show execLd c r p m sz .clean s = _
  simp only [execLd, h.runs, n, State.readOperand_quiet h.clean, ite_self]

theorem State.gives_ld {f : Core → Core} {cost : Nat} (h : Ready s c i cost)
    (computes : loadEff c.core.val r p m sz (s.die c.die) (s.core c) i = .ok { core := f (s.core c), cost := cost })
    (loops : (f (s.core c)).loops = (s.core c).loops) : s.gives c i (.ld c r p m sz .clean) (.next (s.retires c cost f)) := fun n => by
  rw [State.exec_ld h.toAble n, State.coreStep_ready h n computes loops]

theorem State.gives_ld_fault {cause : Cause} (h : Able s c i)
    (computes : loadEff c.core.val r p m sz (s.die c.die) (s.core c) i = .error cause) :
    s.gives c i (.ld c r p m sz .clean) (.next (s.programFault c i cause)) := fun n => by
  rw [State.exec_ld h n, State.coreStep_able h n, computes]

end Loading

theorem partner_ne (r : Fin 16) : partner r ≠ r := by
  intro e
  have := congrArg Fin.val e
  simp only [partner] at this
  have := r.isLt
  omega

theorem Core.setReg_reg (k : Core) (r : Fin 16) (v : Word) : (k.setReg r v).reg r = v := by simp [Core.setReg, Core.reg]

theorem Core.setReg_reg_ne (k : Core) {r q : Fin 16} (v : Word) (h : q ≠ r) : (k.setReg r v).reg q = k.reg q := by
  have : r.val ≠ q.val := fun e => h (Fin.ext e.symm)
  simp [Core.setReg, Core.reg, this]

theorem putLoad_frame (k : Core) (r : Fin 16) (sz : MemSize) (bs : List Byte) : putLoad k r sz bs = { k with d := (putLoad k r sz bs).d } := by
  cases sz <;> rfl

theorem putLoad_others (k : Core) {r q : Fin 16} {sz : MemSize} (bs : List Byte) (ne : q ≠ r) (single : ¬(sz = .pair ∧ q = partner r)) :
    (putLoad k r sz bs).reg q = k.reg q := by
  cases sz with
  | pair =>
    have other : q ≠ partner r := fun e => single ⟨rfl, e⟩
    rw [putLoad, Core.setReg_reg_ne _ _ other, Core.setReg_reg_ne _ _ ne]
  | _ => exact Core.setReg_reg_ne _ _ ne

theorem toNat_ofNat_leNat {bs : List Byte} (h : bs.length ≤ 4) : (BitVec.ofNat 32 (leNat bs)).toNat = leNat bs := by
  rw [BitVec.toNat_ofNat]
  exact Nat.mod_eq_of_lt (lt_of_lt_of_le (leNat_lt bs) (Nat.pow_le_pow_right (by decide) h))

/-- A half word read signed fits its register. -/
theorem toInt_ofInt_toSigned {bs : List Byte} (h : bs.length = 2) : (BitVec.ofInt 32 (toSigned 16 (leNat bs))).toInt = toSigned 16 (leNat bs) := by
  have small : leNat bs < 65536 := by simpa [h] using leNat_lt bs
  refine BitVec.toInt_ofInt_eq_self (by decide) ?_ ?_ <;> unfold toSigned <;> split <;> omega

/-- Settles O8. -/
theorem load : Obligations.Load := by
  intro s c i r p m sz a k' n sp bs able word even address aligned space bytes budget
  obtain ⟨v, rfl⟩ := effective_frame address
  have len : bs.length = memBytes sz := loadBytes_length bytes
  refine ⟨putLoad { s.core c with p := v } r sz bs, ?step, putLoad_frame _ _ _ _, fun q ne single => ?others, fun whole => ?unsigned, ?half, ?pair⟩
  case step =>
    refine State.gives_ld (f := fun _ => putLoad { s.core c with p := v } r sz bs) ⟨able, budget⟩ ?_ ?_ word
    · simp only [loadEff, pairOk_of even, address, aligned, space, bytes]
      rfl
    · rw [putLoad_frame]
  case others => exact putLoad_others { s.core c with p := v } bs ne single
  case unsigned =>
    rcases whole with rfl | rfl | rfl
    all_goals
      rw [putLoad, Core.setReg_reg]
      exact toNat_ofNat_leNat (by rw [len]; decide)
  case half =>
    rintro rfl
    rw [putLoad, Core.setReg_reg]
    exact toInt_ofInt_toSigned len
  case pair =>
    rintro rfl
    rw [putLoad, Core.setReg_reg, Core.setReg_reg_ne _ _ (partner_ne r).symm, Core.setReg_reg]
    refine ⟨toNat_ofNat_leNat ?_, toNat_ofNat_leNat ?_⟩ <;> simp [len, memBytes]

/-! ### ST -/

section Storing

variable {s : State} {c : CoreRef} {i : Item} {r : Fin 16} {p : Fin 8} {m : AddrMode} {sz : MemSize} {a : Int} {k' : Core} {n : Nat}

/-- A store to a checked address is a store of the register's bytes there. -/
theorem storeEff_at {k : Core} (even : sz = .pair → r.val % 2 = 0) (address : effective k p m = .ok (a, k')) (aligned : alignedAt a sz = some n) :
    storeEff r p m sz k = storeBytes k' n (storeData k r sz) (sz == .pair) := by
  obtain ⟨v, rfl⟩ := effective_frame address
  simp only [storeEff, pairOk_of even, address, aligned]
  rfl

theorem State.exec_st_core {f : Core → Core} {cost : Nat} (h : Ready s c i cost) (n : s.atInstruction c i (.st c r p m sz) = true)
    (computes : storeEff r p m sz (s.core c) = .ok { core := f (s.core c), cost := cost }) (loops : (f (s.core c)).loops = (s.core c).loops) :
    exec (.st c r p m sz) s = .next (s.retires c cost f) := State.gives_core h rfl computes loops n

theorem State.gives_st_fault {cause : Cause} (h : Able s c i) (computes : storeEff r p m sz (s.core c) = .error cause) :
    s.gives c i (.st c r p m sz) (.next (s.programFault c i cause)) := State.gives_fault h rfl computes

end Storing

/-! #### Local memory -/

/-- A store below the end of the core's scratch goes to local memory. -/
theorem storeBytes_local {k : Core} {n : Nat} {bs : List Byte} (pair : Bool) (pos : 0 < bs.length) (inside : n + bs.length ≤ 0x4000) :
    storeBytes k n bs pair = .ok { core := k.storeLocal n bs, cost := if pair then 8 else 6 } := by
  have last : ∃ sp, spaceOf (n + bs.length - 1) = some sp ∧ (0x2000 ≤ n → ∃ o, sp = .scratch o) := by
    by_cases below : n + bs.length - 1 < 0x2000
    · exact ⟨_, by rw [spaceOf, if_pos below], fun h => absurd h (by omega)⟩
    · exact ⟨_, by rw [spaceOf, if_neg below, if_pos (by omega)], fun _ => ⟨_, rfl⟩⟩
  obtain ⟨sp, last, scratch⟩ := last
  unfold storeBytes
  rw [last]
  by_cases low : n < 0x2000
  · rw [show spaceOf n = some (.parameter n) by rw [spaceOf, if_pos low]]
  · obtain ⟨o, rfl⟩ := scratch (by omega)
    rw [show spaceOf n = some (.scratch n) by rw [spaceOf, if_neg low, if_pos (by omega)]]

/-- The scratch words a store makes valid. -/
theorem storeLocal_fresh {k : Core} {sz : MemSize} {n : Nat} (aligned : n % min (memBytes sz) 4 = 0) (w : Nat) :
    ((wordsAt n (memBytes sz)).filter fun w => decide (0x800 ≤ w) && !k.valid.contains w).contains w = true ↔
      0x800 ≤ w ∧ n / 4 ≤ w ∧ w < (n + memBytes sz + 3) / 4 ∧ k.valid.contains w = false := by
  rw [List.contains_iff_mem, List.mem_filter, mem_wordsAt aligned, Bool.and_eq_true, decide_eq_true_eq, Bool.not_eq_true']
  tauto

theorem storeLocal_read_outside {k : Core} {sz : MemSize} {n x : Nat} {bs : List Byte} (len : bs.length = memBytes sz)
    (aligned : n % min (memBytes sz) 4 = 0) (outside : x < n ∨ n + memBytes sz ≤ x) : (k.storeLocal n bs).local_.read x =
      if 0x800 ≤ x / 4 ∧ n / 4 ≤ x / 4 ∧ x / 4 < (n + memBytes sz + 3) / 4 ∧ k.valid.contains (x / 4) = false then 0 else k.local_.read x := by
  rw [Core.storeLocal, Memory.read_writeN_outside _ _ _ _ (by rw [len]; exact outside), Memory.read_zeroWords, len]
  exact if_congr (storeLocal_fresh aligned _) rfl rfl

theorem storeLocal_valid {k : Core} {sz : MemSize} {n : Nat} {bs : List Byte} (len : bs.length = memBytes sz) (aligned : n % min (memBytes sz) 4 = 0) (w : Nat) :
    (k.storeLocal n bs).valid.contains w = (k.valid.contains w || decide (0x800 ≤ w ∧ n / 4 ≤ w ∧ w < (n + memBytes sz + 3) / 4)) := by
  have fresh := storeLocal_fresh (k := k) aligned w
  rw [Core.storeLocal, len, Bool.eq_iff_iff, List.contains_append, Bool.or_eq_true, fresh, Bool.or_eq_true, decide_eq_true_eq]
  cases k.valid.contains w <;> tauto

/-- Settles O9. -/
theorem storeLocal : Obligations.StoreLocal := by
  intro s c i r p m sz a k' n able word even address aligned inside budget
  have stored := storeEff_at even address aligned
  obtain ⟨v, rfl⟩ := effective_frame address
  obtain ⟨-, whole⟩ := alignedAt_some aligned
  have len : (storeData (s.core c) r sz).length = memBytes sz := storeData_length _ _ _
  rw [storeBytes_local _ (by rw [len]; exact memBytes_pos sz) (by rw [len]; exact inside)] at stored
  refine ⟨Core.storeLocal { s.core c with p := v } n (storeData (s.core c) r sz), ?step, rfl, fun x outside => storeLocal_read_outside len whole outside,
    fun j small => ?inside, storeLocal_valid len whole⟩
  case step =>
    simp only [← beq_iff_eq (a := sz)] at budget ⊢
    exact State.exec_st_core (f := fun _ => Core.storeLocal { s.core c with p := v } n (storeData (s.core c) r sz)) ⟨able, budget⟩ word stored rfl
  case inside =>
    rw [← len] at small
    rw [Core.storeLocal, Memory.read_writeN_inside _ _ _ _ small, storeData_getElem]

/-! #### Cluster memory -/

theorem spaceOf_cluster {n : Nat} (inside : n < 0x40000) : spaceOf (0x100000 + n) = some (.cluster n) := by
  rw [spaceOf, if_neg (by omega), if_neg (by omega), if_pos (by omega), Nat.add_sub_cancel_left]

theorem storeBytes_cluster {k : Core} {n : Nat} {bs : List Byte} (pair : Bool) (pos : 0 < bs.length) (inside : n + bs.length ≤ 0x40000) :
    storeBytes k (0x100000 + n) bs pair = .ok { core := k, cost := if pair then 32 else 24, store := some (n, bs) } := by
  unfold storeBytes
  rw [spaceOf_cluster (by omega), show 0x100000 + n + bs.length - 1 = 0x100000 + (n + bs.length - 1) by omega, spaceOf_cluster (by omega)]

theorem Sparse.find_set_words {α : Type} (ws : List Nat) (v : Sparse α) (a : α) (w : Nat) :
    (ws.foldl (fun (v : Sparse α) w => v.set w a) v).find w = if w ∈ ws then some a else v.find w := by
  induction ws generalizing v with
  | nil => rfl
  | cons x r ih =>
    rw [List.foldl_cons, ih]
    by_cases e : w = x
    · subst e; simp [Sparse.find_set]
    · simp [Sparse.find_set_ne v a e, e]

section Cluster

variable {m : ClusterMem} {core n : Nat} {sz : MemSize} {bs : List Byte}

theorem ClusterMem.store_read_outside {x : Nat} (len : bs.length = memBytes sz) (aligned : n % min (memBytes sz) 4 = 0)
    (outside : x < n ∨ n + memBytes sz ≤ x) : (m.store core n bs).mem.read x =
      if 0xF000 ≤ x / 4 ∧ n / 4 ≤ x / 4 ∧ x / 4 < (n + memBytes sz + 3) / 4 ∧ m.seen core (x / 4) = false then 0 else m.mem.read x := by
  rw [ClusterMem.store, Memory.read_writeN_outside _ _ _ _ (by rw [len]; exact outside), Memory.read_zeroWords, len]
  refine if_congr ?_ rfl rfl
  rw [List.contains_iff_mem, List.mem_filter, List.mem_filter, mem_wordsAt aligned, decide_eq_true_eq, Bool.not_eq_true']
  tauto

theorem ClusterMem.store_valid (len : bs.length = memBytes sz) (aligned : n % min (memBytes sz) 4 = 0) (w : Nat) : (m.store core n bs).valid.find w =
    if 0xF000 ≤ w ∧ n / 4 ≤ w ∧ w < (n + memBytes sz + 3) / 4 then some (some core) else m.valid.find w := by
  rw [ClusterMem.store, Sparse.find_set_words, len]
  refine if_congr ?_ rfl rfl
  rw [List.mem_filter, mem_wordsAt aligned, decide_eq_true_eq]
  tauto

end Cluster

/-- An instruction that stores into cluster memory advances its core and makes the store. -/
theorem State.retire_store {s : State} {c : CoreRef} {i : Item} {cost o : Nat} {k : Core} {bs : List Byte} {q : Fin 4} (h : Ready s c i cost)
    (loops : k.loops = (s.core c).loops) (cluster : q.val = c.core.val / 8) :
    s.retire c i { core := k, cost := cost, store := some (o, bs) } =
      (s.retires c cost fun _ => k).onDie c.die fun x => { x with clusters := x.clusters.set q (((s.die c.die).clusters[q]).store c.core.val o bs) } := by
  have spent := Nat.not_lt.2 h.budget
  obtain ⟨q, isLt⟩ := q
  obtain rfl : q = c.core.val / 8 := cluster
  have advance : s.retire c i { core := k, cost := cost, store := some (o, bs) } =
      if i.bound < ((s.core c).forward (s.core c) cost).ticks then s.programFault c i .budget
      else (s.onCore c fun _ => (s.core c).forward k cost).onCluster c fun m => m.store c.core.val o bs := by
    simp only [State.retire, loops, Core.forward]
    rfl
  rw [advance, if_neg spent, State.retires, State.onCore_congr (g := fun _ => (s.core c).forward k cost) rfl]
  simp [State.onCluster, State.onDie, State.onCore, State.core]

/-- Settles O10. -/
theorem storeCluster : Obligations.StoreCluster := by
  intro s c i r p m sz a k' n q able word even cluster address aligned inside budget
  have stored := storeEff_at even address aligned
  obtain ⟨v, rfl⟩ := effective_frame address
  have whole : n % min (memBytes sz) 4 = 0 := by
    obtain ⟨-, whole⟩ := alignedAt_some aligned
    cases sz <;> simp [memBytes] at whole ⊢ <;> omega
  have len : (storeData (s.core c) r sz).length = memBytes sz := storeData_length _ _ _
  rw [storeBytes_cluster _ (by rw [len]; exact memBytes_pos sz) (by rw [len]; exact inside)] at stored
  refine ⟨((s.die c.die).clusters[q]).store c.core.val n (storeData (s.core c) r sz), ?step, fun x outside => ClusterMem.store_read_outside len whole outside,
    fun j small => ?inside, ClusterMem.store_valid len whole⟩
  case step =>
    simp only [← beq_iff_eq (a := sz)] at budget ⊢
    show Host.Outcome.next (s.coreStep c _ _) = _
    rw [State.coreStep_able able word, stored]
    exact congrArg _ (State.retire_store (k := { s.core c with p := v }) ⟨able, budget⟩ rfl cluster)
  case inside =>
    rw [← len] at small
    rw [ClusterMem.store, Memory.read_writeN_inside _ _ _ _ small, storeData_getElem]

/-! #### Buffered spaces -/

/-- A store into a buffered space waits in the output buffer while that holds 1,024 bytes at most (R247). -/
def Core.bufferOut (k : Core) (n : Nat) (bs : List Byte) (pair : Bool) : Except Cause Eff :=
  if 1024 < k.buffered + bs.length then .error .outputFull else .ok { core := { k with out := k.out ++ [(n, bs)] }, cost := if pair then 8 else 6 }

theorem spaceOf_outBank {n : Nat} (low : 0x500000 ≤ n) (high : n < 0x502000) : spaceOf n = some (.outBank (n - 0x500000)) := by
  rw [spaceOf, if_neg (by omega), if_neg (by omega), if_neg (by omega), if_neg (by omega), if_neg (by omega), if_neg (by omega), if_neg (by omega),
    if_pos ⟨low, high⟩]

theorem spaceOf_field {n : Nat} (low : 0x502000 ≤ n) (high : n < 0x502100) : spaceOf n = some (.field (n - 0x502000)) := by
  rw [spaceOf, if_neg (by omega), if_neg (by omega), if_neg (by omega), if_neg (by omega), if_neg (by omega), if_neg (by omega), if_neg (by omega),
    if_neg (by omega), if_pos ⟨low, high⟩]

theorem spaceOf_exchange {n : Nat} (low : 0x400000 ≤ n) (high : n < 0x404000) : spaceOf n = some (.exchange (n - 0x400000)) := by
  rw [spaceOf, if_neg (by omega), if_neg (by omega), if_neg (by omega), if_neg (by omega), if_pos ⟨low, high⟩]

/-- The ring windows, the field words and the joint blocks outside their generator part are buffered (Table 8.4). -/
theorem storeBytes_buffered {k : Core} {n : Nat} {bs : List Byte} (pair : Bool) (pos : 0 < bs.length)
    (space : (0x500000 ≤ n ∧ n + bs.length ≤ 0x502000) ∨ (0x502000 ≤ n ∧ n + bs.length ≤ 0x502100) ∨
      (0x400000 ≤ n ∧ n + bs.length ≤ 0x404000 ∧ 0x40 ≤ (n - 0x400000) % 256 ∧ 0x40 ≤ (n - 0x400000 + bs.length - 1) % 256)) :
    storeBytes k n bs pair = k.bufferOut n bs pair := by
  unfold storeBytes
  rcases space with ⟨low, high⟩ | ⟨low, high⟩ | ⟨low, high, first, last⟩
  · rw [spaceOf_outBank low (by omega), spaceOf_outBank (by omega) (by omega)]
    rfl
  · rw [spaceOf_field low (by omega), spaceOf_field (by omega) (by omega)]
    rfl
  · rw [spaceOf_exchange low (by omega), spaceOf_exchange (by omega) (by omega)]
    exact if_neg (by omega)

/-- Settles O11. -/
theorem storeBuffered : Obligations.StoreBuffered := by
  intro s c i r p m sz a k' n able even address aligned space budget
  have stored := storeEff_at even address aligned
  obtain ⟨v, rfl⟩ := effective_frame address
  have len : (storeData (s.core c) r sz).length = memBytes sz := storeData_length _ _ _
  rw [storeBytes_buffered _ (by rw [len]; exact memBytes_pos sz) (by rw [len]; exact space), Core.bufferOut, len] at stored
  simp only [← beq_iff_eq (a := sz)] at budget ⊢
  split
  · next full => exact State.gives_st_fault able (stored.trans (if_pos full))
  · next fits =>
    intro word
    exact State.exec_st_core (f := fun k => { k with p := v, out := k.out ++ [(n, storeData k r sz)] }) ⟨able, budget⟩ word (stored.trans (if_neg fits)) rfl

/-! #### Where a store or load faults -/

/-- The spaces that take no stores (Table 8.4). -/
theorem storeBytes_readOnly {k : Core} {n : Nat} {bs : List Byte} (pair : Bool)
    (space : (0x440000 ≤ n ∧ n < 0x482000) ∨ (0x200000 ≤ n ∧ n < 0x320000) ∨ (0x7F0000 ≤ n ∧ n < 0x7F0020)) :
    storeBytes k n bs pair = .error .address := by
  have fixed : spaceOf n = none ∨ ∃ o, spaceOf n = some (.data o) ∨ spaceOf n = some (.comp o) ∨ spaceOf n = some (.inMirror o) ∨ spaceOf n = some (.regs o) := by
    rw [spaceOf, if_neg (by omega), if_neg (by omega), if_neg (by omega)]
    by_cases data : 0x200000 ≤ n ∧ n < 0x320000
    · exact .inr ⟨_, .inl (if_pos data)⟩
    rw [if_neg data, if_neg (by omega)]
    by_cases comp : 0x440000 ≤ n ∧ n < 0x450000
    · exact .inr ⟨_, .inr (.inl (if_pos comp))⟩
    rw [if_neg comp]
    by_cases mirror : 0x480000 ≤ n ∧ n < 0x482000
    · exact .inr ⟨_, .inr (.inr (.inl (if_pos mirror)))⟩
    rw [if_neg mirror, if_neg (by omega), if_neg (by omega), if_neg (by omega), if_neg (by omega)]
    by_cases regs : 0x7F0000 ≤ n ∧ n < 0x7F0020
    · exact .inr ⟨_, .inr (.inr (.inr (if_pos regs)))⟩
    · exact .inl (if_neg regs)
  unfold storeBytes
  rcases fixed with e | ⟨o, e | e | e | e⟩ <;> rw [e] <;> cases spaceOf (n + bs.length - 1) <;> rfl

theorem storeBytes_nowhere {k : Core} {n : Nat} {bs : List Byte} (pair : Bool) (space : spaceOf n = none) : storeBytes k n bs pair = .error .address := by
  unfold storeBytes
  rw [space]

section Loads

variable {x : Die} {k k' : Core} {core n : Nat} {i : Item} {r : Fin 16} {p : Fin 8} {m : AddrMode} {sz : MemSize} {a : Int}

/-- The bank windows and the field words are not read (Table 8.4). -/
theorem loadByte_writeOnly (low : 0x500000 ≤ n) (high : n < 0x502100) : loadByte x core k i n = none := by
  unfold loadByte
  by_cases bank : n < 0x502000
  · rw [spaceOf_outBank low bank]
  · rw [spaceOf_field (not_lt.1 bank) high]

theorem loadByte_nowhere (space : spaceOf n = none) : loadByte x core k i n = none := by
  unfold loadByte
  rw [space]

/-- A load whose first byte is not read faults. -/
theorem loadEff_unread (even : sz = .pair → r.val % 2 = 0) (address : effective k p m = .ok (a, k')) (aligned : alignedAt a sz = some n)
    (unread : loadByte x core k i n = none) : loadEff core r p m sz x k i = .error .address := by
  simp only [loadEff, pairOk_of even, address, aligned, loadBytes_none unread (memBytes_pos sz)]
  cases spaceOf n <;> rfl

end Loads

/-- Settles O12. -/
theorem addressFaults : Obligations.AddressFaults := by
  refine ⟨fun s c i r p m odd => ?pairs, fun s c i r p m sz a k' able => ?single⟩
  case pairs =>
    have unpaired : (!pairOk r .pair) = true := by simp [pairOk, odd]
    refine ⟨fun h => ?_, fun h => h.exec_fault rfl (if_pos unpaired)⟩
    have faults : loadEff c.core.val r p m .pair (s.die c.die) (s.core c) i = .error .illegal := if_pos unpaired
    refine h.exec_fault (g := loadEff c.core.val r p m .pair) ?_ faults
    show execLd c r p m .pair .clean s = _
    rw [execLd]
    simp only [h.runs]
    rw [if_pos]
    rw [show loadEff c.core.val r p m .pair (s.die c.die) ((s.die c.die).cores[c.core]) i = _ from faults]
    simp [Except.isOk, Except.toBool]
  case single =>
    intro faults
    refine ⟨fun even circular => ?circular, fun even address => ⟨fun misaligned => ?misaligned, fun n aligned => ?checked⟩⟩
    case circular =>
      refine ⟨State.gives_ld_fault able ?_, State.gives_st_fault able ?_⟩
      · simp only [loadEff, pairOk_of even, circular]
        rfl
      · simp only [storeEff, pairOk_of even, circular]
        rfl
    case misaligned =>
      refine ⟨State.gives_ld_fault able ?_, State.gives_st_fault able ?_⟩
      · simp only [loadEff, pairOk_of even, address, misaligned]
        rfl
      · simp only [storeEff, pairOk_of even, address, misaligned]
        rfl
    case checked =>
      have stored {e : Cause} (h : storeBytes k' n (storeData (s.core c) r sz) (sz == .pair) = .error e) :
          s.gives c i (.st c r p m sz) (.next (s.programFault c i e)) := State.gives_st_fault able ((storeEff_at even address aligned).trans h)
      exact ⟨fun nowhere => ⟨State.gives_ld_fault able (loadEff_unread even address aligned (loadByte_nowhere nowhere)), stored (storeBytes_nowhere _ nowhere)⟩,
        fun low high => stored (storeBytes_readOnly _ (.inl ⟨low, high⟩)),
        fun low high => stored (storeBytes_readOnly _ (.inr (.inl ⟨low, high⟩))),
        fun low high => stored (storeBytes_readOnly _ (.inr (.inr ⟨low, high⟩))),
        fun low high => State.gives_ld_fault able (loadEff_unread even address aligned (loadByte_writeOnly low high))⟩

end Sys2Proof.Machine

/-! SUPPORT. MINI and MAXI (Table 8.12): the words a byte string holds, and the first of the best among them. -/

namespace Sys2Proof.Machine

/-- What the scan compares: the word as it is read, with its sign turned for a maximum. -/
def scanKey (isMin uns : Bool) (w : Word) : Int :=
  let v : Int := if uns then w.toNat else w.toInt
  if isMin then v else -v

theorem pickBest_eq (isMin uns : Bool) (best : Word × Nat) (w : Word) (i : Nat) :
    pickBest isMin uns best w i = if scanKey isMin uns w < scanKey isMin uns best.1 then (w, i) else best := by
  cases isMin <;> cases uns <;> simp [pickBest, scanKey, BitVec.ult, BitVec.slt_iff_toInt_lt]

/-- A word and its index are the best of a list, and the first of equals. -/
structure FirstBest (isMin uns : Bool) (l : List Word) (b : Word × Nat) : Prop where
  found : l[b.2]? = some b.1
  best  : ∀ (j : Nat) (x : Word), l[j]? = some x → scanKey isMin uns b.1 ≤ scanKey isMin uns x
  first : ∀ (j : Nat) (x : Word), l[j]? = some x → j < b.2 → scanKey isMin uns b.1 < scanKey isMin uns x

theorem firstBest_single (isMin uns : Bool) (w : Word) : FirstBest isMin uns [w] (w, 0) where
  found := rfl
  best j x h := by
    cases j with
    | zero => cases h; exact Int.le_refl _
    | succ j => cases h
  first j x _ h := absurd h (Nat.not_lt_zero j)

theorem FirstBest.pick {isMin uns : Bool} {l : List Word} {b : Word × Nat} (h : FirstBest isMin uns l b) (w : Word) :
    FirstBest isMin uns (l ++ [w]) (pickBest isMin uns b w l.length) := by
  have earlier : b.2 < l.length := (List.getElem?_eq_some_iff.1 h.found).1
  have old {j : Nat} {x : Word} (g : (l ++ [w])[j]? = some x) : l[j]? = some x ∨ (j = l.length ∧ x = w) := by
    rcases lt_trichotomy j l.length with low | rfl | high
    · exact .inl (by rwa [List.getElem?_append_left low] at g)
    · exact .inr ⟨rfl, by simpa using g.symm⟩
    · rw [List.getElem?_eq_none (by simp; omega)] at g
      cases g
  rw [pickBest_eq]
  split
  · next better =>
    constructor
    · simp
    · intro j x g
      rcases old g with g | ⟨-, rfl⟩
      · exact (better.trans_le (h.best j x g)).le
      · exact Int.le_refl _
    · intro j x g before
      rcases old g with g | ⟨rfl, -⟩
      · exact better.trans_le (h.best j x g)
      · exact absurd before (Nat.lt_irrefl _)
  · next worse =>
    constructor
    · rw [List.getElem?_append_left earlier, h.found]
    · intro j x g
      rcases old g with g | ⟨-, rfl⟩
      · exact h.best j x g
      · exact not_lt.1 worse
    · intro j x g before
      rcases old g with g | ⟨rfl, -⟩
      · exact h.first j x g before
      · exact absurd before (by omega)

theorem scanBest_firstBest {isMin uns : Bool} (r : List Word) {l : List Word} {b : Word × Nat} (h : FirstBest isMin uns l b) :
    FirstBest isMin uns (l ++ r) (scanBest isMin uns r l.length b) := by
  induction r generalizing l b with
  | nil => simpa [scanBest] using h
  | cons w r ih => simpa [scanBest] using ih (h.pick w)

theorem wordsOf_flatten (ws : List Word) : wordsOf ((ws.map fun w => le 4 w.toNat).flatten) = ws := by
  induction ws with
  | nil => rfl
  | cons w r ih =>
    have bytes : leNat [BitVec.ofNat 8 w.toNat, BitVec.ofNat 8 (w.toNat / 256), BitVec.ofNat 8 (w.toNat / 256 / 256), BitVec.ofNat 8 (w.toNat / 256 / 256 / 256)] = w.toNat := by
      have := w.isLt
      simp only [leNat, BitVec.toNat_ofNat]
      omega
    show BitVec.ofNat 32 (leNat _) :: wordsOf ((r.map fun w => le 4 w.toNat).flatten) = w :: r
    rw [bytes, ih, BitVec.ofNat_toNat, BitVec.setWidth_eq]

section Scanning

variable {s : State} {c : CoreRef} {i : Item} {op : Instr} {p : Fin 8} {g : Die → Core → Item → Except Cause Eff}

/-- A scan of an able core whose words read clean is one instruction like another (R13). -/
theorem State.scan_able (h : Able s c i) (n : s.atInstruction c i op = true) : s.scan c op p g = s.coreStep c op g := by
  simp only [State.scan, h.runs, n, State.readOperand_quiet h.clean, ite_self]

theorem State.gives_scan {cost : Nat} {f : Core → Core} (h : Ready s c i cost) (steps : exec op s = .next (s.scan c op p g))
    (computes : g (s.die c.die) (s.core c) i = .ok { core := f (s.core c), cost := cost }) (loops : (f (s.core c)).loops = (s.core c).loops) :
    s.gives c i op (.next (s.retires c cost f)) := fun n => by
  rw [steps, State.scan_able h.toAble n, State.coreStep_ready h n computes loops]

theorem State.gives_scan_fault {cause : Cause} (h : Able s c i) (steps : exec op s = .next (s.scan c op p g))
    (computes : g (s.die c.die) (s.core c) i = .error cause) : s.gives c i op (.next (s.programFault c i cause)) := fun n => by
  rw [steps, State.scan_able h n, State.coreStep_able h n, computes]

end Scanning

/-- A scan over readable words writes the first best of them and its index. -/
theorem scanEff_words {isMin uns : Bool} {core : Nat} {rd ri : Fin 16} {p : Fin 8} {rn : Fin 16} {x : Die} {k : Core} {i : Item} {sp : Space} {ws : List Word}
    (some_ : 0 < (k.reg rn).toNat) (few : (k.reg rn).toNat ≤ 1024) (aligned : (k.ptr p).toNat % 4 = 0) (space : spaceOf (k.ptr p).toNat = some sp)
    (bytes : loadBytes x core k i (k.ptr p).toNat (4 * (k.reg rn).toNat) = some ((ws.map fun w => le 4 w.toNat).flatten)) :
    ∃ j : Fin ws.length, FirstBest isMin uns ws (ws[j], j) ∧ scanEff isMin uns core rd ri p rn x k i =
      .ok { core := (k.setReg rd ws[j]).setReg ri (BitVec.ofNat 32 j), cost := 12 + (k.reg rn).toNat * memTicks sp false } := by
  have len := loadBytes_length bytes
  rw [flatten_map_length ws _ 4 fun w => le_length 4 _] at len
  cases ws with
  | nil => simp at len; omega
  | cons w r =>
    have best : FirstBest isMin uns (w :: r) (scanBest isMin uns r 1 (w, 0)) := scanBest_firstBest r (firstBest_single isMin uns w)
    obtain ⟨inside, value⟩ := List.getElem?_eq_some_iff.1 best.found
    refine ⟨⟨_, inside⟩, ?_⟩
    simp only [Fin.getElem_fin, value]
    refine ⟨best, ?_⟩
    simp only [scanEff, if_neg (show ¬((k.reg rn).toNat = 0 ∨ 1024 < (k.reg rn).toNat) by omega), aligned, ne_eq, not_true, if_false, space, bytes, wordsOf_flatten]

/-- Settles O13. -/
theorem minMaxScan : Obligations.MinMaxScan := by
  intro s c i rd ri p rn uns sp ws able n at_ less
  refine ⟨fun bad => ⟨State.gives_scan_fault able rfl (if_pos bad), State.gives_scan_fault able rfl (if_pos bad)⟩, fun some_ few aligned space bytes budget => ?_⟩
  have ready : Ready s c i (12 + n * memTicks sp false) := ⟨able, budget⟩
  obtain ⟨lo, least, mini⟩ := scanEff_words (isMin := true) (uns := uns) (rd := rd) (ri := ri) some_ few aligned space bytes
  obtain ⟨hi, most, maxi⟩ := scanEff_words (isMin := false) (uns := uns) (rd := rd) (ri := ri) some_ few aligned space bytes
  refine ⟨lo, hi, fun j => ?least, fun j => ?most, ?mini, ?maxi⟩
  case least =>
    have best := least.best j ws[j] (List.getElem?_eq_getElem j.isLt)
    have first := least.first j ws[j] (List.getElem?_eq_getElem j.isLt)
    cases uns <;> simp [scanKey, less] at best first ⊢ <;> omega
  case most =>
    have best := most.best j ws[j] (List.getElem?_eq_getElem j.isLt)
    have first := most.first j ws[j] (List.getElem?_eq_getElem j.isLt)
    cases uns <;> simp [scanKey, less] at best first ⊢ <;> omega
  case mini => exact State.gives_scan (f := fun k => (k.setReg rd ws[lo]).setReg ri (BitVec.ofNat 32 lo)) ready rfl mini rfl
  case maxi => exact State.gives_scan (f := fun k => (k.setReg rd ws[hi]).setReg ri (BitVec.ofNat 32 hi)) ready rfl maxi rfl

end Sys2Proof.Machine

/-! SUPPORT. Control flow of a servo core (R261, Table 8.13): jumps, the loop stack, and the statement about them. -/

namespace Sys2Proof.Machine

/-- An instruction that jumps: its core is as it computes, at the target, with its ticks charged (R258, R261). -/
theorem State.coreStep_jump {s : State} {c : CoreRef} {i : Item} {op : Instr} {g : Die → Core → Item → Except Cause Eff} {f : Core → Core} {cost target : Nat}
    (h : Able s c i) (n : s.atInstruction c i op = true) (budget : (s.core c).ticks + cost ≤ i.bound)
    (computes : g (s.die c.die) (s.core c) i = .ok { core := f (s.core c), cost := cost, jump := some target }) :
    s.coreStep c op g = s.onCore c fun k => { f k with pc := target, ticks := k.ticks + cost } := by
  have lands : s.retire c i { core := f (s.core c), cost := cost, jump := some target } =
      if i.bound < (s.core c).ticks + cost then s.programFault c i .budget
      else s.onCore c fun _ => { f (s.core c) with pc := target, ticks := (s.core c).ticks + cost } := rfl
  rw [State.coreStep_able h n, computes]
  exact lands.trans ((if_neg (not_lt.2 budget)).trans (State.onCore_congr rfl))

theorem State.gives_jump {s : State} {c : CoreRef} {i : Item} {op : Instr} {g : Die → Core → Item → Except Cause Eff} {f : Core → Core} {cost target : Nat}
    (h : Able s c i) (budget : (s.core c).ticks + cost ≤ i.bound) (steps : exec op s = .next (s.coreStep c op g))
    (computes : g (s.die c.die) (s.core c) i = .ok { core := f (s.core c), cost := cost, jump := some target }) :
    s.gives c i op (.next (s.onCore c fun k => { f k with pc := target, ticks := k.ticks + cost })) := fun n => by
  rw [steps, State.coreStep_jump h n budget computes]

/-- The loops a jump ends are the innermost ones whose body does not hold its target; the next one's does. -/
theorem leaveLoops_split (target : Nat) (loops : List LoopFrame) : ∃ gone, loops = gone ++ leaveLoops target loops ∧
    (∀ g ∈ gone, ¬(g.first ≤ target ∧ target ≤ g.last)) ∧ ∀ g, (leaveLoops target loops).head? = some g → g.first ≤ target ∧ target ≤ g.last := by
  induction loops with
  | nil => exact ⟨[], rfl, by simp, by simp [leaveLoops]⟩
  | cons f r ih =>
    by_cases holds : f.first ≤ target ∧ target ≤ f.last
    · refine ⟨[], by simp [leaveLoops, holds], by simp, fun g h => ?_⟩
      rw [leaveLoops, if_pos holds] at h
      cases h
      exact holds
    · obtain ⟨gone, parts, left, stays⟩ := ih
      rw [leaveLoops, if_neg holds]
      exact ⟨f :: gone, by rw [List.cons_append, ← parts], fun g h => (List.mem_cons.1 h).elim (fun e => e ▸ holds) (left g), stays⟩

theorem jumpTo_inside {k : Core} {words : Nat} {t : Int} (cost : Nat) (low : 0 ≤ t) (high : t < words) :
    jumpTo k words t cost = .ok { core := { k with loops := leaveLoops t.toNat k.loops }, cost := cost, jump := some t.toNat } := if_pos ⟨low, high⟩

theorem jumpTo_outside {k : Core} {words : Nat} {t : Int} (cost : Nat) (h : ¬(0 ≤ t ∧ t < words)) : jumpTo k words t cost = .error .pc := if_neg h

/-- What Bcc computes, by its condition. -/
def bccOut (cond : BitVec 4) (off : BitVec 22) (k : Core) (i : Item) : Except Cause Eff :=
  match condHolds k.flags cond.toNat with
  | none => .error .illegal
  | some true => jumpTo k i.code.length (k.pc + off.toInt) 8
  | some false => .ok { core := k, cost := 4 }

theorem exec_bcc (c : CoreRef) (cond : BitVec 4) (off : BitVec 22) (s : State) :
    exec (.bcc c cond off) s = .next (s.coreStep c (.bcc c cond off) fun _ k i => bccOut cond off k i) := rfl

/-- What LOOP computes where its end is one that a block can have. -/
def loopOut (n last : Nat) (k : Core) (words : Nat) : Except Cause Eff :=
  if 2 ≤ k.loops.length then .error .stack
  else if words ≤ k.pc + last then .error .pc
  else if n = 0 then
    .ok { core := { k with loops := (loopAdvance (k.pc + last) k.loops).1 }, cost := 8 + 8 * (loopAdvance (k.pc + last) k.loops).2.2,
          jump := some (loopAdvance (k.pc + last) k.loops).2.1 }
  else .ok { core := { k with loops := { first := k.pc + 1, last := k.pc + last, count := n } :: k.loops }, cost := 8, jump := some (k.pc + 1) }

theorem exec_loop {s : State} {c : CoreRef} {fromReg : Bool} {ra : Fin 16} {count : BitVec 10} {last : BitVec 11} (low : 1 ≤ last.toNat) (high : last.toNat ≤ 1023) :
    exec (.loop_ c fromReg ra count last) s = .next (s.coreStep c (.loop_ c fromReg ra count last) fun _ k i =>
      loopOut (if fromReg then (k.reg ra).toNat else if count = 0 then 1024 else count.toNat) last.toNat k i.code.length) := by
  have ends : ¬(last.toNat = 0 ∨ 1023 < last.toNat) := by omega
  show Host.Outcome.next (s.coreStep c _ _) = _
  simp only [if_neg ends]
  rfl

/-- Settles O14. -/
theorem control : Obligations.Control := by
  refine ⟨fun s c i cond off h undefined_ => ?undefined, fun s c i able => ?flow, fun pc f rest => ?loops⟩
  case undefined =>
    refine h.exec_fault (exec_bcc c cond off s) ?_
    simp only [bccOut, undefined_]
    rfl
  case flow =>
    intro k len go drop faults
    refine ⟨fun cond off => ⟨fun stays ready => ?fall, fun holds budget low high => ?jump, fun holds outside => ?away⟩,
      fun target => ⟨fun full => ?full, fun room outside => ?out, fun room inside budget => ?call⟩, fun empty => ?empty,
      fun t rest top budget => ?ret, ?loop⟩
    case fall => exact State.gives_core (f := id) ready (exec_bcc c cond off s) (by simp only [bccOut, show condHolds (s.core c).flags cond.toNat = _ from stays]; rfl) rfl
    case jump =>
      refine State.gives_jump (f := drop (k.pc + off.toInt).toNat) able budget (exec_bcc c cond off s) ?_
      simp only [bccOut, show condHolds (s.core c).flags cond.toNat = _ from holds]
      exact jumpTo_inside 8 low high
    case away =>
      refine State.gives_fault able (exec_bcc c cond off s) ?_
      simp only [bccOut, show condHolds (s.core c).flags cond.toNat = _ from holds]
      exact jumpTo_outside 8 outside
    case full => exact State.gives_fault able rfl (if_pos full)
    case out => exact State.gives_fault able rfl ((if_neg (not_le.2 room)).trans (if_pos outside))
    case call =>
      exact State.gives_jump (f := fun k => { k with calls := (k.pc + 1) :: k.calls }) able budget rfl ((if_neg (not_le.2 room)).trans (if_neg (not_le.2 inside)))
    case empty =>
      refine State.gives_fault (g := fun _ k _ => match k.calls with
        | [] => .error .stack
        | t :: r => .ok { core := { k with calls := r, loops := leaveLoops t k.loops }, cost := 8, jump := some t }) able rfl ?_
      simp only [show (s.core c).calls = [] from empty]
    case ret =>
      refine State.gives_jump (g := fun _ k _ => match k.calls with
        | [] => .error .stack
        | t :: r => .ok { core := { k with calls := r, loops := leaveLoops t k.loops }, cost := 8, jump := some t })
        (f := fun k => drop t { k with calls := rest }) able budget rfl ?_
      simp only [show (s.core c).calls = t :: rest from top]
      rfl
    case loop =>
      intro fromReg ra count last n low high
      refine ⟨fun deep => ?deep, fun room outside => ?outside, fun room inside zero => ?skip, fun room inside budget some_ => ?enter⟩
      case deep => exact State.gives_fault able (exec_loop low high) (if_pos deep)
      case outside => exact State.gives_fault able (exec_loop low high) ((if_neg (not_le.2 room)).trans (if_pos outside))
      case skip =>
        intro past budget
        have skips := State.gives_jump (f := fun k => { k with loops := past.1 }) able (cost := 8 + 8 * past.2.2) (target := past.2.1) (by rw [← Nat.add_assoc]; exact budget)
          (exec_loop low high) ((if_neg (not_le.2 room)).trans ((if_neg (not_le.2 inside)).trans (if_pos zero)))
        simpa only [Nat.add_assoc] using skips
      case enter =>
        exact State.gives_jump (f := fun k => { k with loops := { first := k.pc + 1, last := k.pc + last.toNat, count := n } :: k.loops }) able budget
          (exec_loop low high) ((if_neg (not_le.2 room)).trans ((if_neg (not_le.2 inside)).trans (if_neg some_.ne')))
  case loops =>
    refine ⟨rfl, fun elsewhere => ?_, fun at_ more => ?_, fun at_ done => ?_, leaveLoops_split pc⟩
    · rw [loopAdvance, if_neg elsewhere]
    · rw [loopAdvance, if_pos at_, if_pos more]
    · rw [loopAdvance, if_pos at_, if_neg (not_lt.2 done)]

end Sys2Proof.Machine

/-! SUPPORT. What records, events and counts leave alone on a die, and what the dispatcher's selection leaves alone on a core; program faults, residue detections and
EXIT, and the statements about them (R254 to R257). -/

namespace Sys2Proof.Machine

/-! ### Records, events and counts leave the cores and the item runs -/

/-- One state differs from another in what it has recorded, raised and counted: the cores and the item runs stand, and a raised event stays raised. -/
structure Logs (s t : State) : Prop where
  cores  : ∀ d, (t.die d).cores = (s.die d).cores
  insts  : ∀ d, (t.die d).disp.insts = (s.die d).disp.insts
  raised : ∀ d e, (s.die d).events.pending.getLsbD e = true → (t.die d).events.pending.getLsbD e = true

theorem Logs.refl (s : State) : Logs s s := ⟨fun _ => rfl, fun _ => rfl, fun _ _ h => h⟩

theorem Logs.trans {s t u : State} (h : Logs s t) (k : Logs t u) : Logs s u :=
  ⟨fun d => (k.cores d).trans (h.cores d), fun d => (k.insts d).trans (h.insts d), fun d e r => k.raised d e (h.raised d e r)⟩

theorem Logs.ite {s t u : State} {p : Prop} [Decidable p] (yes : Logs s t) (no : Logs s u) : Logs s (if p then t else u) := by
  split
  · exact yes
  · exact no

/-- A change of a die that leaves its cores, its item runs and its events. -/
theorem Logs.onDie {s : State} {d : DieId} {f : Die → Die} (cores : (f (s.die d)).cores = (s.die d).cores)
    (insts : (f (s.die d)).disp.insts = (s.die d).disp.insts)
    (raised : ∀ e, (s.die d).events.pending.getLsbD e = true → (f (s.die d)).events.pending.getLsbD e = true) : Logs s (s.onDie d f) where
  cores e := by
    by_cases h : e = d
    · rw [h, State.onDie_die, cores]
    · rw [State.onDie_ne _ _ h]
  insts e := by
    by_cases h : e = d
    · rw [h, State.onDie_die, insts]
    · rw [State.onDie_ne _ _ h]
  raised e k r := by
    by_cases h : e = d
    · subst h; rw [State.onDie_die]; exact raised k r
    · rwa [State.onDie_ne _ _ h]

theorem Logs.emit (s : State) (m : OutMsg) : Logs s (s.emit m) := ⟨fun d => by rw [State.emit_die], fun d => by rw [State.emit_die], fun d e h => by rwa [State.emit_die]⟩

theorem Logs.onQueue (s : State) (d : DieId) (q : Fin 64) (f : Queue → Queue) : Logs s (s.onQueue d q f) := Logs.onDie rfl rfl fun _ h => h

theorem Logs.msix (s : State) (d : DieId) (v : Nat) : Logs s (s.msix d v) := .ite (.refl s) (.ite (.onDie rfl rfl fun _ h => h) (.emit s _))

theorem Logs.writeRecord (s : State) (port : DieId) (r : Record) (d : DieId) : Logs s (s.writeRecord port r d) := by
  unfold State.writeRecord
  exact .ite ((((Logs.emit _ _).trans (.emit _ _)).trans (.onQueue _ _ _ _)).trans (.msix _ _ _)) (((Logs.emit _ _).trans (.emit _ _)).trans (.onQueue _ _ _ _))

theorem Logs.count (s : State) (d : DieId) (group inst word n : Nat) : Logs s (s.count d group inst word n) := Logs.onDie rfl rfl fun _ h => h

theorem Logs.markEvent (s : State) (d : DieId) (e : Nat) (source : Word) (data : List Byte) (o : Occur) : Logs s (s.markEvent d e source data o) :=
  Logs.onDie rfl rfl fun k h => by
    show ((s.die d).events.pending ||| (1#256 <<< e)).getLsbD k = true
    rw [BitVec.getLsbD_or, h, Bool.true_or]

theorem Logs.dropRecord (s : State) (port : DieId) (q : Fin 64) : Logs s (s.dropRecord port q).2 :=
  Logs.onQueue s port q fun q => { q with lost := sat32 (q.lost + 1), lossSeen := true }

/-- Raising an event only records: it marks the event, and what follows records it. -/
theorem Logs.raiseFuel (fuel : Nat) (s : State) (d : DieId) (e : Nat) (source : Word) (data : List Byte) (o : Occur) :
    Logs (s.markEvent d e source data o) (s.raiseFuel fuel d e source data o) := by
  induction fuel generalizing s e source data o with
  | zero =>
    unfold State.raiseFuel
    extract_lets c was s1 masked wants r port qi s2 s3
    have h2 : Logs s1 s2 := .onDie rfl rfl fun _ h => h
    have h3 : Logs s1 s3 := .ite (.ite (h2.trans (.writeRecord ..)) (.ite ((h2.trans (.dropRecord ..)).trans (.msix ..)) (h2.trans (.dropRecord ..)))) (.refl _)
    exact .ite (h3.trans (.msix ..)) h3
  | succ n ih =>
    unfold State.raiseFuel
    extract_lets c was s1 masked wants r port qi s2 s3
    have h2 : Logs s1 s2 := .onDie rfl rfl fun _ h => h
    have again (t : State) (e : Nat) (source : Word) (data : List Byte) (o : Occur) : Logs t (t.raiseFuel n d e source data o) := (Logs.markEvent ..).trans (ih ..)
    have h3 : Logs s1 s3 :=
      .ite (.ite (h2.trans (.writeRecord ..)) (.ite (((h2.trans (.dropRecord ..)).trans (.msix ..)).trans (again ..)) (h2.trans (.dropRecord ..)))) (.refl _)
    exact .ite (h3.trans (.msix ..)) h3

theorem Logs.raise (s : State) (d : DieId) (e : Nat) (source : Word) (data : List Byte) (o : Occur) : Logs s (s.raise d e source data o) :=
  (Logs.markEvent ..).trans (.raiseFuel ..)

/-- An event raised is pending (R434). -/
theorem State.raise_pending (s : State) (d : DieId) {e : Nat} (small : e < 256) (source : Word) (data : List Byte) (o : Occur) :
    ((s.raise d e source data o).die d).events.pending.getLsbD e = true := by
  refine (Logs.raiseFuel 3 s d e source data o).raised d e ?_
  rw [State.markEvent, State.onDie_die]
  show ((s.die d).events.pending ||| (1#256 <<< e)).getLsbD e = true
  rw [BitVec.getLsbD_or, BitVec.getLsbD_shiftLeft]
  simp [small]

theorem Logs.sendStream (s : State) (d : DieId) (r : Record) : Logs s (s.sendStream d r) := by
  unfold State.sendStream
  exact .ite (.refl _) (.ite (.writeRecord ..) (.ite (((Logs.dropRecord ..).trans (.msix ..)).trans (.raise ..)) (.dropRecord ..)))

theorem Logs.flushTrace (s : State) (d : DieId) : Logs s (s.flushTrace d) := by
  unfold State.flushTrace
  split
  · exact .refl _
  · exact .ite (.refl _) ((Logs.onDie rfl rfl fun _ h => h).trans (.sendStream ..))

theorem Logs.trace (s : State) (d : DieId) (entry kind flags core home cls b ticks : Nat) : Logs s (s.trace d entry kind flags core home cls b ticks) := by
  unfold State.trace
  split
  · exact .refl _
  · exact .ite (.ite ((Logs.onDie rfl rfl fun _ h => h).trans (.flushTrace ..)) (.onDie rfl rfl fun _ h => h)) (.refl _)

theorem Logs.core {s t : State} (h : Logs s t) (c : CoreRef) : t.core c = s.core c := by
  show (t.die c.die).cores[c.core] = (s.die c.die).cores[c.core]
  rw [h.cores]

/-! ### The dispatcher's selection leaves what a core runs -/

/-- One state differs from another in what the cores are to run next: a core runs the item it ran and holds the buffer it held, no item run has come to run on it, and a
raised event stays raised. -/
structure Selects (c : CoreRef) (s t : State) : Prop where
  run    : (t.core c).run = (s.core c).run
  out    : (t.core c).out = (s.core c).out
  idle   : (∀ i ∈ (s.die c.die).disp.insts, i.state ≠ .running c.core.val) → ∀ i ∈ (t.die c.die).disp.insts, i.state ≠ .running c.core.val
  raised : ∀ e, (s.die c.die).events.pending.getLsbD e = true → (t.die c.die).events.pending.getLsbD e = true

section Selecting

variable {c : CoreRef} {s t u : State}

theorem Selects.refl (c : CoreRef) (s : State) : Selects c s s := ⟨rfl, rfl, id, fun _ => id⟩

theorem Selects.trans (h : Selects c s t) (k : Selects c t u) : Selects c s u :=
  ⟨k.run.trans h.run, k.out.trans h.out, fun i => k.idle (h.idle i), fun e r => k.raised e (h.raised e r)⟩

theorem Logs.selects (h : Logs s t) (c : CoreRef) : Selects c s t where
  run := by rw [h.core]
  out := by rw [h.core]
  idle i := by rwa [h.insts]
  raised := h.raised c.die

theorem Selects.fold {α : Type} (l : List α) (f : State → α → State) (h : ∀ t a, Selects c t (f t a)) : Selects c s (l.foldl f s) := by
  induction l generalizing s with
  | nil => exact .refl c s
  | cons a l ih => exact (h s a).trans ih

/-- The item runs of a die are changed, none of them to running. -/
theorem Selects.onInsts {f : Die → Die} {g : Inst → Inst} (cores : (f (s.die c.die)).cores = (s.die c.die).cores)
    (insts : (f (s.die c.die)).disp.insts = (s.die c.die).disp.insts.map g) (events : (f (s.die c.die)).events = (s.die c.die).events)
    (stays : ∀ i, i.state ≠ .running c.core.val → (g i).state ≠ .running c.core.val) : Selects c s (s.onDie c.die f) where
  run := by simp [State.core, cores]
  out := by simp [State.core, cores]
  idle none i mem := by
    rw [State.onDie_die, insts] at mem
    obtain ⟨j, hj, rfl⟩ := List.mem_map.1 mem
    exact stays j (none j hj)
  raised e h := by rwa [State.onDie_die, events]

/-- What a core is to run next is changed. -/
theorem Selects.onCore (k : Fin 32) {f : Core → Core} (run : ∀ x, (f x).run = x.run) (out : ∀ x, (f x).out = x.out) : Selects c s (s.onCore ⟨c.die, k⟩ f) := by
  have same : ∀ {α : Type} (g : Core → α), (∀ x, g (f x) = g x) → g ((s.onCore ⟨c.die, k⟩ f).core c) = g (s.core c) := by
    intro α g h
    simp only [State.onCore, State.core, State.onDie_die]
    by_cases e : k = c.core
    · subst e; simp [h]
    · have : k.val ≠ c.core.val := fun v => e (Fin.ext v)
      simp [this]
  exact ⟨same _ run, same _ out, fun h => by simpa [State.onCore] using h, fun _ h => by simpa [State.onCore] using h⟩

theorem Selects.fillCore (k : Fin 32) : Selects c s (s.fillCore c.die k) := by
  unfold State.fillCore
  extract_lets
  split
  · exact .refl c s
  · split
    · exact .refl c s
    · extract_lets item s1 s2
      have chosen : Selects c s s1 := .onCore k (fun _ => rfl) fun _ => rfl
      have marked : Selects c s1 s2 := .onInsts rfl rfl rfl fun i h => by
        split
        · simp
        · exact h
      exact (chosen.trans marked).trans ((Logs.trace ..).selects c)

theorem Selects.cancelPrefetches (was : List Inst) : Selects c s (s.cancelPrefetches c.die was) := by
  unfold State.cancelPrefetches
  extract_lets fresh go
  refine .fold _ _ fun t k => ?_
  simp only [go]
  split
  · exact .refl c t
  · next n _ =>
    have freed : Selects c t (t.onCore ⟨c.die, k⟩ fun c => { c with next := none, prefetched := false }) := .onCore k (fun _ => rfl) fun _ => rfl
    split
    · refine freed.trans (.trans (.onInsts rfl rfl rfl fun i h => ?_) (((Logs.count ..).trans (Logs.trace ..)).selects c))
      split
      · simp
      · exact h
    · exact .refl c t

/-- An item run that is settled does not run. -/
theorem Die.settle_ne_running (x : Die) {i : Inst} {k : Nat} (h : i.state ≠ .running k) : x.settle i ≠ .running k := by
  unfold Die.settle
  split
  · exact h
  · extract_lets ps bad ok
    split
    · simp
    · split
      · simp
      · exact h

theorem Selects.reschedule : Selects c s (s.reschedule c.die) := by
  unfold State.reschedule
  extract_lets was s1 note s2
  have settled : Selects c s s1 := .onInsts rfl rfl rfl fun i h => by
    split
    · exact Die.settle_ne_running _ h
    · exact h
  have noted : Selects c s1 s2 := .fold _ _ fun t i => by
    simp only [note]
    split
    · split
      · exact (Logs.trace ..).selects c
      · exact .refl c t
    · exact .refl c t
  exact (settled.trans noted).trans ((Selects.cancelPrefetches was).trans (.fold _ _ fun t k => .fillCore k))

end Selecting

end Sys2Proof.Machine

/-! SUPPORT. Program faults, residue detections and EXIT on a servo core, and the statements about them (R254 to R257, R260). -/

namespace Sys2Proof.Machine

/-! ### Program faults (R255) -/

section Faulting

variable {s : State} {c : CoreRef} {i : Item}

/-- Past the end of its block any instruction is a PC fault (Table 8.10). -/
theorem State.coreStep_past (runs : s.runningOn c = some i) (past : i.code[(s.core c).pc]? = none) (op : Instr) (f : Die → Core → Item → Except Cause Eff) :
    s.coreStep c op f = s.programFault c i .pc := by
  have past' : i.code[((s.die c.die).cores[c.core]).pc]? = none := past
  unfold State.coreStep State.coreStepAt
  simp only [runs, past']

/-- A row that is not the instruction at the program counter changes nothing. -/
theorem State.coreStep_other {w : Word} {op : Instr} (runs : s.runningOn c = some i) (word : i.code[(s.core c).pc]? = some w) (defined : wordDefined w = true)
    (other : spells w op = false) (f : Die → Core → Item → Except Cause Eff) : s.coreStep c op f = s := by
  have word' : i.code[((s.die c.die).cores[c.core]).pc]? = some w := word
  unfold State.coreStep State.coreStepAt
  simp only [runs, word', defined, other, Bool.not_true, Bool.not_false, Bool.false_eq_true, if_false, if_true]

/-- An instruction that the bound does not hold is a BUDGET fault, and is not executed (R258). -/
theorem State.gives_budget {op : Instr} {g : Die → Core → Item → Except Cause Eff} {k : Core} {cost : Nat} (h : Able s c i)
    (spent : i.bound < ((s.core c).forward (s.core c) cost).ticks) (steps : exec op s = .next (s.coreStep c op g))
    (computes : g (s.die c.die) (s.core c) i = .ok { core := k, cost := cost }) (loops : k.loops = (s.core c).loops) :
    s.gives c i op (.next (s.programFault c i .budget)) := fun n => by
  have stops : s.retire c i { core := k, cost := cost } =
      if i.bound < ((s.core c).forward (s.core c) cost).ticks then s.programFault c i .budget
      else s.onCore c fun _ => (s.core c).forward k cost := by
    simp only [State.retire, loops, Core.forward]
    rfl
  rw [steps, State.coreStep_able h n, computes]
  exact congrArg _ (stops.trans (if_pos spent))

/-- A core with no prefetched item starts none. -/
theorem State.startNext_none (h : (s.core c).next = none ∨ (s.core c).prefetched = false) : s.startNext c = s := by
  unfold State.startNext
  extract_lets k
  split
  · next _ next =>
    have none_ : k.next ≠ none := by rw [next]; simp
    have unfetched : k.prefetched = false := h.resolve_left none_
    rw [unfetched]
    rfl
  · rfl

/-- What a program fault leaves of the core and of its item run, before the dispatcher looks again. -/
theorem State.faultItem_spec (cause : Cause) (idle : (s.core c).next = none ∨ (s.core c).prefetched = false) :
    ((s.faultItem c i cause).core c).run = none ∧ ((s.faultItem c i cause).core c).out = [] ∧
      (∀ t ∈ ((s.faultItem c i cause).die c.die).disp.insts, t.state ≠ .running c.core.val) ∧
      ((s.faultItem c i cause).die c.die).events.pending.getLsbD 42 = true := by
  unfold State.faultItem
  extract_lets pc code s1 s2 s3 s4 s5 s6
  have core3 : s3.core c = { s.core c with run := none, out := [] } := by simp [s3, s2, s1, State.core, State.onCluster, State.onCore]
  have insts3 : ∀ t ∈ (s3.die c.die).disp.insts, t.state ≠ .running c.core.val := by
    intro t mem
    simp only [s3, State.onDie_die, Dispatcher.onRun] at mem
    obtain ⟨j, -, rfl⟩ := List.mem_map.1 mem
    split
    · simp
    · next other => exact fun running => other (.inl running)
  have logged : Logs s3 s5 := (Logs.count ..).trans (Logs.trace ..)
  have raised : Logs s3 s6 := logged.trans (Logs.raise ..)
  have pending : (s6.die c.die).events.pending.getLsbD 42 = true := State.raise_pending _ _ (by decide) _ _ _
  have core6 : s6.core c = { s.core c with run := none, out := [] } := (raised.core c).trans core3
  rw [State.startNext_none (by rw [core6]; exact idle), core6, raised.insts]
  exact ⟨rfl, rfl, insts3, pending⟩

theorem State.programFault_spec (cause : Cause) (idle : (s.core c).next = none ∨ (s.core c).prefetched = false) :
    ((s.programFault c i cause).core c).run = none ∧ ((s.programFault c i cause).core c).out = [] ∧
      (∀ t ∈ ((s.programFault c i cause).die c.die).disp.insts, t.state ≠ .running c.core.val) ∧
      ((s.programFault c i cause).die c.die).events.pending.getLsbD 42 = true := by
  obtain ⟨run, out, insts, raised⟩ := State.faultItem_spec (i := i) cause idle
  have again : Selects c (s.faultItem c i cause) (s.programFault c i cause) := .reschedule
  exact ⟨again.run.trans run, again.out.trans out, again.idle insts, again.raised 42 raised⟩

end Faulting

/-- A row that costs the ticks of class A, leaves the loops and faults only by its budget. -/
def ClassA (s : State) (c : CoreRef) (op : Instr) : Prop :=
  ∃ (g : Die → Core → Item → Except Cause Eff) (f : Core → Core), exec op s = .next (s.coreStep c op g) ∧
    ∀ x k i, g x k i = .ok { core := f k, cost := 4 } ∧ (f k).loops = k.loops

theorem classA_of_row {s : State} {c : CoreRef} {op : Instr} (h : op = .sysNop c ∨ (∃ rd ra rb, op = .add c rd ra rb) ∨ (∃ rd ra rb, op = .sub c rd ra rb) ∨
    (∃ rd imm, op = .movi c rd imm) ∨ (∃ p imm, op = .pseti c p imm)) : ClassA s c op := by
  rcases h with rfl | ⟨rd, ra, rb, rfl⟩ | ⟨rd, ra, rb, rfl⟩ | ⟨rd, imm, rfl⟩ | ⟨p, imm, rfl⟩
  · exact ⟨_, fun k => k, rfl, fun _ _ _ => ⟨rfl, rfl⟩⟩
  · exact ⟨_, fun k => (k.setReg rd (k.reg ra + k.reg rb)).withFlags (flagsAdd k.flags (k.reg ra) (k.reg rb) (k.reg ra + k.reg rb)), rfl, fun _ _ _ => ⟨rfl, rfl⟩⟩
  · exact ⟨_, fun k => (k.setReg rd (k.reg ra - k.reg rb)).withFlags (flagsSub k.flags (k.reg ra) (k.reg rb) (k.reg ra - k.reg rb)), rfl, fun _ _ _ => ⟨rfl, rfl⟩⟩
  · exact ⟨_, fun k => (k.setReg rd (imm.signExtend 32)).withFlags k.flags, rfl, fun _ _ _ => ⟨rfl, rfl⟩⟩
  · exact ⟨_, fun k => k.setPtr p imm.toNat, rfl, fun _ _ _ => ⟨rfl, rfl⟩⟩

/-! ### Encodings (R250, R260) -/

theorem wordDefined_low {w : Word} (h : w.toNat < 2 ^ 26) : wordDefined w = false := by
  have op : bits w.toNat 31 26 = 0 := by
    unfold bits
    omega
  simp [wordDefined, op]

theorem toSigned_toNat (off : BitVec 22) : toSigned 22 off.toNat = off.toInt := by
  rw [toSigned, BitVec.toInt_eq_toNat_cond]
  split <;> split <;> omega

theorem bcc_encodingOk {words at_ : Nat} {cond : BitVec 4} {off : BitVec 22} {w : Word} (word : spells w (.bcc ⟨.t0, 0⟩ cond off) = true)
    (ok : encodingOk words at_ w = true) : cond.toNat ≠ 15 ∧ 0 ≤ (at_ : Int) + off.toInt ∧ (at_ : Int) + off.toInt < words := by
  simp only [spells, Bool.and_eq_true, beq_iff_eq] at word
  obtain ⟨⟨op, field⟩, offset⟩ := word
  simp only [encodingOk, wordDefined, targetInBlock, op, field, offset, toSigned_toNat, Bool.and_eq_true, decide_eq_true_eq] at ok
  exact ok

/-- A row of format M whose word is a defined encoding of a pair names an even register. -/
theorem pair_wordDefined {w : Word} {r : Nat} (op : bits w.toNat 31 26 = 0x10 ∨ bits w.toNat 31 26 = 0x11) (reg : bits w.toNat 25 22 = r)
    (size : bits w.toNat 16 14 = 4) (defined : wordDefined w = true) : r % 2 = 0 := by
  rcases op with op | op <;> simp [wordDefined, op, reg, size] at defined <;> exact defined.1

/-- Settles O15. -/
theorem programFaults : Obligations.ProgramFaults := by
  refine ⟨⟨fun s c i code able => ?software, fun s c i op runs row => ?rows, fun s c i cause idle => State.programFault_spec cause idle⟩,
    by decide, by decide, fun w => wordDefined_low, fun words at_ w ok => ?defined, fun words at_ cond off w => bcc_encodingOk, fun words at_ r p m w word ok => ?pair⟩
  case software =>
    have faults : s.gives c i (.faultOp c code) (.next (s.programFault c i (if i.bound < (s.core c).ticks + 4 then .budget else .software code))) :=
      State.gives_fault (g := fun _ k i => .error (if i.bound < k.ticks + 4 then .budget else .software code)) able rfl rfl
    by_cases fits : (s.core c).ticks + 4 ≤ i.bound
    · rw [if_neg (not_lt.2 fits)] at faults
      rwa [if_pos fits]
    · rw [if_pos (not_le.1 fits)] at faults
      rwa [if_neg fits]
  case rows =>
    obtain ⟨g, f, steps, computes⟩ := classA_of_row (s := s) row
    refine ⟨fun past => ?_, fun w word clean undefined_ => ?_, fun w word defined other => ?_, fun able spent => ?_⟩
    · rw [steps, State.coreStep_past runs past]
    · rw [steps, State.coreStep_undefined runs clean word undefined_]
    · rw [steps, State.coreStep_other runs word defined other]
    · exact State.gives_budget able spent steps (computes _ _ _).1 (computes (s.die c.die) (s.core c) i).2
  case defined =>
    simp only [encodingOk, Bool.and_eq_true] at ok
    exact ok.1
  case pair =>
    simp only [encodingOk, Bool.and_eq_true] at ok
    obtain ⟨defined, -⟩ := ok
    rcases word with word | word <;> simp only [spells, Bool.and_eq_true, beq_iff_eq, memCode] at word <;> obtain ⟨⟨⟨⟨⟨op, reg⟩, -⟩, -⟩, size⟩, -⟩ := word
    · exact pair_wordDefined (.inl op) reg size defined
    · exact pair_wordDefined (.inr op) reg size defined

/-! ### Residue detections (R256, R257) -/

/-- A residue mismatch is a detection, whatever the instruction was to compute (R256). -/
theorem State.coreStepChecked_mismatch {s : State} {c : CoreRef} {i : Item} {op : Instr} (runs : s.runningOn c = some i) (quiet : s.quiet c.die 2 = true)
    (n : s.atInstruction c i op = true) (f : Die → Core → Item → Except Cause Eff) : s.coreStepChecked c op false f = s.coreDetection c i 2 false := by
  simp [State.coreStepChecked, runs, n, State.checkInjected_quiet quiet]

/-- The first detection enters the item again on its core (R257). -/
theorem State.coreDetection_first {s : State} {c : CoreRef} {i : Item} (first : i.retried = false) : (s.coreDetection c i 2 false).core c =
    ((s.core c).enter (s.die c.die) { i with retried := true, injected := false, detector := 2 } (s.core c).slot).putParams (s.core c).slot i.params := by
  unfold State.coreDetection
  rw [first, if_neg (by decide)]
  extract_lets i' s1 s2 s3
  have logged : Logs s2 (s3.count c.die 3 0 5) := (Logs.trace ..).trans (Logs.count ..)
  rw [logged.core]
  simp [s2, s1, State.onCluster, State.onCore, State.core]
  rfl

/-- Settles O16. -/
theorem residueDetection : Obligations.ResidueDetection := by
  intro s c i op runs quiet n row
  have entered (t : State) (die : t.die c.die = s.die c.die) (core : t.core c = s.core c) (first : i.retried = false) : (t.coreDetection c i 2 false).core c =
      ((s.core c).enter (s.die c.die) { i with retried := true, injected := false, detector := 2 } (s.core c).slot).putParams (s.core c).slot i.params := by
    rw [State.coreDetection_first first, die, core]
  rcases row with ⟨rd, ra, rb, rfl⟩ | ⟨acc, ra, rb, mode, rfl⟩ | ⟨acc, ra, rb, mode, rfl⟩ | ⟨acc, ra, rb, mode, rfl⟩
  · refine ⟨_, congrArg Host.Outcome.next (State.coreStepChecked_mismatch (s := s.draw.2) ?_ ?_ ?_ _), entered _ (s.draw_die c.die) (s.draw_core c)⟩
    · simpa [State.runningOn, State.computes] using runs
    · simpa [State.quiet] using quiet
    · simpa [State.atInstruction] using n
  all_goals exact ⟨_, congrArg Host.Outcome.next (State.coreStepChecked_mismatch runs quiet n _), entered s rfl rfl⟩

/-! ### EXIT (R254) -/

theorem State.run_of_runningOn {s : State} {c : CoreRef} {i : Item} (h : s.runningOn c = some i) : (s.core c).run = some i := by
  unfold State.runningOn at h
  extract_lets x at h
  split at h
  · split at h
    · next j run =>
      split at h
      · cases h
      · exact h ▸ run
    · cases h
  · cases h

/-- The core past its EXIT. -/
def Core.past (k : Core) (x : Die) (i : Item) : Core :=
  { (exitEff x k i).core with pc := k.pc + 1, ticks := k.ticks + (exitEff x k i).cost }

/-- The item run of a core waits for the last acknowledgement. -/
def Die.leaves (x : Die) (core : Nat) : Die :=
  { x with disp := { x.disp with insts := x.disp.insts.map fun i => if i.state = .running core then { i with state := .exited core } else i } }

/-- EXIT leaves the core at the end of its item, with the output buffer filled, and its item run waiting for the last acknowledgement. -/
theorem State.exec_exit {s : State} {c : CoreRef} {i : Item} (h : Able s c i) (n : s.atInstruction c i (.exit_ c) = true)
    (budget : (s.core c).ticks + (exitEff (s.die c.die) (s.core c) i).cost ≤ i.bound) :
    exec (.exit_ c) s = .next ((s.onCore c fun k => k.past (s.die c.die) i).onDie c.die fun x => x.leaves c.core.val) := by
  have steps : s.coreStepAt c (fun w => spellsSystem w 1) (fun x k i => .ok (exitEff x k i)) = s.onCore c fun k => k.past (s.die c.die) i :=
    (State.coreStep_jump (op := .exit_ c) (g := fun x k i => .ok (exitEff x k i)) (f := fun _ => (exitEff (s.die c.die) (s.core c) i).core) h n budget rfl).trans (State.onCore_congr rfl)
  show execExit c s = _
  unfold execExit
  rw [steps]
  generalize same : s.onCore c (fun k => k.past (s.die c.die) i) = t
  have core : (t.die c.die).cores[c.core] = (s.core c).past (s.die c.die) i := by simp [← same, State.onCore, State.core]
  have quiet : t.quiet c.die 0 = true := by simpa [← same, State.quiet, State.onCore] using h.clean
  have exited : (((s.core c).past (s.die c.die) i).exited && ((s.core c).past (s.die c.die) i).run.isSome) = true := by
    have run : ((s.core c).past (s.die c.die) i).run = some i := State.run_of_runningOn h.runs
    rw [run]
    rfl
  rw [← core] at exited
  refine (if_pos exited).trans ?_
  rw [State.useArray_quiet quiet, ite_self]
  rfl

/-- The core after EXIT. -/
theorem State.exit_core (s : State) (c : CoreRef) (i : Item) :
    ((s.onCore c fun k => k.past (s.die c.die) i).onDie c.die fun x => x.leaves c.core.val).core c = (s.core c).past (s.die c.die) i := by
  simp [State.core, State.onCore, Die.leaves]

/-- Settles O17. -/
theorem exitSends : Obligations.ExitSends := by
  intro s c i able n budget
  refine ⟨_, State.exec_exit able n budget, ?_, ?_, ?_, ?_, ?_, fun ran => ?_⟩
  · rw [State.exit_core]; rfl
  · rw [State.exit_core]; exact State.run_of_runningOn able.runs
  · rw [State.exit_core]; rfl
  · rw [State.exit_core]; rfl
  · intro x mem
    simp only [State.onDie_die, Die.leaves] at mem
    obtain ⟨j, -, rfl⟩ := List.mem_map.1 mem
    split
    · simp
    · next other => exact other
  · have waits : ((s.die c.die).disp.insts.map fun i => if i.state = .running c.core.val then { i with state := .exited c.core.val } else i).any
        (fun t => t.state == .exited c.core.val) = true := by
      obtain ⟨j, mem, running⟩ := List.any_eq_true.1 ran
      exact List.any_eq_true.2 ⟨_, List.mem_map_of_mem mem, by simp [eq_of_beq running]⟩
    unfold State.runningOn
    extract_lets x
    have insts : x.disp.insts.any (fun t => t.state == .exited c.core.val) = true := by
      simpa [x, State.onCore, Die.leaves] using waits
    rw [insts]
    split
    · split <;> rfl
    · rfl

end Sys2Proof.Machine

/-! SUPPORT. How a die deals with a host command it dequeues: what dequeuing leaves alone, the checks of R76 in their order, and the pairing of a Catcher's copy
with the Flier's notice; with the statements about them (R68, R73, R76, R80, R82, R85). -/

namespace Sys2Proof.Machine

/-- Every host instruction is the Ringmaster's work on its row of Table 3.14. -/
theorem exec_hostRow {c : Instr} {op : Nat} {h : HostCmd} (row : c.hostRow = some (op, h)) (s : State) : exec c s = hostCommand op h s := by
  unfold Instr.hostRow at row
  split at row <;> cases row <;> rfl

/-! ### What dequeuing leaves alone (R68) -/

section Dequeuing

variable (s : State) (h : HostCmd) (d : DieId)

theorem State.headShadow_die (q : Fin 64) (e : DieId) : (s.headShadow d q).die e = s.die e := by
  unfold State.headShadow
  extract_lets
  split <;> simp

theorem State.headShadow_mw (q : Fin 64) : (s.headShadow d q).mw = s.mw := by
  unfold State.headShadow
  extract_lets
  split <;> rfl

/-- What a read of a die does not see of its queues and of the queue served last, dequeuing does not change. -/
theorem State.dequeue_read {α : Type} (p : Die → α) (same : ∀ (x : Die) v q, p { x with rm := { x.rm with served := v }, port := { x.port with queues := q } } = p x) :
    p ((s.dequeue h).die d) = p (s.die d) := by
  unfold State.dequeue
  extract_lets cls s1 s2
  rw [State.headShadow_die]
  by_cases own : d = h.die
  · subst own
    simp only [s2, s1, State.onQueue, State.onDie_die]
    exact same ..
  · simp only [s2, s1, State.onQueue, State.onDie_ne _ _ own]

@[simp] theorem State.dequeue_mw : (s.dequeue h).mw = s.mw := by
  unfold State.dequeue
  extract_lets cls s1 s2
  rw [State.headShadow_mw]
  simp [s2, s1]

@[simp] theorem State.dequeue_works : ((s.dequeue h).die d).works = (s.die d).works := s.dequeue_read h d (·.works) fun _ _ _ => rfl
@[simp] theorem State.dequeue_present : ((s.dequeue h).die d).present = (s.die d).present := s.dequeue_read h d (·.present) fun _ _ _ => rfl
@[simp] theorem State.dequeue_partner : ((s.dequeue h).die d).partner = (s.die d).partner := s.dequeue_read h d (·.partner) fun _ _ _ => rfl
@[simp] theorem State.dequeue_held : ((s.dequeue h).die d).rm.held = (s.die d).rm.held := s.dequeue_read h d (·.rm.held) fun _ _ _ => rfl
@[simp] theorem State.dequeue_copies : ((s.dequeue h).die d).rm.copies = (s.die d).rm.copies := s.dequeue_read h d (·.rm.copies) fun _ _ _ => rfl
@[simp] theorem State.dequeue_notices : ((s.dequeue h).die d).rm.notices = (s.die d).rm.notices := s.dequeue_read h d (·.rm.notices) fun _ _ _ => rfl

@[simp] theorem State.dequeue_isFlier : (s.dequeue h).isFlier d = s.isFlier d := by simp [State.isFlier]

@[simp] theorem State.dequeue_hasPartner : (s.dequeue h).hasPartner = s.hasPartner := by
  have t0 := s.dequeue_present h .t0
  have t1 := s.dequeue_present h .t1
  simp only [State.die_t0, State.die_t1] at t0 t1
  simp [State.hasPartner, t0, t1]

end Dequeuing

/-! ### What a die does with a command (R76, R82) -/

section Receiving

variable {s : State} {d : DieId} {op : Nat} {o : OpInfo} {h : HostCmd} {expected : BitVec 16}

/-- A command that its die deals with itself (R85). -/
theorem hostCommand_direct (ready : s.canDequeue h = true) (direct : s.receivers h.die = [h.die]) :
    hostCommand op h s = .next ((s.dequeue h).receive h.die op h (s.queue h.die (cmdQueue h)).expectedSeq) := by
  unfold hostCommand
  rw [if_pos ready, direct]
  rfl

/-- Steps 1 to 4 fail. -/
theorem State.receive_entry (works : (s.die d).works = true) {st : Nat} (fails : entryCheck op h expected = some st) : s.receive d op h expected =
    s.finish d op h { status := st, own := s.hasPartner && (!dual h || (!s.isFlier d && s.mw.trapeze.token.isSome && (entryCheck op h h.seq).isNone)) } := by
  unfold State.receive
  simp only [works, Bool.not_true, Bool.false_eq_true, if_false, fails]

/-- Step 5: single submission. -/
theorem State.receive_single (works : (s.die d).works = true) (entry : entryCheck op h expected = none) (row : opInfo op = some o)
    (partner : s.hasPartner = true) (single : dual h = false) (unpermitted : o.single = false) :
    s.receive d op h expected = s.finish d op h { status := St.notEligible, own := true } := by
  unfold State.receive
  simp only [works, entry, row, partner, single, unpermitted, Bool.not_true, Bool.not_false, Bool.false_eq_true, if_false, if_true]

/-- The die decides for itself: it executes the command, and a Flier of a pair notifies the other die. -/
theorem State.receive_decides (works : (s.die d).works = true) (entry : entryCheck op h expected = none) (row : opInfo op = some o)
    (role : s.hasPartner = false ∨ (dual h = true ∧ s.isFlier d = true) ∨ (dual h = false ∧ o.single = true)) :
    s.receive d op h expected =
      if s.hasPartner && dual h then ((s.execute d op o h false).1).notify d.other op h (s.execute d op o h false).2
      else (s.execute d op o h (s.hasPartner && !dual h)).1 := by
  unfold State.receive
  simp only [works, entry, row, Bool.not_true, Bool.false_eq_true, if_false]
  rcases role with alone | ⟨both, flier⟩ | ⟨one, single⟩
  · simp [alone]
  · cases partner : s.hasPartner <;> simp [both, flier]
  · cases partner : s.hasPartner <;> simp [one, single]

/-- A Catcher keeps its copy and pairs what it can (R82). -/
theorem State.receive_copies (works : (s.die d).works = true) (entry : entryCheck op h expected = none) (row : opInfo op = some o)
    (partner : s.hasPartner = true) (both : dual h = true) (catcher : s.isFlier d = false) : s.receive d op h expected =
      (s.onDie d fun x => { x with rm := { x.rm with copies := x.rm.copies ++ [{ opcode := op, cmd := h, atNs := s.now }] } }).pairAll d := by
  unfold State.receive
  simp only [works, entry, row, partner, both, catcher, Bool.not_true, Bool.false_eq_true, if_false]

end Receiving

/-! ### Steps 6 to 11 (R76) -/

section Executing

variable {s : State} {d : DieId} {op : Nat} {o : OpInfo} {h : HostCmd} {alone : Bool}

theorem firstFail_ne {checks : List (Bool × Nat)} {st n : Nat} (fails : firstFail checks = some st) (ne : ∀ k ∈ checks, k.2 ≠ n) : st ≠ n := by
  induction checks with
  | nil => cases fails
  | cons k r ih =>
    unfold firstFail at fails
    split at fails
    · cases fails
      exact ne k (.head _)
    · exact ih fails fun j mem => ne j (.tail _ mem)

/-- No check asks for a later reply. -/
theorem State.check_ne_later {st : Nat} (fails : s.check d op o h = some st) : st ≠ St.later :=
  firstFail_ne fails (by simp only [List.forall_mem_cons]; decide)

theorem State.execute_rejected {st : Nat} (fails : s.check d op o h = some st) : s.execute d op o h alone =
    (s.settle d op h { status := st, own := alone || ownReply op h false }, { status := st, own := alone || ownReply op h false }) := by
  unfold State.execute
  rw [fails]
  exact if_neg fun later => State.check_ne_later fails later.2

theorem State.execute_held (passes : s.check d op o h = none) (epoch : atEpoch h = true) (room : (s.die d).rm.held.length < 64) :
    s.execute d op o h alone = (s.hold d op h, { status := St.later, own := alone || ownReply op h false }) := by
  unfold State.execute
  simp only [passes, epoch, if_true, if_neg (not_le.2 room), true_and]

theorem State.execute_full (passes : s.check d op o h = none) (epoch : atEpoch h = true) (full : 64 ≤ (s.die d).rm.held.length) :
    s.execute d op o h alone =
      (s.settle d op h { status := St.busy, own := alone || ownReply op h false }, { status := St.busy, own := alone || ownReply op h false }) := by
  unfold State.execute
  simp only [passes, epoch, if_true, if_pos full, true_and]
  exact if_neg fun later => by cases later

theorem State.execute_now (passes : s.check d op o h = none) (now : atEpoch h = false) : s.execute d op o h alone =
    ((s.act d op h).1.settle d op h { (s.act d op h).2 with own := alone || ownReply op h (s.act d op h).2.own },
      { (s.act d op h).2 with own := alone || ownReply op h (s.act d op h).2.own }) := by
  unfold State.execute
  simp [passes, now]

theorem ownReply_ownReply (own : Bool) : ownReply op h (ownReply op h own) = ownReply op h own := by
  simp only [ownReply]
  cases decide (op / 256 = 10) <;> cases tKind h.target == 7 && placeCode h == 3 <;> cases own <;> cases tKind h.target == 7 && decide (placeCode h < 2) <;> rfl

theorem State.targetAbsent_of_check (passes : s.check d op o h = none) : s.targetAbsent d h = false := by
  unfold State.check firstFail firstFail firstFail firstFail at passes
  cases absent : s.targetAbsent d h
  · rfl
  · rw [absent] at passes
    simp only [if_true] at passes
    split at passes <;> [cases passes; (split at passes <;> cases passes)]

/-- The command's own meaning runs on the die that acts for it. -/
theorem State.act_body {f : HostCmd → DieId → State → Answer} (body : bodyOf op = some f) (works : (s.die (actingDie h d)).works = true)
    (passes : s.check d op o h = none) :
    s.act d op h = ((f h (actingDie h d) s).1, { (f h (actingDie h d) s).2 with own := ownReply op h (f h (actingDie h d) s).2.own }) := by
  unfold State.act
  simp [body, works, State.targetAbsent_of_check passes]

end Executing

/-! ### A command that passes the checks -/

/-- What the die that dequeues a command does with its answer, once it has executed it. -/
theorem State.served_of_execute {s : State} {op : Nat} {o : OpInfo} {h : HostCmd} (a : Answer)
    (executes : ∀ alone, (s.dequeue h).execute h.die op o h alone = (a.1.settle h.die op h { a.2 with own := alone || ownReply op h a.2.own },
      { a.2 with own := alone || ownReply op h a.2.own })) :
    (if s.hasPartner && dual h then (((s.dequeue h).execute h.die op o h false).1).notify h.die.other op h ((s.dequeue h).execute h.die op o h false).2
      else ((s.dequeue h).execute h.die op o h (s.hasPartner && !dual h)).1) = s.served h op a := by
  unfold State.served
  rw [executes, executes]
  cases s.hasPartner <;> cases dual h <;> rfl

/-- The answer of an accepted command's own meaning is served. -/
theorem Accepted.hostCommand {s : State} {op : Nat} {h : HostCmd} (a : Accepted s op h) {o : OpInfo} (row : opInfo op = some o)
    {f : HostCmd → DieId → State → Answer} (body : bodyOf op = some f) :
    hostCommand op h s = .next (s.served h op (f h (actingDie h h.die) (s.dequeue h))) := by
  have role : s.hasPartner = false ∨ (dual h = true ∧ s.isFlier h.die = true) ∨ (dual h = false ∧ o.single = true) := by
    rcases a.role with alone | flier | ⟨one, p, prow, single⟩
    · exact .inl alone
    · exact .inr (.inl flier)
    · exact .inr (.inr ⟨one, Option.some.inj (row.symm.trans prow) ▸ single⟩)
  rw [hostCommand_direct a.dequeued a.direct,
    State.receive_decides (by simpa using a.works) a.entry row (by simpa using role), State.dequeue_hasPartner]
  refine congrArg Host.Outcome.next (State.served_of_execute (f h (actingDie h h.die) (s.dequeue h)) fun alone => ?_)
  rw [State.execute_now (a.check o row) a.now, State.act_body body a.acts (a.check o row)]
  simp only [ownReply_ownReply]

/-- An accepted command is served as its own meaning answers. -/
theorem Accepted.serves {c : Instr} {s : State} {op : Nat} {h : HostCmd} (a : Accepted s op h) (row : c.hostRow = some (op, h)) {o : OpInfo} (table : opInfo op = some o)
    {f : HostCmd → DieId → State → Answer} (body : bodyOf op = some f) {r : Answer} (means : f h (actingDie h h.die) (s.dequeue h) = r) :
    exec c s = .next (s.served h op r) := by
  rw [exec_hostRow row, a.hostCommand table body, means]

/-! ### Commands that are turned away or held (R76, R80) -/

theorem entryCheck_row {op : Nat} {h : HostCmd} {expected : BitVec 16} (entry : entryCheck op h expected = none) : ∃ o, opInfo op = some o := by
  unfold entryCheck at entry
  split at entry
  · cases entry
  · next o row => exact ⟨o, row⟩

theorem entryCheck_badOpcode {op : Nat} (row : opInfo op = none) (h : HostCmd) (expected : BitVec 16) : entryCheck op h expected = some St.badOpcode := by
  unfold entryCheck
  rw [row]

/-- Settles O21. -/
theorem hostTurnedAway : Obligations.HostTurnedAway := by
  refine ⟨fun c op h s row => ⟨fun idle => ?_, fun ready works direct => ⟨fun st fails => ?_, fun entry o table => ⟨fun partner one unpermitted => ?_, fun role st fails => ?_⟩⟩⟩,
    fun op h s none_ ready works direct => ?_, fun c op o h s row table ready works direct entry role passes epoch => ⟨fun room => ?_, fun full => ?_⟩⟩
  · rw [exec_hostRow row, hostCommand, if_neg (by simp [idle])]
  · rw [exec_hostRow row, hostCommand_direct ready direct, State.receive_entry (by simpa using works) fails]
    simp
  · rw [exec_hostRow row, hostCommand_direct ready direct, State.receive_single (by simpa using works) entry table (by simpa using partner) one unpermitted]
  · rw [exec_hostRow row, hostCommand_direct ready direct, State.receive_decides (by simpa using works) entry table (by simpa using role), State.dequeue_hasPartner]
    exact congrArg Host.Outcome.next (State.served_of_execute (reject (s.dequeue h) st) fun alone => State.execute_rejected fails)
  · have fails (expected) := entryCheck_badOpcode none_ h expected
    show execBadOpcode op h s = _
    rw [execBadOpcode, if_neg (by simp [none_]), hostCommand_direct ready direct, State.receive_entry (by simpa using works) (fails _), fails]
    simp
  · rw [exec_hostRow row, hostCommand_direct ready direct, State.receive_decides (by simpa using works) entry table (by simpa using role), State.dequeue_hasPartner,
      State.execute_held passes epoch (by simpa using room), State.execute_held passes epoch (by simpa using room)]
    cases s.hasPartner <;> cases dual h <;> rfl
  · rw [exec_hostRow row, hostCommand_direct ready direct, State.receive_decides (by simpa using works) entry table (by simpa using role), State.dequeue_hasPartner]
    exact congrArg Host.Outcome.next (State.served_of_execute (reject (s.dequeue h) St.busy) fun alone => State.execute_full passes epoch (by simpa using full))

/-! ### Pairing (R82) -/

/-- Nothing pairs while the oldest notice is on its way, or names no copy. -/
theorem State.pairUp_waits {s : State} {d : DieId} (waits : ∀ n r, (s.die d).rm.notices = n :: r → n.arrived = false ∨ (s.die d).rm.copies.find? n.names = none) (fuel : Nat) :
    s.pairUp fuel d = s := by
  cases fuel with
  | zero => rfl
  | succ fuel =>
    unfold State.pairUp
    split
    · rfl
    · next n rest notices =>
      split
      · rfl
      · next c found =>
        rcases waits n rest notices with away | none_
        · simp [away]
        · simp [none_] at found

/-- One notice and the copy it names. -/
theorem State.pairAll_one {s : State} {d : DieId} {n : Notice} {c : Copy} (notices : (s.die d).rm.notices = [n]) (copies : (s.die d).rm.copies = [c]) (came : n.arrived = true)
    (names : n.names c = true) : s.pairAll d =
      let t := s.onDie d fun x => { x with rm := { x.rm with notices := [], copies := [] } }
      if n.crc = crc32 (cmdBytes c.opcode c.cmd) then t.adopt d c n else (t.dualMismatch d c).catcherLost d 2 := by
  unfold State.pairAll
  simp only [notices, List.length_singleton, State.pairUp, copies, List.find?_cons, names, came, Bool.not_true, Bool.false_eq_true, if_false]
  have left : ([c].filter fun v => v != c) = [] := by simp
  have emptied : (s.onDie d fun x => { x with rm := { x.rm with notices := [], copies := x.rm.copies.filter fun v => v != c } }) =
      s.onDie d fun x => { x with rm := { x.rm with notices := [], copies := [] } } := by
    simp only [State.onDie, copies, left]
  rw [emptied]

/-- Settles O22. -/
theorem catcherPairs : Obligations.CatcherPairs := by
  intro c op h s row ready s1 d seq copy kept spent
  refine ⟨fun works direct partner both catcher entry => ?paired, fun partner lost linked flier => ?fromFlier, fun partner lost linked catcher => ?fromCatcher⟩
  case paired =>
    obtain ⟨o, table⟩ := entryCheck_row entry
    have copies : exec c s = .next (kept.pairAll d) := by
      rw [exec_hostRow row, hostCommand_direct ready direct,
        State.receive_copies (by simpa using works) entry table (by simpa using partner) both (by simpa using catcher)]
    have keptCopies : (kept.die d).rm.copies = (s.die d).rm.copies ++ [copy] := by simp [kept, s1]
    have keptNotices : (kept.die d).rm.notices = (s.die d).rm.notices := by simp [kept, s1]
    refine ⟨fun waits => ?_, fun n notices none_ came names => ?_⟩
    · rw [copies]
      refine congrArg Host.Outcome.next (State.pairUp_waits (fun n r mem => ?_) _)
      rw [keptNotices] at mem
      rw [keptCopies]
      refine (waits n r mem).imp_right fun none_ => List.find?_eq_none.2 fun v mem => ?_
      simp [none_ v mem]
    · have spends : (kept.onDie d fun x => { x with rm := { x.rm with notices := [], copies := [] } }) = spent := by
        simp only [kept, spent, State.onDie, State.setDie_die]
        cases d <;> rfl
      rw [copies, State.pairAll_one (n := n) (c := copy) (keptNotices.trans notices) (by rw [keptCopies, none_]; rfl) came names, spends]
      exact ⟨fun same => congrArg Host.Outcome.next (if_pos same), fun differ => congrArg Host.Outcome.next (if_neg differ)⟩
  all_goals
    rw [exec_hostRow row, hostCommand, if_pos ready]
    simp [State.receivers, partner, lost, linked, d, s1, seq]
  case fromFlier => simp [d] at flier; simp [flier]
  case fromCatcher => simp [d] at catcher; simp [catcher]

end Sys2Proof.Machine

/-! SUPPORT. A staging command that passes its checks stages what its parameters spell (R47, R49, R50, R51), and the statement about the joint group. -/

namespace Sys2Proof.Machine

/-! ### Checks and staging (R49, R76) -/

@[simp] theorem firstFail_nil : firstFail [] = none := rfl

@[simp] theorem firstFail_cons_none (bad : Bool) (st : Nat) (r : List (Bool × Nat)) : firstFail ((bad, st) :: r) = none ↔ bad = false ∧ firstFail r = none := by
  cases bad <;> simp [firstFail]

/-- An accepted command is served as its own meaning answers. -/
theorem Accepted.answers {c : Instr} {s : State} {op : Nat} {h : HostCmd} {f : HostCmd → DieId → State → Answer} {r : Answer} (a : Accepted s op h)
    (row : c.hostRow = some (op, h)) (body : bodyOf op = some f) (means : f h (actingDie h h.die) (s.dequeue h) = r) : exec c s = .next (s.served h op r) :=
  have ⟨_, table⟩ := entryCheck_row a.entry
  a.serves row table body means

theorem State.config_stages {s : State} {d : DieId} {check : Option Nat} (free : (s.die d).committing = false) (passes : check = none) (units : List UnitId)
    (g : Cfg → Cfg) (r : List Byte) : s.config d check units g r = answer (s.stage d units g) r := by
  unfold State.config
  rw [free, passes]
  rfl

/-- An accepted configuration command that passes its own checks stages its change. -/
theorem Accepted.stages {c : Instr} {s : State} {op : Nat} {h : HostCmd} {f : HostCmd → DieId → State → Answer} {check : Option Nat} {units : List UnitId} {g : Cfg → Cfg}
    {r : List Byte} (a : Accepted s op h) (row : c.hostRow = some (op, h)) (body : bodyOf op = some f)
    (means : f h (actingDie h h.die) (s.dequeue h) = (s.dequeue h).config (actingDie h h.die) check units g r)
    (free : ((s.dequeue h).die (actingDie h h.die)).committing = false) (passes : check = none) :
    exec c s = .next (s.served h op (answer ((s.dequeue h).stage (actingDie h h.die) units g) r)) :=
  a.answers row body (means.trans (State.config_stages free passes units g r))

/-- `CONFIG_FILTER` answers with the coefficients of its filter, or with those that pass its input (R199). -/
theorem bodyConfigFilter_eq (h : HostCmd) (d : DieId) (s : State) :
    let p := h.params
    let f := parseFilter p
    let coefs := f.coefs (s.die d).shadow.periods.tS
    bodyConfigFilter h d s = s.config d
      (firstFail [
        (decide (1 < rd p 0 1) || decide (3 < f.type_), St.range),
        (!f.ok (s.die d).shadow.periods.tS, St.range),
        (f.type_ != 3 && !zeroAt p 16 20, St.range),
        (!zeroAt p 14 2 || !zeroAt p 36 4, St.range)])
      (generatorUnit d (tJoint h.target) :: s.servoUnits d)
      (fun x => x.onJoint (tJoint h.target) fun y => if rd p 0 1 = 0 then { y with filter0 := f } else { y with filter1 := f })
      (((if coefs = [] then [268435456, 0, 0, 0, 0] else coefs).map (leInt 4)).flatten) := by
  intro p f coefs
  unfold bodyConfigFilter
  change State.config _ _ _ _ _ (List.map (leInt 4) (match coefs with
    | [] => [268435456, 0, 0, 0, 0]
    | l => l)).flatten = _
  cases coefs <;> rfl

/-- Settles O18. -/
theorem stageJoint : Obligations.StageJoint := by
  intro h s
  refine ⟨?joint, ?arm, ?limits, ?homing, ?standstill, ?following, ?control, ?filter, ?feedforward, ?feedback, ?table⟩
  case joint =>
    rintro _ rfl kind plen arm linear stop mode brake release engage enable soft soft' zero zero' count scale accepted free
    refine accepted.stages rfl rfl (if_pos kind) free ?_
    have driven : ((parseJoint h.params).brake == 1 && (decide (15 < (parseJoint h.params).brakeOut) ||
        (((s.dequeue h).die (actingDie h h.die)).shadow.outputs[(parseJoint h.params).brakeOut % 16]'(Nat.mod_lt _ (by decide))).function != 1)) = false := by
      by_cases one : (parseJoint h.params).brake = 1
      · obtain ⟨k, at_, function⟩ := brake one
        have small : k.val % 16 = k.val := Nat.mod_eq_of_lt k.isLt
        have low : ¬15 < k.val := by omega
        simp only [← at_, small]
        simp [low]
        exact fun _ => function
      · simp [one]
    have named : 8 ≤ (parseJoint h.params).arm → (parseJoint h.params).arm = 255 := fun high => arm.resolve_left (not_lt.2 high)
    dsimp only at count scale
    simp [within, *]
    exact ⟨named, count⟩
  case arm =>
    rintro _ rfl kind plen down down' up up' zero scales accepted free
    refine accepted.stages rfl rfl (if_neg (by rw [kind]; decide)) free ?_
    simp [within, *]
  case limits =>
    rintro _ rfl span v a j aStop jStop low high scale accepted free
    refine accepted.stages rfl rfl rfl free ?_
    simp [within, *]
  case homing =>
    rintro _ rfl method direction home pos neg edges levels zero zero' moves torque limit accepted free
    refine accepted.stages rfl rfl rfl free ?_
    have limit' : 0 ≤ (parseHoming h.params).torqueLimit := torque.trans limit
    have edges' : 1 < (parseHoming h.params).chatterEdges := edges
    simp_all [or_assoc]
  case standstill =>
    intro zero accepted free
    refine accepted.stages rfl rfl rfl free ?_
    simp [*]
  case following =>
    intro moving still zero accepted free
    refine accepted.stages rfl rfl rfl free ?_
    simp [*]
  case control =>
    rintro _ rfl law predict kp kv ki torque tau zero zero' _ rfl accepted free
    refine accepted.stages rfl rfl rfl free ?_
    simp [*]
  case filter =>
    rintro _ rfl which type_ ok raw zero zero' accepted free
    refine accepted.stages rfl rfl (bodyConfigFilter_eq ..) free ?_
    simp_all
  case feedforward =>
    rintro _ rfl vff aff inertia gear travel band fade zero accepted free
    refine accepted.stages rfl rfl rfl free ?_
    simp [*]
  case feedback =>
    rintro _ rfl source invert port hold counts freezeV torque time zero accepted free
    refine accepted.stages rfl rfl rfl free ?_
    simp_all
  case table =>
    intro t names present plen count count' span shift enable zero pad accepted free
    refine accepted.stages (check := firstFail [
      (decide (h.plen.toNat ≠ 1 + (rd h.params 1 1 + 3) / 4), St.badLength),
      (!within (rd h.params 1 1) 1 112 || decide (256 < rd h.params 0 1 + rd h.params 1 1) || decide (15 < rd h.params 2 1) || decide (1 < rd h.params 3 1), St.range),
      (!zeroAt h.params 4 4 || !padded h (8 + 2 * rd h.params 1 1), St.range)]) rfl rfl ?_ free ?_
    · unfold bodyTableWrite
      simp only [names, present, Bool.not_true, Bool.false_eq_true, if_false]
    · simp [within, *]

end Sys2Proof.Machine

/-! SUPPORT. Staging under an admission (R275), and the statement about the commands of the Juggler and of separation (R127, R128, R130, R232 to R236). -/

namespace Sys2Proof.Machine

theorem State.configGated_stages {s : State} {d : DieId} {check : Option Nat} {units : List UnitId} {admitted : Cfg → Bool} {g : Cfg → Cfg}
    (free : (s.die d).committing = false) (passes : check = none) (ok : admitted (g (s.die d).shadow) = true) :
    s.configGated d check units admitted g = answer (s.stage d units g) := by
  unfold State.configGated
  simp only [free, passes, ok, Bool.false_eq_true, if_false, if_true, Bool.not_true, Bool.false_and]

/-- An accepted configuration command that passes its own checks and the admission stages its change. -/
theorem Accepted.stagesGated {c : Instr} {s : State} {op : Nat} {h : HostCmd} {f : HostCmd → DieId → State → Answer} {check : Option Nat} {units : List UnitId}
    {admitted : Cfg → Bool} {g : Cfg → Cfg} (a : Accepted s op h) (row : c.hostRow = some (op, h)) (body : bodyOf op = some f)
    (means : f h (actingDie h h.die) (s.dequeue h) = (s.dequeue h).configGated (actingDie h h.die) check units admitted g)
    (free : ((s.dequeue h).die (actingDie h h.die)).committing = false) (passes : check = none)
    (ok : admitted (g ((s.dequeue h).die (actingDie h h.die)).shadow) = true) :
    exec c s = .next (s.served h op (answer ((s.dequeue h).stage (actingDie h h.die) units g))) :=
  a.answers row body (means.trans (State.configGated_stages free passes ok))

theorem firstFail_absurd {P : Prop} {l : List (Bool × Nat)} {st : Nat} (fails : firstFail l = some st) (passes : firstFail l = none) : P :=
  nomatch fails.symm.trans passes

/-- Settles O19. -/
theorem stagePlanning : Obligations.StagePlanning := by
  intro h s
  refine ⟨?juggler, ?weights, ?rows, ?geometry, ?kinematics, ?arm, ?class_, ?scale, ?sensor, ?zone⟩
  case juggler =>
    rintro v _ there read rfl joints enable mult n n' deadline check adapt mask rows zero admitted accepted free
    have present : ((List.finRange 64).filter fun j => bit (rd h.params 0 8) j.val).any (fun j => !(s.dequeue h).jointPresent j.val) = false := by
      simpa using fun j used => (joints j used).1
    have armed : ((List.finRange 64).filter fun j => bit (rd h.params 0 8) j.val).any
        (fun j => decide (7 < ((((s.dequeue h).die (actingDie h h.die)).shadow.joints[j]).joint.arm))) = false := by
      simpa using fun j used => (joints j used).2
    have mult' : ([1, 2, 4, 8, 16] : List Nat).contains (rd h.params 9 1) = true := List.contains_iff_mem.2 mult
    have slack : (rd h.params 11 1 == 0 || within (rd h.params 11 1) 50 95) = true := by simpa [within] using deadline
    refine accepted.answers rfl rfl ?_
    unfold bodyConfigJuggler
    rw [if_neg (by simp [there]), if_neg (by simp [free])]
    dsimp only
    split
    · next st fails =>
      refine firstFail_absurd fails ?_
      clear fails
      simp only [present, armed, mult', slack, firstFail_cons_none]
      simp [within, *]
    · rw [read]
      dsimp only
      rw [admitted]
      rfl
  case weights =>
    rintro _ js there rfl finite zero rfl accepted free
    refine accepted.stages rfl rfl (if_neg (by simp [there])) free ?_
    simpa [zero, and_assoc] using finite
  case rows =>
    rintro r idx _ there table row rfl rfl nnz zero zero' bounds coefs distinct_ names mask rfl admitted accepted free
    refine accepted.stagesGated rfl rfl ((if_neg (by simp [there])).trans (if_neg (by simp [table, row]))) free ?_ admitted
    rw [List.map_take] at distinct_ names
    simp [*]
    exact ⟨coefs, fun b mem => ⟨(names b mem).1, (names b mem).2.1⟩, fun b mem => (names b mem).2.2⟩
  case geometry =>
    rintro n es _ rfl table low high fit first plen zero rfl rfl capsules limits admitted accepted free
    refine accepted.stagesGated rfl rfl ((if_neg (by simp [table, first])).trans ((if_neg (not_not.2 plen)).trans (if_neg (not_lt.2 fit)))) free ?_ admitted
    have spelled : ((List.range (rd h.params 0 1)).map fun k => readGeometry ((h.params.drop (8 + 32 * k)).take 32)).any Option.isNone = false :=
      List.any_eq_false.2 fun e mem => by simpa using (capsules e mem).1
    simp only [firstFail_cons_none, firstFail_nil, and_true]
    refine ⟨by simp only [spelled]; simp [within, *], ?_, by simp [limits]⟩
    rw [Bool.not_eq_false', List.all_eq_true]
    intro e mem
    split
    · next g => exact (capsules _ mem).2 g rfl
    · rfl
  case kinematics =>
    rintro a n _ at_ rfl table rfl low high count axes zero zero' unit accepted free
    have inside : tInstance h.target < 8 := at_ ▸ a.isLt
    obtain rfl : a = ⟨tInstance h.target, inside⟩ := Fin.ext at_
    refine accepted.stages rfl rfl (dif_pos ⟨table, inside⟩) free ?_
    simp only [firstFail_cons_none, firstFail_nil, and_true]
    refine ⟨by simp [within, low, high, ← count], List.any_eq_false.2 fun k mem => ?_, by simp [zero, zero'], by rw [unit]; rfl⟩
    have axis := axes k (List.mem_range.1 mem)
    split at axis
    · next used =>
      rw [if_pos used]
      simp [axis]
    · next unused =>
      rw [if_neg unused]
      simp [axis]
  case arm =>
    rintro _ kind plen rfl low high add release zR slow clear window tol person person' machine machine' zero zero' accepted free
    refine accepted.answers rfl rfl ?_
    unfold bodyConfigSsmParams
    rw [kind]
    exact (if_neg (by simp [plen])).trans (State.config_stages free (by simp_all [within]) ..)
  case class_ =>
    rintro k _ kind table at_ plen rfl vH c zD still zero accepted free
    have inside : tInstance h.target < 8 := at_ ▸ k.isLt
    obtain rfl : k = ⟨tInstance h.target, inside⟩ := Fin.ext at_
    refine accepted.answers rfl rfl ?_
    unfold bodyConfigSsmParams
    rw [kind]
    refine (dif_pos ⟨table, inside⟩).trans ((if_neg (by simp [plen])).trans (State.config_stages free ?_ ..))
    simp only [Fin.ext_iff, Fin.val_zero] at still
    simp_all
  case scale =>
    intro kind plen tol zero accepted free
    refine accepted.answers rfl rfl ?_
    unfold bodyConfigSsmParams
    rw [kind]
    exact (if_neg (by simp [plen])).trans (State.config_stages free (by simp [tol, zero]) ..)
  case sensor =>
    rintro n _ put table at_ rfl enable cls zero rfl ranges accepted free
    have inside : tInstance h.target < 32 := at_ ▸ n.isLt
    obtain rfl : n = ⟨tInstance h.target, inside⟩ := Fin.ext at_
    refine accepted.stagesGated rfl rfl (dif_pos ⟨table, inside⟩) free ?_ ?_
    · cases on : rd h.params 0 1 == 1
      · simp [enable, cls, zero]
      · obtain ⟨port, port', quota, quota', age, age', timeout, coverage, clash, quotas, within_, -⟩ := ranges on
        simp_all [within]
    · by_cases on : (rd h.params 0 1 == 1) = true
      swap
      · simp [on]
      · obtain ⟨-, -, -, -, -, -, -, -, -, -, -, admitted⟩ := ranges on
        show (_ || _) = true
        rw [Bool.or_eq_true]
        exact .inr admitted
  case zone =>
    intro e reads accepted free
    refine accepted.stages (check := firstFail [((readZone h.params (tIndex h.target % 64)).isNone, St.range)]) rfl rfl ?_ free ?_
    · unfold bodyConfigZone
      dsimp only
      rw [reads]
      rfl
    · simp [reads]

end Sys2Proof.Machine

/-! SUPPORT. The statement about the package's own configuration, the rings, field I/O, the cell switch and the time bases (R55, R59, R250, R275, R278, R279, R319, R320,
R350 to R356, R379 to R386, R416, R437, R456). -/

namespace Sys2Proof.Machine

theorem ifBad_none {bad : Bool} {st : Nat} (good : bad = false) : (if bad = true then some st else none) = none := by
  rw [good]
  rfl

/-- A field that is 0 for its default, or within its range. -/
theorem optionalOk {v lo hi : Nat} (h : v = 0 ∨ lo ≤ v ∧ v ≤ hi) : (v == 0 || within v lo hi) = true := by
  simpa [within, Nat.and_comm] using h

/-- A program that passes admission is staged with the homes it gives (R275). -/
theorem State.stageAdmitted_passes {s : State} {d : DieId} {c : Cfg} {result : Admit → List Byte} (passes : (c.admission (s.die d).admitDie).fail = 0) :
    s.stageAdmitted d c result =
      answer (s.stage d [dispatcherUnit d] fun _ => (c.admission (s.die d).admitDie).cfg) (result (c.admission (s.die d).admitDie)) := by
  unfold State.stageAdmitted
  simp [passes, answer]

/-- A list that is made where something changed. -/
theorem ite_changed {α : Type} {p q : Prop} [Decidable p] [Decidable q] (a b : α) :
    (if (decide ¬p || decide ¬q) = true then a else b) = if p ∧ q then b else a := by
  by_cases p <;> by_cases q <;> simp [*]

theorem noFailure (a b : List Byte) : a ++ le 1 0 ++ zeros 3 ++ b = a ++ zeros 4 ++ b := by
  rw [List.append_assoc a]
  rfl

/-- Settles O20. -/
theorem stageShared : Obligations.StageShared := by
  refine ⟨fun h s => ⟨?periods, ?deadline, ?trapeze, ?event, ?events, ?statistics, ?code, ?program⟩,
    fun h s => ⟨?ring, ?node, ?inputTypes, ?input, ?outputSupplies, ?output, ?watchdog, ?encoder, ?safety, ?switch, ?port, ?vlan, ?peers, ?tb2, ?ptp, ?tpo⟩⟩
  case periods =>
    rintro _ _ _ _ rfl rfl rfl running fits rfl accepted free
    refine accepted.answers rfl rfl ?_
    unfold bodyConfigPeriods
    dsimp only
    rw [if_neg (by simp [free]), if_neg running, if_neg (by simp [fits])]
    simp only [fits]
    rw [if_neg (not_not.2 rfl), ite_changed, noFailure]
    rfl
  case deadline =>
    intro slack overrun zero accepted free
    exact accepted.stages rfl rfl rfl free (ifBad_none (by simp [*]))
  case trapeze =>
    rintro _ there rfl home latent flags limit holdoff pairing delay stop zero fits accepted free
    refine accepted.stages rfl rfl (if_neg (by simp [there])) free (ifBad_none ?_)
    simp only [optionalOk holdoff, optionalOk pairing, optionalOk delay, optionalOk stop]
    simpa [*] using fits
  case event =>
    intro kind defined control zero accepted free
    refine accepted.answers rfl rfl ?_
    unfold bodyConfigEvents
    rw [if_pos kind]
    dsimp only
    rw [State.config_stages free (by simp [*])]
    rfl
  case events =>
    intro kind all zero control accepted free
    have flag : (bit (rd h.params 1 1) 0 = true) = (rd h.params 1 1 = 1) := by
      interval_cases rd h.params 1 1 <;> simp [bit]
    refine accepted.answers rfl rfl ?_
    unfold bodyConfigEvents
    rw [if_neg (by rw [kind]; decide)]
    simp only [flag]
    exact State.config_stages free (ifBad_none (by simp [*])) ..
  case statistics =>
    intro target mode log2 seconds zero accepted free
    refine accepted.answers rfl rfl ?_
    unfold bodyConfigStatistics
    dsimp only
    rw [if_neg (by simp [target]), State.config_stages free (ifBad_none ?_)]
    · rfl
    · simp only [optionalOk log2]
      simp [*]
  case code =>
    rintro b _ _ _ names rfl rfl rfl plen low high whole aligned fit zero
    have fit' : decide ((if b.1 = true then 4112 else 4096) < rd h.params 0 2 + rd h.params 2 1) = false := decide_eq_false (not_lt.2 fit)
    refine ⟨fun flags len accepted free => ?discard, fun flags accepted free => ?chunk, fun new flags new_ header all ok fits accepted free => ?last⟩
    all_goals
      refine accepted.answers rfl rfl ?_
      unfold bodyCodeLoad
      simp only [names, fit']
      rw [if_neg (by simp [plen]), if_neg (by simp [free]), flags, if_neg (by simp [within, bit, *])]
    · exact if_pos (by decide)
    · exact (if_neg (by decide)).trans (if_pos (by decide))
    · subst new_
      have coded : (b.1 && !((((s.dequeue h).die (actingDie h h.die)).shadow.blockOf b).put (rd h.params 0 2) ((h.params.drop 8).take (rd h.params 2 1))).codeOk) = false := by
        cases code : b.1
        · rfl
        · rw [ok code]; rfl
      refine (if_neg (by decide)).trans ((if_neg (by decide)).trans ?_)
      rw [if_neg (by simp [header, all]), if_neg (by simp [coded]), State.stageAdmitted_passes fits]
  case program =>
    rintro first _ _ names rfl plen fit low high zero fields rfl latent passes accepted free
    have none_ : (List.range (rd h.params 0 1)).find? (fun k => !((s.dequeue h).die (actingDie h h.die)).shadow.entryFields ((h.params.drop (8 + 32 * k)).take 32)) = none :=
      List.find?_eq_none.2 (by simpa using fields)
    refine accepted.answers rfl rfl ?_
    unfold bodyConfigProgram
    simp only [names, none_]
    rw [if_neg (by simp [plen]), if_neg (not_lt.2 fit), if_neg (by simp [free]), if_neg (by simp [within, *]), if_neg (fun both => by simp [latent both.1] at both),
      State.stageAdmitted_passes passes]
  case ring =>
    rintro _ _ _ rfl there rfl role nodes stop loss zero stop' lens zero' cable rfl ok accepted free
    have asNode : (decide (rd h.params 0 1 = 2 ∨ rd h.params 0 1 = 3) && !(within (rd h.params 12 1) 4 64 && within (rd h.params 13 1) 4 64)) = false := by
      by_cases node : 2 ≤ rd h.params 0 1
      · obtain ⟨out, out', in_, in'⟩ := lens node
        simp [within, *]
      · have other : ¬(rd h.params 0 1 = 2 ∨ rd h.params 0 1 = 3) := by omega
        simp [other]
    refine accepted.answers rfl rfl ?_
    unfold bodyConfigRing
    dsimp only
    rw [if_neg (by simp [there]), State.configGated_stages free (ifBad_none ?_) ok]
    · rfl
    · simp only [asNode]
      simp [*]
  case node =>
    rintro k r _ _ drive at_ ring there rfl rfl format joint joint' lens hop shift flags zero rfl once many ok accepted free
    obtain rfl : k = ⟨tIndex h.target % 128, Nat.mod_lt _ (by decide)⟩ := Fin.ext at_
    have inside : tIndex h.target % 128 / 16 < 8 := ring ▸ r.isLt
    obtain rfl : r = ⟨tIndex h.target % 128 / 16, inside⟩ := Fin.ext ring
    have lens' : (if rd h.params 0 1 = 4 then within (rd h.params 2 1) 4 64 && within (rd h.params 3 1) 4 64
        else decide (rd h.params 2 1 = 0) && decide (rd h.params 3 1 = 0)) = true := by
      split at lens <;> simp_all [within]
    have named : (if rd h.params 0 1 = 1 ∨ rd h.params 0 1 = 2 then decide (63 < rd h.params 1 1) else decide (rd h.params 1 1 ≠ 255)) = false := by
      split
      · next moves => simpa using (joint moves).1
      · next still => simpa using joint' still
    refine accepted.answers rfl rfl ?_
    unfold bodyConfigNode
    simp only [decide_eq_true_eq, Nat.mod_eq_of_lt inside]
    rw [if_neg (not_le.2 there)]
    refine State.configGated_stages free ?_ ok
    simp only [lens', named, firstFail_cons_none, firstFail_nil, and_true]
    constructor
    · simp
      exact fun moves _ => (joint moves).2
    · simp [hop, shift, flags, zero, format]
      exact ⟨once, many⟩
  case inputTypes =>
    intro kind types zero accepted free
    exact accepted.stages rfl rfl (if_pos kind) free (ifBad_none (by simp [*]))
  case input =>
    intro k kind at_ chatter flags stuck accepted free
    obtain rfl : k = ⟨tChannel h.target % 32, Nat.mod_lt _ (by decide)⟩ := Fin.ext at_
    exact accepted.stages rfl rfl (if_neg kind) free (ifBad_none (by simp [*]))
  case outputSupplies =>
    intro kind a b flags zero accepted free
    refine accepted.stages rfl rfl (if_pos kind) free (ifBad_none ?_)
    simp only [optionalOk a, optionalOk b]
    simp [*]
  case output =>
    rintro k _ _ kind at_ rfl function cls group safe openLoad zero ms zero' rfl groups brake accepted free
    obtain rfl : k = ⟨tChannel h.target % 16, Nat.mod_lt _ (by decide)⟩ := Fin.ext at_
    refine accepted.stages rfl rfl (if_neg kind) free (ifBad_none ?_)
    have brake' : ((((s.dequeue h).die (actingDie h h.die)).shadow.brakeOf (tChannel h.target % 16)).isSome && decide (rd h.params 0 1 ≠ 1)) = false := by
      rcases brake with none_ | one
      · rw [none_]; rfl
      · simp_all
    simp_all
  case watchdog =>
    intro time zero accepted free
    refine accepted.stages rfl rfl rfl free (ifBad_none ?_)
    simp only [optionalOk time]
    simp [*]
  case encoder =>
    rintro k _ at_ rfl mode high flags error clock clock' bits_ bits' pos pos' fit lsb parity zero offset flop flop' filter filter' zero' fits ring accepted free
    obtain rfl : k = ⟨tChannel h.target % 4, Nat.mod_lt _ (by decide)⟩ := Fin.ext at_
    refine accepted.stages rfl rfl rfl free (ifBad_none ?_)
    have error' : (decide (rd h.params 3 1 ≤ 39) || rd h.params 3 1 == 255) = true := by simpa using error
    simp only [error']
    simp_all [within]
  case safety =>
    rintro _ rfl en cu apart en' en'' cu' cu'' filter filter' zero accepted free
    have pair {a b : Nat} (h : a = 255 ∧ b = 255 ∨ a < 32 ∧ b < 32 ∧ a / 8 ≠ b / 8) :
        (a == 255 && b == 255 || decide (a < 32) && decide (b < 32) && decide (a / 8 ≠ b / 8)) = true := by
      simpa [and_assoc] using h
    have inputs : ((List.range 4).map fun i => rd h.params i 1).any (fun a => decide (31 < a) && a != 255) = false := by
      simp [List.range_succ]
      omega
    have distinct_ : [rd h.params 0 1, rd h.params 1 1].any (fun a => a != 255 && (a == rd h.params 2 1 || a == rd h.params 3 1)) = false := by
      simpa [or_iff_not_imp_left] using And.intro (apart _ (by simp)) (apart _ (by simp))
    refine accepted.stages rfl rfl rfl free (ifBad_none ?_)
    simp only [inputs, pair en, pair cu, distinct_]
    simp [within, *]
  case switch =>
    rintro _ kind len rfl mac port vid vid' ptp ptp' tc dup a b apart age zero accepted free
    refine accepted.answers rfl rfl ?_
    unfold bodyConfigSwitch
    rw [kind]
    exact (if_neg (by simp [len])).trans (State.config_stages free (ifBad_none (by simp [within, *])) ..)
  case port =>
    rintro k _ kind len at_ rfl mode flags vid vid' pcp zero clocks accepted free
    obtain rfl : k = ⟨tIndex h.target % 6, Nat.mod_lt _ (by decide)⟩ := Fin.ext at_
    refine accepted.answers rfl rfl ?_
    unfold bodyConfigSwitch
    rw [kind]
    refine (if_neg (by simp [len])).trans (State.config_stages free (ifBad_none ?_) ..)
    simp [within, *]
    exact fun off => by simpa using clocks off
  case vlan =>
    rintro k _ kind len table at_ rfl vid members untagged zero accepted free
    have inside : tInstance h.target < 64 := at_ ▸ k.isLt
    obtain rfl : k = ⟨tInstance h.target % 64, Nat.mod_lt _ (by decide)⟩ := Fin.ext (at_.trans (Nat.mod_eq_of_lt inside).symm)
    refine accepted.answers rfl rfl ?_
    unfold bodyConfigSwitch
    rw [kind]
    exact (if_neg (by simp [len])).trans ((if_neg (by simp [table, inside])).trans (State.config_stages free (ifBad_none (by simp [*])) ..))
  case peers =>
    rintro _ rfl period period' miss miss' zero zero' entries own accepted free
    refine accepted.stages rfl rfl rfl free (ifBad_none ?_)
    simp [within, *]
    exact entries
  case tb2 =>
    intro base zero source zero' accepted free
    have named : rd h.params 14 1 = 0 ∨ rd h.params 14 1 = 1 ∨ rd h.params 14 1 = 2 := by omega
    refine accepted.answers rfl rfl ?_
    unfold bodyConfigPtp
    rw [base]
    refine (if_neg (by decide)).trans ((if_pos rfl).trans ((State.config_stages free (ifBad_none (by simp [*])) ..).trans ?_))
    rcases named with e | e | e <;> (rw [e]; rfl)
  case ptp =>
    rintro _ _ _ rfl base rfl rfl enable profile role domain servo sync sync' announce announce' delay delay' port jump jump' zero domains named accepted free
    refine accepted.answers rfl rfl ?_
    unfold bodyConfigPtp
    simp only [Fin.val_eq_zero_iff]
    refine (if_neg ?_).trans ((if_neg ?_).trans (State.config_stages free (ifBad_none ?_) ..))
    · rcases base with e | e <;> rw [e] <;> decide
    · rcases base with e | e <;> rw [e] <;> decide
    · dsimp only at domains named
      simp only [Bool.or_eq_false_iff, beq_eq_false_iff_ne, Bool.and_eq_false_imp, decide_eq_true_eq, decide_eq_false_iff_not]
      refine ⟨⟨?_, domains⟩, named⟩
      simp [within, *]
  case tpo =>
    rintro _ rfl mode source polarity zero period period' divides phase width width' accepted free
    refine accepted.stages rfl rfl rfl free (ifBad_none ?_)
    simp [within, *]

end Sys2Proof.Machine

/-! SUPPORT. The statements about a step and about the reset state (R33, R390, R415, R458). -/

namespace Sys2Proof.Machine

/-- Settles O52. -/
theorem stepTakesFront : Obligations.StepTakesFront := by
  refine ⟨fun c rest s front => ?_, fun c s => rfl, fun s idle => ?_⟩
  · unfold step
    rw [front]
  · unfold step
    rw [idle]

/-- Settles O53. -/
theorem resetState : Obligations.ResetState := by
  refine ⟨rfl, rfl, rfl, rfl, rfl, rfl, ⟨nofun, nofun, nofun, nofun, fun _ => rfl⟩, fun d => ⟨?_, fun q => ?_, fun j => ?_, fun k => ?_⟩⟩
  · cases d <;> rfl
  · have queues : ((State.reset.die d).port.queues) = Vector.replicate 64 {} := by cases d <;> rfl
    show ((State.reset.die d).port.queues[q]).state = _
    rw [queues]
    simp
  · have joints : (State.reset.die d).joints = Vector.replicate 64 {} := by cases d <;> rfl
    show ((State.reset.die d).joints[j]).state = _
    rw [joints]
    simp
  · have cores : (State.reset.die d).cores = Vector.replicate 32 {} := by cases d <;> rfl
    rw [cores]
    simp

end Sys2Proof.Machine

/-! SUPPORT. A command whose own meaning rejects it leaves the state as it was (R76), opcode by opcode, and the statement that says so. -/

namespace Sys2Proof.Machine

/-! ### Answers that reject -/

/-- An answer that rejects leaves the state as it was, unless the reply comes later. -/
structure Harmless (s : State) (a : Answer) : Prop where
  keeps : a.2.rejects = true → a.2.status ≠ St.later → a.1 = s

@[simp] theorem harmless_same (s : State) (q : Reply) : Harmless s (s, q) := ⟨fun _ _ => rfl⟩
@[simp] theorem harmless_reject (s : State) (st : Nat) : Harmless s (reject s st) := harmless_same s _
@[simp] theorem harmless_ok (s t : State) (r : List Byte) (own : Bool) : Harmless s (t, { status := St.ok, result := r, own := own }) := ⟨fun rejects => nomatch rejects⟩
@[simp] theorem harmless_limited (s t : State) (r : List Byte) (own : Bool) : Harmless s (t, { status := St.limited, result := r, own := own }) := ⟨fun rejects => nomatch rejects⟩
@[simp] theorem harmless_deferred (s t : State) (r : List Byte) (own : Bool) : Harmless s (t, { status := St.deferred, result := r, own := own }) := ⟨fun rejects => nomatch rejects⟩
@[simp] theorem harmless_later (s t : State) (r : List Byte) (own : Bool) : Harmless s (t, { status := St.later, result := r, own := own }) := ⟨fun _ ne => absurd rfl ne⟩
@[simp] theorem harmless_answer (s t : State) (r : List Byte) (own : Bool) : Harmless s (answer t r own) := harmless_ok s t r own

@[simp] theorem harmless_ite {s : State} {p : Prop} [Decidable p] {a b : Answer} : Harmless s (if p then a else b) ↔ (p → Harmless s a) ∧ (¬p → Harmless s b) := by
  split <;> simp [*]

/-- What an answer does with a result and with OWN makes no difference. -/
theorem Harmless.congr {s : State} {a b : Answer} (h : Harmless s a) (same : b.1 = a.1) (status : b.2.status = a.2.status) : Harmless s b where
  keeps rejects now := same.trans (h.keeps ((congrArg (fun n => decide (0x8000 ≤ n)) status).symm.trans rejects) (status ▸ now))

theorem harmless_of_ok {s : State} {a : Answer} (status : a.2.status = St.ok) : Harmless s a where
  keeps rejects := by
    rw [Reply.rejects, status] at rejects
    cases rejects

/-! ### Staging (R49, R275) -/

section Staging

variable (s : State) (d : DieId) (check : Option Nat) (units : List UnitId) (f : Cfg → Cfg)

@[simp] theorem State.config_harmless (r : List Byte) : Harmless s (s.config d check units f r) := by
  unfold State.config
  split
  · simp
  · split <;> simp

@[simp] theorem State.configGated_harmless (admitted : Cfg → Bool) : Harmless s (s.configGated d check units admitted f) := by
  unfold State.configGated
  split
  · simp
  · split <;> simp

@[simp] theorem State.stageAdmitted_harmless (c : Cfg) (result : Admit → List Byte) : Harmless s (s.stageAdmitted d c result) := by
  unfold State.stageAdmitted
  simp

end Staging

/-! ### The commands whose own meaning branches on a value -/

section Bodies

variable (h : HostCmd) (d : DieId) (s : State)

@[simp] theorem bodyCommit_harmless : Harmless s (bodyCommit h d s) := by
  unfold bodyCommit
  dsimp only
  (repeat' split) <;> simp

@[simp] theorem bodyConfigJuggler_harmless : Harmless s (bodyConfigJuggler h d s) := by
  unfold bodyConfigJuggler
  dsimp only
  (repeat' split) <;> simp

@[simp] theorem bodyConfigKinematics_harmless : Harmless s (bodyConfigKinematics h d s) := by
  unfold bodyConfigKinematics
  dsimp only
  (repeat' split) <;> simp

@[simp] theorem bodyConfigProgram_harmless : Harmless s (bodyConfigProgram h d s) := by
  unfold bodyConfigProgram
  dsimp only
  (repeat' split) <;> simp

@[simp] theorem bodyConfigSensor_harmless : Harmless s (bodyConfigSensor h d s) := by
  unfold bodyConfigSensor
  dsimp only
  (repeat' split) <;> simp

@[simp] theorem bodyConfigSsmParams_harmless : Harmless s (bodyConfigSsmParams h d s) := by
  unfold bodyConfigSsmParams
  dsimp only
  (repeat' split) <;> simp

@[simp] theorem bodyConfigSwitch_harmless : Harmless s (bodyConfigSwitch h d s) := by
  unfold bodyConfigSwitch
  dsimp only
  (repeat' split) <;> simp

@[simp] theorem bodyMovePoint_harmless : Harmless s (bodyMovePoint h d s) := by
  unfold bodyMovePoint
  dsimp only
  (repeat' split) <;> simp

@[simp] theorem bodyMoveVelocity_harmless : Harmless s (bodyMoveVelocity h d s) := by
  unfold bodyMoveVelocity
  dsimp only
  (repeat' split) <;> simp

@[simp] theorem bodyPlaceTest_harmless : Harmless s (bodyPlaceTest h d s) := by
  unfold bodyPlaceTest
  dsimp only
  (repeat' split) <;> simp

@[simp] theorem bodyPlanRead_harmless : Harmless s (bodyPlanRead h d s) := by
  unfold bodyPlanRead
  dsimp only
  (repeat' split) <;> simp

@[simp] theorem bodyProgramRead_harmless : Harmless s (bodyProgramRead h d s) := by
  unfold bodyProgramRead
  dsimp only
  (repeat' split) <;> simp

@[simp] theorem bodyReferenceLoad_harmless : Harmless s (bodyReferenceLoad h d s) := by
  unfold bodyReferenceLoad
  dsimp only
  (repeat' split) <;> simp

@[simp] theorem bodyRingCounters_harmless : Harmless s (bodyRingCounters h d s) := by
  unfold bodyRingCounters
  dsimp only
  (repeat' split) <;> simp

@[simp] theorem bodyStatsRead_harmless : Harmless s (bodyStatsRead h d s) := by
  unfold bodyStatsRead
  dsimp only
  (repeat' split) <;> simp

@[simp] theorem bodyStreamPoints_harmless : Harmless s (bodyStreamPoints h d s) := by
  unfold bodyStreamPoints
  dsimp only
  (repeat' split) <;> simp

@[simp] theorem bodyTableRead_harmless : Harmless s (bodyTableRead h d s) := by
  unfold bodyTableRead
  dsimp only
  (repeat' split) <;> simp

@[simp] theorem bodyTableWrite_harmless : Harmless s (bodyTableWrite h d s) := by
  unfold bodyTableWrite
  dsimp only
  (repeat' split) <;> simp

@[simp] theorem bodyTimeForceStep_harmless : Harmless s (bodyTimeForceStep h d s) := by
  unfold bodyTimeForceStep
  dsimp only
  (repeat' split) <;> simp

@[simp] theorem bodyTraceClose_harmless : Harmless s (bodyTraceClose h d s) := by
  unfold bodyTraceClose
  dsimp only
  (repeat' split) <;> simp

@[simp] theorem bodyTraceOpen_harmless : Harmless s (bodyTraceOpen h d s) := by
  unfold bodyTraceOpen
  dsimp only
  (repeat' split) <;> simp

@[simp] theorem bodyZoneRelease_harmless : Harmless s (bodyZoneRelease h d s) := by
  unfold bodyZoneRelease
  dsimp only
  (repeat' split) <;> simp

@[simp] theorem bodyZoneRequest_harmless : Harmless s (bodyZoneRequest h d s) := by
  unfold bodyZoneRequest
  dsimp only
  (repeat' split) <;> simp

@[simp] theorem bodyConfigEvents_harmless : Harmless s (bodyConfigEvents h d s) := by
  unfold bodyConfigEvents
  dsimp only
  refine harmless_ite.2 ⟨fun _ => harmless_ite.2 ⟨fun staged => harmless_of_ok staged, fun _ => State.config_harmless ..⟩, fun _ => State.config_harmless ..⟩

theorem Reply.status_ite (q : Reply) (p : Prop) [Decidable p] (r : List Byte) : (if p then { q with result := r } else q).status = q.status := by
  split <;> rfl

@[simp] theorem bodyConfigRing_harmless : Harmless s (bodyConfigRing h d s) := by
  unfold bodyConfigRing
  dsimp only
  split
  · exact harmless_reject ..
  · exact (State.configGated_harmless ..).congr rfl (Reply.status_ite ..)

@[simp] theorem bodyConfigStatistics_harmless : Harmless s (bodyConfigStatistics h d s) := by
  unfold bodyConfigStatistics
  dsimp only
  split
  · exact harmless_reject ..
  · exact (State.config_harmless ..).congr rfl rfl

/-! ### The commands that only check their fields, chapter by chapter -/

@[simp] theorem packageBodies_harmless :
    Harmless s (bodyNop h d s) ∧ Harmless s (bodyIdentify h d s) ∧ Harmless s (bodyGetStatus h d s) ∧ Harmless s (bodyConfigPeriods h d s) ∧
    Harmless s (bodyConfigDeadline h d s) ∧ Harmless s (bodyConfigDiscard h d s) ∧ Harmless s (bodyGetBoundary h d s) := by
  simp [bodyNop, bodyIdentify, bodyGetStatus, bodyConfigPeriods, bodyConfigDeadline, bodyConfigDiscard, bodyGetBoundary]

@[simp] theorem timeBodies_harmless :
    Harmless s (bodyTimeGet h d s) ∧ Harmless s (bodyTimeSetIncrement h d s) ∧ Harmless s (bodyConfigPtp h d s) ∧ Harmless s (bodyPtpStatus h d s) ∧
    Harmless s (bodyConfigTpo h d s) ∧ Harmless s (bodyTpiStream h d s) ∧ Harmless s (bodyCellPortStatus h d s) ∧
    Harmless s (bodyConfigCellPeers h d s) := by
  simp [bodyTimeGet, bodyTimeSetIncrement, bodyConfigPtp, bodyPtpStatus, bodyConfigTpo, bodyTpiStream, bodyCellPortStatus, bodyConfigCellPeers]

@[simp] theorem ringBodies_harmless :
    Harmless s (bodyConfigNode h d s) ∧ Harmless s (bodyRingStatus h d s) ∧ Harmless s (bodyRingScan h d s) ∧ Harmless s (bodyMailboxSend h d s) ∧
    Harmless s (bodyMailboxStream h d s) ∧ Harmless s (bodyRingStop h d s) := by
  simp [bodyConfigNode, bodyRingStatus, bodyRingScan, bodyMailboxSend, bodyMailboxStream, bodyRingStop]

@[simp] theorem jointBodies_harmless :
    Harmless s (bodyConfigJoint h d s) ∧ Harmless s (bodyConfigLimits h d s) ∧ Harmless s (bodyHome h d s) ∧ Harmless s (bodyConfigHoming h d s) ∧
    Harmless s (bodyConfigStandstill h d s) ∧ Harmless s (bodyJointStatus h d s) ∧ Harmless s (bodyJointStop h d s) ∧
    Harmless s (bodyConfigFollowing h d s) := by
  simp [bodyConfigJoint, bodyConfigLimits, bodyHome, bodyConfigHoming, bodyConfigStandstill, bodyJointStatus, bodyJointStop, bodyConfigFollowing]

@[simp] theorem controlBodies_harmless :
    Harmless s (bodyConfigControl h d s) ∧ Harmless s (bodyConfigFilter h d s) ∧ Harmless s (bodyConfigFeedforward h d s) ∧
    Harmless s (bodyExtTorque h d s) ∧ Harmless s (bodyConfigFeedback h d s) ∧ Harmless s (bodyControlStatus h d s) := by
  simp [bodyConfigControl, bodyConfigFilter, bodyConfigFeedforward, bodyExtTorque, bodyConfigFeedback, bodyControlStatus]

@[simp] theorem jugglerBodies_harmless :
    Harmless s (bodyConfigWeights h d s) ∧ Harmless s (bodyConfigRows h d s) ∧ Harmless s (bodyJugglerStatus h d s) ∧
    Harmless s (bodyPlanStream h d s) := by
  simp [bodyConfigWeights, bodyConfigRows, bodyJugglerStatus, bodyPlanStream]

@[simp] theorem separationBodies_harmless :
    Harmless s (bodyConfigGeometry h d s) ∧ Harmless s (bodyConfigZone h d s) ∧ Harmless s (bodySepStatus h d s) ∧ Harmless s (bodySepStream h d s) := by
  simp [bodyConfigGeometry, bodyConfigZone, bodySepStatus, bodySepStream]

@[simp] theorem fieldBodies_harmless :
    Harmless s (bodyConfigInputs h d s) ∧ Harmless s (bodyConfigOutputs h d s) ∧ Harmless s (bodyFioWrite h d s) ∧ Harmless s (bodyFioRead h d s) ∧
    Harmless s (bodyFioRearm h d s) ∧ Harmless s (bodyConfigWatchdog h d s) ∧ Harmless s (bodyConfigEncoder h d s) ∧
    Harmless s (bodyConfigSafetyInputs h d s) := by
  simp [bodyConfigInputs, bodyConfigOutputs, bodyFioWrite, bodyFioRead, bodyFioRearm, bodyConfigWatchdog, bodyConfigEncoder, bodyConfigSafetyInputs]

@[simp] theorem trapezeBodies_harmless :
    Harmless s (bodyTrapezeStatus h d s) ∧ Harmless s (bodyConfigTrapeze h d s) ∧ Harmless s (bodySyncStart h d s) ∧ Harmless s (bodySwitchOver h d s) ∧
    Harmless s (bodyHealthStream h d s) := by
  simp [bodyTrapezeStatus, bodyConfigTrapeze, bodySyncStart, bodySwitchOver, bodyHealthStream]

@[simp] theorem faultBodies_harmless :
    Harmless s (bodyFaultInject h d s) ∧ Harmless s (bodyEventRead h d s) ∧ Harmless s (bodyEventClear h d s) ∧ Harmless s (bodyFaultStatus h d s) := by
  simp [bodyFaultInject, bodyEventRead, bodyEventClear, bodyFaultStatus]

@[simp] theorem preserveBodies_harmless :
    Harmless s (bodyPreserveFreeze h d s) ∧ Harmless s (bodyPreserveThaw h d s) ∧ Harmless s (bodyPreserveRead h d s) := by
  simp [bodyPreserveFreeze, bodyPreserveThaw, bodyPreserveRead]

@[simp] theorem dispatchBodies_harmless :
    Harmless s (bodyDispatchStatus h d s) := by
  simp [bodyDispatchStatus]

end Bodies

/-! ### Enabling and disabling one joint (R166) -/

section OneJoint

variable {s : State} {d : DieId} {h : HostCmd} (kind : tKind h.target = 1) (one : tIndex h.target ≠ tAll)

include kind one

theorem State.jointsOf_one : s.jointsOf d h.target = [tJoint h.target] := by
  rw [State.jointsOf, if_neg one, if_pos kind]

theorem bodyJointEnable_one : bodyJointEnable h d s =
    if decide (1 < rd h.params 0 1) || !zeroAt h.params 1 7 then reject s St.range
    else
      ((s.enableJoint d (tJoint h.target) (bit (rd h.params 0 1) 0) h.tag.toNat).1,
        { status := worstStatus [(s.enableJoint d (tJoint h.target) (bit (rd h.params 0 1) 0) h.tag.toNat).2] }) := by
  unfold bodyJointEnable
  rw [State.jointsOf_one kind one]
  rfl

theorem bodyJointDisable_one : bodyJointDisable h d s =
    if s.jogOk d (tJoint h.target) then answer (s.disableJoint d (tJoint h.target) h.tag.toNat) else reject s St.wrongState := by
  unfold bodyJointDisable
  rw [State.jointsOf_one kind one]
  simp only [List.foldl_cons, List.foldl_nil]
  split <;> rfl

end OneJoint

/-- A joint that cannot be enabled is left as it is (R155). -/
theorem State.enableJoint_harmless (s : State) (d : DieId) (j : Fin 64) (clear : Bool) (tag : Nat) :
    Harmless s ((s.enableJoint d j clear tag).1, { status := worstStatus [(s.enableJoint d j clear tag).2] }) := by
  unfold State.enableJoint
  dsimp only
  split
  · exact harmless_same ..
  · split <;> (try split) <;> first | exact harmless_same .. | exact harmless_of_ok rfl | exact ⟨fun rejects => nomatch rejects⟩

/-- Settles O23. -/
theorem rejectionHasNoEffect : Obligations.RejectionHasNoEffect := by
  intro op f h d s body one notOffset notLoad
  suffices Harmless s (f h d s) from this.keeps
  rcases eq_or_ne op 0x0302 with rfl | notEnable
  · obtain ⟨kind, single⟩ := one (.inl rfl)
    cases body
    rw [bodyJointEnable_one kind single]
    exact harmless_ite.2 ⟨fun _ => harmless_reject .., fun _ => State.enableJoint_harmless ..⟩
  rcases eq_or_ne op 0x0303 with rfl | notDisable
  · obtain ⟨kind, single⟩ := one (.inr rfl)
    cases body
    rw [bodyJointDisable_one kind single]
    simp
  clear one
  unfold bodyOf at body
  split at body <;> cases body
  all_goals simp_all

end Sys2Proof.Machine

/-! SUPPORT. The lengths of results, and the statement about the commands that read (R87 to R90 and the result tables of chapters 2 to 15). -/

namespace Sys2Proof.Machine

/-! ### Lengths of the parts of results -/

/-- Rows of one length, each of a list. -/
theorem flatten_rows_length {α : Type} {f : α → List Byte} {n : Nat} (row : ∀ a, (f a).length = n) (l : List α) : ((l.map f).flatten).length = n * l.length :=
  flatten_map_length l f n row

@[simp] theorem RPort.bytes_length (p : RPort) : p.bytes.length = 28 := by simp [RPort.bytes]
@[simp] theorem PlanPoint.bytes_length (p : PlanPoint) : p.bytes.length = 16 := by simp [PlanPoint.bytes]
@[simp] theorem Die.jointStatus_length (x : Die) (j : Fin 64) (b : Nat) : (x.jointStatus j b).length = 64 := by simp [Die.jointStatus]
@[simp] theorem Die.controlStatus_length (x : Die) (j : Fin 64) : (x.controlStatus j).length = 64 := by simp [Die.controlStatus]
@[simp] theorem PresRec.bytes_length (r : PresRec) : r.bytes.length = 64 := by simp [PresRec.bytes]
@[simp] theorem Preserve.readSeq_length (p : Preserve) (seq : Nat) : (p.readSeq seq).length = 64 := by
  unfold Preserve.readSeq
  split <;> simp
@[simp] theorem State.dieBytes_length (s : State) (d : DieId) : (s.dieBytes d).length = 32 := by
  unfold State.dieBytes
  split <;> simp
@[simp] theorem Die.statusBytes_length (x : Die) : x.statusBytes.length = 16 := by simp [Die.statusBytes]

/-- The served answer of a command that reads: its result begins with `pre` and has the length of its table. -/
theorem Accepted.reads {c : Instr} {s : State} {op n : Nat} {h : HostCmd} {f : HostCmd → DieId → State → Answer} {bytes pre : List Byte} {own : Bool} (a : Accepted s op h)
    (row : c.hostRow = some (op, h)) (body : bodyOf op = some f) (means : f h (actingDie h h.die) (s.dequeue h) = answer (s.dequeue h) bytes own)
    (starts : pre <+: bytes) (len : bytes.length = n) :
    ∃ rest own, (pre ++ rest).length = n ∧ exec c s = .next (s.served h op (answer (s.dequeue h) (pre ++ rest) own)) := by
  obtain ⟨rest, rfl⟩ := starts
  exact ⟨rest, own, len, a.answers row body means⟩

/-- The positions of a ring below a count. -/
theorem positions_length {n : Nat} (fits : n ≤ 16) : ((List.finRange 16).filter fun p => decide (p.val < n)).length = n :=
  (by decide : ∀ n : Fin 17, ((List.finRange 16).filter fun p => decide (p.val < n.val)).length = n.val) ⟨n, Nat.lt_succ_of_le fits⟩

/-- An interval that is not due makes no move of the banks (R450). -/
theorem State.dueInterval_idle {s : State} (idle : s.mw.interval.due = false) : s.dueInterval = s := if_neg (by simp [idle])

/-- Settles O24. -/
theorem readCommands : Obligations.ReadCommands := by
  intro h s
  refine ⟨?nop, ?identify, ?status, ?boundary, ?time, ?ptp, ?port, ?ring, ?scan, ?counters, ?nodeCounters, ?jointShown, ?joint, ?table, ?controlShown, ?control,
    ?juggler, ?plan, ?separation, ?field, ?trapeze, ?event, ?events, ?faults, ?preserve, ?statistics, ?program, ?dispatch⟩
  case nop => exact fun accepted => accepted.reads rfl rfl rfl (List.nil_prefix) rfl
  case identify =>
    intro accepted
    refine accepted.reads rfl rfl rfl ?_ ?_
    · simp only [List.append_assoc, List.prefix_append_right_inj, List.prefix_append]
    · simp only [List.length_append, le_length, zeros_length, State.dieBytes_length]
      split <;> split <;> simp only [le_length, zeros_length]
  case status => exact fun accepted => accepted.reads rfl rfl rfl (by simp) (by simp)
  case boundary => exact fun accepted => accepted.reads rfl rfl rfl (by simp) (by simp)
  case time =>
    intro accepted
    refine accepted.reads rfl rfl rfl ?_ ?_
    · simp only [List.append_assoc, List.prefix_append_right_inj, List.finRange_succ, List.map_cons, List.flatten_cons]
      exact List.prefix_append _ _
    · rw [List.length_append, flatten_map_length (n := 24)]
      · simp
      · intro n; simp
  case ptp =>
    intro base accepted
    refine accepted.reads rfl rfl (if_neg ?_) List.nil_prefix (by simp)
    rcases base with e | e <;> simp [e]
  case port => exact fun accepted => accepted.reads rfl rfl rfl List.nil_prefix (by simp)
  case ring =>
    intro there accepted
    refine accepted.reads rfl rfl (if_neg (not_le.2 there)) ?_ ?_
    · simp only [List.append_assoc, List.prefix_append_right_inj, List.prefix_append]
    · rw [List.length_append, flatten_map_length (n := 4)]
      · simp
      · intro p; simp
  case scan =>
    intro there on off counted accepted
    refine accepted.reads rfl rfl ((if_neg (not_le.2 there)).trans (if_neg (by simp [on, off]))) ?_ ?_
    · simp only [positions_length counted, List.append_assoc, List.prefix_append]
    · rw [List.length_append, flatten_map_length (n := 12)]
      · simp [positions_length counted]
      · intro p; simp
  case counters =>
    intro kind there accepted
    exact accepted.reads rfl rfl ((if_pos kind).trans (if_neg (not_le.2 there))) (by simp) (by simp)
  case nodeCounters =>
    rintro r k b kind hr hk there read accepted
    obtain rfl : r = ⟨tIndex h.target % 128 / 16 % 8, Nat.mod_lt _ (by decide)⟩ := Fin.ext (by simp only [hr]; omega)
    obtain rfl : k = ⟨tIndex h.target % 128 % 16, Nat.mod_lt _ (by decide)⟩ := Fin.ext (by simp only [hk]; omega)
    apply accepted.reads rfl rfl
    · refine (if_neg kind).trans ((if_neg (not_le.2 there)).trans ?_)
      rw [read]
    · exact List.prefix_rfl
    · simp only [List.length_append, le_length, zeros_length]
  case jointShown => exact fun accepted => accepted.answers rfl rfl rfl
  case joint =>
    intro none_ accepted
    refine accepted.reads rfl rfl rfl ?_ ?_
    · rw [none_]; simp [Die.jointStatus, State.joint]
    · rw [none_]; simp
  case table =>
    intro t target there low high ends which zero accepted
    apply accepted.reads rfl rfl
    · unfold bodyTableRead
      rw [target]
      exact (if_neg (by simp [there])).trans (if_neg (by simp [within, low, high, ends, which, zero]))
    · simp only [List.append_assoc, List.prefix_append_right_inj, List.prefix_append]
    · rw [List.length_append, flatten_map_length (n := 2)]
      · simp
      · intro n; simp
  case controlShown => exact fun accepted => accepted.answers rfl rfl rfl
  case control =>
    intro none_ accepted
    refine accepted.reads rfl rfl rfl ?_ ?_
    · rw [none_]; simp [Die.controlStatus]
    · rw [none_]; simp
  case juggler =>
    intro there accepted
    exact accepted.reads rfl rfl (if_neg (by simp [there])) (by simp) (by simp)
  case plan =>
    intro pl there first zero planned kept accepted
    rcases kept with ⟨e, plan⟩ | ⟨e, plan⟩
    all_goals
      apply accepted.reads rfl rfl
      · refine (if_neg (by simp [there])).trans ((if_neg (by simp [e, first, zero])).trans ?_)
        dsimp only
        rw [e]
        rw [plan]
        exact if_neg (by simp [planned])
      · simp only [List.append_assoc, List.prefix_append]
      · rw [List.length_append, flatten_map_length (n := 16)]
        · simp only [List.length_append, le_length, zeros_length]
        · exact fun n => n.bytes_length
  case separation =>
    intro accepted
    refine accepted.reads rfl rfl rfl ?_ ?_
    · simp only [List.append_assoc, List.prefix_append]
    · simp only [List.length_append]
      rw [flatten_map_length (n := 16)]
      · simp
      · intro o; simp
  case field =>
    intro accepted
    refine accepted.reads rfl rfl rfl ?_ ?_
    · simp only [List.append_assoc, List.prefix_append_right_inj, List.prefix_append]
    · simp only [List.length_append]
      rw [flatten_map_length (n := 1)]
      · simp only [le_length, zeros_length, outBits, List.length_finRange]
      · intro n; rfl
  case trapeze =>
    intro there accepted
    exact accepted.reads rfl rfl (if_neg (by simp [there])) (by simp) (by simp)
  case event =>
    intro kind defined accepted
    exact accepted.reads rfl rfl ((if_pos kind).trans (if_neg (by simp [defined]))) (by simp) (by simp)
  case events =>
    intro kind accepted
    exact accepted.reads rfl rfl (if_neg kind) (by simp) (by simp)
  case faults =>
    intro accepted
    refine accepted.reads rfl rfl rfl ?_ ?_
    · simp only [List.append_assoc, List.prefix_append_right_inj, List.prefix_append]
    · rw [List.length_append, flatten_map_length (n := 8)]
      · simp
      · intro k; split <;> simp
  case preserve =>
    rintro target low high zero k q rfl hk accepted
    refine accepted.reads rfl rfl ((if_neg (by simp [target])).trans (if_neg (by simp [within, low, high, zero]))) ?_ ?_
    · simp only [List.append_assoc, List.prefix_append_right_inj, decide_eq_true_eq, ← hk, List.prefix_append]
    · rw [List.length_append, flatten_map_length (n := 64)]
      · simp only [List.length_append, le_length, zeros_length, List.length_range, decide_eq_true_eq, ← hk]
      · intro n; simp
  case statistics =>
    intro target idle bank zero fits accepted
    apply accepted.reads rfl rfl
    · unfold bodyStatsRead
      rw [State.dueInterval_idle idle]
      refine (if_neg (by simp [target])).trans ((if_neg (by simp [bank, zero])).trans ?_)
      rw [fits]
    · exact List.nil_prefix
    · rw [List.length_append, flatten_map_length (n := 4)]
      · simp
      · intro n; simp
  case program =>
    intro first names fit low high which zero loaded accepted
    refine accepted.answers rfl rfl ?_
    unfold bodyProgramRead
    rw [names]
    exact (if_neg (not_lt.2 fit)).trans ((if_neg (by simp [within, low, high, which, zero])).trans (if_neg fun e => by simp [loaded e.1] at e))
  case dispatch =>
    intro accepted
    refine accepted.reads rfl rfl rfl ?_ ?_
    · simp only [List.append_assoc, List.prefix_append]
    · simp only [List.length_append]
      rw [flatten_map_length (n := 2), flatten_map_length (n := 4), flatten_map_length (n := 4)]
      · simp
      all_goals intro k; rfl

end Sys2Proof.Machine

/-! SUPPORT. The statement about streams and the trace (R78, R133, R239, R281, R325, R353, R420). -/

namespace Sys2Proof.Machine

@[simp] theorem State.openStream_isFlier (s : State) (d e : DieId) (op : Nat) (h : HostCmd) (args : List Nat) :
    (s.openStream d op h args).isFlier e = s.isFlier e := by
  simp [State.openStream, State.isFlier]

/-- Settles O25. -/
theorem streamCommands : Obligations.StreamCommands := by
  intro h s
  refine ⟨?tpiClose, ?tpiOpen, ?mailboxClose, ?mailboxOpen, ?planClose, ?planOpen, ?sepClose, ?sepOpen, ?healthClose, ?healthOpen, ?trace, ?masks, ?traceClose⟩
  case tpiClose =>
    intro zero off accepted
    exact accepted.answers rfl rfl ((if_neg (by simp [zero, off])).trans (if_pos off))
  case tpiOpen =>
    intro zero on low high divisor accepted
    refine accepted.answers rfl rfl ((if_neg (by simp [zero, on, within, low, high, divisor])).trans ((if_neg (by simp [on])).trans ?_))
    exact congrArg answer (ite_congr (congrArg (· = true) (State.openStream_isFlier ..)) (fun _ => rfl) fun _ => rfl)
  case mailboxClose =>
    intro there zero off accepted
    exact accepted.answers rfl rfl ((if_neg (not_le.2 there)).trans ((if_neg (by simp [zero, off])).trans (if_pos off)))
  case mailboxOpen =>
    intro there zero on node up accepted
    exact accepted.answers rfl rfl ((if_neg (not_le.2 there)).trans ((if_neg (by simp [zero, on])).trans ((if_neg (by simp [on])).trans (if_neg (by simp [node, up])))))
  case planClose =>
    intro there zero off accepted
    exact accepted.answers rfl rfl ((if_neg (by simp [there])).trans ((if_neg (by simp [zero, off])).trans (if_pos off)))
  case planOpen =>
    intro there zero on accepted
    exact accepted.answers rfl rfl ((if_neg (by simp [there])).trans ((if_neg (by simp [zero, on])).trans (if_neg (by simp [on]))))
  case sepClose =>
    intro zero off accepted
    exact accepted.answers rfl rfl ((if_neg (by simp [zero, off])).trans (if_pos off))
  case sepOpen =>
    intro zero on accepted
    exact accepted.answers rfl rfl ((if_neg (by simp [zero, on])).trans (if_neg (by simp [on])))
  case healthClose =>
    intro there zero off accepted
    exact accepted.answers rfl rfl ((if_neg (by simp [there])).trans ((if_neg (by simp [zero, off])).trans (if_pos off)))
  case healthOpen =>
    intro there zero on accepted
    exact accepted.answers rfl rfl ((if_neg (by simp [there])).trans ((if_neg (by simp [zero, on])).trans (if_neg (by simp [on]))))
  case trace =>
    rintro _ classes kinds zero idle rfl accepted
    refine accepted.answers rfl rfl ((if_neg (by simp [zero, classes, kinds])).trans ?_)
    dsimp only
    rw [idle]
  case masks =>
    intro t classes kinds zero traced opened accepted
    refine accepted.answers rfl rfl ((if_neg (by simp [zero, classes, kinds])).trans ?_)
    dsimp only
    rw [traced]
    exact if_neg (not_not.2 opened)
  case traceClose =>
    intro t traced accepted
    refine accepted.answers rfl rfl ?_
    unfold bodyTraceClose
    rw [traced]

end Sys2Proof.Machine

/-! SUPPORT. The statement about motion, enabling, disabling and stopping (R142 to R159, R166 to R171). -/

namespace Sys2Proof.Machine

theorem State.phase_life (s : State) : s.life.phase = s.phase := rfl

@[simp] theorem State.disableJoint_phase (s : State) (d : DieId) (j : Fin 64) (tag : Nat) : (s.disableJoint d j tag).phase = s.phase := by
  rw [← State.phase_life, State.disableJoint_life, State.phase_life]

/-- In Ripe every joint may be driven (R166). -/
theorem State.jogOk_ripe {s : State} (ripe : s.phase = .ripe) (d : DieId) (j : Fin 64) : s.jogOk d j = true := by
  unfold State.jogOk
  rw [ripe]

/-- In Ripe `JOINT_DISABLE` disables each joint that its target names (R166). -/
theorem disable_each (d : DieId) (tag : Nat) (l : List (Fin 64)) : ∀ (s : State) (sts : List Nat), s.phase = .ripe →
    l.foldl (fun (a : State × List Nat) j => if a.1.jogOk d j then (a.1.disableJoint d j tag, a.2 ++ [St.ok]) else (a.1, a.2 ++ [St.wrongState])) (s, sts) =
      (l.foldl (fun s j => s.disableJoint d j tag) s, sts ++ List.replicate l.length St.ok) := by
  induction l with
  | nil => intro s sts _; simp
  | cons j r ih =>
    intro s sts ripe
    simp only [List.foldl_cons, State.jogOk_ripe ripe, if_true]
    rw [ih _ _ (by rw [State.disableJoint_phase, ripe])]
    simp [List.replicate_succ]

theorem worstStatus_replicate_ok (n : Nat) : worstStatus (List.replicate n St.ok) = St.ok := by
  have none_ : ∀ st, st ≠ St.ok → (List.replicate n St.ok).contains st = false := fun st ne => by simp [List.contains_eq_mem, List.mem_replicate, ne]
  unfold worstStatus
  rw [none_ _ (by decide), none_ _ (by decide)]
  rfl

/-- A flag byte of 0 or 1. -/
theorem flag_bit {v : Nat} (flag : v ≤ 1) : (bit v 0 = true) = (v = 1) := by
  interval_cases v <;> simp [bit]

/-- Settles O26. -/
theorem motionCommands : Obligations.MotionCommands := by
  intro h s
  refine ⟨?enable, ?disableRipe, ?disable, ?stopJoint, ?stopArm, ?point, ?velocity, ?fresh, ?more, ?home⟩
  case enable =>
    intro clear zero kind one accepted
    refine accepted.answers rfl rfl ((bodyJointEnable_one kind one).trans ?_)
    exact if_neg (by simp [clear, zero])
  case disableRipe =>
    intro ripe accepted
    refine accepted.answers rfl rfl ?_
    unfold bodyJointDisable
    rw [disable_each _ _ _ _ _ ripe]
    simp only [List.nil_append, worstStatus_replicate_ok]
    rfl
  case disable =>
    intro kind one accepted
    exact accepted.answers rfl rfl (bodyJointDisable_one kind one)
  case stopJoint =>
    intro low high zero one kind accepted
    exact accepted.answers rfl rfl ((if_neg (by simp [within, low, high, zero])).trans ((if_neg one).trans (if_pos kind)))
  case stopArm =>
    intro low high zero one kind accepted
    exact accepted.answers rfl rfl ((if_neg (by simp [within, low, high, zero])).trans ((if_neg one).trans (if_neg (by rw [kind]; decide))))
  case point =>
    rintro l _ _ limits enabled homed v a jerk rel zero rfl holds rfl accepted
    refine accepted.answers rfl rfl ?_
    unfold bodyMovePoint
    dsimp only
    rw [limits]
    simp only [flag_bit rel]
    split
    next fails =>
      refine firstFail_absurd fails ?_
      simp [enabled, homed, v, a, jerk, rel, zero, holds]
    next => rfl
  case velocity =>
    rintro l _ _ _ limits enabled jog a jerk zero rfl rfl rfl accepted
    refine accepted.answers rfl rfl ?_
    unfold bodyMoveVelocity
    dsimp only
    rw [limits]
    dsimp only
    split
    next fails =>
      refine firstFail_absurd fails ?_
      simp [enabled, jog, a, jerk, zero]
    next => rfl
  case fresh =>
    rintro n _ hn rfl enabled homed mode few zero plen reserved rise first holds accepted
    refine accepted.answers rfl rfl ?_
    unfold bodyStreamPoints
    dsimp only
    rw [mode, ← hn]
    refine (if_neg (by simp)).trans ?_
    split
    next fails =>
      refine firstFail_absurd fails ?_
      simp [enabled, homed, few, zero, plen, rise]
      refine ⟨reserved, ?_, ?_, by omega⟩
      · cases e : streamPoints h.params n with
        | nil => rfl
        | cons q r => simpa using first q r e
      · cases limits : (((s.dequeue h).die (actingDie h h.die)).jointCfg (tJoint h.target)).limits with
        | none => rfl
        | some l => simpa using holds l limits
    next => rfl
  case more =>
    rintro n _ hn rfl enabled mode source flag few zero plen reserved rise first holds fits accepted
    refine accepted.answers rfl rfl ?_
    unfold bodyStreamPoints
    dsimp only
    rw [flag, ← hn]
    refine (if_neg (by simp)).trans ?_
    split
    next fails =>
      refine firstFail_absurd fails ?_
      simp [enabled, mode, source, few, zero, plen, rise]
      refine ⟨reserved, ?_, fun homed => ?_, fits⟩
      · cases e : streamPoints h.params n with
        | nil => rfl
        | cons q r =>
          cases last : ((s.dequeue h).joint (actingDie h h.die) (tJoint h.target)).points.getLast? with
          | none => simp
          | some v =>
            obtain ⟨above, gap⟩ := first q r v e last
            simpa [above] using (by omega : q.key ≤ 1048576 + v.key)
      · cases limits : (((s.dequeue h).die (actingDie h h.die)).jointCfg (tJoint h.target)).limits with
        | none => rfl
        | some l => simpa using holds homed l limits
    next => rfl
  case home =>
    intro enabled still method accepted
    exact accepted.answers rfl rfl (if_neg (by simp [enabled, still, method]))

end Sys2Proof.Machine

/-! SUPPORT. The statement about the values handed to the running part and the time bases (R129, R203, R237, R324, R326, R333, R334, R347 to R349, R381, R383). -/

namespace Sys2Proof.Machine

/-- A byte up to 7 has no bit above its third. -/
theorem bit_high {v i : Nat} (low : v ≤ 7) (high : 3 ≤ i) : bit v i = false := by
  have big : 2 ^ 3 ≤ 2 ^ i := Nat.pow_le_pow_right (by decide) high
  rw [bit, Nat.div_eq_of_lt (by omega)]
  rfl

/-- Bits that stand at 0 at the end add nothing. -/
theorem packBits_false3 (a b c : Bool) : packBits [a, b, c, false, false, false] = packBits [a, b, c] := by
  simp [packBits, b2n]

theorem State.onZone_b (s : State) (d : DieId) (z : Fin 64) (f : Zone → Zone) : (s.onZone d z f).mw.b = s.mw.b := by
  simp [State.onZone, State.onSep]

/-- References that continue those held follow the last of them (R129). -/
theorem refs_follow {held : List RefPoint} {first mode : Nat} (after : mode = 0 → ∀ q, held.getLast? = some q → q.key < first) :
    (mode == 0 && (match held.getLast? with
      | some q => decide (first ≤ q.key)
      | none => false)) = false := by
  cases last : held.getLast? with
  | none => simp
  | some q => simpa using fun append => after append q last

/-- Settles O27. -/
theorem handedValues : Obligations.HandedValues := by
  refine ⟨fun h s => ⟨?torque, ?reference, ?mailbox, ?ring, ?request, ?release, ?write, ?rearm⟩, fun h s => ⟨?increment, ?offset, ?refused, ?relative, ?absolute⟩⟩
  case torque =>
    intro js hjs count low high plen valid zero pads now accepted
    refine accepted.answers rfl rfl ?_
    unfold bodyExtTorque
    dsimp only
    rw [← hjs, count, if_neg (not_not.2 plen), if_neg (by simp [within, low, high, valid, zero, pads]), now]
    rfl
  case reference =>
    rintro _ _ _ _ held kept _ there rfl rfl rfl rfl mode rfl hkept plen zero pads arms points gap gap' after fits rfl accepted
    refine accepted.answers rfl rfl ((if_neg (by simp [there])).trans ((if_neg (not_not.2 plen)).trans ?_))
    have modes : rd h.params 14 1 = 0 ∨ rd h.params 14 1 = 1 ∨ rd h.params 14 1 = 2 := by omega
    have follows := refs_follow after
    rcases modes with m | m | m
    all_goals
      rw [m] at hkept points follows
      subst hkept
      dsimp only
      rw [m]
      split
      next fails =>
        refine firstFail_absurd fails ?_
        simp only [firstFail_cons_none, firstFail_nil, and_true]
        exact ⟨by simp [zero, pads, ← arms], by simpa [within] using points, by simp [gap, gap', within], follows, by simpa using fits⟩
      next => rfl
  case mailbox =>
    intro r k n hr hk there len plen zero pads data node low high room kind accepted
    obtain rfl : r = ⟨tIndex h.target % 128 / 16 % 8, Nat.mod_lt _ (by decide)⟩ := Fin.ext (by simp only [hr]; omega)
    obtain rfl : k = ⟨tIndex h.target % 128 % 16, Nat.mod_lt _ (by decide)⟩ := Fin.ext (by simp only [hk]; omega)
    refine accepted.answers rfl rfl ((if_neg fun e => e.1 plen).trans ((if_neg (not_le.2 there)).trans ((if_neg ?_).trans ((if_neg (not_le.2 room)).trans ((if_neg ?_).trans ?_)))))
    · rcases kind with e | ⟨e, -⟩ <;> simp [e, len, zero, pads]
    · dsimp only
      rw [data, node]
      rcases kind with e | ⟨e, off⟩
      · simp [e, within, low, high]
      · simp [e, within, low, high]
        simpa using off
    · cases (s.dequeue h).isFlier (actingDie h h.die) <;> rfl
  case ring =>
    rintro rs _ rfl code hrs there zero master idle accepted
    refine accepted.answers rfl rfl ?_
    unfold bodyRingStop
    simp only [decide_eq_true_eq, ← hrs]
    refine (if_neg ?_).trans ((if_neg (by simp [code, zero])).trans ((if_neg (by simpa using master)).trans (if_neg ?_)))
    · by_cases all : tIndex h.target = tAll <;> simp [all]
      exact there all
    · by_cases go : rd h.params 0 1 = 0 <;> simp [go]
      exact idle go
  case request =>
    intro z e hz stamp arm zero defined accepted
    obtain rfl : z = ⟨tIndex h.target % 64, Nat.mod_lt _ (by decide)⟩ := Fin.ext hz
    refine accepted.answers rfl rfl ?_
    unfold bodyZoneRequest
    dsimp only
    rw [stamp]
    refine (if_neg (by simp [arm, zero])).trans ((if_neg (by simpa [Option.isNone_iff_eq_none, Option.isSome_iff_ne_none] using defined)).trans ?_)
    split <;> rfl
  case release =>
    intro z v u hz arm zero defined
    obtain rfl : z = ⟨tIndex h.target % 64, Nat.mod_lt _ (by decide)⟩ := Fin.ext hz
    refine ⟨fun holds accepted => accepted.answers rfl rfl ?_, fun free asked accepted => accepted.answers rfl rfl ?_⟩
    · refine (if_neg (by simp [arm, zero])).trans ?_
      rw [defined]
      dsimp only
      rw [if_pos holds, State.onZone_b]
    · refine (if_neg (by simp [arm, zero])).trans ?_
      rw [defined]
      exact (if_neg free).trans (if_pos asked)
  case write =>
    rintro _ rfl zero leads outs accepted
    refine accepted.answers rfl rfl ((if_neg ?_).trans ((if_neg ?_).trans ?_))
    · simpa [zero] using leads
    · simpa [or_imp] using outs
    · cases (s.dequeue h).isFlier (actingDie h h.die) <;> rfl
  case rearm =>
    intro wd up what zero encs zero' flier hwd hup accepted
    refine accepted.answers rfl rfl ?_
    unfold bodyFioRearm
    refine (if_neg (by simp [zero, encs, zero']; omega)).trans ?_
    simp only [bit_high what (by decide : 3 ≤ 3), bit_high what (by decide : 3 ≤ 4), bit_high what (by decide : 3 ≤ 5), Bool.false_and, List.filter_false,
      List.filter_nil, Bool.not_true, List.isEmpty_nil, if_true, List.any_nil, List.foldl_nil, ← hwd, ← hup, flier, Bool.or_false, packBits_false3]
    refine (if_neg (by decide)).trans (congrArg₂ (fun t r => answer t r) rfl ?_)
    rw [List.append_assoc _ (outBits _)]
    rfl
  case increment =>
    intro free s0 s3 low high accepted
    refine accepted.answers rfl rfl ((if_neg ?_).trans (if_neg ?_))
    · simp only [free, Bool.false_or, Bool.or_eq_true, Bool.and_eq_true, beq_iff_eq, not_or, not_and, Bool.not_eq_true]
      exact ⟨s0, s3⟩
    · simp [within, low, high]
  case offset =>
    intro free fits accepted
    exact accepted.answers rfl rfl ((if_neg (by simp [free])).trans (if_pos fits))
  case refused =>
    intro free far accepted
    exact accepted.answers rfl rfl ((if_neg (by simp [free])).trans (if_neg (by simp [far])))
  case relative =>
    intro free still zero way stamp early accepted
    refine accepted.answers rfl rfl ?_
    unfold bodyTimeForceStep
    dsimp only
    rw [way]
    refine (if_neg ?_).trans ((if_neg ?_).trans ?_)
    · simpa [free] using still
    · simpa [zero, Option.isSome_iff_ne_none] using stamp
    · rw [if_pos early]
      rfl
  case absolute =>
    intro t free still zero way stamp accepted
    refine accepted.answers rfl rfl ?_
    unfold bodyTimeForceStep
    dsimp only
    rw [way]
    refine (if_neg ?_).trans ((if_neg ?_).trans ?_)
    · simpa [free] using still
    · simp [zero, stamp]
    · rw [stamp]
      rfl

end Sys2Proof.Machine

/-! SUPPORT. The statement about committing, discarding, synchronisation, switch-over, injection, events, the place test and Preserve (R50, R51, R60, R61, R417, R418, R436,
R439, R440, R448, R453, R454). -/

namespace Sys2Proof.Machine

/-- One more injection is held in its place (R436). -/
theorem State.heldInjections_append (s : State) (d : DieId) (mw : Bool) (i : Injection) (flier : mw = true → s.isFlier d = true) :
    (s.onInjections d mw fun l => l ++ [i]).heldInjections d = s.heldInjections d + 1 := by
  cases mw with
  | false => simp [State.heldInjections, State.onInjections, State.isFlier]; omega
  | true =>
    have on := flier rfl
    simp [State.isFlier] at on
    simp [State.heldInjections, State.onInjections, State.onTrapeze, State.isFlier, on]; omega

/-- Settles O28. -/
theorem packageCommands : Obligations.PackageCommands := by
  intro h s
  refine ⟨?commit, ?discard, ?sync, ?stays, ?switch, ?inject, ?full, ?clear, ?test, ?freeze, ?thaw, ?thawed⟩
  case commit =>
    rintro _ _ rfl rfl soon far zero own periods some_ all free accepted
    refine accepted.answers rfl rfl ?_
    unfold bodyCommit
    dsimp only
    split
    next fails =>
      split at fails
      · cases fails
      · refine firstFail_absurd fails ?_
        simp only [firstFail_cons_none, firstFail_nil, and_true]
        refine ⟨by simpa using soon, ?_, by simp; omega, free⟩
        cases changes : ((s.dequeue h).die (actingDie h h.die)).changesPeriods with
        | false => simpa [zero, own] using far
        | true => simpa [zero, own, periods changes] using far
    next => rfl
  case discard =>
    intro free accepted
    exact accepted.answers rfl rfl (if_neg (by simp [free]))
  case sync =>
    intro there none_ fit present running up calm flier accepted
    exact accepted.answers rfl rfl ((if_neg (by simp [there])).trans ((if_neg (by rw [none_]; decide)).trans ((if_neg (by rw [fit, present, running, up, calm]; decide)).trans
      (if_pos flier))))
  case stays =>
    intro there die zero flier accepted
    exact accepted.answers rfl rfl ((if_neg (by simp [there])).trans ((if_neg (by simp [die, zero])).trans (if_pos flier)))
  case switch =>
    intro there die zero other exact_ calm fit flier accepted
    exact accepted.answers rfl rfl ((if_neg (by simp [there])).trans ((if_neg (by simp [die, zero])).trans ((if_neg (by simp [other])).trans
      ((if_neg (by simp [exact_, calm])).trans ((if_neg (by rw [fit]; decide)).trans (if_pos flier))))))
  case inject =>
    rintro _ _ _ rfl rfl rfl det mode nbits path delay arg zero target few mw hmw
    have arm : ¬rd h.params 1 1 = 2 := by omega
    have good : (decide (14 < rd h.params 0 1) || decide (2 < rd h.params 1 1) || (if rd h.params 0 1 = 0 then !within (rd h.params 2 1) 1 2 else rd h.params 2 1 != 0) ||
        decide ((if rd h.params 0 1 = 13 then 3 else 0) < rd h.params 3 1) || decide (1000000000 < rd h.params 4 4) || decide (injectArg (rd h.params 0 1) < rd h.params 8 4) ||
        !zeroAt h.params 12 4 || !injectTarget h.target (rd h.params 0 1)) = false := by
      simp [within, zero, target, delay, arg]
      exact ⟨⟨⟨det, by omega⟩, nbits⟩, by split at path <;> simp_all⟩
    refine ⟨fun off accepted => accepted.answers rfl rfl ?_, fun on flier accepted => accepted.answers rfl rfl ?_⟩
    · unfold bodyFaultInject
      dsimp only
      rw [← hmw, good, off, if_neg (by simp [few]), if_neg (by decide), if_neg (by simp)]
      simp only [arm, if_false]
      rw [State.heldInjections_append (mw := false) (flier := by simp)]
      rfl
    · unfold bodyFaultInject
      dsimp only
      rw [← hmw, good, on, flier, if_neg (by simp [few]), if_neg (by decide), if_neg (by decide)]
      simp only [arm, if_false]
      rw [State.heldInjections_append _ _ _ _ fun _ => flier]
      rfl
  case full =>
    intro arm full flier accepted
    exact accepted.answers rfl rfl (if_pos (by simp [arm, full, flier]))
  case clear =>
    rintro _ rfl accepted
    exact accepted.answers rfl rfl rfl
  case test =>
    rintro r c u idle scope die unit ready _ rfl accepted
    refine accepted.answers rfl rfl ((if_neg (by simp [idle])).trans ?_)
    dsimp only
    rw [scope]
    dsimp only
    have other : ¬(r = 2 ∧ c = 0) := by omega
    rw [if_neg (by simp only [die, other, false_or, or_false, not_not]; exact unit), if_neg other, if_pos ready]
  case freeze =>
    rintro _ target long zero rfl accepted
    exact accepted.answers rfl rfl ((if_neg (by simp [target])).trans (if_neg (by simp [long, zero])))
  case thaw =>
    intro target frozen accepted
    exact accepted.answers rfl rfl ((if_neg (by simp [target])).trans (if_neg (by simp [frozen])))
  case thawed =>
    intro target open_ accepted
    exact accepted.answers rfl rfl ((if_neg (by simp [target])).trans (if_pos (by simp [open_])))

end Sys2Proof.Machine

/-! SUPPORT. The statements about resets, the end of Seed and the configuration image (R33, R390, R408, R447, R458, R459, R461, R467 to R476). -/

namespace Sys2Proof.Machine

theorem State.testSequencer_die (s : State) (d : DieId) : s.testSequencer.die d = s.die d := by
  unfold State.testSequencer
  split
  · rfl
  · simp [State.onTrapeze]

/-- Settles O29. -/
theorem resetsAndSeed : Obligations.ResetsAndSeed := by
  refine ⟨fun strap s => ⟨⟨_, rfl, ?powered⟩, ⟨_, rfl, ?reset⟩⟩, fun d s => ⟨fun t ready ht => ⟨?failed, ?joins, ?halts⟩, ?tested, ?waits, ?restarts, ?stuck, ?removed, ?returned⟩⟩
  case powered =>
    refine ⟨rfl, rfl, rfl, rfl, rfl, rfl, rfl, rfl, rfl, rfl, rfl, rfl, bne_iff_ne, fun d => ?_⟩
    cases d <;> exact ⟨rfl, rfl, rfl, rfl⟩
  case reset =>
    refine ⟨rfl, rfl, rfl, rfl, rfl, rfl, rfl, rfl, rfl, rfl, rfl, rfl, bne_iff_ne, fun d => ?_⟩
    cases d <;> refine ⟨rfl, rfl, rfl, ?_⟩ <;> simp [State.restart, State.die, Die.restarted]
  case failed =>
    subst ht
    intro failed
    exact (if_neg (by simp [ready])).trans (if_pos failed)
  case joins =>
    subst ht
    intro passed agree
    refine (if_neg (by simp [ready])).trans ((if_neg (not_not.2 passed)).trans (if_pos ?_))
    rw [State.testSequencer_die, agree]
  case halts =>
    subst ht
    intro passed differ
    refine (if_neg (by simp [ready])).trans ((if_neg (not_not.2 passed)).trans (if_neg ?_))
    rw [State.testSequencer_die]
    exact differ
  case tested =>
    intro b tested
    exact if_pos (by rw [tested]; rfl)
  case waits =>
    intro waits
    exact if_pos (by simp [waits])
  case restarts =>
    intro halted auto old free
    refine ⟨_, if_pos (by simp [halted, auto, old, free]), ?_⟩
    simp [Die.cleared]
  case stuck =>
    intro halted barred
    exact if_neg (by rcases barred with e | e <;> simp [e])
  case removed =>
    intro present on alone phase
    refine ⟨_, (if_neg (by simp [present, on])).trans rfl, ?_⟩
    rw [alone]
    simp [phase]
  case returned =>
    intro present off
    refine ⟨_, if_pos (by simp [present, off]), ?_⟩
    simp

/-- Settles O30. -/
theorem imageEvents : Obligations.ImageEvents := by
  intro s
  refine ⟨?idle, ?header, ?section_, ?signature, ?apply, ?early, ?ripe, ?later⟩
  case idle =>
    intro p idle
    exact if_pos (by simp [idle])
  case header =>
    intro loading fresh
    exact (if_neg (by simp [loading])).trans (by simp [fresh])
  case section_ =>
    intro i loading header signed next more
    refine (if_neg (by simp [loading])).trans ?_
    rw [if_pos (by simp [header, signed, ← next, more])]
  case signature =>
    rintro _ loading header fresh rfl
    refine ⟨fun ok => (if_neg (by simp [loading, header, fresh])).trans (if_pos ok), fun bad => (if_neg (by simp [loading, header, fresh])).trans (if_neg (by simp [bad]))⟩
  case apply =>
    intro due fresh opening
    refine ⟨_, if_pos ⟨due, fresh, by simpa using opening⟩, congrArg Life.applied (State.blossomApply_life s)⟩
  case early =>
    intro early
    exact if_neg fun e => early e.1
  case ripe =>
    intro blossom due opening
    exact ⟨_, if_pos ⟨blossom, due, by simpa using opening⟩, congrArg Life.phase (State.ripeApply_life s)⟩
  case later =>
    intro early
    exact if_neg fun e => early e.2.1

end Sys2Proof.Machine

/-! SUPPORT. The statement about the debug port (R478 to R481). -/

namespace Sys2Proof.Machine

/-- What an erased stretch of flash leaves (R481). -/
theorem find_erased (f : Memory) (a n x : Nat) :
    (f.filter fun c => !(decide (a ≤ c.1) && decide (c.1 < a + n))).find? (fun c => c.1 == x) =
      if a ≤ x ∧ x < a + n then none else f.find? fun c => c.1 == x := by
  rw [List.find?_filter]
  split
  next inside =>
    rw [List.find?_eq_none]
    rintro c - hit
    simp only [decide_eq_true_eq, beq_iff_eq] at hit
    obtain ⟨out, rfl⟩ := hit
    simp [inside] at out
  next outside =>
    congr 1
    funext c
    by_cases hit : c.1 = x
    · subst hit
      simp only [Bool.not_and, beq_self_eq_true]
      simp
      omega
    · simp [hit]

/-- Settles O31. -/
theorem debugPort : Obligations.DebugPort := by
  intro s
  refine ⟨⟨_, rfl⟩, rfl, ⟨_, rfl⟩, ⟨_, rfl, rfl, rfl, rfl, rfl, rfl⟩, fun closed => if_pos closed, fun open_ spent => (if_neg (not_le.2 open_)).trans (if_pos spent), ?nonce,
    ?response, ⟨_, rfl, rfl, rfl, rfl, rfl, rfl⟩, ?read, fun w a n shut => if_pos (by simp [shut]), ?full, ?shut⟩
  case nonce =>
    intro open_ fresh
    exact ⟨_, le_length 32 _, (if_neg (not_le.2 open_)).trans (if_neg (not_le.2 fresh))⟩
  case response =>
    intro bs n asked
    refine ⟨fun ok => ?_, fun bad => ?_⟩ <;> (change execDebugResponse bs s = _; unfold execDebugResponse; rw [asked])
    · exact if_pos ok
    · exact if_neg (by simp [bad])
  case read =>
    intro w a n reads
    exact ⟨fun fits => (if_neg (by simp [reads])).trans (if_neg (not_lt.2 fits)), fun long => (if_neg (by simp [reads])).trans (if_pos long)⟩
  case full =>
    intro full
    have on : ¬(!s.debugFull) = true := by simp [full]
    refine ⟨fun d a bs fits => (if_neg on).trans (if_neg (not_lt.2 fits)), fun d a bs fits => (if_neg on).trans (if_neg (not_lt.2 fits)), ?memory,
      fun w a bs long => (if_neg on).trans (if_pos long), fun d k => if_pos full, fun d k halted => if_pos (by simp [full, halted]), ?flash,
      fun cs a n long => ⟨(if_neg on).trans (if_pos long), (if_neg on).trans (if_pos long)⟩,
      fun cs a bs fits => (if_neg on).trans (if_neg (not_lt.2 fits)), fun d which bs present len => if_pos (by simp [full, present, len])⟩
    case memory =>
      intro w a bs other fits
      refine (if_neg on).trans ((if_neg (not_lt.2 fits)).trans ?_)
      cases w with
      | preserve d => exact absurd rfl (other d).1
      | registers d => exact absurd rfl (other d).2
      | _ => rfl
    case flash =>
      intro cs a n fits
      refine ⟨(if_neg on).trans (if_neg (not_lt.2 fits)), _, (if_neg on).trans (if_neg (not_lt.2 fits)), rfl, rfl, fun x => ?_⟩
      rw [← find_erased]
      simp only [State.onImage, State.onMw_mw, ImageLoad.onFlash, ImageLoad.flash]
      split <;> simp_all
  case shut =>
    intro shut w d k cs which a n bs
    have off : (!s.debugFull) = true := by simp [shut]
    have never : ¬s.debugFull = true := by simp [shut]
    exact ⟨if_pos off, if_neg never, if_neg (by simp [shut]), if_pos off, if_pos off, if_pos off, if_neg (by simp [shut])⟩

end Sys2Proof.Machine

/-! SUPPORT. The statement about the period: tick, boundary, cut-off, at-epoch execution, commit and readmission (R32, R33, R37, R52 to R54, R80, R331, R413). -/

namespace Sys2Proof.Machine

/-- What the tick of the time bases decides: the clocks, the dies, the number of the boundary and the next nominal instant. -/
def State.clock (s : State) : Nat × Vector TimeBase 4 × Die × Die × Nat × Nat := (s.mw.ticks, s.mw.tb, s.t0, s.t1, s.mw.b, s.mw.nextNominal)

@[simp] theorem State.onNet_clock (s : State) (f : Network → Network) : (s.onNet f).clock = s.clock := rfl

/-- A frame put on the wire moves no clock. -/
theorem State.transmit_clock (s : State) (p : Fin 6) (q : Queued) : (s.transmit p q).clock = s.clock := by
  unfold State.transmit
  cases q.mark <;> rfl

/-- Frames that leave on the wires move no clock. -/
theorem State.wireTick_clock (s : State) (p : Fin 6) : (s.wireTick p).clock = s.clock := by
  unfold State.wireTick
  dsimp only
  by_cases busy : 400 < s.mw.net.wires[p]
  · rw [if_pos busy, State.onNet_clock]
  · rw [if_neg busy]
    cases nextQueued s.mw.net.queues[p] with
    | none =>
      dsimp only
      split <;> rfl
    | some q => exact State.transmit_clock ..

theorem State.wires_clock (l : List (Fin 6)) : ∀ s : State, (l.foldl (fun s p => s.wireTick p) s).clock = s.clock := by
  induction l with
  | nil => exact fun _ => rfl
  | cons p r ih => exact fun s => (ih _).trans (s.wireTick_clock p)

theorem State.tpoBack_clock (s : State) : s.tpoBack.clock = s.clock := by
  unfold State.tpoBack
  (repeat' split) <;> rfl

theorem State.boundaryDue_iff (s : State) (lead : Nat) : s.boundaryDue lead = true ↔
    match s.mw.trapeze.curtain.bind fun c => c.refNext with
      | some t => t ≤ s.now + lead
      | none => s.mw.nextNominal ≤ (s.mw.tb[2]).ns + lead := by
  unfold State.boundaryDue
  cases s.mw.trapeze.curtain.bind fun c => c.refNext <;> simp

/-- A boundary that fires is numbered 0 the first time and one more at each later one (R33). -/
theorem State.fire_number (s : State) : s.fire.mw.b = (if s.mw.fired = true then s.mw.b + 1 else 0) ∧ s.fire.mw.fired = true := by
  obtain ⟨l, before, after⟩ := s.fire_moves
  have number := after.number
  have fired := after.fired
  simp only [Life.atBoundary, before.number, before.fired] at number fired
  exact ⟨number, fired⟩

@[simp] theorem State.onDie_target (s : State) (d : DieId) (f : Die → Die) (k i : Nat) : (s.onDie d f).target k i = s.target k i := by
  simp [State.target]

@[simp] theorem State.spoilCommit_target (s : State) (u : UnitId → Bool) (r k i : Nat) : (s.spoilCommit u r).target k i = s.target k i := by
  simp [State.spoilCommit]

/-- The time bases moved by one tick (R331). -/
def State.ticked (s : State) : State := s.onMw fun m => { m with ticks := m.ticks + 1, tb := m.tb.map TimeBase.tick }

/-- A step of TB2 sets the nominal instant of the next boundary anew (R347). -/
def State.regridded (s : State) (stepped : Prop) [Decidable stepped] : State :=
  if stepped then s.onMw fun m => { m with nextNominal := s.regrid } else s

theorem execTimeBaseTick_eq (s : State) : execTimeBaseTick s =
    .next ((List.finRange 6).foldl (fun s p => s.wireTick p) (s.ticked.regridded ((s.mw.tb[2]).step ≠ 0)).tpoBack) := rfl

theorem State.regridded_clock (s : State) (stepped : Prop) [Decidable stepped] : (s.regridded stepped).clock =
    (s.mw.ticks, s.mw.tb, s.t0, s.t1, s.mw.b, if stepped then s.regrid else s.mw.nextNominal) := by
  unfold State.regridded
  split <;> rfl

/-- What a tick leaves in the clocks. -/
theorem timeBaseTick_clock (s : State) : ∃ t, execTimeBaseTick s = .next t ∧ t.clock =
    (s.mw.ticks + 1, s.mw.tb.map TimeBase.tick, s.t0, s.t1, s.mw.b, if (s.mw.tb[2]).step ≠ 0 then s.ticked.regrid else s.mw.nextNominal) :=
  ⟨_, execTimeBaseTick_eq s, (State.wires_clock ..).trans ((State.tpoBack_clock _).trans (State.regridded_clock ..))⟩

/-- Settles O32. -/
theorem periodEvents : Obligations.PeriodEvents := by
  intro s
  refine ⟨?tick, fun seed due => ⟨_, if_pos ⟨seed, (s.boundaryDue_iff 0).2 due⟩, s.fire_number⟩, ?waits, fun seed fired open_ due => if_pos ⟨seed, fired, open_, (s.boundaryDue_iff 1000).2 due⟩, ?open_, ?held, rfl,
    fun d => rfl, rfl, ?ungated, ?ready, ?escalated, ?readmitted, fun d idle => if_pos (by simp [idle])⟩
  case tick =>
    obtain ⟨t, run, clock⟩ := timeBaseTick_clock s
    simp only [State.clock, Prod.mk.injEq] at clock
    obtain ⟨ticks, tb, t0, t1, number, nominal⟩ := clock
    exact ⟨t, run, ticks, tb, t0, t1, number, fun still => nominal.trans (if_neg (not_not.2 still))⟩
  case waits =>
    intro waits
    exact if_neg fun e => waits.elim e.1 fun late => late ((s.boundaryDue_iff 0).1 e.2)
  case open_ =>
    rintro waits
    refine if_neg ?_
    rintro ⟨seed, fired, open_, due⟩
    rcases waits with e | e | e | e
    · exact absurd (open_.symm.trans e) (by decide)
    · exact absurd (fired.symm.trans e) (by decide)
    · exact seed e
    · exact e ((s.boundaryDue_iff 1000).1 due)
  case held =>
    rintro d works _ rfl
    exact if_neg (by simp [works])
  case ungated =>
    intro d k works waits
    refine ⟨_, if_pos (by rw [works, waits]; rfl), ?_⟩
    simp
  case ready =>
    intro u d c place works woken fitted whole pending mine fresh open_
    refine ⟨_, rfl, ?_⟩
    simp at mine fresh
    cases d <;> cases at_ : u.die <;> simp [at_, trapezeDie] at place <;> simp at works woken fitted whole pending
    all_goals simp [trapezeDie, works, woken, fitted, whole, pending, mine, fresh, open_, State.onDie, State.setDie]
  case escalated =>
    rintro d ks t works asked bad rfl rfl
    refine ⟨fun some_ => ?_, fun none_ => ?_⟩
    · refine (if_neg (by simp [works, asked])).trans ((if_neg (Bool.eq_false_iff.1 bad)).trans ?_)
      simp only [State.spoilCommit_target, State.onDie_target]
      exact if_neg fun e => some_ (List.isEmpty_iff.1 e)
    · refine (if_neg (by simp [works, asked])).trans ((if_neg (Bool.eq_false_iff.1 bad)).trans ?_)
      simp only [State.spoilCommit_target, State.onDie_target]
      exact if_pos (List.isEmpty_iff.2 none_)
  case readmitted =>
    intro d works asked ok
    exact (if_neg (by simp [works, asked])).trans (if_pos ok)

end Sys2Proof.Machine

/-! SUPPORT. The statement about queues and the registers of a port (R61 to R73). -/

namespace Sys2Proof.Machine

/-- The registers of a port on BAR0 (Table 3.4). -/
theorem exec_register (d : DieId) (o : BitVec 16) (w : Word) (s : State) (there : s.reachable d = true) : exec (.registerWrite d ⟨false, o⟩ w) s =
    if o.toNat = 0x10 then .next (s.clearQerr d false w)
    else if o.toNat = 0x14 then .next (s.clearQerr d true w)
    else if 0x100 ≤ o.toNat ∧ o.toNat < 0x900 then .next (s.writeBlock d ⟨(o.toNat - 0x100) / 32 % 64, Nat.mod_lt _ (by decide)⟩ ((o.toNat - 0x100) % 32) w)
    else if 0x1000 ≤ o.toNat ∧ o.toNat < 0x1200 ∧ o.toNat % 8 = 0 then
      .next (s.ringDoorbell d ⟨(o.toNat - 0x1000) / 8 % 64, Nat.mod_lt _ (by decide)⟩ (w.toNat % 65536))
    else .next s :=
  (if_neg (by simp [there])).trans (if_neg Bool.false_ne_true)

/-- The registers of a port on BAR2, its MSI-X table (R71). -/
theorem exec_register2 (d : DieId) (o : BitVec 16) (w : Word) (s : State) (there : s.reachable d = true) :
    exec (.registerWrite d ⟨true, o⟩ w) s = .next (s.writeBar2 d o.toNat w) :=
  (if_neg (by simp [there])).trans (if_pos rfl)

theorem State.onDie_congr {s : State} {d : DieId} {f g : Die → Die} (same : f (s.die d) = g (s.die d)) : s.onDie d f = s.onDie d g := by
  unfold State.onDie
  rw [same]

theorem State.onDie_onDie (s : State) (d : DieId) (f g : Die → Die) : (s.onDie d f).onDie d g = s.onDie d fun x => g (f x) := by
  cases d <;> rfl

/-- A vector of the MSI-X table takes its address and data (R71). -/
theorem State.writeBar2_entry (s : State) (d : DieId) (v : Fin 32) (w : Word) (e f : Word × Word × Word) (k : Nat) (held : e = ((s.die d).port.msixTable)[v])
    (word : k = 0 ∧ f = (w, e.2) ∨ k = 4 ∧ f = (e.1, w, e.2.2) ∨ k = 8 ∧ f = (e.1, e.2.1, w)) :
    s.writeBar2 d (16 * v.val + k) w = s.onPort d fun p => { p with msixTable := p.msixTable.set v f } := by
  have vector : (16 * v.val + k) / 16 % 32 = v.val := by omega
  have field : (16 * v.val + k) % 16 = k := by omega
  unfold State.writeBar2
  rw [if_neg (by omega)]
  simp only [vector, field]
  rcases word with ⟨rfl, rfl⟩ | ⟨rfl, rfl⟩ | ⟨rfl, rfl⟩ <;> (refine State.onDie_congr ?_; simp only [held])

/-- The vector control of the MSI-X table masks a vector, and sends the message that waited for its unmasking (R71). -/
theorem State.writeBar2_control (s : State) (d : DieId) (v : Fin 32) (w : Word) : s.writeBar2 d (16 * v.val + 12) w =
    if bit w.toNat 0 = true then s.onPort d fun p => { p with msixMask := p.msixMask ||| (1#32 <<< v.val) }
    else if (s.die d).port.msixPending.getLsbD v.val = true then
      (s.onPort d fun p => { p with msixMask := p.msixMask &&& ~~~(1#32 <<< v.val), msixPending := p.msixPending &&& ~~~(1#32 <<< v.val) }).msix d v.val
    else s.onPort d fun p => { p with msixMask := p.msixMask &&& ~~~(1#32 <<< v.val) } := by
  have vector : (16 * v.val + 12) / 16 % 32 = v.val := by omega
  have field : (16 * v.val + 12) % 16 = 12 := by omega
  unfold State.writeBar2
  rw [if_neg (by omega)]
  simp only [vector, field]
  cases bit w.toNat 0 with
  | true => simp only [if_true, Bool.not_true, Bool.false_and, Bool.false_eq_true, if_false]; rfl
  | false =>
    simp only [Bool.not_false, Bool.true_and, State.onDie_die, State.onDie_onDie]
    rfl

theorem State.resume_none (n : Nat) (d : DieId) (q : Fin 64) (s : State) (none_ : (s.queue d q).waiting = []) : s.resume n d q = s := by
  cases n with
  | zero => rfl
  | succ n =>
    unfold State.resume
    rw [none_]
    rfl

/-- Settles O33. -/
theorem queueEvents : Obligations.QueueEvents := by
  intro d q s
  refine ⟨fun there => ⟨fun i => ?bell, fun w => ?enable, ?disable, fun hi w => ?errors, ?epoch, fun replies => ?lost, fun w => ⟨?low, ?high⟩, fun o w => ?block, fun w => ?ring,
    fun v w e he => ?vectors⟩, fun seen => ⟨fun write at_ => ?dma, fun on memory => ?bus, fun master none_ => ?resume⟩, fun far i w hi bar2 o => ?unreached, fun dark on memory write => ?unseen,
    ?drained, ?signal⟩
  case bell => exact congrArg _ (if_pos there)
  case enable => exact congrArg _ (if_pos there)
  case disable => exact congrArg _ (if_pos there)
  case errors => exact congrArg _ (if_pos there)
  case epoch => exact congrArg _ (if_pos there)
  case lost => exact congrArg _ (if_pos (by simp [there, replies]))
  case low => exact (exec_register d _ w s there).trans (if_pos rfl)
  case high => exact (exec_register d _ w s there).trans ((if_neg (by decide)).trans (if_pos rfl))
  case block =>
    have at_ : (BitVec.ofNat 16 (0x100 + 32 * q.val + o.val)).toNat = 0x100 + 32 * q.val + o.val := by
      rw [BitVec.toNat_ofNat]; omega
    have block : ∀ p, (⟨(0x100 + 32 * q.val + o.val - 0x100) / 32 % 64, p⟩ : Fin 64) = q := fun _ => Fin.ext (by dsimp only; omega)
    have register : (0x100 + 32 * q.val + o.val - 0x100) % 32 = o.val := by omega
    rw [exec_register _ _ _ _ there]
    simp only [at_]
    rw [if_neg (by omega), if_neg (by omega), if_pos (by omega), block, register]
  case ring =>
    have at_ : (BitVec.ofNat 16 (0x1000 + 8 * q.val)).toNat = 0x1000 + 8 * q.val := by
      rw [BitVec.toNat_ofNat]; omega
    have bell : ∀ p, (⟨(0x1000 + 8 * q.val - 0x1000) / 8 % 64, p⟩ : Fin 64) = q := fun _ => Fin.ext (by dsimp only; omega)
    rw [exec_register _ _ _ _ there]
    simp only [at_]
    rw [if_neg (by omega), if_neg (by omega), if_neg (by omega), if_pos (by omega), bell]
  case vectors =>
    have at_ : ∀ k, k ≤ 12 → (BitVec.ofNat 16 (16 * v.val + k)).toNat = 16 * v.val + k := fun k _ => by rw [BitVec.toNat_ofNat]; omega
    refine ⟨fun k f word => ?_, fun mask => ?_, fun unmask pending => ?_⟩
    · rw [exec_register2 _ _ _ _ there, at_ k (by omega), State.writeBar2_entry s d v w e f k he word]
    · rw [exec_register2 _ _ _ _ there, at_ 12 (by omega), State.writeBar2_control, if_pos mask]
    · rw [exec_register2 _ _ _ _ there, at_ 12 (by omega), State.writeBar2_control, if_neg (by simp [unmask]), if_pos pending]
  case dma => exact if_pos (by rcases at_ with e | e <;> simp [seen, e])
  case bus => exact congrArg _ (if_pos seen)
  case resume =>
    refine (if_neg (by simp [seen, master])).trans ?_
    rw [State.resume_none _ _ _ _ none_, none_]
    rfl
  case unreached =>
    refine ⟨congrArg _ (if_neg (by simp [far])), congrArg _ (if_neg (by simp [far])), congrArg _ (if_neg (by simp [far])), congrArg _ (if_neg (by simp [far])),
      if_pos (by simp [far]), congrArg _ (if_neg (by simp [far])), congrArg _ (if_neg (by simp [far]))⟩
  case unseen =>
    exact ⟨congrArg _ (if_neg (by simp [dark])), if_neg (by simp [dark]), if_pos (by simp [dark])⟩
  case drained =>
    intro draining copies held awaiting
    have gone : ((s.die d).rm.held.filter fun k => k.cmd.queue.val == q.val) = [] := by simpa [List.filter_eq_nil_iff] using held
    refine ⟨_, if_neg ?_, ?_⟩
    · simpa [draining] using ⟨copies, awaiting⟩
    · rw [gone]
      simp
  case signal =>
    intro replies running vector some_
    exact if_pos (by simp [replies, running, vector, some_])

end Sys2Proof.Machine

/-! SUPPORT. The statement about links and the Flier's notices (R17, R82, R85, R421, R425, R496). -/

namespace Sys2Proof.Machine

theorem bit_31_set (w : Word) : bit (w ||| 0x80000000).toNat 31 = true := by
  rw [bit, ← Nat.testBit_eq_decide_div_mod_eq, BitVec.toNat_or, Nat.testBit_or]
  simp [Nat.testBit]

theorem die_ne_other (d : DieId) : d ≠ d.other := by cases d <;> decide

@[simp] theorem State.onPort_port (s : State) (d : DieId) (f : HostPort → HostPort) : ((s.onPort d f).die d).port = f (s.die d).port := by
  simp [State.onPort]

@[simp] theorem State.onPort_across (s : State) (d : DieId) (f : HostPort → HostPort) : (s.onPort d.other f).die d = s.die d :=
  State.onDie_ne _ _ (die_ne_other d)

@[simp] theorem State.onPort_mw (s : State) (d : DieId) (f : HostPort → HostPort) : (s.onPort d f).mw = s.mw := by
  simp [State.onPort]

/-- A port that is found again is not lost, and its queues stand (R85). -/
theorem State.portFound_port (s : State) (d : DieId) (lost : (s.die d).port.lost = true) :
    ((s.portFound d).die d).port = { (s.die d).port with lost := false } := by
  unfold State.portFound
  rw [if_neg (by simp [lost])]
  dsimp only
  split <;> simp

/-- A disabled queue whose register names a ring of Table 3.5 runs from its start (R66). -/
theorem State.enableQueue_runs {s : State} {d : DieId} {q : Fin 64} {w : Word} (idle : ((s.queue d q).enable || (s.queue d q).draining) = false)
    (size : within ({ s.queue d q with qcfg := qcfgStored w } : Queue).log2 4 12 = true) (aligned : (s.queue d q).baseLo.toNat % 4096 = 0) (command : q.val < 32) :
    s.enableQueue d q w = (s.onQueue d q fun b => { b with
      qcfg := qcfgStored w, head := 0, tail := 0, expectedSeq := 0, phase := decide (32 ≤ q.val), unsignalled := 0, cause := 0, state := .running }).portFound d := by
  unfold State.enableQueue
  rw [if_neg (by simp [idle])]
  refine (if_pos ?_).trans (if_pos command)
  rw [State.onQueue_queue]
  simp [aligned]
  exact size

/-- The notice that was awaited stands in its place once it has arrived, or goes where its command expired (R82). -/
theorem notices_arrive {n : Notice} {r : List Notice} (fresh : n.arrived = false) (put : List Notice) :
    (n :: r).takeWhile (fun v => v.arrived) ++ put ++ ((n :: r).dropWhile fun v => v.arrived).drop 1 = put ++ r := by
  simp [fresh]

/-- A die whose one copy waited past the pairing window (R82). -/
def State.aloneExpired (s : State) (d : DieId) (c : Copy) : State :=
  s.onDie d fun x => { x with rm := { x.rm with notices := [], copies := [], expired := x.rm.expired ++ [(c.cmd.queue.val, c.cmd.seq.toNat)] } }

/-- Settles O34. -/
theorem linkEvents : Obligations.LinkEvents := by
  intro d s
  refine ⟨fun seen => congrArg _ (if_pos seen), ?up, ?found, ?lcrc, ?direct, ?flit, fun l up => if_pos up, ?dark, ?notice, ?alone⟩
  case up =>
    intro present on seeded down
    refine ⟨_, if_pos (by simp [present, on, seeded, down]), ?_⟩
    unfold State.queue
    split <;> simp
  case found =>
    rintro q w _ host rfl there lost off idle low high aligned
    refine ⟨s.writeQcfg d q (w ||| 0x80000000), congrArg _ (if_pos there), ?_⟩
    unfold State.writeQcfg
    rw [if_pos (bit_31_set w), State.enableQueue_runs (by rw [off, idle]; rfl) (Bool.and_eq_true_iff.2 ⟨decide_eq_true low, decide_eq_true high⟩) aligned host]
    unfold State.queue
    rw [State.portFound_port _ _ (by simp [State.onQueue, lost])]
    simp [State.onQueue]
  case lcrc =>
    rintro up quiet fails _ rfl
    refine (if_neg (by simp [up])).trans ?_
    simp only [State.checkInjected_quiet quiet, Bool.or_false]
    rfl
  case direct =>
    intro partner down
    exact if_pos (by simp [partner, down])
  case flit =>
    intro l ok up
    exact if_neg (by simp [up])
  case dark =>
    intro l down ok
    exact ⟨if_pos (by simp [down]), if_neg (by simp [down])⟩
  case notice =>
    intro n r notices fresh
    have next : (s.die d).rm.notices.find? (fun n => !n.arrived) = some n := by simp [notices, fresh]
    refine ⟨fun awaited => ?_, fun expired => ?_⟩
    all_goals
      change execDequeueNotice d s = _
      unfold execDequeueNotice
      rw [next]
    · simp only [awaited, Bool.false_eq_true, if_false]
      congr 2
      refine State.onDie_congr ?_
      rw [notices, notices_arrive fresh]
      rfl
    · simp only [expired, if_true]
      congr 2
      refine State.onDie_congr ?_
      rw [notices, notices_arrive fresh]
      rfl
  case alone =>
    intro c catcher token partner works notices copies old
    have alone : ((s.die d).rm.copies.filter fun c => decide (c.atNs + (s.die d).cfg.trapeze.pairingNs ≤ s.now) && !(s.die d).rm.notices.any fun n =>
        n.arrived && n.names c) = [c] := by simp [notices, copies, old]
    have stale : ((s.die d).rm.notices.filter fun n => n.arrived && decide (n.atNs + (s.die d).cfg.trapeze.pairingNs ≤ s.now) &&
        !(s.die d).rm.copies.any n.names) = [] := by simp [notices]
    refine ⟨s.aloneExpired d c, (if_neg (by simp [catcher, token, partner, works])).trans ?_, by simp [State.aloneExpired], by simp [State.aloneExpired]⟩
    simp only [alone, stale, List.isEmpty_nil, if_true, List.foldl_cons, List.foldl_nil, List.map_cons, List.map_nil]
    congr 3
    refine State.onDie_congr ?_
    simp [notices, copies]

end Sys2Proof.Machine

/-! SUPPORT. The statement about the joint's own events, from enabling to the brake (R135, R149 to R157, R473). -/

namespace Sys2Proof.Machine

/-- A joint that was not being enabled is disabled without a report (R155). -/
theorem State.endDisabled_braking {s : State} {d : DieId} {j : Fin 64} {tag : Nat} (braking : (s.joint d j).state = .braking) :
    s.endDisabled d j tag = s.onJoint d j (Joint.arriveDisabled s.mw.b) := by
  unfold State.endDisabled
  simp only [braking, reduceCtorEq, if_false]
  split <;> rfl

/-- Settles O35. -/
theorem jointEvents : Obligations.JointEvents := by
  intro d j s
  refine ⟨?advance, ?advanced, fun works => ⟨?ready, ?timeout, ?released, ?soft, ?ramp, ?braked, ?deferred, ?jog, ?rest⟩, ?notEnabling, ?disabled⟩
  case advance =>
    rintro _ computes present due rfl
    refine ⟨fun open_ still => ?_, fun late => ?_⟩
    · exact (if_pos (by simp [computes, present, due])).trans (if_neg (by simp [open_, still]))
    · exact (if_pos (by simp [computes, present, due])).trans (if_pos (by simpa using late))
  case advanced =>
    intro done
    exact if_neg (by simp [done])
  case ready =>
    intro enabling braked ready
    exact if_pos (by simp [works, enabling, braked, ready])
  case timeout =>
    intro enabling braked late
    exact if_pos (by simp [works, enabling, braked, late])
  case released =>
    intro enabling released late
    exact ⟨fun fresh => (if_pos (by simp [works, enabling, released, late])).trans (if_pos fresh),
      fun stale => (if_pos (by simp [works, enabling, released, late])).trans (if_neg (by simp [stale]))⟩
  case soft =>
    intro soft late ended
    exact if_pos (by simp [works, soft, late, ended])
  case ramp =>
    intro stopping real ended
    exact ⟨fun down => (if_pos (by simp [works, stopping, real, ended])).trans (if_pos down),
      fun up => (if_pos (by simp [works, stopping, real, ended])).trans (if_neg (by simp [up]))⟩
  case braked =>
    intro braking late
    refine (if_pos (by simp [works, braking, late])).trans ?_
    rw [State.endDisabled_braking braking]
  case deferred =>
    intro tag b clear deferred at_ due off
    refine ⟨fun ok => ?_, fun cause refused => ?_⟩
    all_goals
      change execDeferredEnable d j s = _
      unfold execDeferredEnable
      rw [deferred, at_]
      refine (if_pos (by simp [works, due, off])).trans ?_
    · rw [ok]
    · rw [refused]
  case jog =>
    intro blossom enabled late
    exact if_pos (by simp [works, blossom, enabled, late])
  case rest =>
    rintro a _ _ rfl still asked rfl
    have due : ((s.die d).works && decide ((s.die d).arms[a].sigma = 0) && ((s.die d).arms[a].hostStop.isSome || (s.die d).arms[a].sepStop.isSome || (s.die d).arms[a].stopping)) = true := by
      rw [works, still]
      simpa [Option.isSome_iff_ne_none, or_assoc] using asked
    refine ⟨fun held => (if_pos due).trans ?_, fun held => (if_pos due).trans ?_⟩
    · simp only [if_neg held]
    · simp only [if_pos held]
  case notEnabling =>
    intro off
    exact ⟨if_neg (by simp [off]), if_neg (by simp [off]), if_neg (by simp [off])⟩
  case disabled =>
    intro off
    exact ⟨if_neg (by simp [off]), if_neg (by simp [off]), if_neg (by simp [off]), if_neg (by simp [off])⟩

end Sys2Proof.Machine

/-! SUPPORT. The statement about homing and the supervision of a joint (R159 to R163, R187, R191, R195, R196). -/

namespace Sys2Proof.Machine

@[simp] theorem State.onJoint_joint (s : State) (d : DieId) (j : Fin 64) (f : Joint → Joint) : (s.onJoint d j f).joint d j = f (s.joint d j) := by
  simp [State.onJoint, State.joint]

/-- Sampling the switches of a joint leaves its search as it was (R160). -/
theorem State.sampleSwitches_homing (s : State) (d : DieId) (j : Fin 64) : ((s.sampleSwitches d j).joint d j).homing = (s.joint d j).homing := by
  unfold State.sampleSwitches
  dsimp only
  (repeat' split) <;> simp only [State.onJoint_joint]

/-- The feedback of a joint is gone where it was held past its limit, or where none came while the joint was being enabled (R195). -/
theorem Joint.feedbackGone_of {x : Joint} {limit b : Nat} (gone : x.state ≠ .disabled ∧ x.state ≠ .enabling ∧ limit < x.ctl.holdCount ∨
    x.state = .enabling ∧ x.ctl.holdCount = limit + 1 ∨ x.state = .enabling ∧ x.feedbackFresh = false ∧ ∃ b0, x.softWait = some b0 ∧ limit ≤ b - b0) :
    x.feedbackGone limit b = true := by
  unfold Joint.feedbackGone
  rcases gone with ⟨up, on, held⟩ | ⟨on, held⟩ | ⟨on, stale, b0, wait, long⟩
  · split <;> simp_all
  · rw [on]
    simp [held]
  · rw [on]
    simp [stale, wait, long]

/-- A table that is not being copied is read in place (R191). -/
theorem Die.compByte_direct {x : Die} {o : Nat} (direct : x.redirect.contains (o / 512) = false) : x.compByte o = x.stores.compStore.read o :=
  if_neg (by simpa using direct)

/-- Settles O36. -/
theorem supervisionEvents : Obligations.SupervisionEvents := by
  intro d j s
  refine ⟨?idle, ?timeout, ?switch, ?event, ?index, ?hold, ?stall, fun computes => ⟨?lost, ?frozen, ?stale, ?faded⟩, ?copied, ?calm, ?moving, ?off⟩
  case idle =>
    intro idle
    refine ⟨?_, ?_, ?_⟩
    · change execSwitchSettled d j s = _
      unfold execSwitchSettled
      dsimp only
      rw [State.sampleSwitches_homing, idle]
    · change execHomeEvent d j s = _
      unfold execHomeEvent
      dsimp only
      rw [State.joint] at idle
      rw [idle]
    · change execHomingTimeout d j s = _
      unfold execHomingTimeout
      rw [idle]
  case timeout =>
    intro h homing works phase late
    change execHomingTimeout d j s = _
    unfold execHomingTimeout
    rw [homing]
    exact if_pos (by simp [works, phase, late])
  case switch =>
    rintro _ h rfl homing works method settled level fast
    change execSwitchSettled d j s = _
    unfold execSwitchSettled
    dsimp only
    rw [homing]
    exact (if_neg (by simp [works, method])).trans (if_pos (by rw [settled, level, fast]; rfl))
  case event =>
    intro h homing computes phase ready moving still raw
    change execHomeEvent d j s = _
    unfold execHomeEvent
    dsimp only
    rw [State.joint] at homing still raw
    rw [homing]
    refine (if_neg (by simp [computes])).trans ?_
    rw [phase]
    exact if_pos (by rw [ready, moving, still, raw]; rfl)
  case index =>
    intro h homing computes phase port seen
    change execHomeEvent d j s = _
    unfold execHomeEvent
    dsimp only
    rw [State.joint] at homing
    rw [homing]
    refine (if_neg (by simp [computes])).trans ?_
    rw [phase]
    exact if_pos (by rw [if_pos port]; simp [seen])
  case hold =>
    intro t still works full late
    change execReducedHold d j s = _
    unfold execReducedHold
    dsimp only
    rw [still]
    exact if_pos (by simp [works, full, late])
  case stall =>
    intro t err works late
    change execStall d j s = _
    unfold execStall
    dsimp only
    rw [err]
    exact if_pos (by simp [works, late])
  case lost =>
    intro held gone
    exact if_pos (by rw [computes, held, Joint.feedbackGone_of gone]; rfl)
  case frozen =>
    intro live on long
    exact if_pos (by simp [computes, live, on, long])
  case stale =>
    rintro _ rfl valid fresh late
    exact if_pos (by simp [computes, valid, fresh, late])
  case faded =>
    rintro _ rfl valid stale late
    exact if_pos (by simp [computes, valid, stale, late])
  case copied =>
    rintro fr _ rfl works redirected
    refine ⟨_, if_pos (by rw [works, redirected]; rfl), ?_, fun n small => ?_, by simp, by simp⟩
    · simp
    · have table : (512 * (2 * j.val + b2n fr) + n) / 512 = 2 * j.val + b2n fr := by omega
      rw [State.onDie_die]
      have inside := Memory.read_writeN_inside (s.die d).stores.compStore (512 * (2 * j.val + b2n fr)) n
        ((List.range 512).map fun n => (s.die d).compByte (512 * (2 * j.val + b2n fr) + n)) (by simpa using small)
      rw [List.getElem_map, List.getElem_range] at inside
      rw [← inside, Die.compByte_direct (by rw [table]; simp)]
  case calm =>
    intro calm
    change execStall d j s = _
    unfold execStall
    dsimp only
    rw [calm]
  case moving =>
    intro moving
    change execReducedHold d j s = _
    unfold execReducedHold
    dsimp only
    rw [moving]
  case off =>
    intro off
    refine if_neg ?_
    simp [Joint.feedbackGone, off]

end Sys2Proof.Machine

/-! SUPPORT. What a raised event leaves of a die's work, and the statement about the Juggler's events (R105 to R110, R117, R121). -/

namespace Sys2Proof.Machine

/-! ### Recording leaves a die's work -/

/-- A die without its port and what it has recorded, raised and counted. -/
def Die.work (x : Die) : Die := { x with port := {}, preserve := {}, events := {}, stats := {} }

/-- One state differs from another in its ports and in what it has recorded, raised and counted alone. -/
structure Records (s t : State) : Prop where
  work : ∀ d, (t.die d).work = (s.die d).work
  mw   : t.mw = s.mw

theorem Records.refl (s : State) : Records s s := ⟨fun _ => rfl, rfl⟩

theorem Records.trans {s t u : State} (h : Records s t) (k : Records t u) : Records s u := ⟨fun d => (k.work d).trans (h.work d), k.mw.trans h.mw⟩

theorem Records.ite {s t u : State} {p : Prop} [Decidable p] (yes : Records s t) (no : Records s u) : Records s (if p then t else u) := by
  split
  · exact yes
  · exact no

theorem Records.onDie {s : State} {d : DieId} {f : Die → Die} (work : (f (s.die d)).work = (s.die d).work) : Records s (s.onDie d f) where
  work e := by
    by_cases h : e = d
    · rw [h, State.onDie_die, work]
    · rw [State.onDie_ne _ _ h]
  mw := State.onDie_mw ..

theorem Records.emit (s : State) (m : OutMsg) : Records s (s.emit m) := ⟨fun d => by rw [State.emit_die], rfl⟩

theorem Records.onQueue (s : State) (d : DieId) (q : Fin 64) (f : Queue → Queue) : Records s (s.onQueue d q f) := .onDie rfl

theorem Records.msix (s : State) (d : DieId) (v : Nat) : Records s (s.msix d v) := .ite (.refl s) (.ite (.onDie rfl) (.emit s _))

theorem Records.writeRecord (s : State) (port : DieId) (r : Record) (d : DieId) : Records s (s.writeRecord port r d) := by
  unfold State.writeRecord
  exact .ite ((((Records.emit _ _).trans (.emit _ _)).trans (.onQueue _ _ _ _)).trans (.msix _ _ _)) (((Records.emit _ _).trans (.emit _ _)).trans (.onQueue _ _ _ _))

theorem Records.count (s : State) (d : DieId) (group inst word n : Nat) : Records s (s.count d group inst word n) := .onDie rfl

theorem Records.record (s : State) (d : DieId) (code : Nat) (source : Word) (data : List Byte) (mark : Nat) : Records s (s.record d code source data mark) := .onDie rfl

theorem Records.markEvent (s : State) (d : DieId) (e : Nat) (source : Word) (data : List Byte) (o : Occur) : Records s (s.markEvent d e source data o) := .onDie rfl

theorem Records.dropRecord (s : State) (port : DieId) (q : Fin 64) : Records s (s.dropRecord port q).2 :=
  .onQueue s port q fun q => { q with lost := sat32 (q.lost + 1), lossSeen := true }

/-- Raising an event only records (R434). -/
theorem Records.raiseFuel (fuel : Nat) (s : State) (d : DieId) (e : Nat) (source : Word) (data : List Byte) (o : Occur) :
    Records s (s.raiseFuel fuel d e source data o) := by
  induction fuel generalizing s e source data o with
  | zero =>
    unfold State.raiseFuel
    extract_lets c was s1 masked wants r port qi s2 s3
    have h1 : Records s s1 := .markEvent ..
    have h2 : Records s1 s2 := .onDie rfl
    have h3 : Records s1 s3 := .ite (.ite (h2.trans (.writeRecord ..)) (.ite ((h2.trans (.dropRecord ..)).trans (.msix ..)) (h2.trans (.dropRecord ..)))) (.refl _)
    exact h1.trans (.ite (h3.trans (.msix ..)) h3)
  | succ n ih =>
    unfold State.raiseFuel
    extract_lets c was s1 masked wants r port qi s2 s3
    have h1 : Records s s1 := .markEvent ..
    have h2 : Records s1 s2 := .onDie rfl
    have h3 : Records s1 s3 :=
      .ite (.ite (h2.trans (.writeRecord ..)) (.ite (((h2.trans (.dropRecord ..)).trans (.msix ..)).trans (ih ..)) (h2.trans (.dropRecord ..)))) (.refl _)
    exact h1.trans (.ite (h3.trans (.msix ..)) h3)

theorem Records.raise (s : State) (d : DieId) (e : Nat) (source : Word) (data : List Byte) (o : Occur) : Records s (s.raise d e source data o) := .raiseFuel ..

theorem Records.jug {s t : State} (h : Records s t) (d : DieId) : (t.die d).jug = (s.die d).jug :=
  (congrArg Die.jug (h.work d) :)

/-! ### The solver -/

@[simp] theorem State.onJug_jug (s : State) (d : DieId) (f : Juggler → Juggler) : ((s.onJug d f).die d).jug = f (s.die d).jug := by
  simp [State.onJug]

theorem State.onJug_congr {s : State} {d : DieId} {f g : Juggler → Juggler} (same : f (s.die d).jug = g (s.die d).jug) : s.onJug d f = s.onJug d g :=
  State.onDie_congr (by rw [same])

@[simp] theorem State.onJug_mw (s : State) (d : DieId) (f : Juggler → Juggler) : (s.onJug d f).mw = s.mw := by
  simp [State.onJug]

@[simp] theorem State.onJug_live (s : State) (d e : DieId) (f : Juggler → Juggler) : ((s.onJug d f).die e).live = (s.die e).live := by
  cases d <;> cases e <;> rfl

@[simp] theorem State.onJug_hasPartner (s : State) (d : DieId) (f : Juggler → Juggler) : (s.onJug d f).hasPartner = s.hasPartner := by
  cases d <;> rfl

@[simp] theorem State.onJug_follows (s : State) (d e : DieId) (f : Juggler → Juggler) : (s.onJug d f).follows e = s.follows e := by
  simp [State.follows]

/-- The arrays of the Juggler are clean where no error is held in one (R110). -/
theorem State.useJuggler_quiet {s : State} {d : DieId} (quiet : s.quiet d 0 = true) : s.useJuggler d = (s, false) := by
  have clean (l : List Nat) : l.foldl (fun s k => s.useArray d 1 k) s = s := by
    induction l with
    | nil => rfl
    | cons k l ih => rw [List.foldl_cons, State.useArray_quiet quiet, ih]
  unfold State.useJuggler
  simp [clean]

/-- The factorisation is done: the solver iterates from its stages (R106). -/
def State.factorised (s : State) (d : DieId) (sol : Solve) (stages : List Stage) (replaced : List (Nat × Nat)) : State :=
  s.onJug d fun y => { y with solve := y.solve.map fun z =>
    { z with phase := .iterate, abft := none, stages := stages, regCount := replaced.length, regStep := (replaced.head?.getD (255, 255)).1,
             regJoint := (replaced.head?.getD (255, 255)).2, tFactNs := s.now - sol.startNs } }

/-- A factorisation that succeeds tells of the pivots it replaced once in an interval (R106). -/
theorem execFactorisationDone_done {s : State} {d : DieId} {sol : Solve} {stages : List Stage} {replaced : List (Nat × Nat)}
    (solve : (s.die d).jug.solve = some sol) (computes : s.computes d = true) (phase : sol.phase = .factor) (quiet : s.quiet d 0 = true) (tests : s.quiet d 3 = true)
    (fresh : sol.abft = none) (finite : (if sol.nonfinite = true then none else sol.factorise) = some (stages, replaced)) :
    execFactorisationDone d none s =
      if 0 < replaced.length ∧ (!((s.factorised d sol stages replaced).die d).jug.regRaised) = true then
        .next (((s.factorised d sol stages replaced).onJug d fun y => { y with regRaised := true }).raise d 65 ((s.factorised d sol stages replaced).target 0 0) (le 8 sol.p))
      else .next (s.factorised d sol stages replaced) := by
  unfold execFactorisationDone
  rw [solve]
  refine (if_neg (by simp [computes, phase])).trans ?_
  rw [State.useJuggler_quiet quiet]
  refine (if_neg Bool.false_ne_true).trans ?_
  dsimp only
  rw [State.checkInjected_quiet tests, fresh]
  dsimp only
  rw [finite]
  rfl

/-- Settles O37. -/
theorem jugglerEvents : Obligations.JugglerEvents := by
  intro d s
  refine ⟨fun idle m k => ⟨?idle1, ?idle2, ?idle3, ?idle4, ?idle5, ?idle6⟩, fun sol solve => ⟨fun computes phase quiet tests => ⟨?mismatch, ?nonfinite, ?factored⟩, ?checkpoint, ?deadline,
    ?report, ?chosen, ?behind⟩⟩
  case idle1 => change execFactorisationDone d m s = _; unfold execFactorisationDone; rw [idle]
  case idle2 => change execCheckpoint d s = _; unfold execCheckpoint; rw [idle]
  case idle3 => change execJugglerDeadline d s = _; unfold execJugglerDeadline; rw [idle]
  case idle4 => change execCheckpointReport d k s = _; unfold execCheckpointReport; dsimp only; rw [idle]
  case idle5 => change execChosenCheckpoint d k s = _; unfold execChosenCheckpoint; dsimp only; rw [idle]
  case idle6 => change execCatcherBehind d s = _; unfold execCatcherBehind; dsimp only; rw [idle]
  case mismatch =>
    rintro m _ rfl
    refine ⟨fun fresh fits => ?_, fun again => ?_⟩
    all_goals
      change execFactorisationDone d (some m) s = _
      unfold execFactorisationDone
      rw [solve]
      refine (if_neg (by simp [computes, phase])).trans ?_
      rw [State.useJuggler_quiet quiet]
      refine (if_neg Bool.false_ne_true).trans ?_
      dsimp only
      rw [State.checkInjected_quiet tests]
    · exact if_pos (by simpa [fresh] using fits)
    · refine if_neg ?_
      rcases again with e | e
      · simp [e]
      · simp; omega
  case nonfinite =>
    intro fresh bad
    have none_ : (if sol.nonfinite = true then none else sol.factorise) = none := by rcases bad with e | e <;> simp [e]
    change execFactorisationDone d none s = _
    unfold execFactorisationDone
    rw [solve]
    refine (if_neg (by simp [computes, phase])).trans ?_
    rw [State.useJuggler_quiet quiet]
    refine (if_neg Bool.false_ne_true).trans ?_
    dsimp only
    rw [State.checkInjected_quiet tests, fresh]
    dsimp only
    rw [none_]
  case factored =>
    intro stages rep fresh finite done
    have run := execFactorisationDone_done solve computes phase quiet tests fresh (by rw [finite]; exact done)
    by_cases told : 0 < rep.length ∧ (!((s.factorised d sol stages rep).die d).jug.regRaised) = true
    · refine ⟨_, run.trans (if_pos told), ?_, fun none_ => absurd told.1 (by simp [none_])⟩
      rw [(Records.raise ..).jug]
      simp [State.factorised, solve, fresh]
    · refine ⟨_, run.trans (if_neg told), ?_, fun _ => State.onJug_congr (by rw [State.factorised, State.onJug_jug])⟩
      simp [State.factorised, solve, fresh]
  case checkpoint =>
    rintro computes phase quiet leads started n o rfl ho
    have early : ¬(sol.iters < 25 ∧ 25 ≤ sol.iters + max 1 sol.cfg.checkEvery) := by omega
    refine ⟨fun none_ => ?_, fun k z u some_ hz hu => ?_⟩
    · change execCheckpoint d s = _
      unfold execCheckpoint
      rw [solve]
      refine (if_neg (by simp [computes, phase, leads])).trans ?_
      rw [State.useJuggler_quiet quiet]
      refine (if_neg Bool.false_ne_true).trans ?_
      dsimp only
      rw [← ho, none_]
    · have made : (s.onJug d fun y => { y with solve := y.solve.map fun z =>
          { z with iters := sol.iters + max 1 sol.cfg.checkEvery, cur := k.it, points := z.points ++ [k] } }) = u := by
        rw [hu]
        exact State.onJug_congr (by rw [solve, hz]; rfl)
      have solved : (u.die d).jug.solve = some z := by rw [hu, State.onJug_jug]
      have run : execCheckpoint d s = if k.converged sol.cfg = true then .next (u.solveEnd d (some k))
          else if sol.timeLimit = true then .next (u.solveEnd d (z.best (sol.iters + max 1 sol.cfg.checkEvery))) else .next u := by
        unfold execCheckpoint
        rw [solve]
        refine (if_neg (by simp [computes, phase, leads])).trans ?_
        rw [State.useJuggler_quiet quiet]
        refine (if_neg Bool.false_ne_true).trans ?_
        dsimp only
        rw [← ho, some_]
        dsimp only
        rw [made, if_neg early, leads, solved]
        rfl
      exact ⟨fun converged => run.trans (if_pos converged), fun more limit => run.trans ((if_neg (by simp [more])).trans (if_pos limit)),
        fun more free => run.trans ((if_neg (by simp [more])).trans (if_neg (by simp [free])))⟩
  case deadline =>
    rintro computes due _ rfl
    refine ⟨fun leads => ?_, fun catcher free few => ?_, fun catcher free many => ?_⟩
    all_goals
      change execJugglerDeadline d s = _
      unfold execJugglerDeadline
      rw [solve]
      refine (if_neg (by simp [*])).trans ?_
      dsimp only
      rw [State.onJug_follows]
    · exact if_neg (by simp [leads])
    · exact (if_pos catcher).trans (congrArg _ (if_pos few))
    · exact (if_pos catcher).trans (congrArg _ (if_neg (not_lt.2 many)))
  case report =>
    rintro k z live other peer same ⟨q, mem, rfl⟩
    change execCheckpointReport d q.iter s = _
    unfold execCheckpointReport
    dsimp only
    rw [solve, peer]
    refine if_pos ?_
    simp [live, other, same]
    exact ⟨q, mem, rfl⟩
  case chosen =>
    rintro k catcher computes ended same iter _ rfl
    refine ⟨fun zero => ?_, fun pos made => ?_, fun later => ?_⟩
    all_goals
      change execChosenCheckpoint d k s = _
      unfold execChosenCheckpoint
      dsimp only
      rw [solve]
      refine (if_neg (by simp [catcher, computes, ended, same, iter])).trans ?_
    · exact if_pos zero
    · exact (if_neg (by omega)).trans (if_pos made)
    · exact (if_neg (by omega)).trans (if_neg (by omega))
  case behind =>
    intro w want catcher computes behind same due
    change execCatcherBehind d s = _
    unfold execCatcherBehind
    dsimp only
    rw [solve]
    dsimp only
    rw [want]
    exact if_pos (by simp [catcher, computes, behind, same, due])

end Sys2Proof.Machine

/-! SUPPORT. The statement about separation: cycles, results, stop requests, sensor frames and zone messages (R206, R214, R219, R224, R230). -/

namespace Sys2Proof.Machine

/-- The one element of a list that a test accepts is the one it finds. -/
theorem find_unique {α : Type} {l : List α} {p : α → Bool} {a : α} (mem : a ∈ l) (hit : p a = true) (one : ∀ b, p b = true → b = a) : l.find? p = some a := by
  cases found : l.find? p with
  | none => exact absurd hit (List.find?_eq_none.1 found a mem)
  | some b => rw [one b (List.find?_some found)]

/-- Settles O38. -/
theorem separationEvents : Obligations.SeparationEvents := by
  intro d s
  refine ⟨?idle, ?computed, ?computes, ?exchange, ?combined, ?release, ?strange, ?frame, ?turned, ?zone⟩
  case idle =>
    intro idle
    refine ⟨?_, ?_⟩
    · change execSepCycleCompute d s = _
      unfold execSepCycleCompute
      rw [idle]
    · change execSepResultExchange d s = _
      unfold execSepResultExchange
      dsimp only
      rw [idle]
  case computed =>
    intro cy cycle done
    change execSepCycleCompute d s = _
    unfold execSepCycleCompute
    rw [cycle]
    exact if_pos (by simp [done])
  case computes =>
    intro cy cycle computes fresh due power ready
    change ∃ t, execSepCycleCompute d s = .next t ∧ _
    unfold execSepCycleCompute
    rw [cycle]
    refine ⟨_, if_neg (by simp [computes, fresh, due, power, ready]), ?_, ?_⟩
    · simp only [State.onSep, State.onDie_die]
    · refine ⟨_, by simp only [State.onSep, State.onDie_die]; rfl, ?_⟩
      simp
  case exchange =>
    rintro cf cc rf rc _ cycle cycle' raw raw' flier dual linked fresh same rfl
    change execSepResultExchange d s = _
    unfold execSepResultExchange
    dsimp only
    rw [cycle, cycle', raw, raw']
    exact if_pos (by simp [flier, dual, linked, fresh, same])
  case combined =>
    rintro cf cc both cycle cycle' combined flier dual linked fresh same
    change execSepCombinedResult d s = _
    unfold execSepCombinedResult
    dsimp only
    rw [cycle, cycle', combined]
    exact if_pos (by simp [flier, dual, linked, fresh, same])
  case release =>
    intro a t computes reqs passed long
    change execStopRequestRelease d a s = _
    unfold execStopRequestRelease
    dsimp only
    rw [passed]
    exact if_pos (by simp [computes, long]; exact reqs)
  case strange =>
    intro port p strange
    have none_ : ((List.finRange 32).find? fun n => (s.mw.cfg.sensors[n]).enable && (s.mw.cfg.sensors[n]).udpPort == port.toNat && decide (8 ≤ p.length) &&
        (s.mw.cfg.sensors[n]).sensorId == rd p 6 2) = none :=
      List.find?_eq_none.2 fun n _ hit => strange n (by simp only [Bool.and_eq_true, beq_iff_eq] at hit; exact hit.1.1)
    refine congrArg Host.Outcome.next ?_
    unfold State.takeSight
    rw [none_]
  case frame =>
    intro port p n t on at_ id only_ magic version count len crc part stamp early
    have found : ((List.finRange 32).find? fun n => (s.mw.cfg.sensors[n]).enable && (s.mw.cfg.sensors[n]).udpPort == port.toNat && decide (8 ≤ p.length) &&
        (s.mw.cfg.sensors[n]).sensorId == rd p 6 2) = some n := by
      refine find_unique (List.mem_finRange n) ?_ fun k hit => ?_
      · have long : 8 ≤ p.length := by omega
        simp only [on, at_, id, long, beq_self_eq_true, decide_true, Bool.and_true]
      · simp only [Bool.and_eq_true, beq_iff_eq] at hit
        obtain ⟨⟨⟨on', at'⟩, -⟩, id'⟩ := hit
        exact only_ k on' at' id'
    refine congrArg Host.Outcome.next ?_
    unfold State.takeSight
    rw [found]
    dsimp only
    rw [stamp]
    split
    next fails =>
      refine firstFail_absurd fails ?_
      simp only [firstFail_cons_none, firstFail_nil, and_true]
      refine ⟨by simp [magic, version], by simp [count, len], by simp [crc], by simpa using part, by simpa using early⟩
    next => rfl
  case turned =>
    intro bytes turned
    refine congrArg Host.Outcome.next ?_
    unfold State.takeZone
    rw [turned]
  case zone =>
    intro bytes body k accepted version from_ count len
    refine congrArg Host.Outcome.next ?_
    unfold State.takeZone
    rw [accepted]
    exact if_pos ⟨version, from_, count, len⟩

end Sys2Proof.Machine

/-! SUPPORT. The statement about the dispatcher's events (R254, R266 to R271, R425). -/

namespace Sys2Proof.Machine

/-- An item completed before its deadline, not run twice, takes effect (R254, R43). -/
theorem execItemComplete_inTime {d : DieId} {k : Fin 32} {s : State} {i : Item} {n : Inst} (computes : s.computes d = true) (run : (s.die d).cores[k].run = some i)
    (once : i.retried = false) (found : (s.die d).disp.insts.find? (fun n => n.state == .exited k.val) = some n) (early : s.beforeDeadline d n.b i.cls = true)
    (free : n.frozen = none) (later : 0 < i.cls) {u : State}
    (hu : u = (((s.onDie d fun x => { x with disp := x.disp.ranOnce k.val i.entry.val }).applyOutputs d i (s.die d).cores[k].blocks (s.die d).cores[k].out
      (s.die d).cores[k].ctl).exchangeHalves d i).onDie d fun x => { x with disp := x.disp.onInst n.entry n.b fun j => { j with state := .done } }) :
    execItemComplete d k s = .next ((((((u.trace d i.entry.val 3 0 k.val (clusterOf k) i.cls i.b (s.die d).cores[k].ticks)).onCore ⟨d, k⟩ fun c =>
      { c with run := none, out := [], ctl := none, exited := false }).onCluster ⟨d, k⟩ fun m => m.complete k.val).startNext ⟨d, k⟩).reschedule d) := by
  have cls : ¬i.cls = 0 := Nat.pos_iff_ne_zero.1 later
  unfold execItemComplete
  extract_lets x c
  rw [show c.run = some i from run]
  dsimp -zeta only
  rw [show x.disp.insts.find? (fun n => n.state == .exited k.val) = some n from found]
  dsimp -zeta only
  rw [if_neg (by simp [computes])]
  extract_lets ok s1 s2 s3 s4 s5 s6 r s7 s8 s9
  have good : ok = true := early
  have h2 : s2 = s1.applyOutputs d i c.blocks c.out c.ctl := if_pos good
  have h3 : s3 = s2.exchangeHalves d i := if_pos (by rw [good, free]; rfl)
  have h4 : s4 = s3.onDie d fun x => { x with disp := x.disp.onInst n.entry n.b fun j => { j with state := .done } } := State.onDie_congr (by simp [good, cls])
  have h5 : s5 = s4 := if_neg (by simp [cls])
  have h6 : s6 = s5.trace d i.entry.val 3 0 k.val (clusterOf k) i.cls i.b c.ticks := by simp [s6, good, once, b2n]
  have h7 : s7 = s6 := if_neg (by simp [once])
  have same : s4 = u := by rw [h4, h3, h2, hu]
  simp only [s9, s8, h7, h6, h5, same]
  rfl

/-- An entry's first unreleased item is released once its reference has come (R266, R271). -/
theorem execItemRelease_eq {d : DieId} {n : Fin 1024} {s u : State} {e : ProgEntry} {i : Inst} {at_ : Nat} (settled : u = s.ringsSettle)
    (entry : (u.die d).entryOf i = some e) (found : (u.die d).disp.insts.find? (fun i => i.entry == n.val && !i.released && !i.state.ended) = some i)
    (reference : u.reference d i e = some at_) :
    execItemRelease d n s =
      if (u.computes d && decide (at_ + e.offsetNs ≤ u.now) && !(e.cls == 0 && (u.die d).holds u.mw.b)) = true then
        let v := if (!u.isFlier d && (u.die d).disp.repair.any fun r => r.1 == n.val) = true then
          (u.onDie d fun x => { x with disp := { x.disp with repair := [] } }).catcherLost d 6 else u
        .next (((v.onDie d fun x => { x with disp := x.disp.onInst n.val i.b fun j => { j with released := true } }).trace d n.val 0 0 255 e.homeNo e.cls i.b 0).reschedule d)
      else .next u := by
  unfold execItemRelease
  rw [← settled]
  extract_lets +onlyGivenNames t x
  rw [show x.disp.insts.find? (fun i => i.entry == n.val && !i.released && !i.state.ended) = some i from found]
  dsimp -zeta only
  rw [show x.entryOf i = some e from entry]
  dsimp -zeta only
  rw [reference]

/-- Settles O39. -/
theorem dispatchEvents : Obligations.DispatchEvents := by
  refine ⟨?prefetch, ?empty, ?release, ?early, ?drop, ?idle, ?complete, ?repair, ?whole, ?stalled, ?stalledMw, ?absent⟩
  case prefetch =>
    intro d k s u i computes some_ fresh arrays next n prefetched
    have fill : (u.onCore ⟨d, k⟩ fun c => match c.next with
        | some n =>
          let n := (u.die d).prefetch k n
          { c.putParams (!c.slot) n.params with next := some n, prefetched := true }
        | none => c) = u.onCore ⟨d, k⟩ fun c => { c.putParams (!c.slot) n.params with next := some n, prefetched := true } := by
      refine State.onCore_congr ?_
      rw [show (u.core ⟨d, k⟩).next = some i from next, prefetched]
    refine (if_pos ?_).trans ?_
    · simp only [computes, fresh, Bool.not_false, Bool.and_true, Bool.true_and]
      exact Option.isSome_iff_ne_none.2 some_
    · rw [← fill, arrays] <;> rfl
  case empty =>
    intro d k s none_
    exact if_neg (by rw [none_]; simp)
  case release =>
    intro d n s u e i at_ settled entry found computes reference due holds whole
    have run := execItemRelease_eq settled entry found reference
    rw [if_pos (by simp [computes, due]; exact imp_iff_not_or.1 holds), whole] at run
    refine ⟨_, run, ?_⟩
    rw [(Logs.trace ..).insts]
    simp
  case early =>
    intro d n s u e i at_ settled entry found reference early
    refine (execItemRelease_eq settled entry found reference).trans (if_neg ?_)
    rcases early with e | ⟨e, holds⟩
    · simp; omega
    · simp [e, holds]
  case drop =>
    intro d n s e i entry computes only_ named waiting late
    have due : (match i.state, (s.die d).entryOf i with
      | .waiting, some e | .ready, some e | .prefetched _, some e => !s.inTime d i e
      | _, _ => false) = true := by
      rw [waiting, entry]
      simp [late]
    have found : ((s.die d).disp.insts.find? fun i => i.entry == n.val && (match i.state, (s.die d).entryOf i with
      | .waiting, some e | .ready, some e | .prefetched _, some e => !s.inTime d i e
      | _, _ => false)) = some i := by
      rw [only_]
      exact List.find?_cons_of_pos (by rw [named, due]; simp)
    change execItemDrop d n s = _
    unfold execItemDrop
    refine Eq.trans (b := match some i with
      | some i => match (s.die d).entryOf i with
        | some e => if s.computes d then .next (s.dropInst d i e) else .next s
        | none => .next s
      | none => .next s) ?_ ?_
    · rw [← found] <;> rfl
    · dsimp only
      rw [entry]
      exact if_pos computes
  case idle =>
    intro d k s idle
    change execItemComplete d k s = _
    unfold execItemComplete
    dsimp only
    rw [idle]
  case complete =>
    intro d k s i n computes run once found early free later u hu
    exact execItemComplete_inTime computes run once found early free later hu
  case repair =>
    intro d n s e computes catcher repair entry
    have cleared : (s.onDie d fun x => { x with disp := { x.disp with repair := x.disp.repair.filter fun q => q != (n.val, true) } }) =
        s.onDie d fun x => { x with disp := { x.disp with repair := [] } } := State.onDie_congr (by simp [repair])
    change execStateRepair d n s = _
    unfold execStateRepair
    extract_lets +onlyGivenNames x
    rw [show x.disp.repair.find? (fun r => r.1 == n.val) = some (n.val, true) from by rw [show x.disp.repair = [(n.val, true)] from repair]; simp,
      show x.cfg.program.find n.val = some e from entry]
    refine (if_neg (by simp [computes, catcher])).trans ?_
    rw [cleared]
    rfl
  case whole =>
    intro d n s whole
    change execStateRepair d n s = _
    unfold execStateRepair
    dsimp only
    rw [whole]
    rfl
  case stalled =>
    intro u fails s d there die works whole quiet region
    have core : ¬(u.region.val = 0 ∧ u.cluster.val < 4 ∧ u.unit.val < 8) := fun e => region (Fin.ext e.1)
    change execHandshakeStall u fails s = _
    unfold execHandshakeStall
    rw [if_neg (by simp [there]), die]
    refine (if_neg (by rw [works, whole]; decide)).trans ?_
    rw [State.checkInjected_quiet quiet]
    simp only [core, decide_false, Bool.false_eq_true, if_false]
    rfl
  case stalledMw =>
    intro u fails s there die quiet
    change execHandshakeStall u fails s = _
    unfold execHandshakeStall
    rw [if_neg (by simp [there])]
    dsimp only
    rw [die, State.checkInjectedMw_quiet quiet]
    rfl
  case absent =>
    intro u fails s absent
    exact if_pos (by simp [absent])

end Sys2Proof.Machine

/-! SUPPORT. The statement about rings seen by their master (R284, R293, R295, R305, R306, R309, R310). -/

namespace Sys2Proof.Machine

@[simp] theorem State.onRing_ring (s : State) (r : Fin 8) (f : Ring → Ring) : (s.onRing r f).ring r = f (s.ring r) := by
  unfold State.onRing State.ring
  dsimp only
  split <;> simp

@[simp] theorem Ring.onPort_state (x : Ring) (p : RingPort) (f : RPort → RPort) : (x.onPort p f).state = x.state := by cases p <;> rfl
@[simp] theorem Ring.onPort_asNode (x : Ring) (p : RingPort) (f : RPort → RPort) : (x.onPort p f).asNode = x.asNode := by cases p <;> rfl

/-- What a master does with a frame that came whole through its buffer (R293, R295, R309). -/
def State.ringReturned (u : State) (r : Fin 8) (p : RingPort) (f : List Byte) (x : Ring) : Result :=
  if rd f 2 1 ≠ u.masterId r.val then .next (u.ringForeign r p (rd f 2 1))
  else if (!x.sends) = true then .next u
  else
    let sent := match x.sentFrom with
      | some b0 => decide ((x.sentCycle % 2 ^ 32 + 2 ^ 32 - rd f 4 4) % 2 ^ 32 ≤ x.sentCycle - b0)
      | none => false
    if (!sent) = true then .next ((u.onRing r fun y => { y with state := .stopped, sentFrom := none }).raiseMw 98 (u.ringTarget r.val) [])
    else if rd f 4 4 ≠ x.sentCycle % 2 ^ 32 then .next u
    else
      let t := (u.countMw 7 r.val (match p with
        | .a => 1
        | .b => 2)).ringTopology r p f
      if (rd f 0 1 = 2 ∧ rd f 28 2 = x.layout ∧ f.length = t.mw.cfg.frameLen r.val ∧ (t.ring r).state = .data) ∧ (!(t.ring r).settled) = true then .next (t.ringMerge r f)
      else .next t

theorem execRingFrameReturn_eq {r : Fin 8} {p : RingPort} {s v u : State} {f : List Byte} {codes : BitVec 8} {elastic ok lost lasts : Bool} {k : FrameCheck}
    (on : (s.ring r).state ≠ .off) (master : (s.ring r).state ≠ .node) (up : ((s.ring r).port p).linkUp = true)
    (count : ((s.ringReceive r p codes elastic).ringSettle r).ringCount r p f = (v, k, ok)) (buffer : v.readMwArray 0 r.val true = (u, lost, lasts)) :
    execRingFrameReturn r p ⟨f, codes, elastic⟩ s = if (!ok || lost) = true then .next u else u.ringReturned r p f (s.ring r) := by
  unfold execRingFrameReturn
  refine (if_neg (by simp [on, master, up])).trans ?_
  extract_lets +onlyGivenNames s1
  rw [show s1.ringCount r p f = (v, k, ok) from count]
  dsimp -zeta only
  rw [buffer]
  rfl

/-- Settles O40. -/
theorem ringMasterEvents : Obligations.RingMasterEvents := by
  intro r p s
  refine ⟨?up, ?absent, ?down, ?downTwice, ?loop, ?whole, ?deaf, ?returned, ?mail, ?noMail, ?retry, ?listen, ?backoff, ?data, ?waiting, ?settled⟩
  case up =>
    intro there down node
    refine (if_neg (by simp [there, down])).trans (if_neg ?_)
    simpa using node
  case absent =>
    intro absent
    exact if_pos (.inl absent)
  case down =>
    intro up
    exact if_neg (by simp [up])
  case downTwice =>
    intro down
    exact if_pos (by simp [down])
  case loop =>
    intro looped up free old
    exact if_pos (by simp [looped, up, free, old])
  case whole =>
    intro whole
    exact if_neg (by simp [whole])
  case deaf =>
    intro f codes elastic deaf
    exact if_pos (by simpa using deaf)
  case returned =>
    rintro f codes elastic v u t k ok lost lasts on master up count buffer rfl
    have run := execRingFrameReturn_eq on master up count buffer
    refine ⟨fun bad => run.trans (if_pos (by simpa using bad)), fun good kept => ?_⟩
    have whole : execRingFrameReturn r p ⟨f, codes, elastic⟩ s = u.ringReturned r p f (s.ring r) := run.trans (if_neg (by simp [good, kept]))
    refine ⟨fun foreign => whole.trans (if_pos foreign), fun own silent => whole.trans ((if_neg (not_not.2 own)).trans (if_pos (by simp [silent]))),
      fun own sends never => whole.trans ?_, fun own sends b0 sent first now => ⟨fun other => whole.trans ?_, fun data layout len state fresh => whole.trans ?_⟩⟩
    all_goals
      refine (if_neg (not_not.2 own)).trans ((if_neg (by simp [sends])).trans ?_)
    · rw [never]
      rfl
    all_goals
      refine (if_neg (by rw [sent, now]; simp)).trans ((if_neg (not_not.2 now)).trans ?_)
    · exact if_neg fun e => other e.1.1
    · exact if_pos ⟨⟨data, layout, len, state⟩, congrArg not fresh⟩
  case mail =>
    intro box n u sends fresh odd counted len crc src owner dst size hu
    have place : ∀ h, (⟨rd box 0 1 % 16, h⟩ : Fin 16) = n := fun _ => Fin.ext (by dsimp only; omega)
    have run : execMailboxReceive r box s = if rd box 2 1 = 0 ∨ ((u.ring r).nodes[n]).rxSeq = some (rd box 4 1) then .next u
        else .next ((u.onNode r n fun y => { y with rxSeq := some (rd box 4 1) }).mailMessage r n (rd box 2 1) ((box.drop 6).take (rd box 3 1))) := by
      unfold execMailboxReceive
      refine (if_neg ?_).trans ?_
      · simp [sends, fresh, (by omega : s.mw.b % 2 = 1), len, crc, src, dst, size]
        exact ⟨counted, owner⟩
      · simp only [place]
        rw [hu]
    exact ⟨fun again => run.trans (if_pos again), fun some_ first => run.trans (if_neg (not_or.2 ⟨some_, first⟩))⟩
  case noMail =>
    intro box none_
    refine if_pos ?_
    rcases none_ with e | e | e
    · simp [e]
    · simp [e]
    · simp [(by omega : s.mw.b % 2 = 0)]
  case retry =>
    intro n m rest u mail hu
    have run : execMailboxRetryExhausted r n s = if m.limit ≤ m.turns then
        match m.report with
          | some tag => .next (u.mailRecord r n.val 2 m.type_ tag m.payload)
          | none => .next u
        else .next s := by
      unfold execMailboxRetryExhausted
      rw [mail, hu] <;> rfl
    refine ⟨fun left => run.trans (if_neg (not_le.2 left)), fun spent silent => run.trans ((if_pos spent).trans ?_), fun tag spent asked => run.trans ((if_pos spent).trans ?_)⟩
    · rw [silent]
    · rw [asked]
  case listen =>
    intro listen left
    exact if_pos (by simp [listen, left])
  case backoff =>
    intro backoff left
    exact if_pos (by simp [backoff, left])
  case data =>
    intro discover applied made match_ prompt count ident delay measured acked
    refine if_pos ?_
    simp [discover, applied, made, match_, prompt, count, ident, delay]
    exact ⟨measured, acked⟩
  case waiting =>
    intro left
    exact ⟨if_neg (by simp [left]), if_neg (by simp [left])⟩
  case settled =>
    intro state
    exact if_neg (by simp [state])

end Sys2Proof.Machine

/-! SUPPORT. The statement about a ring in node role (R292, R294, R297, R301, R307, R316). -/

namespace Sys2Proof.Machine

theorem reaches_of_eq {o o' : Result} {P : State → Prop} (same : o = o') (h : ∃ t, o' = .next t ∧ P t) : ∃ t, o = .next t ∧ P t := same ▸ h

section Frame

variable {r : Fin 8} {p : RingPort} {f : List Byte} {s u : State} {k : FrameCheck} {codes : BitVec 8} {elastic : Bool}

/-- A frame with a bad header passes on as it came (R294). -/
theorem execRingNodeFrame_bad (node : (s.ring r).state = .node) (up : ((s.ring r).port p).linkUp = true) (free : ((s.ring r).port p).isolated = false)
    (long : 36 ≤ f.length) (ready : (s.ring r).asNode.state ≠ .init) (count : (s.ringReceive r p codes elastic).ringCount r p f = (u, k, false))
    (ahead : (match p with
      | .a => (u.ring r).portB
      | .b => (u.ring r).portA).closed = false) :
    execRingNodeFrame r p ⟨f, codes, elastic⟩ s = .next (u.emit (.nodeFrame r.val (p == .a) (closeFrame f false (k == .good && !elastic)))) := by
  unfold execRingNodeFrame
  refine (if_neg (by simp [node, up, free, ready]; exact long)).trans ?_
  rw [show (s.ringReceive r p (RxFrame.mk f codes elastic).codes (RxFrame.mk f codes elastic).elastic).ringCount r p (RxFrame.mk f codes elastic).bytes = (u, k, false) from count]
  simp only [Bool.false_and, Bool.false_eq_true, if_false, and_false]
  cases p with
  | a => simp [show (u.ring r).portB.closed = false from ahead]
  | b =>
    simp only [show (u.ring r).portA.closed = false from ahead, Bool.false_and, Bool.false_eq_true, if_false] <;> rfl

/-- A listening node without a master only listens to a good frame: it joins where the frame follows the one before, and passes it on (R301). -/
theorem execRingNodeFrame_listen (node : (s.ring r).state = .node) (up : ((s.ring r).port p).linkUp = true) (free : ((s.ring r).port p).isolated = false)
    (long : 36 ≤ f.length) (listen : (s.ring r).asNode.state = .listen) (alone : (s.ring r).asNode.master = none)
    (count : (s.ringReceive r p codes false).ringCount r p f = (u, .good, true)) :
    ∃ t, execRingNodeFrame r p ⟨f, codes, false⟩ s = .next t ∧ t.ring r = (u.nodeJoin r true f).ring r := by
  unfold execRingNodeFrame
  refine reaches_of_eq (if_neg (by simp [node, up, free, listen]; exact long)) ?_
  rw [show (s.ringReceive r p (RxFrame.mk f codes false).codes (RxFrame.mk f codes false).elastic).ringCount r p (RxFrame.mk f codes false).bytes = (u, .good, true) from count]
  simp only [alone, listen, Option.isSome_none, Bool.and_false, Bool.false_and, Bool.and_true, Bool.true_and, Bool.not_true, Bool.false_eq_true, if_false, and_self, if_true,
    beq_self_eq_true, Bool.not_false]
  cases p <;> (dsimp only; split <;> exact ⟨_, rfl, rfl⟩)

end Frame

section Node

variable {r : Fin 8} {s : State}

@[simp] theorem AsNode.to_state (n : AsNode) (st : NState) : (n.to st).state = st := by
  unfold AsNode.to
  split
  · assumption
  · rfl

@[simp] theorem State.onAsNode_ring (s : State) (r : Fin 8) (f : AsNode → AsNode) :
    (s.onAsNode r f).ring r = { s.ring r with asNode := f (s.ring r).asNode } := State.onRing_ring s r _

theorem State.onRing_congr {f g : Ring → Ring} (same : f (s.ring r) = g (s.ring r)) : s.onRing r f = s.onRing r g := by
  change s.onRing r (fun _ => f (s.ring r)) = _
  rw [same]
  rfl

theorem State.onAsNode_congr {f g : AsNode → AsNode} (same : f (s.ring r).asNode = g (s.ring r).asNode) : s.onAsNode r f = s.onAsNode r g :=
  State.onRing_congr (congrArg (fun n => { s.ring r with asNode := n }) same)

@[simp] theorem State.onRing_quietMw (s : State) (r : Fin 8) (f : Ring → Ring) (det : Nat) : (s.onRing r f).quietMw det = s.quietMw det := by
  unfold State.onRing
  dsimp only
  split <;> rfl

/-- A good frame at a place without an injection counts as good. -/
theorem State.ringReceive_good {p : RingPort} {f : List Byte} (codes : BitVec 8) (elastic : Bool) (quiet : s.quietMw 4 = true) (header : headerOk f = true)
    (good : frameCheck f = .good) :
    ∃ u, (s.ringReceive r p codes elastic).ringCount r p f = (u, .good, true) ∧ (u.ring r).asNode = (s.ring r).asNode := by
  have still : (s.ringReceive r p codes elastic).quietMw 4 = true := by simpa [State.ringReceive] using quiet
  unfold State.ringCount
  simp only [State.checkInjectedMw_quiet still, header, good, Option.isSome_none, Bool.false_eq_true, if_false, Bool.not_true, reduceCtorEq, or_self]
  exact ⟨_, rfl, by simp [State.ringReceive]⟩

/-- A listening node joins the master whose frame follows in step the last one it saw (R301). -/
theorem State.nodeJoin_joined {f : List Byte} {c : Nat} (last : (s.ring r).asNode.lastSeen = some (rd f 2 1, rd f 3 1, c)) (step : (c + 1) % 2 ^ 32 = rd f 4 4) :
    ((s.nodeJoin r true f).ring r).asNode.state = .joined ∧ ((s.nodeJoin r true f).ring r).asNode.master = some (rd f 2 1, rd f 3 1) := by
  unfold State.nodeJoin
  rw [if_neg (by decide)]
  dsimp only
  rw [last]
  dsimp only
  rw [if_pos ⟨rfl, rfl, step⟩, State.onAsNode_ring]
  exact ⟨AsNode.to_state _ _, rfl⟩

theorem State.emits_ring {α : Type} (l : List α) (m : α → OutMsg) (r : Fin 8) : ∀ s : State, (l.foldl (fun s a => s.emit (m a)) s).ring r = s.ring r := by
  induction l with
  | nil => exact fun _ => rfl
  | cons a l ih => exact fun s => ih _

/-- At the apply instant the part from the node is sampled and the frames that waited for it leave (R292, R297). -/
theorem State.nodeSample_ring (s : State) (r : Fin 8) : (s.nodeSample r).ring r =
    { s.ring r with asNode := { (s.ring r).asNode with inPart := s.nodeIn r, inCycle := some (s.ring r).asNode.timerCyc, flying := [] } } := by
  unfold State.nodeSample
  rw [State.onAsNode_ring, State.emits_ring]

/-- What a node does with the part of the cycle that came, once the apply instant has passed (R297). -/
def AsNode.applied (usable : Bool) (next : Option Nat) (n : AsNode) : AsNode :=
  if n.state ≠ .operational then { n with timer := next, timerCyc := (n.timerCyc + 1) % 2 ^ 32, outPart := none, latchedAge := min 15 (n.latchedAge + 1) }
  else if usable then
    let p := n.outPart.getD []
    { n with timer := next, timerCyc := (n.timerCyc + 1) % 2 ^ 32, outPart := none, latched := p, latchedAge := rd p 0 1 % 16, missing := 0 }
  else { n with timer := next, timerCyc := (n.timerCyc + 1) % 2 ^ 32, outPart := none, latchedAge := min 15 (n.latchedAge + 1), missing := n.missing + 1 }

theorem execNodeApplyInstant_due {t : Nat} (node : (s.ring r).state = .node) (timer : (s.ring r).asNode.timer = some t) (due : t ≤ s.now) :
    execNodeApplyInstant r s = .next ((s.nodeSample r).onAsNode r (AsNode.applied
      (match (s.ring r).asNode.outPart with
        | some p => bit (rd p 0 1) 4 && decide (rd p 0 1 % 16 ≠ 15)
        | none => false)
      (if (s.ring r).asNode.tsNs = 0 then none else some (t + (s.ring r).asNode.tsNs)))) := by
  unfold execNodeApplyInstant
  dsimp only
  rw [timer]
  refine (if_neg (by simp [node, due])).trans ?_
  rfl

end Node

/-- Settles O41. -/
theorem ringNodeEvents : Obligations.RingNodeEvents := by
  intro r p f s
  refine ⟨?other, ?frame, ?sample, ?apply, ?loss, ?isolate, ?joined⟩
  case other =>
    intro other
    refine ⟨fun codes elastic => if_pos (.inl other), ?_, if_neg fun ⟨node, _⟩ => other node⟩
    change execNodeApplyInstant r s = _
    unfold execNodeApplyInstant
    dsimp only
    cases (s.ring r).asNode.timer with
    | none => rfl
    | some t => exact if_pos (.inl other)
  case frame =>
    intro node up free long ready quiet
    refine ⟨fun u k codes elastic count ahead => execRingNodeFrame_bad node up free long ready count ahead, ?_⟩
    intro listen alone header good c last step codes
    obtain ⟨u, count, same⟩ := State.ringReceive_good codes false quiet header good
    obtain ⟨t, run, ring⟩ := execRingNodeFrame_listen node up free long listen alone count
    have joined := State.nodeJoin_joined (s := u) (same ▸ last) step
    exact ⟨t, run, ring ▸ joined⟩
  case sample => exact congrArg Ring.asNode (State.nodeSample_ring s r)
  case apply =>
    rintro t next cyc u node timer due rfl rfl rfl
    refine ⟨?_, ?_, ?_⟩
    · intro b operational part set age
      refine (execNodeApplyInstant_due node timer due).trans (congrArg Host.Outcome.next (State.onAsNode_congr ?_))
      simp only [State.nodeSample_ring, operational, part, set, decide_eq_true age]
      rfl
    · intro operational part
      refine (execNodeApplyInstant_due node timer due).trans (congrArg Host.Outcome.next (State.onAsNode_congr ?_))
      simp only [State.nodeSample_ring, operational, part]
      rfl
    · intro other
      refine (execNodeApplyInstant_due node timer due).trans (congrArg Host.Outcome.next (State.onAsNode_congr ?_))
      rw [State.nodeSample_ring]
      exact if_pos other
  case loss =>
    intro node operational missing
    exact if_pos ⟨node, operational, missing⟩
  case isolate =>
    intro t isolated due
    change execIsolateEnd r s = _
    unfold execIsolateEnd
    rw [isolated]
    exact if_pos due
  case joined =>
    intro isolated
    change execIsolateEnd r s = _
    unfold execIsolateEnd
    rw [isolated]

end Sys2Proof.Machine

/-! SUPPORT. The statement about the cell network: links, frames, ageing and ARP (R327 to R330, R342). -/

namespace Sys2Proof.Machine

@[simp] theorem State.onCell_port (s : State) (p : Fin 6) (f : CellPort → CellPort) : (s.onCell p f).mw.net.ports[p] = f s.mw.net.ports[p] := by
  simp [State.onCell, State.onNet, State.onMw]

@[simp] theorem State.onCell_cellTarget (s : State) (p : Fin 6) (f : CellPort → CellPort) (n : Nat) : (s.onCell p f).cellTarget n = s.cellTarget n := rfl

section Link

variable {p : Fin 6} {s : State}

theorem State.cellLink_same {sync partner : Bool} (sync_eq : s.mw.net.ports[p].sync = sync) (partner_eq : s.mw.net.ports[p].partner = partner)
    (same : s.mw.net.ports[p].raw = (s.mw.cfg.ports[p]).linkUp sync partner) : s.cellLink p = s := by
  unfold State.cellLink
  dsimp only
  rw [sync_eq, partner_eq, if_pos same]

theorem State.cellLink_up {sync partner : Bool} (sync_eq : s.mw.net.ports[p].sync = sync) (partner_eq : s.mw.net.ports[p].partner = partner)
    (down : s.mw.net.ports[p].raw = false) (up : (s.mw.cfg.ports[p]).linkUp sync partner = true) :
    s.cellLink p = s.onCell p fun q => { q with raw := true, rawNs := s.now, been := true } := by
  unfold State.cellLink
  dsimp only
  rw [sync_eq, partner_eq, up, down, if_neg (by decide), if_pos rfl]

theorem State.cellLink_down {sync partner : Bool} (sync_eq : s.mw.net.ports[p].sync = sync) (partner_eq : s.mw.net.ports[p].partner = partner)
    (up : s.mw.net.ports[p].raw = true) (down : (s.mw.cfg.ports[p]).linkUp sync partner = false) :
    s.cellLink p = (s.onNet fun y => y.cutPort p).onCell p fun q => { q with
      raw := false, rawNs := s.now, cause := if sync = false then 0 else if (s.mw.cfg.ports[p]).mode = 3 then 2 else 1, downs := sat32 (q.downs + 1) } := by
  unfold State.cellLink
  dsimp only
  rw [sync_eq, partner_eq, down, up, if_neg (by decide), if_neg (by decide)]
  cases sync <;> rfl

end Link

section Frame

variable {p : Fin 6} {s : State} {f : List Byte}

/-- A frame that comes whole through a port's buffer, where nothing is injected (R327, R329). -/
def State.cellSwitched (s : State) (p : Fin 6) (f : List Byte) : Result :=
  let drop := s.onCell p fun q => { q with vlanDrop := sat32 (q.vlanDrop + 1) }
  match (s.mw.cfg.ports[p]).ingress (f.take (f.length - 4)) with
  | none => .next drop
  | some g =>
    match s.mw.cfg.vlan g.vid with
    | none => .next drop
    | some v =>
      if !bit v.members p.val then .next drop
      else
        let w := s.onNet fun y => y.learn g.vid g.src p.val s.now
        let t := w.sendOut v g (w.forward v p.val g) (w.inMark g)
        if !(w.forward v p.val g).contains 6 then .next t
        else match g.prpSeq with
          | none => .next (t.deliver p g)
          | some q =>
            let r := t.mw.net.prpTake g.src q t.now
            let t := t.onNet fun _ => r.1
            .next (if r.2 then t.onCell p fun x => { x with prpDiscards := sat32 (x.prpDiscards + 1) }
              else t.deliver p { g with rest := g.rest.take (g.rest.length - 6) })

theorem execCellFrameReceive_eq (on : s.mw.cfg.portMode p.val ≠ 0) (up : s.mw.net.ports[p].raw = true) (quiet : s.quietMw 5 = true) (clean : s.quietMw 0 = true) {u : State}
    (counted : u = s.onCell p (fun q => { q with rx := sat32 (q.rx + 1) })) :
    execCellFrameReceive p f s =
      if 1528 < f.length then .next (u.onCell p fun q => { q with oversize := sat32 (q.oversize + 1) })
      else if fcsOk f = false then .next ((u.onCell p fun q => { q with fcsErr := sat32 (q.fcsErr + 1) }).detectMw (s.cellTarget p.val)
        (2 ^ 28 + p.val) 5 false false [BitVec.ofNat 8 p.val]).1
      else if f.length < 64 then .next u
      else u.cellSwitched p f := by
  have still : u.quietMw 5 = true := counted ▸ quiet
  have reads : ∀ g : Network → Network, (u.onNet g).readMwArray 1 0 true = (u.onNet g, false, false) := fun g => State.readMwArray_quiet (counted ▸ clean) 1 0 true
  unfold execCellFrameReceive
  refine (if_neg (by simp [on]; exact up)).trans ?_
  rw [← counted]
  simp only [State.checkInjectedMw_quiet still, Option.isSome_none, Bool.or_false, Bool.not_eq_true', reads, Bool.false_eq_true, if_false, State.onCell_cellTarget]
  rw [show u.cellTarget p.val = s.cellTarget p.val by rw [counted]; rfl]
  unfold State.cellSwitched
  simp only [Bool.not_eq_true'] <;> rfl

section Switched

variable {g : EthFrame}

theorem State.cellSwitched_unread (bad : (s.mw.cfg.ports[p]).ingress (f.take (f.length - 4)) = none) :
    s.cellSwitched p f = .next (s.onCell p fun q => { q with vlanDrop := sat32 (q.vlanDrop + 1) }) := by
  unfold State.cellSwitched
  rw [bad]

theorem State.cellSwitched_unknown (read : (s.mw.cfg.ports[p]).ingress (f.take (f.length - 4)) = some g) (unknown : s.mw.cfg.vlan g.vid = none) :
    s.cellSwitched p f = .next (s.onCell p fun q => { q with vlanDrop := sat32 (q.vlanDrop + 1) }) := by
  unfold State.cellSwitched
  simp only [read, unknown]

theorem State.cellSwitched_stranger {v : CfgVlan} (read : (s.mw.cfg.ports[p]).ingress (f.take (f.length - 4)) = some g) (known : s.mw.cfg.vlan g.vid = some v)
    (stranger : bit v.members p.val = false) : s.cellSwitched p f = .next (s.onCell p fun q => { q with vlanDrop := sat32 (q.vlanDrop + 1) }) := by
  unfold State.cellSwitched
  simp only [read, known, stranger, Bool.not_false, if_true]

theorem State.cellSwitched_forward {v : CfgVlan} {w : State} (read : (s.mw.cfg.ports[p]).ingress (f.take (f.length - 4)) = some g)
    (known : s.mw.cfg.vlan g.vid = some v) (member : bit v.members p.val = true) (learned : w = s.onNet (fun y => y.learn g.vid g.src p.val s.now))
    (away : (w.forward v p.val g).contains 6 = false) : s.cellSwitched p f = .next (w.sendOut v g (w.forward v p.val g) (w.inMark g)) := by
  unfold State.cellSwitched
  simp only [read, known, member, Bool.not_true, Bool.false_eq_true, if_false, ← learned, away, Bool.not_false, if_true]

end Switched

end Frame

/-- Settles O42. -/
theorem cellNetworkEvents : Obligations.CellNetworkEvents := by
  intro p s
  refine ⟨?change, ?report, ?off, ?absent, ?frame, fun _ _ => rfl, fun _ => rfl, ?arp, ?noArp⟩
  case change =>
    rintro sync partner up u on rfl rfl
    refine ⟨fun same => (if_neg on).trans (congrArg Host.Outcome.next (State.cellLink_same (sync := sync) (partner := partner) ?_ ?_ ?_)),
      fun down up => (if_neg on).trans (congrArg Host.Outcome.next (State.cellLink_up (sync := sync) (partner := partner) ?_ ?_ ?_ up)),
      fun up down => (if_neg on).trans (congrArg Host.Outcome.next (State.cellLink_down (sync := sync) (partner := partner) ?_ ?_ ?_ down))⟩
    all_goals rw [State.onCell_port]
    all_goals assumption
  case report =>
    intro on
    refine ⟨fun been down due => if_pos ⟨on, been, congrArg not down, due⟩, fun silent up due => if_pos ⟨on, congrArg not silent, up, due⟩⟩
  case off =>
    intro off f
    exact ⟨if_neg fun h => h.1 off, if_neg fun h => h.1 off, if_pos (.inl off)⟩
  case absent =>
    intro off sync partner
    exact if_pos off
  case frame =>
    intro f u on up quiet clean counted
    have run := execCellFrameReceive_eq (f := f) on up quiet clean counted
    refine ⟨?_, ?_, ?_, ?_⟩
    · intro bad short
      exact run.trans ((if_neg (Nat.not_lt.2 short)).trans (if_pos bad))
    · intro long
      exact run.trans (if_pos long)
    · intro good tiny
      exact run.trans ((if_neg (by omega)).trans ((if_neg (by simp [good])).trans (if_pos tiny)))
    · intro good big short i taken
      replace run := run.trans ((if_neg (Nat.not_lt.2 short)).trans ((if_neg (by simp [good])).trans (if_neg (Nat.not_lt.2 big))))
      subst counted taken
      exact ⟨fun bad => run.trans (State.cellSwitched_unread bad), fun g read unknown => run.trans (State.cellSwitched_unknown read unknown),
        fun g v read known stranger => run.trans (State.cellSwitched_stranger read known stranger),
        fun g v w read known member learned away => run.trans (State.cellSwitched_forward read known member learned away)⟩
  case arp =>
    intro f long op target known
    refine congrArg Host.Outcome.next (if_pos ?_)
    simpa [long, op, target] using known
  case noArp =>
    intro f unknown
    refine congrArg Host.Outcome.next (if_neg ?_)
    simp [unknown]

end Sys2Proof.Machine

/-! SUPPORT. The statement about the peers' heartbeats, loss, life and skew (R343 to R345). -/

namespace Sys2Proof.Machine

section Peer

variable {s : State} {f body : List Byte} {p : Fin 4} {tx eTx eRx : Nat}

@[simp] theorem State.onPeer_peer (s : State) (p : Fin 4) (f : Peer → Peer) : (s.onPeer p f).mw.net.peers[p] = f s.mw.net.peers[p] := by
  simp [State.onPeer, State.onMw]

/-- What a heartbeat of a peer in Ripe makes of it (R343, R345). -/
theorem State.takePeer_ripe (accepted : s.peerAccept 1 f = some (p, body)) (long : body.length = 48) (sent : rdStamp body 16 = some tx) (echoTx : rdStamp body 26 = some eTx)
    (echoRx : rdStamp body 36 = some eRx) (ripe : rd body 0 1 = 2) (works : bit (rd body 1 1) 0 = false) {u : State}
    (heard : u = s.onPeer p (fun x => { x with rxSeq := some (rd f 8 4), lastNs := s.now, echoTx := tx, echoRx := s.tb0 })) :
    s.takePeer f =
      let v := if (!(u.mw.net.peers[p]).live) = true then
          if (u.mw.net.peers[p]).everLost then (u.onPeer p fun y => { y with live := true }).raiseMw 135 ((u.onPeer p fun y => { y with live := true }).target 0 0) [BitVec.ofNat 8 p.val]
          else u.onPeer p fun y => { y with live := true }
        else u
      if eTx = 0 then v else v.peerSkew p (Int.fdiv (((eRx : Int) - eTx) + ((tx : Int) - v.tb0)) 2) := by
  unfold State.takePeer
  simp only [accepted, long, sent, echoTx, echoRx, ← heard, ripe, works, decide_true, Bool.not_false, Bool.true_and, Bool.not_true, Bool.false_and, Bool.false_eq_true, if_false]

end Peer

/-- Settles O43. -/
theorem peerEvents : Obligations.PeerEvents := by
  intro s
  refine ⟨?send, ?silent, ?lost, ?refused, ?zone, ?heard⟩
  case send =>
    rintro on due u rfl
    exact if_pos (by simp [on, due])
  case silent =>
    intro off
    exact if_neg (by simp [off])
  case lost =>
    intro p live
    refine ⟨fun due => if_pos ?_, fun early => if_neg ?_⟩
    · exact Bool.and_eq_true_iff.2 ⟨live, decide_eq_true due⟩
    · exact fun h => absurd (of_decide_eq_true (Bool.and_eq_true_iff.1 h).2) (Nat.not_le.2 early)
  case refused =>
    intro f refused other
    change Host.Outcome.next (s.takePeer f) = _
    unfold State.takePeer
    rw [refused]
    exact congrArg Host.Outcome.next (if_neg other)
  case zone =>
    intro f refused zone
    change Host.Outcome.next (s.takePeer f) = Host.Outcome.next (s.takeZone f)
    unfold State.takePeer
    rw [refused]
    exact congrArg Host.Outcome.next (if_pos zone)
  case heard =>
    intro f body p tx eTx eRx u accepted long sent echoTx echoRx ripe works heard
    have run : exec (.peerMessage f) s = _ := congrArg Host.Outcome.next (State.takePeer_ripe accepted long sent echoTx echoRx ripe works heard)
    have live : (u.mw.net.peers[p]).live = (s.mw.net.peers[p]).live := by rw [heard, State.onPeer_peer]
    have everLost : (u.mw.net.peers[p]).everLost = (s.mw.net.peers[p]).everLost := by rw [heard, State.onPeer_peer]
    rw [run, live, everLost]
    refine ⟨?_, ?_, ?_⟩
    · intro living still
      rw [living, still]
      rfl
    · intro living echo
      rw [living]
      exact congrArg Host.Outcome.next (if_neg echo)
    · intro dead never still
      rw [dead, never, still]
      rfl

end Sys2Proof.Machine

/-! SUPPORT. The statement about PTP and the time pins (R335, R336, R338 to R340). -/

namespace Sys2Proof.Machine

section Streams

theorem Records.sendStream (s : State) (d : DieId) (r : Record) : Records s (s.sendStream d r) := by
  unfold State.sendStream
  exact .ite (.refl _) (.ite (.writeRecord ..) (.ite (((Records.dropRecord ..).trans (.msix ..)).trans (.raise ..)) (.dropRecord ..)))

theorem foldl_mw {α : Type} {go : State → α → State} (h : ∀ s a, (go s a).mw = s.mw) (l : List α) : ∀ s : State, (l.foldl go s).mw = s.mw := by
  induction l with
  | nil => exact fun _ => rfl
  | cons a l ih => exact fun s => (ih _).trans (h s a)

@[simp] theorem State.stream_mw (s : State) (d : DieId) (opcode kind : Nat) (own : Bool) (keep : Stream → Bool) (epoch : Nat) (result : Stream → List Byte) :
    (s.stream d opcode kind own keep epoch result).mw = s.mw := by
  unfold State.stream
  dsimp only
  rw [State.onDie_mw]
  exact foldl_mw (fun s st => (Records.ite (.sendStream ..) (.refl s)).mw) _ s

theorem State.onLive_mw {f : DieId → State → State} (h : ∀ d s, (f d s).mw = s.mw) (s : State) : (s.onLive f).mw = s.mw := by
  refine foldl_mw (fun s d => ?_) allDies s
  split
  · exact h d s
  · rfl

end Streams

section Ptp

variable {i : Fin 2} {s : State} {m : PtpMsg} {b : List Byte} {t : Nat}

@[simp] theorem State.onPtp_ptp (s : State) (i : Fin 2) (f : Ptp → Ptp) : (s.onPtp i f).mw.ptp[i] = f s.mw.ptp[i] := by
  simp [State.onPtp, State.onMw]

/-- A PTP message for the domain, by its profile, its length and its domain number. -/
def ptpOwn (m : PtpMsg) (c : CfgPtp) : Prop :=
  c.enable = true ∧ 44 ≤ m.bytes.length ∧ rd m.bytes 0 1 / 16 = c.sdo ∧ rd m.bytes 4 1 = c.domain ∧ (c.profile = 1 → c.ptpPort = m.port.val)

theorem State.takePtp_foreign (foreign : ¬ ptpOwn m (s.mw.cfg.ptp i)) : s.takePtp i m = s := by
  refine if_pos ?_
  by_contra native
  exact foreign (by simpa [ptpOwn, and_assoc] using native)

theorem State.takePtp_unsupported (own : ptpOwn m (s.mw.cfg.ptp i)) (odd : ptpUnsupported m.bytes = true) :
    s.takePtp i m = s.onCell m.port fun q => { q with ptpDiscarded := sat32 (q.ptpDiscarded + 1) } := by
  obtain ⟨on, long, sdo, domain, port⟩ := own
  exact (if_neg (by simpa [on, sdo, domain] using ⟨long, port⟩)).trans (if_pos odd)

theorem State.takePtp_acts (own : ptpOwn m (s.mw.cfg.ptp i)) (known : ptpUnsupported m.bytes = false) :
    s.takePtp i m = s.ptpActs i m.bytes ((s.mw.tb[ptpBase i]).ns + m.sub.val) := by
  obtain ⟨on, long, sdo, domain, port⟩ := own
  exact (if_neg (by simpa [on, sdo, domain] using ⟨long, port⟩)).trans (if_neg (by simp [known]))

section Parent

variable {k : PtpClock} (receives : s.receives i = true) (best : (s.mw.ptp[i]).best = some k) (parent : k.port = ptpSource b)
include receives best parent

theorem State.ptpActs_sync (kind : ptpKind b = 0) (single : ptpTwoStep b = false) :
    s.ptpActs i b t = s.ptpSync i ((rdPtpStamp b 34 : Int) + corrNs (ptpCorr b)) t := by
  unfold State.ptpActs
  simp [-Fin.getElem_fin, kind, single, receives, best, parent]

theorem State.ptpActs_twoStep (kind : ptpKind b = 0) (double : ptpTwoStep b = true) :
    s.ptpActs i b t = s.onPtp i fun p => { p with syncPend := some (ptpSeq b, t, ptpCorr b) } := by
  unfold State.ptpActs
  simp [-Fin.getElem_fin, kind, double, receives, best, parent]

theorem State.ptpActs_followUp {t2 : Nat} {k2 : Int} (kind : ptpKind b = 8) (pend : (s.mw.ptp[i]).syncPend = some (ptpSeq b, t2, k2)) :
    s.ptpActs i b t = s.ptpSync i ((rdPtpStamp b 34 : Int) + corrNs (k2 + ptpCorr b)) t2 := by
  unfold State.ptpActs
  simp [-Fin.getElem_fin, kind, pend, receives, best, parent]

end Parent

theorem State.ptpActs_request (kind : ptpKind b = 1) (master : (s.mw.ptp[i]).portState = 6) (profile : (s.mw.cfg.ptp i).profile = 0) :
    s.ptpActs i b t = s.onPtp i fun p => { p with requests := p.requests ++ [{ port := ptpSource b, seq := ptpSeq b, t4 := t, corr := ptpCorr b }] } := by
  unfold State.ptpActs
  simp [-Fin.getElem_fin, kind, master, profile]

theorem State.ptpActs_announce (kind : ptpKind b = 11) : s.ptpActs i b t = s.ptpAnnounce i b := by
  unfold State.ptpActs
  simp [kind]

/-- The first announcement a clock that is no master by its role hears gives it its best master (R338). -/
theorem State.ptpAnnounce_first (role : (s.mw.cfg.ptp i).role ≠ 2) (first : (s.mw.ptp[i]).best = none) :
    ∃ k, ((s.ptpAnnounce i b).mw.ptp[i]).best = some k ∧ ((s.ptpAnnounce i b).mw.ptp[i]).heardNs = s.now ∧ k.priority1 = rd b 47 1 ∧ k.cls = rd b 48 1 ∧
      k.priority2 = rd b 52 1 ∧ k.identity = beNat ((b.drop 53).take 8) ∧ k.port = ptpSource b := by
  unfold State.ptpAnnounce
  dsimp only
  rw [first, if_neg (by simp [role]), State.onPtp_ptp]
  exact ⟨_, rfl, rfl, rfl, rfl, rfl, rfl, rfl⟩

/-- A clock without a better one in sight, neither its announcement nor its request due, only sends its synchronisation where that is due (R335). -/
theorem execPtpSyncInterval_master (on : (s.mw.cfg.ptp i).enable = true) (alone : (s.mw.ptp[i]).best = none) (master : ptpStateOf (s.mw.cfg.ptp i) none (s.ownClock i) = 6)
    (announced : s.now < (s.mw.ptp[i]).announceNs + logNs (s.mw.cfg.ptp i).logAnnounce) (asked : s.now < (s.mw.ptp[i]).delayNs + logNs (s.mw.cfg.ptp i).logDelay) :
    execPtpSyncInterval i s =
      let due := decide ((s.mw.ptp[i]).syncNs + logNs (s.mw.cfg.ptp i).logSync ≤ s.now)
      let u := s.onPtp i fun p => { p with best := none, portState := 6, syncNs := if due then s.now else p.syncNs }
      .next (if due then u.ptpMaster i false else u) := by
  unfold execPtpSyncInterval
  simp [-Fin.getElem_fin, on, alone, master, Nat.not_le.2 announced, Nat.not_le.2 asked]

end Ptp

section Edges

variable {e : PinEdge} {s : State}

theorem tpiOpen_none (none_open : ∀ d ∈ allDies, (s.die d).rm.streams.find? (fun t => t.opcode == 0x0121) = none) :
    (allDies.filterMap fun d => (s.die d).rm.streams.find? fun t => t.opcode == 0x0121) = [] :=
  List.filterMap_eq_nil_iff.2 none_open

theorem tpiOpen_any {d : DieId} {z : Stream} {listens : Stream → Bool} (found : (s.die d).rm.streams.find? (fun t => t.opcode == 0x0121) = some z) (hears : listens z = true) :
    (allDies.filterMap fun d => (s.die d).rm.streams.find? fun t => t.opcode == 0x0121).any listens = true := by
  refine List.any_eq_true.2 ⟨z, List.mem_filterMap.2 ⟨d, ?_, found⟩, hears⟩
  cases d <;> simp [allDies]

/-- The first edge in a second that a stream listens to is counted and recorded (R339). -/
theorem execTpiEdge_heard {d : DieId} {z : Stream} (found : (s.die d).rm.streams.find? (fun t => t.opcode == 0x0121) = some z)
    (hears : bit (z.args.getD 0 0) (if e.rising then 0 else 1) = true) (fresh : s.mw.tpi.second ≠ (s.mw.tb[1]).ns / 1000000000) :
    ∃ u, execTpiEdge e s = .next u ∧ u.mw.tpi.count = sat32 (s.mw.tpi.count + 1) ∧ u.mw.tpi.inSecond = 1 ∧ u.mw.tpi.lost = s.mw.tpi.lost := by
  have open_ := tpiOpen_any (listens := fun t => bit (t.args.getD 0 0) (if e.rising then 0 else 1)) found hears
  unfold execTpiEdge
  simp only [open_, Bool.or_true, if_true, Bool.not_true, Bool.false_eq_true, if_false, State.onMw_mw, fresh]
  refine ⟨_, if_neg (by decide), ?_⟩
  rw [State.onLive_mw fun d s => State.stream_mw ..]
  exact ⟨rfl, if_neg fresh, rfl⟩

end Edges

/-- Settles O44. -/
theorem timeEvents : Obligations.TimeEvents := by
  refine ⟨?ptp, ?deaf, ?heard, ?tpo⟩
  case ptp =>
    intro i s
    refine ⟨?_, fun off => if_pos (by simp [off]), ?_⟩
    · rintro m t b rfl rfl
      have run : (s.mw.net.ports[m.port]).raw = true ∧ s.mw.cfg.portMode m.port.val ≠ 0 → execPtpMessage i m s = .next (s.takePtp i m) :=
        fun linked => if_pos (by simpa [-Fin.getElem_fin] using linked)
      refine ⟨?_, fun linked own odd => (run linked).trans (congrArg _ (State.takePtp_unsupported own odd)), ?_⟩
      · intro foreign
        by_cases linked : (s.mw.net.ports[m.port]).raw = true ∧ s.mw.cfg.portMode m.port.val ≠ 0
        · exact (run linked).trans (congrArg _ (State.takePtp_foreign (foreign.resolve_left (not_not_intro linked))))
        · exact if_neg (by simpa [-Fin.getElem_fin] using linked)
      · intro linked own known
        replace run := (run linked).trans (congrArg _ (State.takePtp_acts own known))
        refine ⟨?_, ?_, ?_⟩
        · intro k receives best parent
          refine ⟨?_, fun kind double => run.trans (congrArg _ (State.ptpActs_twoStep receives best parent kind double)), ?_⟩
          · rintro t1 kind single rfl
            exact run.trans (congrArg _ (State.ptpActs_sync receives best parent kind single))
          · rintro t2 k2 t1 kind pend rfl
            exact run.trans (congrArg _ (State.ptpActs_followUp receives best parent kind pend))
        · exact fun kind master profile => run.trans (congrArg _ (State.ptpActs_request kind master profile))
        · intro kind role first
          obtain ⟨k, facts⟩ := State.ptpAnnounce_first (b := m.bytes) role first
          exact ⟨_, k, run.trans (congrArg _ (State.ptpActs_announce kind)), facts⟩
    · intro on alone master announced asked
      have run := execPtpSyncInterval_master on alone master announced asked
      refine ⟨fun due => run.trans ?_, fun early => run.trans ?_⟩
      · simp only [due, decide_true, if_true]
      · simp only [Nat.not_le.2 early, decide_false, Bool.false_eq_true, if_false]
  case deaf =>
    intro e s none_open
    change execTpiEdge e s = _
    unfold execTpiEdge
    simp only [tpiOpen_none none_open]
    rfl
  case heard =>
    intro e s d z found hears fresh
    exact execTpiEdge_heard found hears fresh
  case tpo =>
    intro s
    refine ⟨fun mode due idle new => if_pos ⟨mode, due, by simp [idle], new⟩, fun off => if_neg ?_, fun pulse ended => if_pos (by simp [pulse, ended]),
      fun idle => if_neg (by simp [idle])⟩
    rintro ⟨mode, due, -⟩
    cases off with
    | inl off => exact off mode
    | inr off => simp [off] at due

end Sys2Proof.Machine

/-! SUPPORT. The statement about field inputs and their supplies (R358 to R361, R370 to R372). -/

namespace Sys2Proof.Machine

/-- Each place of a vector updated once, from what stood there. -/
theorem updates_getElem {α : Type} {n : Nat} (f : Fin n → α → α) (j : Fin n) : ∀ (l : List (Fin n)), l.Nodup → ∀ v : Vector α n,
    (l.foldl (fun v i => v.set i (f i v[i])) v)[j] = if j ∈ l then f j v[j] else v[j] := by
  intro l
  induction l with
  | nil => simp
  | cons i l ih =>
    intro once v
    obtain ⟨new, once⟩ := List.nodup_cons.1 once
    rw [List.foldl_cons, ih once]
    by_cases here : j = i
    · subst here
      simp [new]
    · have apart : i.val ≠ j.val := fun h => here (Fin.ext h.symm)
      simp [here, apart]

/-- The field with its inputs sampled one after another. -/
theorem State.samples_eq (f : Fin 32 → Nat → InChan → InChan) (l : List (Fin 32)) : ∀ s : State,
    l.foldl (fun s i => s.onIn i (f i s.now)) s = s.onField fun x => { x with ins := l.foldl (fun (v : Vector InChan 32) (i : Fin 32) => v.set i (f i s.now v[i])) x.ins } := by
  induction l with
  | nil => exact fun _ => rfl
  | cons i l ih => exact fun s => ih _

theorem State.samples_in (f : Fin 32 → Nat → InChan → InChan) (s : State) (i : Fin 32) :
    ((List.finRange 32).foldl (fun s i => s.onIn i (f i s.now)) s).mw.field.ins[i] = f i s.now s.mw.field.ins[i] := by
  rw [State.samples_eq]
  exact (updates_getElem (fun i => f i s.now) i _ (List.nodup_finRange 32) _).trans (if_pos (List.mem_finRange i))

/-- An input channel after a sample of the inputs (R358, R359, R371). -/
def InChan.sampled (raw : Word) (c : Cfg) (i : Fin 32) (now : Nat) (x : InChan) : InChan :=
  if x.valid then x.take (raw.getLsbD i.val) (c.inputs[i]).filterN (c.inputs[i]).invert now else { x with raw := raw.getLsbD i.val }

/-- What the samples of the inputs leave alone. -/
theorem State.samples_frame (f : Fin 32 → Nat → InChan → InChan) (l : List (Fin 32)) (s : State) :
    let u := l.foldl (fun s i => s.onIn i (f i s.now)) s
    u.mw.cfg = s.mw.cfg ∧ u.t0 = s.t0 ∧ u.t1 = s.t1 ∧ u.phase = s.phase ∧ u.mw.field.outs = s.mw.field.outs := by
  rw [State.samples_eq]
  exact ⟨rfl, rfl, rfl, rfl, rfl⟩

theorem execInputSample_eq (raw : Word) (s : State) : ∃ g : Field → Field, (∀ x, (g x).ins = x.ins ∧ (g x).outs = x.outs) ∧
    execInputSample raw s =
      .next (((List.finRange 32).foldl (fun t i => t.onIn i (InChan.sampled raw s.mw.cfg i t.now)) s).onField g).enablePair.curtainPair := by
  unfold execInputSample InChan.sampled
  exact ⟨_, fun _ => ⟨by rfl, by rfl⟩, rfl⟩

@[simp] theorem State.onField_cfg (s : State) (g : Field → Field) : (s.onField g).mw.cfg = s.mw.cfg := rfl
@[simp] theorem State.onField_t0 (s : State) (g : Field → Field) : (s.onField g).t0 = s.t0 := rfl
@[simp] theorem State.onField_t1 (s : State) (g : Field → Field) : (s.onField g).t1 = s.t1 := rfl
@[simp] theorem State.onField_phase (s : State) (g : Field → Field) : (s.onField g).phase = s.phase := rfl
@[simp] theorem State.onField_field (s : State) (g : Field → Field) : (s.onField g).mw.field = g s.mw.field := rfl

@[simp] theorem State.readsWithin_now (s : State) (u : Fin 2) (lo hi : Nat) : (s.readsWithin u lo hi).now = s.now := by
  unfold State.readsWithin
  split <;> rfl

theorem State.readsWithin_inside {s : State} {u : Fin 2} {lo hi : Nat} (low : lo ≤ (s.mw.field.supplies[u]).mv) (high : (s.mw.field.supplies[u]).mv ≤ hi) :
    s.readsWithin u lo hi = s := if_pos (Bool.and_eq_true_iff.2 ⟨decide_eq_true low, decide_eq_true high⟩)

theorem State.target_of_life {s t : State} (same : t.life = s.life) (k i : Nat) : t.target k i = s.target k i := by
  rw [State.target, State.target, show t.pkgid = s.pkgid from congrArg Life.pkgid same]

/-- Settles O45. -/
theorem fieldInputEvents : Obligations.FieldInputEvents := by
  intro s
  refine ⟨?sample, ?input, ?supply⟩
  case sample =>
    intro raw
    obtain ⟨cfg, t0, t1, phase, outs⟩ := State.samples_frame (InChan.sampled raw s.mw.cfg) (List.finRange 32) s
    have ins := State.samples_in (InChan.sampled raw s.mw.cfg) s
    obtain ⟨g, keeps, run⟩ := execInputSample_eq raw s
    generalize (List.finRange 32).foldl (fun t i => t.onIn i (InChan.sampled raw s.mw.cfg i t.now)) s = t at *
    refine ⟨t.onField g, run, ?_⟩
    rw [State.onField_cfg, State.onField_t0, State.onField_t1, State.onField_phase, State.onField_field, (keeps _).1, (keeps _).2]
    exact ⟨cfg, t0, t1, phase, outs, ins⟩
  case input =>
    intro ch
    refine ⟨?_, ?_, ?_, ?_, ?_, ?_⟩
    · intro calm over_
      exact if_pos (Bool.and_eq_true_iff.2 ⟨congrArg not calm, decide_eq_true over_⟩)
    · intro calm
      refine if_neg fun h => ?_
      obtain ⟨new, many⟩ := Bool.and_eq_true_iff.1 h
      rcases calm with known | few
      · exact absurd new (by rw [known]; decide)
      · exact absurd (of_decide_eq_true many) (Nat.not_lt.2 few)
    · intro on active new long
      exact if_pos (by rw [on, active, new]; exact decide_eq_true long)
    · intro off
      exact if_neg (by rw [off]; simp)
    · rintro unseen u rfl
      refine ⟨?_, fun low high => ?_⟩
      · change execInputValid ch s = _
        unfold execInputValid
        dsimp only
        rw [if_neg (by rw [unseen]; decide), State.readsWithin_now]
      · rw [State.readsWithin_inside low high]
        rfl
    · intro valid
      exact if_pos valid
  case supply =>
    intro k mv
    refine ⟨?_, ?_, ?_, ?_, ?_, ?_, ?_, ?_, ?_, ?_, ?_, ?_⟩
    · intro low new
      exact if_pos ⟨low, congrArg not new⟩
    · rintro (high | known)
      · exact if_neg fun h => absurd h.1 (Nat.not_lt.2 high)
      · exact if_neg fun h => absurd h.2 (by rw [known]; decide)
    · intro low new
      change execUpLost k mv s = _
      unfold execUpLost
      dsimp only
      rw [if_pos low, new, if_neg Bool.false_ne_true, State.target_of_life (s := s) (by simp)]
    · intro low known
      change execUpLost k mv s = _
      unfold execUpLost
      dsimp only
      rw [if_pos low, if_pos known]
    · intro high
      exact if_neg (Nat.not_lt.2 high)
    · intro high new
      change execUpHigh k mv s = _
      unfold execUpHigh
      dsimp only
      rw [if_pos high, new, if_neg Bool.false_ne_true, State.target_of_life (s := s) (by simp)]
    · intro high known
      change execUpHigh k mv s = _
      unfold execUpHigh
      dsimp only
      rw [if_pos high, if_pos known]
    · intro low
      exact if_neg (Nat.not_lt.2 low)
    · intro flagged
      exact if_pos (Bool.or_eq_true_iff.2 flagged)
    · intro low high
      exact if_neg (by rw [low, high]; decide)
    · intro lost new
      exact if_pos (by rw [lost, new]; decide)
    · rintro (here | known)
      · exact if_neg (by rw [here]; simp)
      · exact if_neg (by rw [known]; simp)

end Sys2Proof.Machine

/-! SUPPORT. The statement about field outputs and encoder ports (R366, R376 to R378). -/

namespace Sys2Proof.Machine

section Output

variable {ch l : Fin 16} {s : State}

theorem execOutputFault_command {cause : OutCause} (leader : l = s.mw.cfg.leader ch) (used : (s.mw.cfg.outputs[l]).function ≠ 0) (new : (s.mw.field.outs[l]).fault = false)
    {code : Nat} (coded : (cause = .overload ∧ code = 1) ∨ (cause = .thermal ∧ code = 2)) {u : State}
    (held : u = (s.onOut l fun o => { o with fault := true, cause := code, rearm := false }).holdOutputs) :
    execOutputFault ch cause s = .next (u.raiseMw 162 (u.channelTarget 1 l.val) (le 1 l.val ++ le 1 code)) := by
  subst leader
  unfold execOutputFault
  dsimp only
  rw [if_neg (not_or.2 ⟨used, by rw [new]; decide⟩)]
  rcases coded with ⟨rfl, rfl⟩ | ⟨rfl, rfl⟩
  · exact (if_neg (by decide)).trans (by rw [held])
  · exact (if_neg (by decide)).trans (by rw [held])

theorem execOutputFault_readback (leader : l = s.mw.cfg.leader ch) (used : (s.mw.cfg.outputs[l]).function ≠ 0) (new : (s.mw.field.outs[l]).fault = false) {u : State}
    (held : u = (s.onOut l fun o => { o with fault := true, cause := 3, rearm := false }).holdOutputs) (quiet : u.quietMw 11 = true) :
    execOutputFault ch .readback s = .next (u.detectMw (u.channelTarget 1 l.val) (2 ^ 27 + l.val) 11 true false (le 1 l.val ++ le 1 3)).1 := by
  subst leader
  unfold execOutputFault
  dsimp only
  rw [if_neg (not_or.2 ⟨used, by rw [new]; decide⟩), ← held, if_pos rfl, State.checkInjectedMw_quiet quiet]
  rfl

end Output

section Encoder

variable {n : Fin 4} {s : State}

/-- An incremental encoder is sampled once a period: its line fault and its count error are its faults (R377). -/
theorem execEncoderSample_incremental (new : (s.mw.field.encoders[n]).sampled = false) (due : s.mw.bNs + (s.mw.cfg.encoders[n]).sampleOffsetNs ≤ s.now)
    (mode : (s.mw.cfg.encoders[n]).mode = 2) (line : Bool) :
    execEncoderSample n (.incremental line) s = .next (((s.onEncoder n fun y => { y with
      status := packBits [!line && !(s.mw.field.encoders[n]).countError, false, false, line, (s.mw.field.encoders[n]).countError, false], age := 0, sampled := true,
      lineFault := line }).deliverEncoder n).encoderFaults n
        (if line then (if (s.mw.field.encoders[n]).countError then [3, 4] else [3]) else if (s.mw.field.encoders[n]).countError then [4] else [])) := by
  unfold execEncoderSample
  dsimp only
  rw [if_neg (by rw [new]; simpa using due), mode]
  cases line <;> cases (s.mw.field.encoders[n]).countError <;> rfl

/-- The first good frame of an SSI encoder sets its count (R376). -/
theorem execEncoderSample_ssi (new : (s.mw.field.encoders[n]).sampled = false) (due : s.mw.bNs + (s.mw.cfg.encoders[n]).sampleOffsetNs ≤ s.now)
    (mode : (s.mw.cfg.encoders[n]).mode = 1) {frame : BitVec 40} {pos : Nat} (read : (s.mw.cfg.encoders[n]).readFrame frame.toNat = (pos, false, false))
    (first : (s.mw.field.encoders[n]).prevPos = none) :
    execEncoderSample n (.ssi frame true false) s = .next (((s.onEncoder n fun y => { y with
      count := pos, prevPos := some pos, status := packBits [true, false, false, false, false, false], age := 0, sampled := true, lineFault := false }).deliverEncoder
        n).encoderFaults n []) := by
  unfold execEncoderSample
  dsimp only
  rw [if_neg (by rw [new]; simpa using due), mode]
  simp only [read, first]
  rfl

end Encoder

/-- Settles O46. -/
theorem outputEncoderEvents : Obligations.OutputEncoderEvents := by
  intro s
  refine ⟨?output, ?encoder⟩
  case output =>
    intro ch l cause leader
    refine ⟨?_, ?_, ?_, ?_⟩
    · intro used new
      refine ⟨fun code coded u held => execOutputFault_command leader used new coded held, ?_⟩
      rintro u rfl held quiet
      exact execOutputFault_readback leader used new held quiet
    · intro unused
      subst leader
      exact if_pos unused
    · intro on driven
      subst leader
      exact if_pos (by rw [on, driven]; rfl)
    · intro off
      subst leader
      exact if_neg (by rw [off]; simp)
  case encoder =>
    intro n
    refine ⟨?_, ?_, ?_, ?_⟩
    · intro early k
      refine if_pos (Bool.or_eq_true_iff.2 (early.imp_right fun h => decide_eq_true h))
    · intro new due
      exact ⟨execEncoderSample_incremental new due, fun frame pos mode read first => execEncoderSample_ssi new due mode read first⟩
    · intro mode
      exact ⟨fun fwd => if_pos mode, fun z => if_pos ⟨mode, z⟩, fun z => if_neg (fun h => absurd h.2 (by rw [z]; decide)), if_pos mode⟩
    · intro mode fwd
      exact ⟨if_neg mode, if_neg fun h => mode h.1, if_neg mode⟩

end Sys2Proof.Machine

/-! SUPPORT. The statement about the watchdog, the enable and curtain pairs, and the Curtain's own timing (R14, R22, R368, R374, R375, R413). -/

namespace Sys2Proof.Machine

/-- Settles O47. -/
theorem fieldSafetyEvents : Obligations.FieldSafetyEvents := by
  intro s
  refine ⟨?watchdog, ?quiet, ?restore, ?enable, ?noEnable, ?curtain, ?noCurtain, ?demand, ?noDemand, ?stop, ?compare⟩
  case watchdog =>
    rintro on granted new late u rfl
    refine if_pos ?_
    rcases granted with h | h
    · simp [on, Option.isSome_iff_ne_none.2 h, new, late]
    · simp [on, h, new, late]
  case quiet =>
    intro quiet
    refine if_neg ?_
    rcases quiet with h | ⟨h, g⟩ | h | h
    · simp [h]
    · simp [h, g]
    · simp [h]
    · simp [Nat.not_le.2 h]
  case restore =>
    intro t from_ latched refreshing due
    refine ⟨fun auto => ?_, fun manual => ?_⟩ <;> change execWatchdogAutoRestore s = _ <;> unfold execWatchdogAutoRestore <;> rw [from_]
    · exact if_pos (by simp [latched, auto, refreshing, due])
    · exact if_neg (by simp [manual])
  case enable =>
    intro t since new late
    change execEnablePairFault s = _
    unfold execEnablePairFault
    rw [since]
    exact if_pos ⟨late, by simp [new]⟩
  case noEnable =>
    intro same
    change execEnablePairFault s = _
    unfold execEnablePairFault
    rw [same]
  case curtain =>
    intro t since new late
    change execCurtainPairFault s = _
    unfold execCurtainPairFault
    rw [since]
    exact if_pos ⟨late, by simp [new]⟩
  case noCurtain =>
    intro same
    change execCurtainPairFault s = _
    unfold execCurtainPairFault
    rw [same]
  case demand =>
    intro named opened idle
    exact if_pos (by simp [Option.isSome_iff_ne_none.2 named, opened, idle])
  case noDemand =>
    intro none_
    refine if_neg ?_
    rcases none_ with h | h
    · simp [h]
    · simp [h]
  case stop =>
    intro c active torque
    have run : execCurtainStopCode s = if (!c.torqueOff && decide (c.t0 + c.tStopNs ≤ s.now)) = true then
        .next (s.onMw fun m => { m with trapeze := { m.trapeze with curtain := some { c with torqueOff := true } } }) else .next s := by
      unfold execCurtainStopCode
      rw [active]
    exact ⟨fun due => run.trans (if_pos (by simp [torque, due])), fun early => run.trans (if_neg (by simp [Nat.not_le.2 early]))⟩
  case compare =>
    rintro quiet u rfl
    change execCompareFailure s = _
    unfold execCompareFailure
    rw [State.checkInjectedMw_quiet quiet]
    rfl

end Sys2Proof.Machine

/-! SUPPORT. The statement about the partner: heartbeats, token, digests, journal and hand-back (R388 to R411). -/

namespace Sys2Proof.Machine

theorem Records.partner {s t : State} (h : Records s t) (d : DieId) : (t.die d).partner = (s.die d).partner :=
  (congrArg Die.partner (h.work d) :)

/-- Eligibility leaves the journal a LATENT die applied where it stood (R404). -/
theorem State.makeEligible_journal (s : State) (d : DieId) :
    ((s.makeEligible d).die d).partner.journalB = (s.die d).partner.journalB ∧ ((s.makeEligible d).die d).partner.journalBad = (s.die d).partner.journalBad := by
  unfold State.makeEligible
  dsimp only
  rw [(Records.raise ..).partner]
  have phases (u old : State) : Records u (u.phaseRecords old) :=
    (Records.ite (.refl _) (.record ..)).trans (.ite (.refl _) (.record ..))
  rw [(phases ..).partner, State.onDie_die]
  exact ⟨by rfl, by rfl⟩

section Heartbeat

variable {d : DieId} {s : State}

theorem State.count_unlost {lost : Prop} [Decidable lost] (heard : s.hasPartner = false ∨ ¬lost) (w : Nat) :
    (if s.hasPartner && decide lost then s.count d 9 0 w else s) = s := by
  refine if_neg fun h => ?_
  obtain ⟨two, gone⟩ := Bool.and_eq_true_iff.1 h
  rcases heard with alone | here
  · exact absurd two (by rw [alone]; decide)
  · exact here (of_decide_eq_true gone)

/-- A heartbeat that nothing disturbs goes out on every path that is up (R388). -/
theorem execHeartbeatSend_quiet (beats : (s.die d).beats = true) (due : (s.die d).partner.hbSentNs + 5000 ≤ s.now)
    (heard : s.hasPartner = false ∨ ((s.die d).partner.hbSentNs ≤ (s.die d).partner.heard1Ns ∧ (s.die d).partner.hbSentNs ≤ (s.die d).partner.heard2Ns))
    (quiet : s.quiet d 13 = true) :
    execHeartbeatSend d s = .next (s.onPartner d fun q => { q with hbSentNs := s.now, hbOn1 := s.mw.trapeze.directUp, hbOn2 := q.mwLinkUp }) := by
  unfold execHeartbeatSend
  refine (if_neg (by simp [beats, due])).trans ?_
  dsimp only
  rw [State.count_unlost (heard.imp_right fun h => Nat.not_lt.2 h.1), State.count_unlost (heard.imp_right fun h => Nat.not_lt.2 h.2), State.checkInjected_quiet quiet]
  simp [bit]

theorem State.refresh_die (s : State) (e : DieId) : s.refresh.die e = s.die e := State.onMw_die ..

@[simp] theorem State.onPartner_other (s : State) (d : DieId) (f : Partner → Partner) : (s.onPartner d f).die d.other = s.die d.other := State.onDie_other ..

theorem execHeartbeat_path2 (on : (s.die d).partner.hbOn2 = true) (up : (s.die d).partner.mwLinkUp = true) {u : State}
    (went : u = s.onPartner d fun q => { q with hbOn2 := false, hbMwNs := s.now }) :
    execHeartbeat d .path2 s =
      let v := if u.isFlier d then u.refresh else u
      if (s.die d.other).partner.mwLinkUp then .next (v.onPartner d.other fun q => { q with heard2Ns := v.now, requested := false }) else .next v := by
  unfold execHeartbeat
  refine (if_pos (by rw [on, up]; rfl)).trans ?_
  dsimp only
  rw [← went]
  have far (v : State) (h : v = if u.isFlier d then u.refresh else u) : (v.die d.other).partner = (s.die d.other).partner := by
    rw [h, apply_ite (fun v : State => (v.die d.other).partner), State.refresh_die, ite_self, went, State.onPartner_other]
  rw [far _ rfl]

@[simp] theorem State.onPartner_isFlier (s : State) (d e : DieId) (f : Partner → Partner) : (s.onPartner d f).isFlier e = s.isFlier e := by
  simp [State.onPartner, State.isFlier]

@[simp] theorem State.onPartner_mw (s : State) (d : DieId) (f : Partner → Partner) : (s.onPartner d f).mw = s.mw := State.onDie_mw ..

@[simp] theorem State.onPartner_now (s : State) (d : DieId) (f : Partner → Partner) : (s.onPartner d f).now = s.now := by
  simp [State.now]

end Heartbeat

section Digest

variable {d : DieId} {s u : State}

theorem execDigestReceive_eq (flier : s.isFlier d = true) (two : s.hasPartner = true) (linked : s.linked = true) (compares : s.inCompare d.other = true)
    (computes : s.computes d = true) (new : (s.die d).partner.compared = false) (newOther : (s.die d.other).partner.compared = false)
    (same : (s.die d).partner.digestB = (s.die d.other).partner.digestB)
    (compared : u = (((((s.onPartner d fun q => { q with compared := true }).onPartner d.other fun q => { q with compared := true }).count d 9 0 0).count d.other 9 0 0).markRepairs
      d d.other)) :
    execDigestReceive d s =
      if (digestsMatch (s.die d).partner.digest (s.die d.other).partner.digest && !(s.die d).partner.digestBad && !(s.die d.other).partner.digestBad) = true then
        let n := min 65535 ((s.die d.other).partner.matchRun + 1)
        let v := u.onPartner d.other fun q => { q with matchRun := n }
        let w := if !(s.die d.other).partner.eligible && decide (16 ≤ n) then v.makeEligible d.other else v
        if w.mw.trapeze.warmUp && decide (16 ≤ n) && w.mw.trapeze.handover.isNone && (w.die d.other).partner.eligible then
          .next (w.onTrapeze fun t => { t with handover := some { target := d.other, atB := w.mw.b } })
        else .next w
      else .next (u.digestMismatch d.other ((s.die d).partner.digestBad || (s.die d.other).partner.digestBad)) := by
  unfold execDigestReceive
  refine (if_neg (by simp [flier, two, linked, compares, computes, new, newOther, same])).trans ?_
  dsimp only
  rw [← compared]

end Digest

section Journal

variable {d : DieId} {s : State} {epoch : Nat} {j : Journal}

theorem execJournalEpoch_eq (held : s.journal = some j) (named : j.b = epoch) (two : s.hasPartner = true) (works : (s.die d).works = true)
    (latent : (s.die d).partner.latentGated = true) (flier : s.isFlier d.other = true) (linked : s.linked = true)
    (standing : (s.die d).partner.eligible = true ∨ (s.die d).partner.synced = true) (closed : s.closedB = some epoch) (new : (s.die d).partner.journalB ≠ some epoch)
    (crcOk : Bool) :
    execJournalEpoch d epoch crcOk s =
      if (!crcOk) = true then
        if (s.die d).partner.journalBad then .next ((s.onPartner d fun q => { q with journalBad := false }).catcherLost d 11)
        else .next (s.onPartner d fun q => { q with journalBad := true })
      else if (match (s.die d).partner.journalB with
        | some e => decide (epoch ≠ e + 1)
        | none => false) = true then .next (s.catcherLost d 11)
      else
        let n := min 65535 ((s.die d).partner.matchRun + 1)
        let t := ((s.onDie d fun x => x.journalled j).onPartner d fun q => { q with journalB := some epoch, journalBad := false, matchRun := n }).count d 9 0 4
        .next (if !(s.die d).partner.eligible && decide (16 ≤ n) then t.makeEligible d else t) := by
  unfold execJournalEpoch
  have stands : ((s.die d).partner.eligible || (s.die d).partner.synced) = true := Bool.or_eq_true_iff.2 standing
  refine (if_neg (by simp [-Bool.or_eq_true, held, named, two, works, latent, flier, linked, stands, closed, new])).trans ?_
  dsimp only
  rw [held] <;> rfl

/-- A boundary of the journal applied is the last one applied, and nothing of it was bad (R403, R405). -/
theorem journalled_last (s : State) (d : DieId) (j : Journal) (epoch n : Nat) (grows : Bool) :
    let t := ((s.onDie d fun x => x.journalled j).onPartner d fun q => { q with journalB := some epoch, journalBad := false, matchRun := n }).count d 9 0 4
    let v := if grows then t.makeEligible d else t
    (v.die d).partner.journalB = some epoch ∧ (v.die d).partner.journalBad = false := by
  intro t v
  have last : (t.die d).partner.journalB = some epoch ∧ (t.die d).partner.journalBad = false := by
    rw [(Records.count ..).partner, State.onPartner, State.onDie_die]
    exact ⟨rfl, rfl⟩
  cases grows with
  | false => exact last
  | true => exact (State.makeEligible_journal t d).imp (·.trans last.1) (·.trans last.2)

end Journal

/-- Settles O48. -/
theorem partnerEvents : Obligations.PartnerEvents := by
  intro d s
  refine ⟨?send, ?early, ?path1, ?refreshes, ?path2, ?off1, ?off2, ?silence, ?heard, ?catcherGives, ?flierGives, ?sound, ?request, ?holder, ?digest, ?compared,
    ?journal, ?awake, ?ready, ?notReady, ?holdoff, ?noHoldoff⟩
  case send => exact fun beats due heard quiet => execHeartbeatSend_quiet beats due heard quiet
  case early =>
    intro early
    exact if_pos (by simp [Nat.not_le.2 early])
  case path1 =>
    intro on up
    change execHeartbeat d .path1 s = _
    unfold execHeartbeat
    refine (if_pos (by rw [on, up]; rfl)).trans ?_
    dsimp only
    rw [State.onPartner_now]
  case refreshes =>
    intro on up flier deaf
    refine (execHeartbeat_path2 on up rfl).trans ?_
    dsimp only
    rw [State.onPartner_isFlier, flier, deaf, if_neg Bool.false_ne_true, if_pos rfl]
  case path2 =>
    intro on up catcher hears
    refine (execHeartbeat_path2 on up rfl).trans ?_
    dsimp only
    rw [State.onPartner_isFlier, catcher, hears, if_pos rfl, if_neg Bool.false_ne_true, State.onPartner_now]
  case off1 =>
    intro off
    exact if_neg (by rw [off]; simp)
  case off2 =>
    intro off
    exact if_neg (by rw [off]; simp)
  case silence =>
    intro works two silent
    refine ⟨fun flier eligible => ?_, fun catcher flier new => ?_⟩
    · exact (if_neg (by rw [works, two, silent]; decide)).trans ((if_pos flier).trans (if_pos eligible))
    · exact (if_neg (by rw [works, two, silent]; decide)).trans ((if_neg (Bool.eq_false_iff.1 catcher)).trans (if_pos (by rw [flier, new]; rfl)))
  case heard =>
    intro heard
    exact if_pos (by rw [heard]; simp)
  case catcherGives =>
    intro works condemned catcher
    exact (if_neg (by rw [works, condemned]; decide)).trans (if_neg (Bool.eq_false_iff.1 catcher))
  case flierGives =>
    rintro u works condemned flier rfl
    refine ⟨fun up => ?_, fun down => ?_⟩ <;>
      refine (if_neg (by rw [works, condemned]; decide)).trans ((if_pos flier).trans (congrArg (fun t : State => Host.Outcome.next (t.haltDie d)) ?_))
    · exact if_pos up
    · exact if_neg (Bool.eq_false_iff.1 down)
  case sound =>
    intro sound
    exact if_pos (by rw [sound]; simp)
  case request =>
    intro two works catcher asked
    have pending : ((s.die d).partner.requested || s.mw.trapeze.relinquished) = true := Bool.or_eq_true_iff.2 asked
    refine ⟨fun grantable => ?_, fun refused => ?_⟩
    · exact (if_neg (by rw [two, works, catcher, pending]; decide)).trans (if_pos grantable)
    · exact (if_neg (by rw [two, works, catcher, pending]; decide)).trans (if_neg (Bool.eq_false_iff.1 refused))
  case holder =>
    intro flier
    exact if_pos (by rw [flier]; simp)
  case digest =>
    intro u flier two linked compares computes new newOther same compared
    have run := execDigestReceive_eq flier two linked compares computes new newOther same compared
    refine ⟨fun differ => run.trans (if_neg ?_), fun alike sound soundOther eligible cold => run.trans ((if_pos ?_).trans ?_)⟩
    · rcases differ with h | h | h <;> rw [h] <;> simp
    · rw [alike, sound, soundOther]
      rfl
    · dsimp only
      rw [eligible, Bool.not_true, Bool.false_and, if_neg Bool.false_ne_true]
      exact if_neg (by simp [cold])
  case compared =>
    intro compared
    exact if_pos (by rw [compared]; simp)
  case journal =>
    intro epoch j held named two works latent flier linked standing closed new
    have run := execJournalEpoch_eq held named two works latent flier linked standing closed new
    refine ⟨fun bad => (run false).trans ((if_pos rfl).trans (if_pos bad)), fun good => (run false).trans ((if_pos rfl).trans (if_neg (Bool.eq_false_iff.1 good))), ?_, ?_⟩
    · intro e last gap
      refine (run true).trans ((if_neg (by decide)).trans (if_pos ?_))
      rw [last]
      exact decide_eq_true gap
    · intro fresh
      refine ⟨_, (run true).trans ((if_neg (by decide)).trans (if_neg ?_)), journalled_last ..⟩
      rw [fresh]
      exact Bool.false_ne_true
  case awake =>
    intro awake epoch ok
    exact if_pos (by rw [awake]; simp)
  case ready =>
    rintro flier works latent wakes new u rfl
    exact if_pos (by rw [flier, works, latent, new, Option.isSome_iff_ne_none.2 wakes]; decide)
  case notReady =>
    intro awake
    exact if_neg (by rw [awake]; simp)
  case holdoff =>
    intro t c ends catcher due idle cold ripe
    have run : execRevertHoldoff s =
        if (s.die c).cfg.trapeze.latent then .next ((s.onTrapeze fun t => { t with warmUp := true }).onDie c Die.latentUngate)
        else .next (s.onTrapeze fun t => { t with handover := some { target := c, atB := s.mw.b } }) := by
      unfold execRevertHoldoff
      rw [ends, catcher]
      exact if_neg (by simp [due, idle, cold, ripe])
    exact ⟨fun latent => run.trans (if_pos latent), fun awake => run.trans (if_neg (Bool.eq_false_iff.1 awake))⟩
  case noHoldoff =>
    intro none_
    change execRevertHoldoff s = _
    unfold execRevertHoldoff
    rw [none_]

end Sys2Proof.Machine

/-! SUPPORT. The statement about a Catcher's full synchronisation (R395, R396). -/

namespace Sys2Proof.Machine

theorem execSyncTimeout_running {s : State} {y : Sync} (running : s.mw.trapeze.sync = some y) :
    execSyncTimeout s = if y.startNs + 100000000 ≤ s.now then .next s.failSync else .next s := by
  unfold execSyncTimeout
  rw [running]

theorem execSyncPassDone_running {s u : State} {y : Sync} {copied dirty : Nat} (running : s.mw.trapeze.sync = some y) (open_ : y.syncB = none)
    (linked : s.mw.trapeze.directUp = true) (target : (s.die y.target).status = .sync)
    (counted : u = s.onTrapeze (fun t => { t with syncBytes := sat32 (t.syncBytes + copied) })) :
    execSyncPassDone copied dirty s =
      if y.pass ≠ 0 ∧ dirty ≤ 65536 then .next (u.onTrapeze fun t => { t with sync := some { y with syncB := some (u.mw.b + 2) } })
      else if 8 ≤ y.pass then .next u.failSync
      else .next (u.onTrapeze fun t => { t with sync := some { y with pass := y.pass + 1 } }) := by
  unfold execSyncPassDone
  rw [running]
  refine (if_neg (by simp [open_, linked, target])).trans ?_
  rw [counted]

/-- Settles O49. -/
theorem syncEvents : Obligations.SyncEvents := by
  intro s
  refine ⟨?idle, ?running, ?auto, ?unasked⟩
  case idle =>
    intro idle
    refine ⟨?_, fun a b => ?_⟩
    · change execSyncTimeout s = _
      unfold execSyncTimeout
      rw [idle]
    · change execSyncPassDone a b s = _
      unfold execSyncPassDone
      rw [idle]
  case running =>
    intro y running
    have timeout := execSyncTimeout_running running
    refine ⟨fun late => timeout.trans (if_pos late), fun early => timeout.trans (if_neg (Nat.not_le.2 early)), ?_⟩
    intro copied dirty u open_ linked target counted
    have pass := execSyncPassDone_running (dirty := dirty) running open_ linked target counted
    refine ⟨fun later few => ?_, fun many last => ?_, fun more => ?_⟩
    · refine pass.trans ((if_pos ⟨later, few⟩).trans ?_)
      rw [show u.mw.b = s.mw.b by rw [counted]; rfl]
    · exact pass.trans ((if_neg fun h => absurd h.2 (Nat.not_le.2 many)).trans (if_pos last))
    · refine pass.trans ((if_neg ?_).trans (if_neg (by omega)))
      rintro ⟨later, few⟩
      rcases more with first | ⟨many, -⟩
      · exact later first
      · exact absurd few (Nat.not_le.2 many)
  case auto =>
    intro t c waits catcher ripe idle auto fails due up out
    change execAutoSync s = _
    unfold execAutoSync
    rw [waits, catcher]
    have status : ((s.die c).status == .running || (s.die c).status == .sync) = true := by simpa using up
    exact if_neg (by simp [-Bool.or_eq_true, ripe, idle, auto, fails, due, status, out])
  case unasked =>
    intro unasked
    change execAutoSync s = _
    unfold execAutoSync
    rw [unasked]

end Sys2Proof.Machine

/-! SUPPORT. The statement about the monitors of supplies, temperatures and the reference (R426, R427). -/

namespace Sys2Proof.Machine

section Runs

variable {s : State} {det index : Nat}

/-- A sample out of range that no injection falsified leaves what it falsified before as it was. -/
theorem State.falseRun_out : s.falseRun det index true false = (s, s.mw.falsified.contains (det, index)) := by
  unfold State.falseRun
  dsimp only
  cases s.mw.falsified.contains (det, index) <;> rfl

theorem State.falseRun_sound (out : Bool) (sound : s.mw.falsified.contains (det, index) = false) : s.falseRun det index out false = (s, false) := by
  unfold State.falseRun
  dsimp only
  rw [sound]
  rfl

theorem State.falseRun_onMw {f : Midway → Midway} (out : Bool) (sound : s.mw.falsified.contains (det, index) = false) (keeps : (f s.mw).falsified = s.mw.falsified) :
    (s.onMw f).falseRun det index out false = (s.onMw f, false) :=
  State.falseRun_sound out (by rwa [State.onMw_mw, keeps])

end Runs

section Supply

variable {s : State} {i : Fin 7} {mv : Nat}

theorem execSupplySample_eq (watched : s.supplyWatched i = true) (quiet : s.quietMw 9 = true) (sound : s.mw.falsified.contains (9, i.val) = false) {out : Bool}
    (judged : out = !within mv (s.supplyWindow i).1 (s.supplyWindow i).2) (still : out = true ∨ s.mw.supplyRun[i] = 0 ∨ 3 < s.mw.supplyRun[i]) :
    execSupplySample i mv s = .next (s.onMw fun m => { m with
      supplyMv := m.supplyMv.set i mv, supplyRun := m.supplyRun.set i (runOn s.mw.supplyRun[i] out),
      supplyNs := m.supplyNs.set i (if out || !within s.mw.supplyMv[i] (s.supplyWindow i).1 (s.supplyWindow i).2 then s.now else s.mw.supplyNs[i]) }) := by
  unfold execSupplySample
  refine (if_neg (by rw [watched]; decide)).trans ?_
  simp only [State.checkInjectedMw_quiet quiet, Option.isSome_none, Bool.or_false, ← judged]
  rw [State.falseRun_onMw out sound]
  · refine if_neg fun more => ?_
    simp only [Bool.and_eq_true, Bool.not_eq_true', decide_eq_true_eq] at more
    obtain ⟨⟨⟨within_, some_⟩, few⟩, -⟩ := more
    rcases still with h | h | h
    · rw [h] at within_
      exact absurd within_ (by decide)
    · omega
    · omega
  · rfl

end Supply

section Temperature

variable {s : State} {z : TempSensor} {k : Fin 3}

theorem execTempSample_cool (named : k = sensorCode z) (quiet0 : s.quiet .t0 10 = true) (quiet1 : s.quiet .t1 10 = true) (quiet : s.quietMw 10 = true) {deci : Int}
    (cool : deci ≤ (s.tempFuses z).tempWarn) (sound_ : deci ≤ (s.tempFuses z).tempFault) (first : s.mw.tempRun[k] = 0)
    (sound : s.mw.falsified.contains (10, k.val) = false) :
    execTempSample z deci s = .next (s.onMw fun m => { m with tempDeci := m.tempDeci.set k deci, tempRun := m.tempRun.set k (runOn s.mw.tempRun[k] false) }) := by
  subst named
  have none_ : (match z with
      | .t0 => s.checkInjected .t0 10 fun i => i.target == s.tempTarget z
      | .t1 => s.checkInjected .t1 10 fun i => i.target == s.tempTarget z
      | .mw => s.checkInjectedMw 10 fun i => i.target == s.tempTarget z) = (s, none) := by
    cases z with
    | t0 => exact State.checkInjected_quiet quiet0 _
    | t1 => exact State.checkInjected_quiet quiet1 _
    | mw => exact State.checkInjectedMw_quiet quiet _
  unfold execTempSample
  extract_lets +onlyGivenNames code f hit r
  rw [show r = (s, none) from none_]
  dsimp only
  rw [show decide ((s.tempFuses z).tempFault < deci) = false from decide_eq_false (Int.not_lt.2 sound_),
    show decide ((s.tempFuses z).tempWarn < deci) = false from decide_eq_false (Int.not_lt.2 cool), show s.mw.tempRun[code] = 0 from first]
  simp only [Option.isSome_none, Bool.or_false, Bool.not_false, if_true]
  rw [State.falseRun_onMw false sound]
  · exact if_neg (by decide)
  · rfl

end Temperature

section Reference

variable {s : State} {ppm : Int} {tick : Bool}

theorem coarse_bad (bad : ppm < -50000 ∨ 50000 < ppm ∨ tick = false) : (decide (ppm < -50000) || decide (50000 < ppm) || !tick) = true := by
  rcases bad with h | h | h
  · rw [decide_eq_true h]
    rfl
  · rw [decide_eq_true h, Bool.or_true]
    rfl
  · rw [h, Bool.not_false, Bool.or_true]

/-- The second bad window in a row loses the reference (R427). -/
theorem execCoarseCheckWindow_lost (quiet : s.quietMw 8 = true) (bad : ppm < -50000 ∨ 50000 < ppm ∨ tick = false) (again : 1 ≤ s.mw.refRun) :
    execCoarseCheckWindow ppm tick s =
      let u := s.onMw fun m => { m with refRun := m.refRun + 1, coarseOk := 0 }
      .next (u.detectMw (u.target 0 0) (3 * 2 ^ 24 + 16) 8 true (s.mw.falsified.contains (8, 0)) (leInt 4 ppm ++ zeros 1)).1.referenceLost := by
  unfold execCoarseCheckWindow
  rw [State.checkInjectedMw_quiet quiet]
  simp only [coarse_bad bad, Option.isSome_none, Bool.or_false, if_true, State.falseRun_out, decide_eq_true again, Bool.and_self]
  rfl

theorem execCoarseCheckWindow_bad (quiet : s.quietMw 8 = true) (bad : ppm < -50000 ∨ 50000 < ppm ∨ tick = false) (first : s.mw.refRun = 0) :
    execCoarseCheckWindow ppm tick s = .next (s.onMw fun m => { m with refRun := m.refRun + 1, coarseOk := 0 }) := by
  unfold execCoarseCheckWindow
  rw [State.checkInjectedMw_quiet quiet]
  simp only [coarse_bad bad, Option.isSome_none, Bool.or_false, if_true, State.falseRun_out, first]
  rfl

theorem execCoarseCheckWindow_good (quiet : s.quietMw 8 = true) (low : -50000 ≤ ppm) (high : ppm ≤ 50000) (run : s.mw.refRun ≠ 1)
    (sound : s.mw.falsified.contains (8, 0) = false) :
    execCoarseCheckWindow ppm true s = .next (s.onMw fun m => { m with refRun := 0, coarseOk := m.coarseOk + 1 }) := by
  unfold execCoarseCheckWindow
  rw [State.checkInjectedMw_quiet quiet]
  dsimp only
  rw [decide_eq_false (Int.not_lt.2 low), decide_eq_false (Int.not_lt.2 high)]
  simp only [Bool.not_true, Option.isSome_none, Bool.or_false, Bool.false_eq_true, if_false]
  rw [State.falseRun_onMw false sound]
  · refine (if_neg Bool.false_ne_true).trans (if_neg ?_)
    simpa using run
  · rfl

theorem execFineCheckWindow_near (quiet : s.quietMw 8 = true) (low : -1000 ≤ ppm) (high : ppm ≤ 1000) : execFineCheckWindow ppm s = .next s := by
  unfold execFineCheckWindow
  rw [State.checkInjectedMw_quiet quiet]
  exact if_neg (by simp [low, high])

theorem execFineCheckWindow_far (quiet : s.quietMw 8 = true) (far : ppm < -1000 ∨ 1000 < ppm) : execFineCheckWindow ppm s =
    .next (s.raiseMw 200 (s.target 0 0) (detectorData (s.target 0 0) 0 0 (leInt 4 ppm ++ [1])) { injected := false, detector := 8 }) := by
  unfold execFineCheckWindow
  rw [State.checkInjectedMw_quiet quiet]
  exact if_pos (by simpa using far)

end Reference

/-- Settles O50. -/
theorem monitorEvents : Obligations.MonitorEvents := by
  intro s
  refine ⟨?supply, ?unwatched, ?supplyFault, ?supplyRuns, ?temp, ?tempFault, ?reference⟩
  case supply =>
    intro i mv watched quiet sound out judged still
    exact execSupplySample_eq watched quiet sound judged still
  case unwatched =>
    intro i mv unwatched
    exact ⟨if_pos (by rw [unwatched]; decide), if_neg fun h => absurd h.2.2 (by rw [unwatched]; decide)⟩
  case supplyFault =>
    rintro i run awake watched - u rfl
    exact if_pos ⟨run, awake, watched⟩
  case supplyRuns =>
    intro i run
    exact if_neg fun h => run h.1
  case temp =>
    intro z deci k named quiet0 quiet1 quiet cool sound_ first sound
    exact execTempSample_cool named quiet0 quiet1 quiet cool sound_ first sound
  case tempFault =>
    rintro z k rfl
    refine ⟨?_, fun run => if_neg run⟩
    rintro run - - u rfl
    exact if_pos run
  case reference =>
    intro ppm quiet
    refine ⟨fun tick bad => ?_, fun tick bad first => ?_, fun low high run sound => ?_, fun low high => ?_, fun far => ?_⟩
    · rintro again u rfl
      exact execCoarseCheckWindow_lost quiet bad again
    · exact execCoarseCheckWindow_bad quiet bad first
    · exact execCoarseCheckWindow_good quiet low high run sound
    · exact execFineCheckWindow_near quiet low high
    · exact execFineCheckWindow_far quiet far

end Sys2Proof.Machine

/-! SUPPORT. The statement about faults: promotion, expiry, place tests, freezes and the interval (R31, R422, R430, R440, R448, R451). -/

namespace Sys2Proof.Machine

section Promotion

variable {d : DieId} {s : State}

theorem State.unitTarget_of_life {s t : State} (same : t.life = s.life) (u : UnitId) : t.unitTarget u = s.unitTarget u := State.target_of_life same ..

theorem State.raise_unitTarget (s : State) (d : DieId) (e : Nat) (source : Word) (data : List Byte) (o : Occur) (u : UnitId) :
    (s.raise d e source data o).unitTarget u = s.unitTarget u := State.unitTarget_of_life (State.raise_life s d e source data o) u

/-- A place at the limit of transients in the interval is promoted (R422). -/
theorem execTransientLimit_promotes {u : UnitId} {k : Fin 16} {n : Nat} {o : Occur} (counted : n = (s.die d).det.interval.getD (16 * placeNumber u + k.val) 0)
    (occur : o = ({ lasting := true, promoted := true, detector := k.val } : Occur)) (works : (s.die d).works = true) (not4 : k.val ≠ 4) (not5 : k.val ≠ 5)
    (limit : (s.die d).cfg.events.transientLimit ≤ n) (some_ : 0 < n) (new : (s.die d).det.promoted.contains (16 * placeNumber u + k.val) = false)
    (there : s.unitExists u = true) (own : trapezeDie u.die = some d) {t : State}
    (marked : t = s.onDie d fun y => { y with det := { y.det with
      promoted := (16 * placeNumber u + k.val) :: y.det.promoted, lasting := bump y.det.lasting k.val 65535 } }) :
    execTransientLimit d u k s = .next (((t.raise d (detectorEvent k.val) (s.unitTarget u) (detectorData (s.unitTarget u) 2 n []) o).raise d 204 (t.unitTarget u)
      (detectorData (s.unitTarget u) 2 n []) o).unitLasting u o) := by
  subst counted occur
  unfold execTransientLimit
  refine (if_pos ?_).trans ?_
  · rw [new, there, own]
    simp [works, not4, not5, limit, some_]
  · dsimp only
    rw [← marked, State.raise_unitTarget, show t.unitTarget u = s.unitTarget u from State.unitTarget_of_life (by rw [marked]; simp) u]

end Promotion

section Expiry

variable {d : DieId} {n : Fin 4} {s : State} {i : Injection}

theorem Injection.expires_eq (waits : i.fired = false) (now : Nat) : i.expires now = decide (i.armedNs + i.delayNs + 1000000000 ≤ now) := by
  rw [Injection.expires, waits, Bool.not_false, Bool.true_and]

theorem execInjectionExpiry_own (armed : (s.die d).det.injections[n.val]? = some i) :
    execInjectionExpiry d n s = if i.expires s.now then
        .next ((s.onDie d fun x => { x with det := { x.det with injections := x.det.injections.eraseIdx n.val } }).raise d 203 i.target (i.data 1)
          { injected := true, detector := i.detector })
      else .next s := by
  unfold execInjectionExpiry
  rw [armed]

theorem execInjectionExpiry_mw (empty : (s.die d).det.injections[n.val]? = none) (flier : s.isFlier d = true)
    (armed : s.mw.trapeze.injections[n.val - (s.die d).det.injections.length]? = some i) :
    execInjectionExpiry d n s = if i.expires s.now then
        .next ((s.onTrapeze fun t => { t with injections := t.injections.eraseIdx (n.val - (s.die d).det.injections.length) }).raise d 203 i.target (i.data 1)
          { injected := true, detector := i.detector })
      else .next s := by
  unfold execInjectionExpiry
  rw [empty]
  dsimp only
  rw [if_pos flier, armed]

end Expiry

section Test

variable {d : DieId} {s : State} {t : PlaceTest} {ns : Nat}

/-- A test of a unit that passes is recorded and answers its command (R440). -/
theorem execPlaceTestEnd_passes (test : (s.die d).test = some t) (started : t.startNs = some ns) (first : t.passed = false) (there : t.lost = false) (single : t.unit ≠ 31)
    (own : t.both = false) {u : State} (raised : u = (s.onDie d fun x => { x with test := some { t with passed := true } }).raise d 16 (ownPlace t.cmd.target d) []) :
    execPlaceTestEnd d true s = .next (u.lateReply 0x0904 t.cmd { status := St.ok, result := le 1 1 ++ zeros 3 ++ le 4 (u.now - ns), own := false }) := by
  obtain ⟨region, cluster, unit, both, cmd, startNs, passed, lost⟩ := t
  dsimp only at started first there single own raised
  subst started first there own
  unfold execPlaceTestEnd
  rw [test]
  simp only [decide_eq_false single, if_true, Bool.true_or, Bool.false_eq_true, if_false, ← raised]
  rfl

theorem execPlaceTestEnd_lost (test : (s.die d).test = some t) (started : t.startNs = some ns) (first : t.passed = false) (lost : t.lost = true) (pass : Bool) :
    execPlaceTestEnd d pass s = .next (s.testAbsent d t) := by
  unfold execPlaceTestEnd
  rw [test]
  dsimp only
  rw [started]
  exact (if_neg (Bool.eq_false_iff.1 first)).trans (if_pos lost)

end Test

/-- Settles O51. -/
theorem faultEvents : Obligations.FaultEvents := by
  intro d s
  refine ⟨?promotes, ?below, ?own, ?mw, ?untested, ?passes, ?lost, ?thaws, ?runs, ?interval, ?early⟩
  case promotes =>
    intro u k n o counted occur works not4 not5 limit some_ new there own t marked
    exact execTransientLimit_promotes counted occur works not4 not5 limit some_ new there own marked
  case below =>
    intro u k below
    refine if_neg ?_
    rcases below with known | few
    · rw [known]
      simp
    · rw [decide_eq_false (Nat.not_le.2 few)]
      simp
  case own =>
    intro n i armed waits
    have run := execInjectionExpiry_own armed
    rw [Injection.expires_eq waits] at run
    exact ⟨fun late => run.trans (if_pos (decide_eq_true late)), fun early => run.trans (if_neg (by simp [early]))⟩
  case mw =>
    intro n empty
    refine ⟨fun catcher => ?_, ?_⟩
    · change execInjectionExpiry d n s = _
      unfold execInjectionExpiry
      rw [empty]
      dsimp only
      rw [catcher, if_neg Bool.false_ne_true]
    · rintro k i rfl flier armed waits
      have run := execInjectionExpiry_mw empty flier armed
      rw [Injection.expires_eq waits] at run
      exact ⟨fun late => run.trans (if_pos (decide_eq_true late)), fun early => run.trans (if_neg (by simp [early]))⟩
  case untested =>
    intro untested pass
    change execPlaceTestEnd d pass s = _
    unfold execPlaceTestEnd
    rw [untested]
  case passes =>
    intro t ns u test started first there single own raised
    exact execPlaceTestEnd_passes test started first there single own raised
  case lost =>
    intro t ns pass test started first lost
    exact execPlaceTestEnd_lost test started first lost pass
  case thaws =>
    intro frozen late
    exact if_pos (by rw [frozen, decide_eq_true late]; rfl)
  case runs =>
    intro open_
    exact if_neg (by rw [open_]; simp)
  case interval =>
    intro due
    exact congrArg Host.Outcome.next (if_pos due)
  case early =>
    intro early
    exact congrArg Host.Outcome.next (if_neg (Bool.eq_false_iff.1 early))

end Sys2Proof.Machine
